-- ==== Sys2Proof/Word.lean ====
section
/-! DEFINITION. The word and byte types of the block: 32-bit registers and record words, 8-bit memory cells. -/

namespace Sys2Proof

/-- A register or record word (BAR0 registers are 32 bits wide; a record is four words). -/
abbrev Word := BitVec 32

/-- A byte of memory. -/
abbrev Byte := BitVec 8

end Sys2Proof
end

