-- ==== Sys2Proof/Machine/Bits.lean ====
section
/-! DEFINITION. Bit fields, byte order, saturation, and the sparse table `Tab`: a list of (key, value) pairs with keys
strictly rising and no entry equal to the default, so that equal tables are equal data. -/

namespace Sys2Proof.Machine

/-- Field of `n` bits from bit `lo` of a number. -/
def natBits (v lo n : Nat) : Nat := (v >>> lo) % 2 ^ n

/-- `v` with the `n` bits from bit `lo` replaced by `x`. -/
def natSetBits (v lo n x : Nat) : Nat :=
  v - 2 ^ lo * natBits v lo n + 2 ^ lo * (x % 2 ^ n)

/-- Field of `n` bits from bit `lo` of a word. -/
def bitsOf (w : Word) (lo n : Nat) : Nat := natBits w.toNat lo n

/-- Word `w` with its field of `n` bits from bit `lo` set to `x`. -/
def setBits (w : Word) (lo n x : Nat) : Word := BitVec.ofNat 32 (natSetBits w.toNat lo n x)

/-- Bit `i` of a number. -/
def natBit (v i : Nat) : Bool := (v >>> i) % 2 == 1

/-- 1 for true, 0 for false. -/
def b2n (b : Bool) : Nat := if b then 1 else 0

/-- A number as a word, its low 32 bits. -/
def w32 (n : Nat) : Word := BitVec.ofNat 32 n

/-- The low and the high word of a 64-bit quantity (R12). -/
def loWord (n : Nat) : Word := BitVec.ofNat 32 n
def hiWord (n : Nat) : Word := BitVec.ofNat 32 (n >>> 32)

/-- The 64-bit quantity of two words. -/
def pairNat (lo hi : Word) : Nat := lo.toNat + 2 ^ 32 * hi.toNat

/-- `x` held at `m`. -/
def sat (m x : Nat) : Nat := min m x

/-- Signed value of the low `n` bits of a number. -/
def sInt (n v : Nat) : Int :=
  let r := v % 2 ^ n
  if r < 2 ^ (n - 1) then (r : Int) else (r : Int) - (2 ^ n : Nat)

/-- Two's complement encoding in `n` bits. -/
def uNat (n : Nat) (x : Int) : Nat := (x % ((2 ^ n : Nat) : Int)).toNat

/-- Round to nearest, ties to even, of the quotient `a / b` of a signed number by a positive one. -/
def rne (a : Int) (b : Nat) : Int :=
  let q := a / (b : Int)
  let r := (a % (b : Int)).toNat
  if 2 * r < b then q else if 2 * r > b then q + 1 else if q % 2 = 0 then q else q + 1

/-- Little-endian bytes of a number (R4). -/
def leBytes : Nat → Nat → List Byte
  | 0, _ => []
  | n + 1, v => BitVec.ofNat 8 v :: leBytes n (v / 256)

/-- The number of a little-endian byte list (R4). -/
def ofLe : List Byte → Nat
  | [] => 0
  | b :: t => b.toNat + 256 * ofLe t

/-- A sparse table: keys strictly rising, no entry equal to the default. -/
abbrev Tab (α : Type) := List (Nat × α)

/-- The entry at `k`, the default `d` where none is listed. -/
def Tab.get {α : Type} (d : α) : Tab α → Nat → α
  | [], _ => d
  | (k, v) :: t, a => if a = k then v else if a < k then d else Tab.get d t a

/-- The table with `v` at `a`; an entry equal to the default is removed. -/
def Tab.set {α : Type} [DecidableEq α] (d : α) : Tab α → Nat → α → Tab α
  | [], a, v => if v = d then [] else [(a, v)]
  | (k, x) :: t, a, v =>
    if a < k then (if v = d then (k, x) :: t else (a, v) :: (k, x) :: t)
    else if a = k then (if v = d then t else (a, v) :: t)
    else (k, x) :: Tab.set d t a v

/-- Every key of the table is at least `m`, keys rise strictly, and no entry equals the default. -/
def Tab.wfFrom {α : Type} [DecidableEq α] (d : α) : Nat → Tab α → Bool
  | _, [] => true
  | m, (k, v) :: t => decide (m ≤ k) && decide (v ≠ d) && Tab.wfFrom d (k + 1) t

/-- The canonical form of a table. -/
def Tab.wf {α : Type} [DecidableEq α] (d : α) (t : Tab α) : Bool := Tab.wfFrom d 0 t

/-- Element `i` of a list, or the default. -/
def nth {α : Type} (d : α) : List α → Nat → α
  | [], _ => d
  | x :: _, 0 => x
  | _ :: t, i + 1 => nth d t i

/-- Numbers `a`, `a + 1`, … of which there are `n`. -/
def natsFrom : Nat → Nat → List Nat
  | _, 0 => []
  | a, n + 1 => a :: natsFrom (a + 1) n

/-- Sum of a list. -/
def sumNat : List Nat → Nat
  | [] => 0
  | x :: t => x + sumNat t

end Sys2Proof.Machine
end

