-- ==== Sys2Proof/Machine/Operands.lean ====
section
/-! DEFINITION. The operand forms of the commands: who asks (R12), what a record or a command entry holds, and what the
world outside the block supplies with an event (a measured voltage, a flit, a completion). -/

namespace Sys2Proof.Machine

/-- A record: 16 bytes, four words (glossary; record catalogue of chapter 8). -/
structure Rec where
  w0 : Word
  w1 : Word
  w2 : Word
  w3 : Word
deriving DecidableEq, Repr

/-- Who makes a register access: a PCIe requester ID, or the SMBus target (R12). -/
inductive Requester where
  | pcie (id : Nat)
  | smbus
deriving DecidableEq, Repr

/-- The producer classes that QUE_Q_PRI ranks (R338). -/
inductive PClass where
  | sys | rtr | unit | eng
deriving DecidableEq, Repr

/-- A command entry of the host's command queue, its fields as R491 lays them out. -/
structure CmdEntry where
  op : Nat
  flags : Nat
  tag : Nat
  obj : Nat
  point : Nat
  arg : Nat
  outq : Nat
  rsvdZero : Bool
  payload : List Word
deriving DecidableEq, Repr

/-- What wakes the device from WATCH (R36, wake_cause of R41). -/
inductive WakeCause where
  | window | timer | doorbell | cascade
deriving DecidableEq, Repr

/-- The PCIe configuration requests that reach the block's behaviour, and reads (R1, R473, R474, R482, R499, R508). -/
inductive CfgChange where
  | mps (code : Nat)
  | bme (on : Bool)
  | msix (enable functionMask : Bool)
  | roEnable (on : Bool)
  | aspmL1 (on : Bool)
  /-- Size of the BAR2 window, as a power of two (R477). -/
  | bar2 (log : Nat)
  /-- A read of the dword at an offset of the configuration space (R1). -/
  | read (who : Requester) (off : Nat)
deriving DecidableEq, Repr

/-- The PEC byte of an SMBus write (R503). -/
inductive SmbPec where
  | absent | good | bad
deriving DecidableEq, Repr

/-- The condition that POWER_CONDITION_CLEAR reports over (R568, R578). -/
inductive PowerCond where
  | vinHigh
  | rail (r : Nat)
  | current (r : Nat)
deriving DecidableEq, Repr

/-- What the world shows to a boot: straps, voltages and the outcome of every test that depends on silicon or on a plug-in
part (R509, R539, R541, R551). -/
structure BootEnv where
  bootSrc : Nat
  cascRole : Nat
  devAddr : Nat
  perstHigh : Bool
  /-- DIMM of each DDR channel: size in GiB, 0 where none; and the serial number of its SPD (R444, R450). -/
  dimmGiB : List Nat
  dimmSerial : List Nat
  /-- Speed the memory trains at, in the code of DRM_STS.rate. -/
  dimmRate : Nat
  trainFail : List Nat
  /-- Lanes whose boot calibration fails (R120), engines whose load or scan fails (R428), queues with a row that fails the
  self-test, one entry for each such row (R354). -/
  badLanes : List Nat
  badEngines : List Nat
  badRows : List Nat
  /-- Two code-density histograms of a lane's boot calibration (R119, R120); a lane that is not listed gives a uniform one. -/
  laneHists : List (Nat × List Nat × List Nat)
  /-- Corrections of lanes, of spare lanes (24 quads × 8 comparators, key 8q + k), and D_cal (R117, R118). -/
  corrs : List (Nat × Int)
  sprCorrs : List (Nat × Int)
  dcals : List (Nat × Int)
  /-- Flash size in bytes. -/
  flashBytes : Nat
deriving DecidableEq, Repr

/-- One piece of a port's input (R46, R114): from picosecond `ps` of the tick on, the legs stand at `vp` and `vn`, in nV. The codes are what
the interpolators of the upper and the lower lane and of the quad's spare would capture for a raw transition at that instant. -/
structure Seg where
  ps : Nat
  vp : Int
  vn : Int
  codeU : Nat
  codeL : Nat
  codeS : Nat
deriving DecidableEq, Repr

/-- What a port meets in the current tick, up to and with the first `samples` of the tick's four samples (R54): pieces of its input, in order of
time. -/
structure PortInput where
  port : Nat
  segs : List Seg
  samples : Nat
deriving DecidableEq, Repr

/-- A lane that the rotation of calibrations may bring due, and by how many °C its tile's temperature has moved since its last calibration (R122). -/
structure CalTurn where
  lane : Nat
  moved : Nat
deriving DecidableEq, Repr

/-- A task whose switch takes effect, and the TLY_CFG and TLY_Q that a tally's switch changes, where it does (R159, R191). -/
structure SwitchPoint where
  task : Nat
  tly : Option (Nat × Nat)
deriving DecidableEq, Repr

/-- An opcode that the TAP takes, and what the scans before it have loaded into the boundary register (R611, R612). -/
structure TapUpdate where
  opcode : Nat
  scan : List Bool
deriving DecidableEq, Repr

/-- What a class P self-check observes (R79–R81): the level code of each tick of steps 2 to 4; in steps 5 and 6 the delays of the confirmed
transitions, as upper rising, upper falling, lower rising, lower falling; and, for a check that fails in one of these two, the ticks of that
step that had passed. -/
structure ChkObs where
  levels : List (List Nat)
  d5 : List (List Int)
  d6 : List (List Int)
  stop : Nat
deriving DecidableEq, Repr

/-- A flit with a good CRC as a receiver sees it (R376, R377): its header's fields but the type, which the command names, its
anchor, and its slots. -/
structure Flit where
  seq : Nat
  ack : Nat
  nrep : Nat
  credit : Nat
  anchor : Nat
  slots : List Nat
deriving DecidableEq, Repr

/-- What initialisation finds of a drive (R461, R462): whether every check passes; link generation and width; queue pairs granted; the
bytes of its largest command; its capacity in 4,096-byte blocks; and the store it holds: generation, and valid entries as slot, extent,
first timestamp, records, region, epoch, poison, CRC. -/
structure DriveEnv where
  ok : Bool
  gen : Nat
  width : Nat
  qpairs : Nat
  mdts : Nat
  blocks : Nat
  storeGen : Nat
  entries : List (List Nat)
deriving DecidableEq, Repr

/-- What the ECC of the accessed word shows (R412). -/
inductive Ecc where
  | good | corrected | uncorrectable
deriving DecidableEq, Repr

end Sys2Proof.Machine
end

