-- ==== Sys2Proof/Syntax.lean ====
section
/-! DEFINITION. The commands of the block: one constructor per row of the opcode table, with the row's operands. -/

namespace Sys2Proof

open Machine

/-- The commands, one per row of spec/opcode_table.json, in the table's order. -/
inductive Instr where
  /-- POR_N_LOW (R535). -/
  | porNLow
  /-- VIN_UNDERVOLTAGE (R598). -/
  | vinUndervoltage
  /-- POWER_STAGE_UP (R36). -/
  | powerStageUp (env : BootEnv)
  /-- BOOT_COMPLETE (R541). -/
  | bootComplete
  /-- BOOT_STEP_TIMEOUT (R542). -/
  | bootStepTimeout (step : Nat)
  /-- BOOT_PF_RESTART (R38). -/
  | bootPfRestart (env : BootEnv)
  /-- BOOT_LOOP_CLEAR (R549). -/
  | bootLoopClear
  /-- PERST_N_FALL (R535). -/
  | perstNFall
  /-- FUNCTION_LEVEL_RESET (R475). -/
  | functionLevelReset
  /-- RESET_TAKES_EFFECT (R536). -/
  | resetTakesEffect (env : BootEnv)
  /-- ENTER_WATCH (R44). -/
  | enterWatch
  /-- WATCH_ENTRY_DONE (R582). -/
  | watchEntryDone
  /-- RESUME (R45). -/
  | resume (vinLow : Bool)
  /-- HALT (R44). -/
  | halt
  /-- WAKE_EVENT (R583). -/
  | wakeEvent (cause : WakeCause) (chan : Nat)
  /-- WAKE_DONE (R583). -/
  | wakeDone (badEngines : List Nat)
  /-- POWER_FAIL_WARNING (R221). -/
  | powerFailWarning (vin pin : Bool)
  /-- POWER_FAIL_SEQUENCE_END (R221). -/
  | powerFailSequenceEnd (micros : Nat)
  /-- HORIZON_ADVANCE (R28). -/
  | horizonAdvance
  /-- PRT_CFG_WRITE (R49). -/
  | prtCfgWrite (p : Nat) (value : Word)
  /-- HOLD_END (R49). -/
  | holdEnd (p : Nat)
  /-- PRT_WIN_WRITE (R52). -/
  | prtWinWrite (p : Nat) (value : Word)
  /-- THR_SETTLE_END (R52). -/
  | thrSettleEnd (p : Nat)
  /-- PRT_HYST_WRITE (R53). -/
  | prtHystWrite (p : Nat) (value : Word)
  /-- PRT_FILT_WRITE (R59). -/
  | prtFiltWrite (p : Nat) (value : Word)
  /-- PRT_PSC_WRITE (R70). -/
  | prtPscWrite (p : Nat) (value : Word)
  /-- CONFIRMED_TRANSITION (R55). -/
  | confirmedTransition (input : PortInput)
  /-- STATE_ESTABLISHED (R67). -/
  | stateEstablished (p : Nat) (lower level : Bool)
  /-- SERVICE_TRANSITION (R132). -/
  | serviceTransition (i : Nat) (rising : Bool) (slot code : Nat)
  /-- VTT_OVERLOAD (R48). -/
  | vttOverload (q : Nat)
  /-- VTT_OVERLOAD_CLEAR (R48). -/
  | vttOverloadClear (q : Nat)
  /-- CHECK_RUN (R83). -/
  | checkRun (p : Nat)
  /-- CHECK_ABORT (R86). -/
  | checkAbort (p : Nat)
  /-- SCHEDULED_CHECK (R83). -/
  | scheduledCheck (p : Nat)
  /-- SELF_CHECK_END (R82). -/
  | selfCheckEnd (p : Nat) (obs : ChkObs)
  /-- READBACK_SLOT_START (R89). -/
  | readbackSlotStart (conv : Nat)
  /-- READBACK_SLOT_END (R246). -/
  | readbackSlotEnd (conv : Nat)
  /-- PLL_LOCK (R104). -/
  | pllLock
  /-- REF_LOCK_TIMEOUT (R104). -/
  | refLockTimeout
  /-- REF_NO_EDGE (R105). -/
  | refNoEdge
  /-- REF_FREQ_WINDOW_END (R105). -/
  | refFreqWindowEnd (ppm : Int)
  /-- RELOCK (R106). -/
  | relock
  /-- EPOCH_WRAP (R108). -/
  | epochWrap
  /-- EPOCH_RECORD (R109). -/
  | epochRecord
  /-- TIME_CHECK_WORD (R112). -/
  | timeCheckWord (island : Nat) (upset : Int)
  /-- TB_CALIBRATE (R137). -/
  | tbCalibrate (lane : Nat)
  /-- TB_RETRY (R137). -/
  | tbRetry (lane : Nat)
  /-- TB_HANDOVER (R137). -/
  | tbHandover (lane : Nat)
  /-- TB_RETURN (R137). -/
  | tbReturn (lane : Nat)
  /-- SCHEDULED_CALIBRATION (R122). -/
  | scheduledCalibration (turn : CalTurn)
  /-- CALIBRATION_PASS_END (R121). -/
  | calibrationPassEnd (lane : Nat) (hist : List Nat)
  /-- VERIFY_END (R126). -/
  | verifyEnd (q : Nat)
  /-- DETACH_DONE (R125). -/
  | detachDone (q : Nat)
  /-- GATE_CLOSE (R30). -/
  | gateClose (task : Nat)
  /-- TASK_START_POINT (R425). -/
  | taskStartPoint (task : Nat)
  /-- SWITCH_TAKE_EFFECT (R159). -/
  | switchTakeEffect (point : SwitchPoint)
  /-- TLY_CFG_WRITE (R191). -/
  | tlyCfgWrite (slot : Nat) (isQ : Bool) (value : Nat)
  /-- CLEAR_INEXACT (R207). -/
  | clearInexact (slot : Nat)
  /-- ZERO (R231). -/
  | zero (slot : Nat)
  /-- PRESET (R231). -/
  | preset (slot : Nat)
  /-- PERIODIC_CHECKPOINT (R211). -/
  | periodicCheckpoint
  /-- CHECKPOINT (R211). -/
  | checkpoint
  /-- FINAL_CHECKPOINT_SNAPSHOT (R212). -/
  | finalCheckpointSnapshot
  /-- FRAME_WRITE_DONE (R213). -/
  | frameWriteDone (failed corrected : List Nat)
  /-- RELEASE_HOLD (R218). -/
  | releaseHold
  /-- MIGRATION_START (R225). -/
  | migrationStart
  /-- MIGRATION_DONE (R226). -/
  | migrationDone (verified : Bool)
  /-- GRID_POINT_EVAL (R237). -/
  | gridPointEval (n : Nat)
  /-- MODULATOR_CODE (R244). -/
  | modulatorCode (conv code : Nat) (clip : Bool)
  /-- MADC_TAP_WRITE (R245). -/
  | madcTapWrite (v : Nat) (value : Word)
  /-- CHECK_SLOT_START (R248). -/
  | checkSlotStart (conv : Nat)
  /-- SPARE_SELF_CHECK (R248). -/
  | spareSelfCheck (conv : Nat)
  /-- MADC_SUBSTITUTE (R249). -/
  | madcSubstitute (conv : Nat)
  /-- MADC_CHECK_CMD (R282). -/
  | madcCheckCmd (conv : Nat)
  /-- MADC_RETRY (R282). -/
  | madcRetry (conv : Nat)
  /-- DEC_START (R276). -/
  | decStart (n : Nat) (named : Bool)
  /-- DEC_STOP (R276). -/
  | decStop (n : Nat) (named : Bool)
  /-- DEC_APPLY (R276). -/
  | decApply (n : Nat) (named : Bool)
  /-- DEC_FADE (R269). -/
  | decFade (n bank code : Nat) (named : Bool)
  /-- CONTEXT_RUN (R276). -/
  | contextRun (n : Nat)
  /-- OUTPUT_INSTANT (R265). -/
  | outputInstant (n : Nat)
  /-- FADE_BEGIN (R271). -/
  | fadeBegin (n : Nat)
  /-- SAMPLE_PACKET_TIMEOUT (R275). -/
  | samplePacketTimeout (n : Nat)
  /-- DEC_COEF_DATA_ACCESS (R268). -/
  | decCoefDataAccess (write : Option Word)
  /-- DEC_COEF_HDR_WRITE (R268). -/
  | decCoefHdrWrite (value : Word)
  /-- PIP_JUDGE_TICK (R286). -/
  | pipJudgeTick (n : Nat)
  /-- PIP_ENABLE (R300). -/
  | pipEnable (n : Nat) (named : Bool)
  /-- PIP_DISABLE (R300). -/
  | pipDisable (n : Nat) (named : Bool)
  /-- PIP_APPLY (R300). -/
  | pipApply (n : Nat) (named : Bool)
  /-- PIP_SOFT (R300). -/
  | pipSoft (n mask : Nat) (named : Bool)
  /-- PIP_POINT_REACHED (R300). -/
  | pipPointReached (n : Nat)
  /-- LINE_EVENT (R297). -/
  | lineEvent (l time : Nat)
  /-- PIN_PULSE_START (R295). -/
  | pinPulseStart (i : Nat)
  /-- PIN_PULSE_END (R295). -/
  | pinPulseEnd (i : Nat)
  /-- TRG_PIN_WRITE (R605). -/
  | trgPinWrite (i : Nat) (value : Word)
  /-- ACQ_ARM (R306). -/
  | acqArm (a : Nat) (named : Bool)
  /-- ACQ_STOP (R321). -/
  | acqStop (a : Nat) (named : Bool)
  /-- ACQ_ARM_POINT (R306). -/
  | acqArmPoint (a : Nat)
  /-- ACQ_RELEASE (R305). -/
  | acqRelease (a : Nat)
  /-- SEGMENT_CLOSE (R309). -/
  | segmentClose (a : Nat)
  /-- ACQ_SEG_RD_WRITE (R326). -/
  | acqSegRdWrite (a value : Nat)
  /-- QUEUE_PUSH (R332). -/
  | queuePush (q prod : Nat) (cls : PClass) (record : Rec) (last : Bool)
  /-- QUEUE_POP (R336). -/
  | queuePop (q : Nat)
  /-- PACKET_REWIND (R334). -/
  | packetRewind (q prod : Nat)
  /-- SKIP_PKT (R340). -/
  | skipPkt (q : Nat)
  /-- QUE_FLUSH (R345). -/
  | queFlush (q : Nat)
  /-- XQ_COMMIT_VISIBLE (R348). -/
  | xqCommitVisible (q : Nat)
  /-- XQ_FREE_VISIBLE (R348). -/
  | xqFreeVisible (q : Nat)
  /-- QUE_POP_W0_READ (R370). -/
  | quePopW0Read (who : Requester)
  /-- QUE_Q_CFG_WRITE (R371). -/
  | queQCfgWrite (q : Nat) (value : Word)
  /-- QUE_TEST (R354). -/
  | queTest (q : Nat) (faulty : Nat)
  /-- QUE_LEVEL (R365). -/
  | queLevel
  /-- QUEUE_DRAIN_END (R353). -/
  | queueDrainEnd
  /-- FLIT_LOCK (R375). -/
  | flitLock (link : Nat)
  /-- FLIT_LOCK_LOSS (R375). -/
  | flitLockLoss (link : Nat)
  /-- REPORT_FLIT (R384). -/
  | reportFlit (link : Nat) (flit : Flit)
  /-- IDLE_FLIT (R378). -/
  | idleFlit (link : Nat) (flit : Flit)
  /-- NAK_FLIT (R393). -/
  | nakFlit (link : Nat) (flit : Flit)
  /-- BAD_CRC_FLIT (R393). -/
  | badCrcFlit (link : Nat)
  /-- HELLO (R390). -/
  | hello (link : Nat) (flit : Flit)
  /-- ECHO (R385). -/
  | echo (link : Nat) (flit : Flit) (t4 : Nat)
  /-- ARSP (R397). -/
  | arsp (link : Nat) (flit : Flit)
  /-- AHIGH (R380). -/
  | ahigh (link : Nat) (flit : Flit)
  /-- BAD_TYPE (R395). -/
  | badType (link kind : Nat) (flit : Flit)
  /-- TREQ_PERIOD (R385). -/
  | treqPeriod (link : Nat)
  /-- TIME_PERIOD (R386). -/
  | timePeriod (link : Nat)
  /-- AREQ_PERIOD (R397). -/
  | areqPeriod (link : Nat)
  /-- ARSP_TIMEOUT (R397). -/
  | arspTimeout (link : Nat)
  /-- SILENCE_TIMEOUT (R391). -/
  | silenceTimeout (link : Nat)
  /-- ACK_TIMEOUT (R394). -/
  | ackTimeout (link : Nat)
  /-- CREDIT_GRANT (R396). -/
  | creditGrant (link : Nat)
  /-- TRAIN_TRY_TIMEOUT (R390). -/
  | trainTryTimeout (link : Nat)
  /-- TRAINING_COMPLETE (R390). -/
  | trainingComplete (link : Nat)
  /-- RETRAIN_TIMER (R390). -/
  | retrainTimer (link : Nat)
  /-- LNK_RETRAIN (R406). -/
  | lnkRetrain (link : Nat)
  /-- LNK_AUDIT (R397). -/
  | lnkAudit (link : Nat)
  /-- LINK_EVT_GAP_END (R399). -/
  | linkEvtGapEnd (link code : Nat)
  /-- ADD (R417). -/
  | add (eng x : Nat)
  /-- SUB (R417). -/
  | sub (eng x : Nat)
  /-- AND (R417). -/
  | and (eng x : Nat)
  /-- OR (R417). -/
  | or (eng x : Nat)
  /-- XOR (R417). -/
  | xor (eng x : Nat)
  /-- SHL (R417). -/
  | shl (eng x : Nat)
  /-- SHR (R417). -/
  | shr (eng x : Nat)
  /-- SAR (R417). -/
  | sar (eng x : Nat)
  /-- MIN (R417). -/
  | min (eng x : Nat)
  /-- MAX (R417). -/
  | max (eng x : Nat)
  /-- MINU (R417). -/
  | minu (eng x : Nat)
  /-- MAXU (R417). -/
  | maxu (eng x : Nat)
  /-- MOV (R417). -/
  | mov (eng x : Nat)
  /-- MOVH (R417). -/
  | movh (eng x : Nat)
  /-- CMP (R417). -/
  | cmp (eng x : Nat)
  /-- ADDS (R417). -/
  | adds (eng x : Nat)
  /-- SEL (R417). -/
  | sel (eng x : Nat)
  /-- MUL (R417). -/
  | mul (eng x : Nat)
  /-- MULHS (R417). -/
  | mulhs (eng x : Nat)
  /-- MULHU (R417). -/
  | mulhu (eng x : Nat)
  /-- AMAC (R417). -/
  | amac (eng x : Nat)
  /-- AMSB (R417). -/
  | amsb (eng x : Nat)
  /-- ACLR (R417). -/
  | aclr (eng x : Nat)
  /-- ALD (R417). -/
  | ald (eng x : Nat)
  /-- ARDL (R417). -/
  | ardl (eng x : Nat)
  /-- ARDH (R417). -/
  | ardh (eng x : Nat)
  /-- ASHL (R417). -/
  | ashl (eng x : Nat)
  /-- ASHR (R417). -/
  | ashr (eng x : Nat)
  /-- AMULW (R417). -/
  | amulw (eng x : Nat)
  /-- AADD (R417). -/
  | aadd (eng x : Nat)
  /-- AXCH (R417). -/
  | axch (eng x : Nat)
  /-- DIVS (R417). -/
  | divs (eng x : Nat)
  /-- DIVU (R417). -/
  | divu (eng x : Nat)
  /-- REMS (R417). -/
  | rems (eng x : Nat)
  /-- REMU (R417). -/
  | remu (eng x : Nat)
  /-- RDIV (R417). -/
  | rdiv (eng x : Nat)
  /-- ADIV (R417). -/
  | adiv (eng x : Nat)
  /-- FADD (R417). -/
  | fadd (eng x : Nat)
  /-- FSUB (R417). -/
  | fsub (eng x : Nat)
  /-- FMUL (R417). -/
  | fmul (eng x : Nat)
  /-- FDIV (R417). -/
  | fdiv (eng x : Nat)
  /-- FSQRT (R417). -/
  | fsqrt (eng x : Nat)
  /-- FRCP (R417). -/
  | frcp (eng x : Nat)
  /-- FCVT (R417). -/
  | fcvt (eng x : Nat)
  /-- FCVTA (R417). -/
  | fcvta (eng x : Nat)
  /-- FCMP (R417). -/
  | fcmp (eng x : Nat)
  /-- FINT (R417). -/
  | fint (eng x : Nat)
  /-- LD (R417). -/
  | ld (eng x : Nat) (ecc : Ecc)
  /-- ST (R417). -/
  | st (eng x : Nat) (ecc : Ecc)
  /-- LDW (R417). -/
  | ldw (eng x : Nat) (ecc : Ecc)
  /-- LDWS (R417). -/
  | ldws (eng x : Nat) (ecc : Ecc)
  /-- STW (R417). -/
  | stw (eng x : Nat) (ecc : Ecc)
  /-- SPLD (R417). -/
  | spld (eng x : Nat)
  /-- SPST (R417). -/
  | spst (eng x : Nat)
  /-- HCFG (R417). -/
  | hcfg (eng x : Nat)
  /-- HADD (R417). -/
  | hadd (eng x : Nat)
  /-- HRD (R417). -/
  | hrd (eng x : Nat)
  /-- HRUO (R417). -/
  | hruo (eng x : Nat)
  /-- HCLR (R417). -/
  | hclr (eng x : Nat)
  /-- EVPOP (R420). -/
  | evpop (eng x : Nat)
  /-- EVENT_RELEASE (R419). -/
  | eventRelease (eng x : Nat)
  /-- EVRD (R417). -/
  | evrd (eng x : Nat)
  /-- SKIP (R417). -/
  | skip (eng x : Nat)
  /-- OUT (R423). -/
  | out (eng x : Nat)
  /-- OUTR (R417). -/
  | outr (eng x : Nat)
  /-- TIME (R417). -/
  | time (eng x : Nat)
  /-- DESC (R417). -/
  | desc (eng x : Nat)
  /-- TLYR (R417). -/
  | tlyr (eng x : Nat)
  /-- TLYW (R417). -/
  | tlyw (eng x : Nat)
  /-- NOP (R417). -/
  | nop (eng x : Nat)
  /-- CSR (R417). -/
  | csr (eng x : Nat)
  /-- FAULT (R417). -/
  | fault (eng x : Nat)
  /-- SEQ_JUMP (R416). -/
  | seqJump (eng x : Nat)
  /-- SEQ_CALL (R416). -/
  | seqCall (eng x : Nat)
  /-- SEQ_RET (R416). -/
  | seqRet (eng x : Nat)
  /-- SEQ_DISP (R416). -/
  | seqDisp (eng x : Nat)
  /-- SEQ_STOP (R426). -/
  | seqStop (eng x : Nat)
  /-- STOP_TIMEOUT (R426). -/
  | stopTimeout (eng x : Nat)
  /-- MACHINE_CHECK (R432). -/
  | machineCheck (eng x quarters : Nat)
  /-- IMMEDIATE_MOVE_DONE (R434). -/
  | immediateMoveDone (src : Nat)
  /-- SCRUB_PARITY_ERROR (R431). -/
  | scrubParityError (eng word : Nat)
  /-- CONTROL_STORE_LOAD_DONE (R430). -/
  | controlStoreLoadDone (eng : Nat) (verified : Bool)
  /-- ENG_CMD_HANDOVER (R435). -/
  | engCmdHandover (task eng : Nat)
  /-- EVACUATE (R435). -/
  | evacuate (src tgt : Nat)
  /-- ENG_RETRY (R439). -/
  | engRetry (eng : Nat)
  /-- HANDOVER_SHADOW (R436). -/
  | handoverShadow (tgt : Nat)
  /-- HANDOVER_DRAIN (R436). -/
  | handoverDrain (tgt : Nat)
  /-- EVACUATION_RETRY (R437). -/
  | evacuationRetry (src : Nat)
  /-- DRAM_CORRECTED_ERROR (R447). -/
  | dramCorrectedError (addr : Nat)
  /-- DRAM_UNCORRECTABLE (R447). -/
  | dramUncorrectable (addr : Nat)
  /-- PATROL_SCRUB (R448). -/
  | patrolScrub (ecc : Ecc)
  /-- RETIRE (R449). -/
  | retire
  /-- SCRUB_NOW (R470). -/
  | scrubNow
  /-- RESET_RING (R459). -/
  | resetRing (r : Nat)
  /-- EXTENT_CLOSE_TIMEOUT (R456). -/
  | extentCloseTimeout (r : Nat)
  /-- EXTENT_WRITE_COMPLETE (R458). -/
  | extentWriteComplete (d slot : Nat)
  /-- DRM_RG_RD_WRITE (R458). -/
  | drmRgRdWrite (r value : Nat)
  /-- NVME_COMPLETION (R463). -/
  | nvmeCompletion (d id status : Nat)
  /-- NVME_COMMAND_TIMEOUT (R465). -/
  | nvmeCommandTimeout (d id : Nat) (ready : Bool)
  /-- NVME_LINK_LOSS (R465). -/
  | nvmeLinkLoss (d : Nat)
  /-- DRIVE_INIT_DONE (R461). -/
  | driveInitDone (d : Nat) (env : DriveEnv)
  /-- SMART_POLL (R466). -/
  | smartPoll (d warning : Nat)
  /-- NVS_REINIT (R472). -/
  | nvsReinit (d : Nat)
  /-- NVS_FLUSH (R472). -/
  | nvsFlush (d : Nat)
  /-- NVS_FORMAT (R472). -/
  | nvsFormat (d : Nat)
  /-- EXTENT_READ (R464). -/
  | extentRead
  /-- EXTENT_READ_DONE (R464). -/
  | extentReadDone (ok : Bool) (data : List Byte)
  /-- BAR2_READ (R479). -/
  | bar2Read (off len : Nat)
  /-- REGISTER_WRITE (R7). -/
  | registerWrite (who : Requester) (off : Nat) (value : Word)
  /-- RC_FIELD_READ (R8). -/
  | rcFieldRead (who : Requester) (off : Nat)
  /-- PAIR_LOW_READ (R12). -/
  | pairLowRead (who : Requester) (off : Nat)
  /-- PAIR_HIGH_READ (R12). -/
  | pairHighRead (who : Requester) (off : Nat)
  /-- PAIR_LOW_WRITE (R12). -/
  | pairLowWrite (who : Requester) (off : Nat) (value : Word)
  /-- PAIR_HIGH_WRITE (R12). -/
  | pairHighWrite (who : Requester) (off : Nat) (value : Word)
  /-- HST_CQ_DB (R490). -/
  | hstCqDb (value : Nat)
  /-- COMMAND_FETCH (R490). -/
  | commandFetch (entry : CmdEntry)
  /-- TASK_START (R492). -/
  | taskStart (entry : CmdEntry)
  /-- TASK_STOP (R492). -/
  | taskStop (entry : CmdEntry)
  /-- TASK_SWITCH (R492). -/
  | taskSwitch (entry : CmdEntry)
  /-- GATE (R492). -/
  | gate (entry : CmdEntry)
  /-- DEC (R492). -/
  | dec (entry : CmdEntry)
  /-- PIP (R492). -/
  | pip (entry : CmdEntry)
  /-- ACQ (R492). -/
  | acq (entry : CmdEntry)
  /-- FENCE (R492). -/
  | fence (entry : CmdEntry)
  /-- FENCE_COMPLETE (R496). -/
  | fenceComplete
  /-- COMPLETION_TIMEOUT (R483). -/
  | completionTimeout (retryFailed : Bool)
  /-- RING_PACKET_WRITE (R485). -/
  | ringPacketWrite (r : Nat)
  /-- HST_RING_TAIL_WRITE (R487). -/
  | hstRingTailWrite (r value : Nat)
  /-- HST_RING_CFG_WRITE (R484). -/
  | hstRingCfgWrite (r : Nat) (value : Word)
  /-- HST_CPL_PTR_WRITE (R506). -/
  | hstCplPtrWrite (value : Word)
  /-- HST_DB (R501). -/
  | hstDb (i : Nat) (value : Word)
  /-- EVENT_SOURCE_ASSERT (R498). -/
  | eventSourceAssert (src : Nat)
  /-- HOLDOFF_END (R500). -/
  | holdoffEnd (v : Nat)
  /-- EVT_PEND_CLEAR (R498). -/
  | evtPendClear (k : Nat) (mask : Word)
  /-- D3HOT_TRANSITION (R475). -/
  | d3hotTransition (enter : Bool)
  /-- SMB_READ_STATUS (R503). -/
  | smbReadStatus
  /-- SMB_BAR0_WRITE (R503). -/
  | smbBar0Write (off : Nat) (value : Word) (pec : SmbPec)
  /-- SMB_BAR0_READ (R503). -/
  | smbBar0Read (off : Nat)
  /-- SMB_DOORBELL (R503). -/
  | smbDoorbell (i : Nat) (pec : SmbPec)
  /-- ALERT_RESPONSE (R504). -/
  | alertResponse
  /-- SMBUS_TIMEOUT (R502). -/
  | smbusTimeout
  /-- JOIN (R514). -/
  | join (link : Nat) (flit : Flit)
  /-- ACCEPT (R513). -/
  | accept (flit : Flit)
  /-- REFUSE (R514). -/
  | refuse (flit : Flit)
  /-- CASCADE_RESET_FLIT (R529). -/
  | cascadeResetFlit (flit : Flit)
  /-- LEAVE (R530). -/
  | leave (link : Nat) (flit : Flit)
  /-- DLY (R523). -/
  | dly (flit : Flit)
  /-- LINE_FLIT (R522). -/
  | lineFlit (link : Nat) (flit : Flit)
  /-- FWD_FLIT (R526). -/
  | fwdFlit (link : Nat) (flit : Flit)
  /-- CAS_TIME_FLIT (R519). -/
  | casTimeFlit (flit : Flit) (own : Nat)
  /-- OFFSET_STEP (R519). -/
  | offsetStep
  /-- JOIN_TIMEOUT (R512). -/
  | joinTimeout
  /-- CHILD_LINK_LOST (R530). -/
  | childLinkLost (link : Nat)
  /-- RESET_ALL (R529). -/
  | resetAll
  /-- RESYNC (R534). -/
  | resync
  /-- C0_SIGNAL_DETECT (R531). -/
  | c0SignalDetect
  /-- CAS_TUNNEL_ENABLE (R525). -/
  | casTunnelEnable (inbound : Bool) (t : Nat) (value : Word)
  /-- SOFT_RESET (R535). -/
  | softReset
  /-- CONTINUE (R540). -/
  | continueCmd (env : BootEnv)
  /-- RESTART (R549). -/
  | restart (env : BootEnv)
  /-- OTP_DIGEST (R555). -/
  | otpDigest
  /-- OTP_DIG_EN (R555). -/
  | otpDigEn
  /-- OTP_JTAG (R555). -/
  | otpJtag (level : Nat)
  /-- FLASH_READ (R557). -/
  | flashRead
  /-- FLASH_PROGRAM (R557). -/
  | flashProgram
  /-- FLASH_ERASE (R557). -/
  | flashErase
  /-- FLASH_COMMAND_DONE (R557). -/
  | flashCommandDone (ok : Bool)
  /-- BOOT_FL_DATA_ACCESS (R559). -/
  | bootFlDataAccess (who : Requester) (write : Option Word)
  /-- BOOT_LOCK_SET (R560). -/
  | bootLockSet (value : Word)
  /-- ACK (R569). -/
  | ack (i : Nat)
  /-- CLEAR (R569). -/
  | clear (i : Nat)
  /-- FLT_INJ (R592). -/
  | fltInj (unit code : Nat)
  /-- ESCALATION (R572). -/
  | escalation (i : Nat)
  /-- FAULT_PACKET_TIMER (R570). -/
  | faultPacketTimer (i : Nat)
  /-- FLT_CTL_LOCK (R592). -/
  | fltCtlLock (value : Word)
  /-- RAIL_OUT_OF_REGULATION (R578). -/
  | railOutOfRegulation (r : Nat) (mv : Int)
  /-- RAIL_CURRENT_LIMIT (R578). -/
  | railCurrentLimit (r ma10 : Nat)
  /-- VIN_HIGH (R578). -/
  | vinHigh (mv : Nat)
  /-- DOMAIN_OFF (R581). -/
  | domainOff (d : Nat)
  /-- DOMAIN_ON (R581). -/
  | domainOn (d : Nat)
  /-- POWER_GOOD_TIMEOUT (R580). -/
  | powerGoodTimeout (d : Nat)
  /-- GENERAL_TIMER_EXPIRY (R586). -/
  | generalTimerExpiry (i : Nat)
  /-- TEMP_SAMPLE (R587). -/
  | tempSample (t0 t1 t2 t3 : Int)
  /-- JTAG_UPDATE_IR (R613). -/
  | jtagUpdateIr (update : TapUpdate)
  /-- TAP_RELEASE (R613). -/
  | tapRelease (env : BootEnv)
  /-- PERST_N_RISE (R537). -/
  | perstNRise
  /-- CONFIGURATION_REQUEST (R474). -/
  | configurationRequest (change : CfgChange)
  /-- HOST_LINK_CHANGE (R506). -/
  | hostLinkChange (gen width : Nat)
  /-- CHECK_SLOT_END (R248). -/
  | checkSlotEnd (conv : Nat)
  /-- TREQ (R518). -/
  | treq (flit : Flit) (t2 : Nat)
  /-- AREQ (R517). -/
  | areq (link : Nat) (flit : Flit)
  /-- POWER_CONDITION_CLEAR (R568). -/
  | powerConditionClear (cond : PowerCond) (mv : Int)
deriving DecidableEq, Repr

end Sys2Proof
end

