-- ==== Sys2Proof/WellFormed.lean ====
section
/-! DEFINITION. Well-formed commands: every number that names a unit, a register copy or a field lies in the range that the spec gives it.
The commands themselves act on any operands; what lies outside its range names nothing and changes nothing. -/

namespace Sys2Proof

/-- What a number of a command's operands names. -/
inductive OperandKind where
  /-- Ports P0–P95 (R14). -/
  | port
  /-- Quads Q0–Q23 (R14). -/
  | quad
  /-- TDC lanes 0–220 (R136). -/
  | lane
  /-- Queues 0–1,279 (R372). -/
  | queue
  /-- Physical monitor converters (R282). -/
  | converter
  /-- Logical converters (R281). -/
  | muxInput
  /-- Engines Y0–Y207 (R407). -/
  | engine
  /-- Contexts of an engine (R407). -/
  | context
  /-- An engine, or 0xFF for the block to choose (R439). -/
  | engineOrChosen
  /-- Links: 0–15 L0–L15, 16–19 C0–C3 (R374, R511). -/
  | link
  /-- Links L0–L15 (R406). -/
  | channelLink
  /-- Tasks (R439). -/
  | task
  /-- Decimation contexts (R279). -/
  | decContext
  /-- Pip units (R323). -/
  | pipUnit
  /-- Acquisition units (R303). -/
  | acqUnit
  /-- Fault records (R592). -/
  | record
  /-- General timers (R594). -/
  | timer
  /-- Service channels (R135). -/
  | service
  /-- Doorbells (R501). -/
  | doorbell
  /-- A byte. -/
  | byte
  /-- TRIG pins (R324). -/
  | pin
  /-- Rails (R594). -/
  | rail
  /-- Host rings (R484). -/
  | hostRing
  /-- DRAM regions (R470). -/
  | region
  /-- Power domains (R594). -/
  | domain
  /-- NVMe drives (R472). -/
  | drive
  /-- Tally slots (R188). -/
  | slot
  /-- Event sources (R497). -/
  | source
  /-- MSI-X vectors (R499). -/
  | vector
  /-- Islands of the time distribution (R136). -/
  | island
  /-- Tunnels (R534). -/
  | tunnel
  /-- Words of EVT_PEND (R505). -/
  | eventWord
  /-- Trigger lines (R324). -/
  | line
  /-- A mask of four bits, or a code of four bits. -/
  | nibble
  /-- Sampling instants of a tick (R54). -/
  | sample
  /-- Coefficient banks (R280). -/
  | bank
  /-- JTAG lock levels (R560). -/
  | lockLevel
  /-- Flit types (R376). -/
  | flitType
  /-- Link event codes (R401, R533). -/
  | eventCode
  /-- NVMe command identifiers. -/
  | nvmeId
  /-- A 32-bit offset. -/
  | offset
  /-- Microword addresses (R427). -/
  | word12
  /-- PCIe generations, 0 for a link that is down (R506). -/
  | linkGen
  /-- How many of the four samples of a tick have been taken (R54). -/
  | sampleCount
  /-- A picosecond of a tick (R54). -/
  | picosecond
  /-- A field of 16 bits. -/
  | reg16
deriving DecidableEq, Repr

/-- How many there are. -/
def OperandKind.count : OperandKind → Nat
  | .port => 96
  | .quad => 24
  | .lane => 221
  | .queue => 1280
  | .converter => 12
  | .muxInput => 8
  | .engine => 208
  | .context => 32
  | .engineOrChosen => 256
  | .link => 20
  | .channelLink => 16
  | .task => 4096
  | .decContext => 4608
  | .pipUnit => 16
  | .acqUnit => 16
  | .record => 64
  | .timer => 8
  | .service => 5
  | .doorbell => 10
  | .byte => 256
  | .pin => 4
  | .rail => 12
  | .hostRing => 64
  | .region => 256
  | .domain => 80
  | .drive => 2
  | .slot => 4192
  | .source => 320
  | .vector => 512
  | .island => 40
  | .tunnel => 16
  | .eventWord => 10
  | .line => 8
  | .nibble => 16
  | .sample => 4
  | .bank => 256
  | .lockLevel => 4
  | .flitType => 16
  | .eventCode => 20
  | .nvmeId => 65536
  | .offset => 4294967296
  | .word12 => 4096
  | .linkGen => 6
  | .sampleCount => 5
  | .picosecond => 1600
  | .reg16 => 65536

/-- The numbers among a command's operands, each with what it names. -/
def Instr.operands : Instr → List (OperandKind × Nat)
  | .porNLow => []
  | .vinUndervoltage => []
  | .powerStageUp _ => []
  | .bootComplete => []
  | .bootStepTimeout step => [(.nibble, step)]
  | .bootPfRestart _ => []
  | .bootLoopClear => []
  | .perstNFall => []
  | .functionLevelReset => []
  | .resetTakesEffect _ => []
  | .enterWatch => []
  | .watchEntryDone => []
  | .resume _ => []
  | .halt => []
  | .wakeEvent _ _ => []
  | .wakeDone _ => []
  | .powerFailWarning _ _ => []
  | .powerFailSequenceEnd _ => []
  | .horizonAdvance => []
  | .prtCfgWrite p _ => [(.port, p)]
  | .holdEnd p => [(.port, p)]
  | .prtWinWrite p _ => [(.port, p)]
  | .thrSettleEnd p => [(.port, p)]
  | .prtHystWrite p _ => [(.port, p)]
  | .prtFiltWrite p _ => [(.port, p)]
  | .prtPscWrite p _ => [(.port, p)]
  | .confirmedTransition i =>
    (.port, i.port) :: (.sampleCount, i.samples) ::
      i.segs.flatMap fun g => [(.picosecond, g.ps), (.byte, g.codeU), (.byte, g.codeL), (.byte, g.codeS)]
  | .stateEstablished p _ _ => [(.port, p)]
  | .serviceTransition i _ slot code => [(.service, i), (.sample, slot), (.byte, code)]
  | .vttOverload q => [(.quad, q)]
  | .vttOverloadClear q => [(.quad, q)]
  | .checkRun p => [(.port, p)]
  | .checkAbort p => [(.port, p)]
  | .scheduledCheck p => [(.port, p)]
  | .selfCheckEnd p _ => [(.port, p)]
  | .readbackSlotStart conv => [(.converter, conv)]
  | .readbackSlotEnd conv => [(.converter, conv)]
  | .pllLock => []
  | .refLockTimeout => []
  | .refNoEdge => []
  | .refFreqWindowEnd _ => []
  | .relock => []
  | .epochWrap => []
  | .epochRecord => []
  | .timeCheckWord island _ => [(.island, island)]
  | .tbCalibrate lane => [(.lane, lane)]
  | .tbRetry lane => [(.lane, lane)]
  | .tbHandover lane => [(.lane, lane)]
  | .tbReturn lane => [(.lane, lane)]
  | .scheduledCalibration turn => [(.lane, turn.lane)]
  | .calibrationPassEnd lane _ => [(.lane, lane)]
  | .verifyEnd q => [(.quad, q)]
  | .detachDone q => [(.quad, q)]
  | .gateClose task => [(.task, task)]
  | .taskStartPoint task => [(.task, task)]
  | .switchTakeEffect point => [(.task, point.task)]
  | .tlyCfgWrite slot _ _ => [(.slot, slot)]
  | .clearInexact slot => [(.slot, slot)]
  | .zero slot => [(.slot, slot)]
  | .preset slot => [(.slot, slot)]
  | .periodicCheckpoint => []
  | .checkpoint => []
  | .finalCheckpointSnapshot => []
  | .frameWriteDone _ _ => []
  | .releaseHold => []
  | .migrationStart => []
  | .migrationDone _ => []
  | .gridPointEval n => [(.decContext, n)]
  | .modulatorCode conv code _ => [(.converter, conv), (.nibble, code)]
  | .madcTapWrite v _ => [(.muxInput, v)]
  | .checkSlotStart conv => [(.converter, conv)]
  | .spareSelfCheck conv => [(.converter, conv)]
  | .madcSubstitute conv => [(.converter, conv)]
  | .madcCheckCmd conv => [(.converter, conv)]
  | .madcRetry conv => [(.converter, conv)]
  | .decStart n _ => [(.decContext, n)]
  | .decStop n _ => [(.decContext, n)]
  | .decApply n _ => [(.decContext, n)]
  | .decFade n bank code _ => [(.decContext, n), (.bank, bank), (.nibble, code)]
  | .contextRun n => [(.decContext, n)]
  | .outputInstant n => [(.decContext, n)]
  | .fadeBegin n => [(.decContext, n)]
  | .samplePacketTimeout n => [(.decContext, n)]
  | .decCoefDataAccess _ => []
  | .decCoefHdrWrite _ => []
  | .pipJudgeTick n => [(.pipUnit, n)]
  | .pipEnable n _ => [(.pipUnit, n)]
  | .pipDisable n _ => [(.pipUnit, n)]
  | .pipApply n _ => [(.pipUnit, n)]
  | .pipSoft n mask _ => [(.pipUnit, n), (.nibble, mask)]
  | .pipPointReached n => [(.pipUnit, n)]
  | .lineEvent l _ => [(.line, l)]
  | .pinPulseStart i => [(.pin, i)]
  | .pinPulseEnd i => [(.pin, i)]
  | .trgPinWrite i _ => [(.pin, i)]
  | .acqArm a _ => [(.acqUnit, a)]
  | .acqStop a _ => [(.acqUnit, a)]
  | .acqArmPoint a => [(.acqUnit, a)]
  | .acqRelease a => [(.acqUnit, a)]
  | .segmentClose a => [(.acqUnit, a)]
  | .acqSegRdWrite a _ => [(.acqUnit, a)]
  | .queuePush q _ _ _ _ => [(.queue, q)]
  | .queuePop q => [(.queue, q)]
  | .packetRewind q _ => [(.queue, q)]
  | .skipPkt q => [(.queue, q)]
  | .queFlush q => [(.queue, q)]
  | .xqCommitVisible q => [(.queue, q)]
  | .xqFreeVisible q => [(.queue, q)]
  | .quePopW0Read _ => []
  | .queQCfgWrite q _ => [(.queue, q)]
  | .queTest q _ => [(.queue, q)]
  | .queLevel => []
  | .queueDrainEnd => []
  | .flitLock link => [(.link, link)]
  | .flitLockLoss link => [(.link, link)]
  | .reportFlit link _ => [(.channelLink, link)]
  | .idleFlit link _ => [(.link, link)]
  | .nakFlit link _ => [(.link, link)]
  | .badCrcFlit link => [(.link, link)]
  | .hello link _ => [(.link, link)]
  | .echo link _ _ => [(.link, link)]
  | .arsp link _ => [(.link, link)]
  | .ahigh link _ => [(.link, link)]
  | .badType link kind _ => [(.link, link), (.flitType, kind)]
  | .treqPeriod link => [(.link, link)]
  | .timePeriod link => [(.link, link)]
  | .areqPeriod link => [(.link, link)]
  | .arspTimeout link => [(.link, link)]
  | .silenceTimeout link => [(.link, link)]
  | .ackTimeout link => [(.link, link)]
  | .creditGrant link => [(.link, link)]
  | .trainTryTimeout link => [(.link, link)]
  | .trainingComplete link => [(.link, link)]
  | .retrainTimer link => [(.link, link)]
  | .lnkRetrain link => [(.channelLink, link)]
  | .lnkAudit link => [(.channelLink, link)]
  | .linkEvtGapEnd link code => [(.link, link), (.eventCode, code)]
  | .add eng x => [(.engine, eng), (.context, x)]
  | .sub eng x => [(.engine, eng), (.context, x)]
  | .and eng x => [(.engine, eng), (.context, x)]
  | .or eng x => [(.engine, eng), (.context, x)]
  | .xor eng x => [(.engine, eng), (.context, x)]
  | .shl eng x => [(.engine, eng), (.context, x)]
  | .shr eng x => [(.engine, eng), (.context, x)]
  | .sar eng x => [(.engine, eng), (.context, x)]
  | .min eng x => [(.engine, eng), (.context, x)]
  | .max eng x => [(.engine, eng), (.context, x)]
  | .minu eng x => [(.engine, eng), (.context, x)]
  | .maxu eng x => [(.engine, eng), (.context, x)]
  | .mov eng x => [(.engine, eng), (.context, x)]
  | .movh eng x => [(.engine, eng), (.context, x)]
  | .cmp eng x => [(.engine, eng), (.context, x)]
  | .adds eng x => [(.engine, eng), (.context, x)]
  | .sel eng x => [(.engine, eng), (.context, x)]
  | .mul eng x => [(.engine, eng), (.context, x)]
  | .mulhs eng x => [(.engine, eng), (.context, x)]
  | .mulhu eng x => [(.engine, eng), (.context, x)]
  | .amac eng x => [(.engine, eng), (.context, x)]
  | .amsb eng x => [(.engine, eng), (.context, x)]
  | .aclr eng x => [(.engine, eng), (.context, x)]
  | .ald eng x => [(.engine, eng), (.context, x)]
  | .ardl eng x => [(.engine, eng), (.context, x)]
  | .ardh eng x => [(.engine, eng), (.context, x)]
  | .ashl eng x => [(.engine, eng), (.context, x)]
  | .ashr eng x => [(.engine, eng), (.context, x)]
  | .amulw eng x => [(.engine, eng), (.context, x)]
  | .aadd eng x => [(.engine, eng), (.context, x)]
  | .axch eng x => [(.engine, eng), (.context, x)]
  | .divs eng x => [(.engine, eng), (.context, x)]
  | .divu eng x => [(.engine, eng), (.context, x)]
  | .rems eng x => [(.engine, eng), (.context, x)]
  | .remu eng x => [(.engine, eng), (.context, x)]
  | .rdiv eng x => [(.engine, eng), (.context, x)]
  | .adiv eng x => [(.engine, eng), (.context, x)]
  | .fadd eng x => [(.engine, eng), (.context, x)]
  | .fsub eng x => [(.engine, eng), (.context, x)]
  | .fmul eng x => [(.engine, eng), (.context, x)]
  | .fdiv eng x => [(.engine, eng), (.context, x)]
  | .fsqrt eng x => [(.engine, eng), (.context, x)]
  | .frcp eng x => [(.engine, eng), (.context, x)]
  | .fcvt eng x => [(.engine, eng), (.context, x)]
  | .fcvta eng x => [(.engine, eng), (.context, x)]
  | .fcmp eng x => [(.engine, eng), (.context, x)]
  | .fint eng x => [(.engine, eng), (.context, x)]
  | .ld eng x _ => [(.engine, eng), (.context, x)]
  | .st eng x _ => [(.engine, eng), (.context, x)]
  | .ldw eng x _ => [(.engine, eng), (.context, x)]
  | .ldws eng x _ => [(.engine, eng), (.context, x)]
  | .stw eng x _ => [(.engine, eng), (.context, x)]
  | .spld eng x => [(.engine, eng), (.context, x)]
  | .spst eng x => [(.engine, eng), (.context, x)]
  | .hcfg eng x => [(.engine, eng), (.context, x)]
  | .hadd eng x => [(.engine, eng), (.context, x)]
  | .hrd eng x => [(.engine, eng), (.context, x)]
  | .hruo eng x => [(.engine, eng), (.context, x)]
  | .hclr eng x => [(.engine, eng), (.context, x)]
  | .evpop eng x => [(.engine, eng), (.context, x)]
  | .eventRelease eng x => [(.engine, eng), (.context, x)]
  | .evrd eng x => [(.engine, eng), (.context, x)]
  | .skip eng x => [(.engine, eng), (.context, x)]
  | .out eng x => [(.engine, eng), (.context, x)]
  | .outr eng x => [(.engine, eng), (.context, x)]
  | .time eng x => [(.engine, eng), (.context, x)]
  | .desc eng x => [(.engine, eng), (.context, x)]
  | .tlyr eng x => [(.engine, eng), (.context, x)]
  | .tlyw eng x => [(.engine, eng), (.context, x)]
  | .nop eng x => [(.engine, eng), (.context, x)]
  | .csr eng x => [(.engine, eng), (.context, x)]
  | .fault eng x => [(.engine, eng), (.context, x)]
  | .seqJump eng x => [(.engine, eng), (.context, x)]
  | .seqCall eng x => [(.engine, eng), (.context, x)]
  | .seqRet eng x => [(.engine, eng), (.context, x)]
  | .seqDisp eng x => [(.engine, eng), (.context, x)]
  | .seqStop eng x => [(.engine, eng), (.context, x)]
  | .stopTimeout eng x => [(.engine, eng), (.context, x)]
  | .machineCheck eng x quarters => [(.engine, eng), (.context, x), (.nibble, quarters)]
  | .immediateMoveDone src => [(.engine, src)]
  | .scrubParityError eng word => [(.engine, eng), (.word12, word)]
  | .controlStoreLoadDone eng _ => [(.engine, eng)]
  | .engCmdHandover task eng => [(.task, task), (.engineOrChosen, eng)]
  | .evacuate src tgt => [(.engine, src), (.engineOrChosen, tgt)]
  | .engRetry eng => [(.engine, eng)]
  | .handoverShadow tgt => [(.engine, tgt)]
  | .handoverDrain tgt => [(.engine, tgt)]
  | .evacuationRetry src => [(.engine, src)]
  | .dramCorrectedError _ => []
  | .dramUncorrectable _ => []
  | .patrolScrub _ => []
  | .retire => []
  | .scrubNow => []
  | .resetRing r => [(.region, r)]
  | .extentCloseTimeout r => [(.region, r)]
  | .extentWriteComplete d _ => [(.drive, d)]
  | .drmRgRdWrite r _ => [(.region, r)]
  | .nvmeCompletion d id _ => [(.drive, d), (.nvmeId, id)]
  | .nvmeCommandTimeout d id _ => [(.drive, d), (.nvmeId, id)]
  | .nvmeLinkLoss d => [(.drive, d)]
  | .driveInitDone d _ => [(.drive, d)]
  | .smartPoll d warning => [(.drive, d), (.byte, warning)]
  | .nvsReinit d => [(.drive, d)]
  | .nvsFlush d => [(.drive, d)]
  | .nvsFormat d => [(.drive, d)]
  | .extentRead => []
  | .extentReadDone _ _ => []
  | .bar2Read _ _ => []
  | .registerWrite _ off _ => [(.offset, off)]
  | .rcFieldRead _ off => [(.offset, off)]
  | .pairLowRead _ off => [(.offset, off)]
  | .pairHighRead _ off => [(.offset, off)]
  | .pairLowWrite _ off _ => [(.offset, off)]
  | .pairHighWrite _ off _ => [(.offset, off)]
  | .hstCqDb value => [(.offset, value)]
  | .commandFetch _ => []
  | .taskStart _ => []
  | .taskStop _ => []
  | .taskSwitch _ => []
  | .gate _ => []
  | .dec _ => []
  | .pip _ => []
  | .acq _ => []
  | .fence _ => []
  | .fenceComplete => []
  | .completionTimeout _ => []
  | .ringPacketWrite r => [(.hostRing, r)]
  | .hstRingTailWrite r _ => [(.hostRing, r)]
  | .hstRingCfgWrite r _ => [(.hostRing, r)]
  | .hstCplPtrWrite _ => []
  | .hstDb i _ => [(.doorbell, i)]
  | .eventSourceAssert src => [(.source, src)]
  | .holdoffEnd v => [(.vector, v)]
  | .evtPendClear k _ => [(.eventWord, k)]
  | .d3hotTransition _ => []
  | .smbReadStatus => []
  | .smbBar0Write off _ _ => [(.offset, off)]
  | .smbBar0Read off => [(.offset, off)]
  | .smbDoorbell i _ => [(.byte, i)]
  | .alertResponse => []
  | .smbusTimeout => []
  | .join link _ => [(.link, link)]
  | .accept _ => []
  | .refuse _ => []
  | .cascadeResetFlit _ => []
  | .leave link _ => [(.link, link)]
  | .dly _ => []
  | .lineFlit link _ => [(.link, link)]
  | .fwdFlit link _ => [(.link, link)]
  | .casTimeFlit _ _ => []
  | .offsetStep => []
  | .joinTimeout => []
  | .childLinkLost link => [(.link, link)]
  | .resetAll => []
  | .resync => []
  | .c0SignalDetect => []
  | .casTunnelEnable _ t _ => [(.tunnel, t)]
  | .softReset => []
  | .continueCmd _ => []
  | .restart _ => []
  | .otpDigest => []
  | .otpDigEn => []
  | .otpJtag level => [(.lockLevel, level)]
  | .flashRead => []
  | .flashProgram => []
  | .flashErase => []
  | .flashCommandDone _ => []
  | .bootFlDataAccess _ _ => []
  | .bootLockSet _ => []
  | .ack i => [(.record, i)]
  | .clear i => [(.record, i)]
  | .fltInj unit code => [(.reg16, unit), (.reg16, code)]
  | .escalation i => [(.record, i)]
  | .faultPacketTimer i => [(.record, i)]
  | .fltCtlLock _ => []
  | .railOutOfRegulation r _ => [(.rail, r)]
  | .railCurrentLimit r _ => [(.rail, r)]
  | .vinHigh _ => []
  | .domainOff d => [(.domain, d)]
  | .domainOn d => [(.domain, d)]
  | .powerGoodTimeout d => [(.domain, d)]
  | .generalTimerExpiry i => [(.timer, i)]
  | .tempSample _ _ _ _ => []
  | .jtagUpdateIr update => [(.byte, update.opcode)]
  | .tapRelease _ => []
  | .perstNRise => []
  | .configurationRequest _ => []
  | .hostLinkChange gen _ => [(.linkGen, gen)]
  | .checkSlotEnd conv => [(.converter, conv)]
  | .treq _ _ => []
  | .areq link _ => [(.link, link)]
  | .powerConditionClear _ _ => []

/-- A command whose numbers all lie in range. -/
def wellFormed (i : Instr) : Bool := i.operands.all fun o => decide (o.2 < o.1.count)

end Sys2Proof
end

