-- ==== Sys2Proof/Machine/Crc.lean ====
section
/-! DEFINITION. CRC-32C and SHA-256, as R544 names them. -/

namespace Sys2Proof.Machine

/-- One bit of the reflected CRC-32C, polynomial 0x1EDC6F41 (R544). -/
def crcBit (c : Nat) : Nat := if c % 2 = 1 then Nat.xor (c / 2) 0x82F63B78 else c / 2

/-- One byte of the CRC. -/
def crcByte (c : Nat) (b : Byte) : Nat :=
  crcBit (crcBit (crcBit (crcBit (crcBit (crcBit (crcBit (crcBit (Nat.xor c b.toNat))))))))

/-- CRC-32C of a byte list: initial value and final XOR 0xFFFF_FFFF (R544). -/
def crc32c (bs : List Byte) : Nat := Nat.xor (bs.foldl crcByte 0xFFFFFFFF) 0xFFFFFFFF

/-! ### SHA-256 (R544)

The eight working variables are the last four values of two sequences: with `A` and `E` newest first, `a b c d` are `A`'s first four and
`e f g h` are `E`'s, so a round puts one new value in front of each. The constants are worked out from the primes they stand for. -/

/-- The largest number below `2 ^ n` more than `r`, found bit by bit, whose `k`-th power is at most `x`. -/
def rootDown (k x : Nat) : Nat → Nat → Nat
  | 0, r => r
  | n + 1, r => rootDown k x n (if (r + 2 ^ n) ^ k ≤ x then r + 2 ^ n else r)

/-- The first 32 fraction bits of the `k`-th root of a number below 512. -/
def rootFrac (k p : Nat) : Word := w32 (rootDown k (p * 2 ^ (32 * k)) 37 0)

/-- The first 64 primes. -/
def shaPrimes : List Nat := (natsFrom 2 310).filter fun p => (natsFrom 2 16).all fun d => decide (p ≤ d) || p % d != 0

/-- The round constants, one for each prime. -/
def shaK : List Word := shaPrimes.map (rootFrac 3)

/-- The two sequences, newest value first. -/
structure ShaSeq where
  A : List Word
  E : List Word
deriving DecidableEq, Repr

/-- The initial hash value. -/
def shaStart : ShaSeq :=
  let h := (shaPrimes.take 8).map (rootFrac 2)
  ⟨h.take 4, h.drop 4⟩

/-- XOR of three rotations. -/
def rot3 (w : Word) (i j k : Nat) : Word := w.rotateRight i ^^^ (w.rotateRight j ^^^ w.rotateRight k)

/-- XOR of two rotations and a shift. -/
def rotShift (w : Word) (i j k : Nat) : Word := w.rotateRight i ^^^ (w.rotateRight j ^^^ w >>> k)

/-- `n` more words of the message schedule, newest first. -/
def shaExtend : Nat → List Word → List Word
  | 0, w => w
  | n + 1, w => shaExtend n ((rotShift (nth 0 w 1) 17 19 10 + nth 0 w 6 + rotShift (nth 0 w 14) 7 18 3 + nth 0 w 15) :: w)

/-- One round with its constant and schedule word. -/
def ShaSeq.round (q : ShaSeq) (kw : Word × Word) : ShaSeq :=
  let x := nth 0 q.A 0
  let y := nth 0 q.E 0
  let pick := nth 0 q.E 2 ^^^ (y &&& (nth 0 q.E 1 ^^^ nth 0 q.E 2))
  let most := (x &&& (nth 0 q.A 1 ||| nth 0 q.A 2)) ||| (nth 0 q.A 1 &&& nth 0 q.A 2)
  let t := kw.1 + kw.2 + pick + rot3 y 6 11 25 + nth 0 q.E 3
  ⟨(most + rot3 x 2 13 22 + t) :: q.A, (nth 0 q.A 3 + t) :: q.E⟩

/-- One block of 16 words, oldest first. -/
def ShaSeq.block (q : ShaSeq) (ws : List Word) : ShaSeq :=
  let r := (shaK.zip (shaExtend 48 ws.reverse).reverse).foldl ShaSeq.round q
  ⟨List.zipWith (· + ·) q.A (r.A.take 4), List.zipWith (· + ·) q.E (r.E.take 4)⟩

/-- Cut a list into at most `n` parts of `k` elements. -/
def chunks {α : Type} (k : Nat) : Nat → List α → List (List α)
  | 0, _ => []
  | n + 1, l => if l.isEmpty then [] else l.take k :: chunks k n (l.drop k)

/-- The message padded to a whole number of 64-byte blocks: a one bit, zeros, and its length in bits, high byte first. -/
def shaPad (bs : List Byte) : List Byte :=
  bs ++ (0x80 :: List.replicate ((119 - bs.length % 64) % 64) 0) ++ (leBytes 8 (bs.length * 8)).reverse

/-- SHA-256 of a byte list, as eight words. -/
def sha256 (bs : List Byte) : List Word :=
  let m := shaPad bs
  let ws := (chunks 4 (m.length / 4) m).map fun b => w32 (ofLe b.reverse)
  let q := (chunks 16 (ws.length / 16) ws).foldl ShaSeq.block shaStart
  q.A ++ q.E

/-- The digest as 32 bytes, big-endian words. -/
def sha256Bytes (bs : List Byte) : List Byte := (sha256 bs).flatMap fun w => (leBytes 4 w.toNat).reverse

end Sys2Proof.Machine
end

