-- ==== Sys2Proof/Config.lean ====
section
/-! DEFINITION. The values that the manual leaves open where the machine goes on. A free value has no body: nothing can
evaluate it, and a claim that holds, holds whatever it is. -/

namespace Sys2Proof

/-- The free values of the model, one 64-bit value per value of the plain counter `State.freeCtr` that the step advances
(assumption log 5). DESIGN CHOICE: safe, nothing constrains it. -/
opaque Config.freeValue : Nat → BitVec 64

/-- The coefficients that the maker puts into the preset banks 60 to 63 of each decimation bank (R263, R268): local bank number
and index. The manual gives their number, their symmetry and their sum only (assumption log 28). DESIGN CHOICE: safe, nothing
constrains it. -/
opaque Config.presetCoef : Nat → Nat → BitVec 24

/-- Which edges the board of a remote channel reports: 0 rising, 1 falling, 2 both, modulo 3 (R156, R383). The manual gives no register that
tells (assumption log 130). DESIGN CHOICE: safe, nothing constrains it. -/
opaque Config.remoteKinds : Nat → Nat

end Sys2Proof
end

