-- ==== Sys2Proof/Machine/RegMap.lean ====
section
/-! DEFINITION. The register map of BAR0 (the register and field tables of every chapter; R7, R10, R11, R480): one name
per register, its place, and its fields with access code, reset value and legal range. An "img" field carries the default
that its owning chapter names, zero where none is named (R553); a "strap" field carries zero until the straps are read. -/

namespace Sys2Proof.Machine

/-- The registers of BAR0, by the manual's names. Repeated registers share one name and are told apart by indices. -/
inductive Reg where
  | GLB_ID | GLB_STATE | GLB_CMD | GLB_CMD_STS | GLB_HZN_D_LO | GLB_HZN_D_HI
  | GLB_HZN_R_LO | GLB_HZN_R_HI | GLB_LATE_CNT | PRT_CFG | PRT_WIN | PRT_HYST
  | PRT_FILT | PRT_PSC | PRT_LVL | PRT_STS | PRT_SER | PRT_CNTU_LO
  | PRT_CNTU_HI | PRT_CNTL_LO | PRT_CNTL_HI | PRT_EVT_EN | PRT_EVT_STS | PRT_WAKE
  | PRT_CHK_CTL | PRT_CHK_STS | PRT_CHK_T_LO | PRT_CHK_T_HI | PRT_RB | PRT_VTT
  | PRT_CHK_IDLE | PRT_CHK_PERIOD | PRT_RB_CTL | PRT_WAKE_SRC | PRT_LVL_ALL | TB_REF_CFG
  | TB_PLL_STS | TB_NOW_LO | TB_NOW_HI | TB_EPOCH | TB_OUT_CFG | TB_CAL_CTL
  | TB_CAL_CMD | TB_CAL_STS | TB_DIST_STS | TB_TBL_ADDR | TB_TBL_DATA | TB_SVC_EN
  | TB_SVC_SER | TB_SVC_CNT_LO | TB_SVC_CNT_HI | TB_LANE_STS | TB_LANE_CAL | TB_LANE_CORR
  | TB_LANE_DCAL | TB_LANE_CALT_LO | TB_LANE_CALT_HI | TB_LANE_SER | TB_LANE_HCNT | TB_SPR_CORR
  | TLY_CTL | TLY_STS | TLY_AUDIT_CNT | TLY_CMD | TLY_CMD_STS | TLY_PRESET_LO
  | TLY_PRESET_HI | TLY_CFG | TLY_Q_LO | TLY_Q_HI | TLY_NT_LO | TLY_NT_HI
  | TLY_FRAC | TLY_FLG | TLY_AUD | LDG_CTL | LDG_STS | LDG_SEQ_LO
  | LDG_SEQ_HI | LDG_RCV | LDG_SPARE | LDG_WEAR | LDG_MIG | LDG_PF_CFG
  | LDG_PF_STS | LDG_RD_ADDR | LDG_RD_DATA | LDG_CMD | LDG_CMD_STS | DEC_BANK_STS
  | DEC_COEF_ADDR | DEC_COEF_DATA | DEC_COEF_HDR | DEC_COEF_STS | DEC_HB_COEF | DEC_CTX_SRC
  | DEC_CTX_CFG | DEC_CTX_CIC | DEC_CTX_SHIFT_A | DEC_CTX_SHIFT_B | DEC_CTX_PHASE | DEC_CTX_COEF
  | DEC_CTX_OUTQ | DEC_CTX_CMD | DEC_CTX_STS | DEC_CTX_SEQ | DEC_CTX_SETTLE | DEC_CTX_CNT
  | DEC_CTX_AT_LO | DEC_CTX_AT_HI | MADC_TAP | MADC_STS | MADC_RB | MADC_CHK
  | MADC_CMD | MADC_CMD_STS | TRG_CFG | TRG_WIN | TRG_AUTO | TRG_OUTQ
  | TRG_SRC | TRG_ARG | TRG_LL_LO | TRG_LL_HI | TRG_UL_LO | TRG_UL_HI
  | TRG_CMD | TRG_STS | TRG_SEQ | TRG_LAST_LO | TRG_LAST_HI | TRG_J_LO
  | TRG_J_HI | TRG_AT_LO | TRG_AT_HI | TRG_TB_CFG | TRG_TB_STS | TRG_TBL
  | TRG_PIN | TRG_PDLY | TRG_PSTS | ACQ_CFG | ACQ_PRE | ACQ_POST
  | ACQ_POST_T | ACQ_NSEG | ACQ_HOLDOFF | ACQ_REGION | ACQ_STAGE | ACQ_CHMASK
  | ACQ_RRANGE | ACQ_CMD | ACQ_STS | ACQ_SEGS | ACQ_SEG_RD | ACQ_SLOTS
  | ACQ_SLOT_SZ | ACQ_LOST_LO | ACQ_LOST_HI | ACQ_SKIP | ACQ_OVW | ACQ_AT_LO
  | ACQ_AT_HI | QUE_CMD | QUE_CMD_STS | QUE_SLICE_STS | QUE_SYSQ_FLT | QUE_SYSQ_LNK
  | QUE_SYSQ_LVL | QUE_POP_SEL | QUE_POP_STS | QUE_POP_W | QUE_Q_CFG | QUE_Q_PRI
  | QUE_Q_COUNT | QUE_CTL | QUE_Q_STS | QUE_Q_IN_LO | QUE_Q_IN_HI | QUE_Q_SKIP
  | LNK_CFG | LNK_STS | LNK_CMD | LNK_CMD_STS | LNK_SYNC_CFG | LNK_ASYM
  | LNK_RTT | LNK_DELAY | LNK_SYNC_STS | LNK_CREDIT | LNK_AUDIT | LNK_RETRY
  | LNK_TMO | LNK_EVT_CFG | LNK_BOARD | LNK_FLITS_LO | LNK_FLITS_HI | LNK_VCNT
  | LNK_CHEN | LNK_CNT_LO | LNK_CNT_HI | ENG_POOL | ENG_RSV | ENG_QPOOL
  | ENG_CMD | ENG_CMD_STS | ENG_HO_STS | ENG_HO_T_LO | ENG_HO_T_HI | ENG_TASK_SEL
  | ENG_TASK_INFO | ENG_GOLD | ENG_FUNC | ENG_STS | ENG_MCHK | ENG_USE
  | ENG_ECC | ENG_CS_ADDR | ENG_CS_DATA | ENG_CS_PAR | ENG_CTX | DRM_STS
  | DRM_SCRUB | DRM_ERR | DRM_CE_CNT | DRM_UE_CNT | DRM_ERR_ADDR_LO | DRM_ERR_ADDR_HI
  | DRM_RETIRE | DRM_CMD | DRM_CMD_STS | DRM_RG_CFG | DRM_RG_BASE | DRM_RG_SIZE
  | DRM_RG_STS | DRM_RG_WR_LO | DRM_RG_WR_HI | DRM_RG_RD_LO | DRM_RG_RD_HI | DRM_RG_SP_LO
  | DRM_RG_SP_HI | NVS_CFG | NVS_CMD | NVS_CMD_STS | NVS_XR_ADDR_LO | NVS_XR_ADDR_HI
  | NVS_XR_SLOT | NVS_XR_CMD | NVS_XR_STS | NVS_DRV_STS | NVS_DRV_SLOTS | NVS_DRV_NEXT
  | NVS_DRV_ERR | NVS_DRV_EXT_LO | NVS_DRV_EXT_HI | HST_LINK | HST_CFG | HST_STS
  | HST_ERR_CNT | HST_BAR2_BASE | HST_CQ_BASE_LO | HST_CQ_BASE_HI | HST_CQ_CFG | HST_CQ_PTR
  | HST_CPL_BASE_LO | HST_CPL_BASE_HI | HST_CPL_CFG | HST_CPL_PTR | HST_DB_VAL | HST_SMB_CFG
  | HST_RING_NTF0 | HST_RING_NTF1 | HST_RING_BASE_LO | HST_RING_BASE_HI | HST_RING_WB_LO | HST_RING_WB_HI
  | HST_RING_CFG | HST_RING_STS | HST_RING_HEAD_LO | HST_RING_HEAD_HI | HST_RING_TAIL_LO | HST_RING_TAIL_HI
  | EVT_RAW | EVT_PEND | EVT_MASK | EVT_ALERT | EVT_ROUTE | EVT_VEC
  | CAS_ID | CAS_CFG | CAS_STS | CAS_CMD | CAS_CMD_STS | CAS_MEM_LO
  | CAS_MEM_HI | CAS_LINE_DLY | CAS_OFFSET | CAS_LNK_CFG | CAS_LNK_STS | CAS_LNK_ASYM
  | CAS_LNK_RTT | CAS_LNK_DELAY | CAS_LNK_CREDIT | CAS_LNK_AUDIT | CAS_LNK_RETRY | CAS_LNK_VCNT
  | CAS_TUNOUT_CFG | CAS_TUNOUT_CNT | CAS_TUNIN_CFG | CAS_TUNIN_STS | BOOT_STS | BOOT_CAUSE
  | BOOT_CNT | BOOT_STRAP | BOOT_IMG_VER | BOOT_IMG_OTHER | BOOT_TIME | BOOT_SKIP
  | BOOT_CMD | BOOT_CMD_STS | BOOT_LOCK | BOOT_FL_ADDR | BOOT_FL_IDX | BOOT_FL_DATA
  | BOOT_FL_CMD | BOOT_FL_STS | BOOT_OTP_STS | BOOT_OTP_DIG | FLT_CTL | FLT_STS
  | FLT_ESC | FLT_OPEN_LO | FLT_OPEN_HI | FLT_SEL | FLT_REC_HDR | FLT_REC_STS
  | FLT_REC_CAUSE | FLT_REC_DETAIL | FLT_REC_T0_LO | FLT_REC_T0_HI | FLT_REC_TL_LO | FLT_REC_TL_HI
  | FLT_REC_TMR | FLT_ACK | FLT_ACK_STS | FLT_INJ | PWR_STS | PWR_VIN
  | PWR_VIN_CFG | PWR_RAIL | PWR_DOM | PWR_DOM_REQ | PWR_DOM_STS | PWR_TEMP
  | PWR_TEMP_THR | PWR_TMR_CFG | PWR_TMR_PER | RPR_LANE | RPR_NOSPARE | RPR_ENG
  | RPR_MADC | RPR_QROW | RPR_LDG | RPR_DRAM | RPR_DEC
deriving DecidableEq, Repr

/-- The access codes of R7. -/
inductive Access where
  | ro | rw | w1c | w1s | wo | rc | rwl
deriving DecidableEq, Repr

/-- The encodings of a field that are not reserved (R10). -/
inductive Legal where
  | any
  | range (lo hi : Nat)
  | odd
deriving DecidableEq, Repr

/-- A named field: its register, lowest bit and width. -/
structure Fld where
  reg : Reg
  lo : Nat
  w : Nat
deriving DecidableEq, Repr

/-- One row of a field table. -/
structure FieldDef where
  lo : Nat
  w : Nat
  acc : Access
  rst : Nat
  legal : Legal
deriving DecidableEq, Repr

/-- Where a register lies: the offset of its first copy, and stride and count of its two repetitions. -/
structure RegShape where
  base : Nat
  s1 : Nat
  n1 : Nat
  s2 : Nat
  n2 : Nat
deriving DecidableEq, Repr

/-- Places of the registers in BAR0 (the register maps, R480). -/
def regShape : Reg → RegShape
  | .GLB_ID => ⟨0x0, 0x0, 1, 0x0, 1⟩
  | .GLB_STATE => ⟨0x4, 0x0, 1, 0x0, 1⟩
  | .GLB_CMD => ⟨0x8, 0x0, 1, 0x0, 1⟩
  | .GLB_CMD_STS => ⟨0xC, 0x0, 1, 0x0, 1⟩
  | .GLB_HZN_D_LO => ⟨0x10, 0x0, 1, 0x0, 1⟩
  | .GLB_HZN_D_HI => ⟨0x14, 0x0, 1, 0x0, 1⟩
  | .GLB_HZN_R_LO => ⟨0x18, 0x0, 1, 0x0, 1⟩
  | .GLB_HZN_R_HI => ⟨0x1C, 0x0, 1, 0x0, 1⟩
  | .GLB_LATE_CNT => ⟨0x20, 0x0, 1, 0x0, 1⟩
  | .PRT_CFG => ⟨0x100000, 0x1000, 96, 0x0, 1⟩
  | .PRT_WIN => ⟨0x100004, 0x1000, 96, 0x0, 1⟩
  | .PRT_HYST => ⟨0x100008, 0x1000, 96, 0x0, 1⟩
  | .PRT_FILT => ⟨0x10000C, 0x1000, 96, 0x0, 1⟩
  | .PRT_PSC => ⟨0x100010, 0x1000, 96, 0x0, 1⟩
  | .PRT_LVL => ⟨0x100014, 0x1000, 96, 0x0, 1⟩
  | .PRT_STS => ⟨0x100018, 0x1000, 96, 0x0, 1⟩
  | .PRT_SER => ⟨0x10001C, 0x1000, 96, 0x0, 1⟩
  | .PRT_CNTU_LO => ⟨0x100020, 0x1000, 96, 0x0, 1⟩
  | .PRT_CNTU_HI => ⟨0x100024, 0x1000, 96, 0x0, 1⟩
  | .PRT_CNTL_LO => ⟨0x100028, 0x1000, 96, 0x0, 1⟩
  | .PRT_CNTL_HI => ⟨0x10002C, 0x1000, 96, 0x0, 1⟩
  | .PRT_EVT_EN => ⟨0x100030, 0x1000, 96, 0x0, 1⟩
  | .PRT_EVT_STS => ⟨0x100034, 0x1000, 96, 0x0, 1⟩
  | .PRT_WAKE => ⟨0x100038, 0x1000, 96, 0x0, 1⟩
  | .PRT_CHK_CTL => ⟨0x10003C, 0x1000, 96, 0x0, 1⟩
  | .PRT_CHK_STS => ⟨0x100040, 0x1000, 96, 0x0, 1⟩
  | .PRT_CHK_T_LO => ⟨0x100044, 0x1000, 96, 0x0, 1⟩
  | .PRT_CHK_T_HI => ⟨0x100048, 0x1000, 96, 0x0, 1⟩
  | .PRT_RB => ⟨0x10004C, 0x1000, 96, 0x0, 1⟩
  | .PRT_VTT => ⟨0x160000, 0x4, 24, 0x0, 1⟩
  | .PRT_CHK_IDLE => ⟨0x160080, 0x0, 1, 0x0, 1⟩
  | .PRT_CHK_PERIOD => ⟨0x160084, 0x0, 1, 0x0, 1⟩
  | .PRT_RB_CTL => ⟨0x160088, 0x0, 1, 0x0, 1⟩
  | .PRT_WAKE_SRC => ⟨0x16008C, 0x0, 1, 0x0, 1⟩
  | .PRT_LVL_ALL => ⟨0x160090, 0x4, 6, 0x0, 1⟩
  | .TB_REF_CFG => ⟨0x200000, 0x0, 1, 0x0, 1⟩
  | .TB_PLL_STS => ⟨0x200004, 0x0, 1, 0x0, 1⟩
  | .TB_NOW_LO => ⟨0x200008, 0x0, 1, 0x0, 1⟩
  | .TB_NOW_HI => ⟨0x20000C, 0x0, 1, 0x0, 1⟩
  | .TB_EPOCH => ⟨0x200010, 0x0, 1, 0x0, 1⟩
  | .TB_OUT_CFG => ⟨0x200014, 0x0, 1, 0x0, 1⟩
  | .TB_CAL_CTL => ⟨0x200018, 0x0, 1, 0x0, 1⟩
  | .TB_CAL_CMD => ⟨0x20001C, 0x0, 1, 0x0, 1⟩
  | .TB_CAL_STS => ⟨0x200020, 0x0, 1, 0x0, 1⟩
  | .TB_DIST_STS => ⟨0x200024, 0x0, 1, 0x0, 1⟩
  | .TB_TBL_ADDR => ⟨0x200028, 0x0, 1, 0x0, 1⟩
  | .TB_TBL_DATA => ⟨0x20002C, 0x0, 1, 0x0, 1⟩
  | .TB_SVC_EN => ⟨0x200030, 0x0, 1, 0x0, 1⟩
  | .TB_SVC_SER => ⟨0x200040, 0x4, 5, 0x0, 1⟩
  | .TB_SVC_CNT_LO => ⟨0x200060, 0x8, 5, 0x0, 1⟩
  | .TB_SVC_CNT_HI => ⟨0x200064, 0x8, 5, 0x0, 1⟩
  | .TB_LANE_STS => ⟨0x201000, 0x20, 221, 0x0, 1⟩
  | .TB_LANE_CAL => ⟨0x201004, 0x20, 221, 0x0, 1⟩
  | .TB_LANE_CORR => ⟨0x201008, 0x20, 221, 0x0, 1⟩
  | .TB_LANE_DCAL => ⟨0x20100C, 0x20, 221, 0x0, 1⟩
  | .TB_LANE_CALT_LO => ⟨0x201010, 0x20, 221, 0x0, 1⟩
  | .TB_LANE_CALT_HI => ⟨0x201014, 0x20, 221, 0x0, 1⟩
  | .TB_LANE_SER => ⟨0x201018, 0x20, 221, 0x0, 1⟩
  | .TB_LANE_HCNT => ⟨0x20101C, 0x20, 221, 0x0, 1⟩
  | .TB_SPR_CORR => ⟨0x204000, 0x20, 24, 0x4, 8⟩
  | .TLY_CTL => ⟨0x600000, 0x0, 1, 0x0, 1⟩
  | .TLY_STS => ⟨0x600004, 0x0, 1, 0x0, 1⟩
  | .TLY_AUDIT_CNT => ⟨0x600008, 0x0, 1, 0x0, 1⟩
  | .TLY_CMD => ⟨0x60000C, 0x0, 1, 0x0, 1⟩
  | .TLY_CMD_STS => ⟨0x600010, 0x0, 1, 0x0, 1⟩
  | .TLY_PRESET_LO => ⟨0x600014, 0x0, 1, 0x0, 1⟩
  | .TLY_PRESET_HI => ⟨0x600018, 0x0, 1, 0x0, 1⟩
  | .TLY_CFG => ⟨0x610000, 0x20, 4192, 0x0, 1⟩
  | .TLY_Q_LO => ⟨0x610004, 0x20, 4192, 0x0, 1⟩
  | .TLY_Q_HI => ⟨0x610008, 0x20, 4192, 0x0, 1⟩
  | .TLY_NT_LO => ⟨0x61000C, 0x20, 4192, 0x0, 1⟩
  | .TLY_NT_HI => ⟨0x610010, 0x20, 4192, 0x0, 1⟩
  | .TLY_FRAC => ⟨0x610014, 0x20, 4192, 0x0, 1⟩
  | .TLY_FLG => ⟨0x610018, 0x20, 4192, 0x0, 1⟩
  | .TLY_AUD => ⟨0x61001C, 0x20, 4192, 0x0, 1⟩
  | .LDG_CTL => ⟨0x640000, 0x0, 1, 0x0, 1⟩
  | .LDG_STS => ⟨0x640004, 0x0, 1, 0x0, 1⟩
  | .LDG_SEQ_LO => ⟨0x640008, 0x0, 1, 0x0, 1⟩
  | .LDG_SEQ_HI => ⟨0x64000C, 0x0, 1, 0x0, 1⟩
  | .LDG_RCV => ⟨0x640010, 0x0, 1, 0x0, 1⟩
  | .LDG_SPARE => ⟨0x640014, 0x0, 1, 0x0, 1⟩
  | .LDG_WEAR => ⟨0x640018, 0x0, 1, 0x0, 1⟩
  | .LDG_MIG => ⟨0x64001C, 0x0, 1, 0x0, 1⟩
  | .LDG_PF_CFG => ⟨0x640020, 0x0, 1, 0x0, 1⟩
  | .LDG_PF_STS => ⟨0x640024, 0x0, 1, 0x0, 1⟩
  | .LDG_RD_ADDR => ⟨0x640028, 0x0, 1, 0x0, 1⟩
  | .LDG_RD_DATA => ⟨0x64002C, 0x0, 1, 0x0, 1⟩
  | .LDG_CMD => ⟨0x640030, 0x0, 1, 0x0, 1⟩
  | .LDG_CMD_STS => ⟨0x640034, 0x0, 1, 0x0, 1⟩
  | .DEC_BANK_STS => ⟨0x700000, 0x4, 4, 0x0, 1⟩
  | .DEC_COEF_ADDR => ⟨0x700010, 0x0, 1, 0x0, 1⟩
  | .DEC_COEF_DATA => ⟨0x700014, 0x0, 1, 0x0, 1⟩
  | .DEC_COEF_HDR => ⟨0x700018, 0x0, 1, 0x0, 1⟩
  | .DEC_COEF_STS => ⟨0x70001C, 0x0, 1, 0x0, 1⟩
  | .DEC_HB_COEF => ⟨0x700040, 0x4, 22, 0x0, 1⟩
  | .DEC_CTX_SRC => ⟨0x710000, 0x40, 4608, 0x0, 1⟩
  | .DEC_CTX_CFG => ⟨0x710004, 0x40, 4608, 0x0, 1⟩
  | .DEC_CTX_CIC => ⟨0x710008, 0x40, 4608, 0x0, 1⟩
  | .DEC_CTX_SHIFT_A => ⟨0x71000C, 0x40, 4608, 0x0, 1⟩
  | .DEC_CTX_SHIFT_B => ⟨0x710010, 0x40, 4608, 0x0, 1⟩
  | .DEC_CTX_PHASE => ⟨0x710014, 0x40, 4608, 0x0, 1⟩
  | .DEC_CTX_COEF => ⟨0x710018, 0x40, 4608, 0x0, 1⟩
  | .DEC_CTX_OUTQ => ⟨0x71001C, 0x40, 4608, 0x0, 1⟩
  | .DEC_CTX_CMD => ⟨0x710020, 0x40, 4608, 0x0, 1⟩
  | .DEC_CTX_STS => ⟨0x710024, 0x40, 4608, 0x0, 1⟩
  | .DEC_CTX_SEQ => ⟨0x710028, 0x40, 4608, 0x0, 1⟩
  | .DEC_CTX_SETTLE => ⟨0x71002C, 0x40, 4608, 0x0, 1⟩
  | .DEC_CTX_CNT => ⟨0x710030, 0x40, 4608, 0x0, 1⟩
  | .DEC_CTX_AT_LO => ⟨0x710034, 0x40, 4608, 0x0, 1⟩
  | .DEC_CTX_AT_HI => ⟨0x710038, 0x40, 4608, 0x0, 1⟩
  | .MADC_TAP => ⟨0x760000, 0x4, 8, 0x0, 1⟩
  | .MADC_STS => ⟨0x760100, 0x10, 12, 0x0, 1⟩
  | .MADC_RB => ⟨0x760104, 0x10, 12, 0x0, 1⟩
  | .MADC_CHK => ⟨0x760108, 0x10, 12, 0x0, 1⟩
  | .MADC_CMD => ⟨0x760200, 0x0, 1, 0x0, 1⟩
  | .MADC_CMD_STS => ⟨0x760204, 0x0, 1, 0x0, 1⟩
  | .TRG_CFG => ⟨0x800000, 0x100, 16, 0x0, 1⟩
  | .TRG_WIN => ⟨0x800004, 0x100, 16, 0x0, 1⟩
  | .TRG_AUTO => ⟨0x800008, 0x100, 16, 0x0, 1⟩
  | .TRG_OUTQ => ⟨0x80000C, 0x100, 16, 0x0, 1⟩
  | .TRG_SRC => ⟨0x800010, 0x100, 16, 0x20, 4⟩
  | .TRG_ARG => ⟨0x800014, 0x100, 16, 0x20, 4⟩
  | .TRG_LL_LO => ⟨0x800018, 0x100, 16, 0x20, 4⟩
  | .TRG_LL_HI => ⟨0x80001C, 0x100, 16, 0x20, 4⟩
  | .TRG_UL_LO => ⟨0x800020, 0x100, 16, 0x20, 4⟩
  | .TRG_UL_HI => ⟨0x800024, 0x100, 16, 0x20, 4⟩
  | .TRG_CMD => ⟨0x800090, 0x100, 16, 0x0, 1⟩
  | .TRG_STS => ⟨0x800094, 0x100, 16, 0x0, 1⟩
  | .TRG_SEQ => ⟨0x800098, 0x100, 16, 0x0, 1⟩
  | .TRG_LAST_LO => ⟨0x80009C, 0x100, 16, 0x0, 1⟩
  | .TRG_LAST_HI => ⟨0x8000A0, 0x100, 16, 0x0, 1⟩
  | .TRG_J_LO => ⟨0x8000A4, 0x100, 16, 0x0, 1⟩
  | .TRG_J_HI => ⟨0x8000A8, 0x100, 16, 0x0, 1⟩
  | .TRG_AT_LO => ⟨0x8000AC, 0x100, 16, 0x0, 1⟩
  | .TRG_AT_HI => ⟨0x8000B0, 0x100, 16, 0x0, 1⟩
  | .TRG_TB_CFG => ⟨0x801000, 0x0, 1, 0x0, 1⟩
  | .TRG_TB_STS => ⟨0x801004, 0x0, 1, 0x0, 1⟩
  | .TRG_TBL => ⟨0x801010, 0x4, 8, 0x0, 1⟩
  | .TRG_PIN => ⟨0x801040, 0x4, 4, 0x0, 1⟩
  | .TRG_PDLY => ⟨0x801050, 0x4, 4, 0x0, 1⟩
  | .TRG_PSTS => ⟨0x801060, 0x4, 4, 0x0, 1⟩
  | .ACQ_CFG => ⟨0x810000, 0x100, 16, 0x0, 1⟩
  | .ACQ_PRE => ⟨0x810004, 0x100, 16, 0x0, 1⟩
  | .ACQ_POST => ⟨0x810008, 0x100, 16, 0x0, 1⟩
  | .ACQ_POST_T => ⟨0x81000C, 0x100, 16, 0x0, 1⟩
  | .ACQ_NSEG => ⟨0x810010, 0x100, 16, 0x0, 1⟩
  | .ACQ_HOLDOFF => ⟨0x810014, 0x100, 16, 0x0, 1⟩
  | .ACQ_REGION => ⟨0x810018, 0x100, 16, 0x0, 1⟩
  | .ACQ_STAGE => ⟨0x81001C, 0x100, 16, 0x0, 1⟩
  | .ACQ_CHMASK => ⟨0x810020, 0x100, 16, 0x4, 4⟩
  | .ACQ_RRANGE => ⟨0x810030, 0x100, 16, 0x0, 1⟩
  | .ACQ_CMD => ⟨0x810034, 0x100, 16, 0x0, 1⟩
  | .ACQ_STS => ⟨0x810038, 0x100, 16, 0x0, 1⟩
  | .ACQ_SEGS => ⟨0x81003C, 0x100, 16, 0x0, 1⟩
  | .ACQ_SEG_RD => ⟨0x810040, 0x100, 16, 0x0, 1⟩
  | .ACQ_SLOTS => ⟨0x810044, 0x100, 16, 0x0, 1⟩
  | .ACQ_SLOT_SZ => ⟨0x810048, 0x100, 16, 0x0, 1⟩
  | .ACQ_LOST_LO => ⟨0x81004C, 0x100, 16, 0x0, 1⟩
  | .ACQ_LOST_HI => ⟨0x810050, 0x100, 16, 0x0, 1⟩
  | .ACQ_SKIP => ⟨0x810054, 0x100, 16, 0x0, 1⟩
  | .ACQ_OVW => ⟨0x810058, 0x100, 16, 0x0, 1⟩
  | .ACQ_AT_LO => ⟨0x81005C, 0x100, 16, 0x0, 1⟩
  | .ACQ_AT_HI => ⟨0x810060, 0x100, 16, 0x0, 1⟩
  | .QUE_CMD => ⟨0x900000, 0x0, 1, 0x0, 1⟩
  | .QUE_CMD_STS => ⟨0x900004, 0x0, 1, 0x0, 1⟩
  | .QUE_SLICE_STS => ⟨0x900010, 0x4, 4, 0x0, 1⟩
  | .QUE_SYSQ_FLT => ⟨0x900020, 0x0, 1, 0x0, 1⟩
  | .QUE_SYSQ_LNK => ⟨0x900024, 0x0, 1, 0x0, 1⟩
  | .QUE_SYSQ_LVL => ⟨0x900028, 0x0, 1, 0x0, 1⟩
  | .QUE_POP_SEL => ⟨0x900030, 0x0, 1, 0x0, 1⟩
  | .QUE_POP_STS => ⟨0x900034, 0x0, 1, 0x0, 1⟩
  | .QUE_POP_W => ⟨0x900040, 0x4, 4, 0x0, 1⟩
  | .QUE_Q_CFG => ⟨0x910000, 0x20, 1280, 0x0, 1⟩
  | .QUE_Q_PRI => ⟨0x910004, 0x20, 1280, 0x0, 1⟩
  | .QUE_Q_COUNT => ⟨0x910008, 0x20, 1280, 0x0, 1⟩
  | .QUE_CTL => ⟨0x91000C, 0x20, 1280, 0x0, 1⟩
  | .QUE_Q_STS => ⟨0x910010, 0x20, 1280, 0x0, 1⟩
  | .QUE_Q_IN_LO => ⟨0x910014, 0x20, 1280, 0x0, 1⟩
  | .QUE_Q_IN_HI => ⟨0x910018, 0x20, 1280, 0x0, 1⟩
  | .QUE_Q_SKIP => ⟨0x91001C, 0x20, 1280, 0x0, 1⟩
  | .LNK_CFG => ⟨0x300000, 0x4000, 16, 0x0, 1⟩
  | .LNK_STS => ⟨0x300004, 0x4000, 16, 0x0, 1⟩
  | .LNK_CMD => ⟨0x300008, 0x4000, 16, 0x0, 1⟩
  | .LNK_CMD_STS => ⟨0x30000C, 0x4000, 16, 0x0, 1⟩
  | .LNK_SYNC_CFG => ⟨0x300010, 0x4000, 16, 0x0, 1⟩
  | .LNK_ASYM => ⟨0x300014, 0x4000, 16, 0x0, 1⟩
  | .LNK_RTT => ⟨0x300018, 0x4000, 16, 0x0, 1⟩
  | .LNK_DELAY => ⟨0x30001C, 0x4000, 16, 0x0, 1⟩
  | .LNK_SYNC_STS => ⟨0x300020, 0x4000, 16, 0x0, 1⟩
  | .LNK_CREDIT => ⟨0x300024, 0x4000, 16, 0x0, 1⟩
  | .LNK_AUDIT => ⟨0x300028, 0x4000, 16, 0x0, 1⟩
  | .LNK_RETRY => ⟨0x30002C, 0x4000, 16, 0x0, 1⟩
  | .LNK_TMO => ⟨0x300030, 0x4000, 16, 0x0, 1⟩
  | .LNK_EVT_CFG => ⟨0x300034, 0x4000, 16, 0x0, 1⟩
  | .LNK_BOARD => ⟨0x300038, 0x4000, 16, 0x0, 1⟩
  | .LNK_FLITS_LO => ⟨0x30003C, 0x4000, 16, 0x0, 1⟩
  | .LNK_FLITS_HI => ⟨0x300040, 0x4000, 16, 0x0, 1⟩
  | .LNK_VCNT => ⟨0x300080, 0x4000, 16, 0x4, 16⟩
  | .LNK_CHEN => ⟨0x300100, 0x4000, 16, 0x4, 8⟩
  | .LNK_CNT_LO => ⟨0x301000, 0x4000, 16, 0x8, 256⟩
  | .LNK_CNT_HI => ⟨0x301004, 0x4000, 16, 0x8, 256⟩
  | .ENG_POOL => ⟨0x401000, 0x0, 1, 0x0, 1⟩
  | .ENG_RSV => ⟨0x401004, 0x0, 1, 0x0, 1⟩
  | .ENG_QPOOL => ⟨0x401008, 0x0, 1, 0x0, 1⟩
  | .ENG_CMD => ⟨0x40100C, 0x0, 1, 0x0, 1⟩
  | .ENG_CMD_STS => ⟨0x401010, 0x0, 1, 0x0, 1⟩
  | .ENG_HO_STS => ⟨0x401014, 0x0, 1, 0x0, 1⟩
  | .ENG_HO_T_LO => ⟨0x401018, 0x0, 1, 0x0, 1⟩
  | .ENG_HO_T_HI => ⟨0x40101C, 0x0, 1, 0x0, 1⟩
  | .ENG_TASK_SEL => ⟨0x401020, 0x0, 1, 0x0, 1⟩
  | .ENG_TASK_INFO => ⟨0x401024, 0x0, 1, 0x0, 1⟩
  | .ENG_GOLD => ⟨0x401028, 0x0, 1, 0x0, 1⟩
  | .ENG_FUNC => ⟨0x401080, 0x4, 32, 0x0, 1⟩
  | .ENG_STS => ⟨0x400000, 0x2000, 208, 0x0, 1⟩
  | .ENG_MCHK => ⟨0x400004, 0x2000, 208, 0x0, 1⟩
  | .ENG_USE => ⟨0x400008, 0x2000, 208, 0x0, 1⟩
  | .ENG_ECC => ⟨0x40000C, 0x2000, 208, 0x0, 1⟩
  | .ENG_CS_ADDR => ⟨0x400010, 0x2000, 208, 0x0, 1⟩
  | .ENG_CS_DATA => ⟨0x400014, 0x2000, 208, 0x0, 1⟩
  | .ENG_CS_PAR => ⟨0x400018, 0x2000, 208, 0x0, 1⟩
  | .ENG_CTX => ⟨0x400100, 0x2000, 208, 0x4, 32⟩
  | .DRM_STS => ⟨0xA00000, 0x0, 1, 0x0, 1⟩
  | .DRM_SCRUB => ⟨0xA00004, 0x0, 1, 0x0, 1⟩
  | .DRM_ERR => ⟨0xA00008, 0x0, 1, 0x0, 1⟩
  | .DRM_CE_CNT => ⟨0xA0000C, 0x0, 1, 0x0, 1⟩
  | .DRM_UE_CNT => ⟨0xA00010, 0x0, 1, 0x0, 1⟩
  | .DRM_ERR_ADDR_LO => ⟨0xA00014, 0x0, 1, 0x0, 1⟩
  | .DRM_ERR_ADDR_HI => ⟨0xA00018, 0x0, 1, 0x0, 1⟩
  | .DRM_RETIRE => ⟨0xA0001C, 0x0, 1, 0x0, 1⟩
  | .DRM_CMD => ⟨0xA00020, 0x0, 1, 0x0, 1⟩
  | .DRM_CMD_STS => ⟨0xA00024, 0x0, 1, 0x0, 1⟩
  | .DRM_RG_CFG => ⟨0xA01000, 0x40, 256, 0x0, 1⟩
  | .DRM_RG_BASE => ⟨0xA01004, 0x40, 256, 0x0, 1⟩
  | .DRM_RG_SIZE => ⟨0xA01008, 0x40, 256, 0x0, 1⟩
  | .DRM_RG_STS => ⟨0xA0100C, 0x40, 256, 0x0, 1⟩
  | .DRM_RG_WR_LO => ⟨0xA01010, 0x40, 256, 0x0, 1⟩
  | .DRM_RG_WR_HI => ⟨0xA01014, 0x40, 256, 0x0, 1⟩
  | .DRM_RG_RD_LO => ⟨0xA01018, 0x40, 256, 0x0, 1⟩
  | .DRM_RG_RD_HI => ⟨0xA0101C, 0x40, 256, 0x0, 1⟩
  | .DRM_RG_SP_LO => ⟨0xA01020, 0x40, 256, 0x0, 1⟩
  | .DRM_RG_SP_HI => ⟨0xA01024, 0x40, 256, 0x0, 1⟩
  | .NVS_CFG => ⟨0xB00000, 0x0, 1, 0x0, 1⟩
  | .NVS_CMD => ⟨0xB00004, 0x0, 1, 0x0, 1⟩
  | .NVS_CMD_STS => ⟨0xB00008, 0x0, 1, 0x0, 1⟩
  | .NVS_XR_ADDR_LO => ⟨0xB00010, 0x0, 1, 0x0, 1⟩
  | .NVS_XR_ADDR_HI => ⟨0xB00014, 0x0, 1, 0x0, 1⟩
  | .NVS_XR_SLOT => ⟨0xB00018, 0x0, 1, 0x0, 1⟩
  | .NVS_XR_CMD => ⟨0xB0001C, 0x0, 1, 0x0, 1⟩
  | .NVS_XR_STS => ⟨0xB00020, 0x0, 1, 0x0, 1⟩
  | .NVS_DRV_STS => ⟨0xB00100, 0x40, 2, 0x0, 1⟩
  | .NVS_DRV_SLOTS => ⟨0xB00104, 0x40, 2, 0x0, 1⟩
  | .NVS_DRV_NEXT => ⟨0xB00108, 0x40, 2, 0x0, 1⟩
  | .NVS_DRV_ERR => ⟨0xB0010C, 0x40, 2, 0x0, 1⟩
  | .NVS_DRV_EXT_LO => ⟨0xB00110, 0x40, 2, 0x0, 1⟩
  | .NVS_DRV_EXT_HI => ⟨0xB00114, 0x40, 2, 0x0, 1⟩
  | .HST_LINK => ⟨0xC00000, 0x0, 1, 0x0, 1⟩
  | .HST_CFG => ⟨0xC00004, 0x0, 1, 0x0, 1⟩
  | .HST_STS => ⟨0xC00008, 0x0, 1, 0x0, 1⟩
  | .HST_ERR_CNT => ⟨0xC0000C, 0x0, 1, 0x0, 1⟩
  | .HST_BAR2_BASE => ⟨0xC00010, 0x0, 1, 0x0, 1⟩
  | .HST_CQ_BASE_LO => ⟨0xC00020, 0x0, 1, 0x0, 1⟩
  | .HST_CQ_BASE_HI => ⟨0xC00024, 0x0, 1, 0x0, 1⟩
  | .HST_CQ_CFG => ⟨0xC00028, 0x0, 1, 0x0, 1⟩
  | .HST_CQ_PTR => ⟨0xC0002C, 0x0, 1, 0x0, 1⟩
  | .HST_CPL_BASE_LO => ⟨0xC00030, 0x0, 1, 0x0, 1⟩
  | .HST_CPL_BASE_HI => ⟨0xC00034, 0x0, 1, 0x0, 1⟩
  | .HST_CPL_CFG => ⟨0xC00038, 0x0, 1, 0x0, 1⟩
  | .HST_CPL_PTR => ⟨0xC0003C, 0x0, 1, 0x0, 1⟩
  | .HST_DB_VAL => ⟨0xC00040, 0x4, 10, 0x0, 1⟩
  | .HST_SMB_CFG => ⟨0xC00070, 0x0, 1, 0x0, 1⟩
  | .HST_RING_NTF0 => ⟨0xC00080, 0x0, 1, 0x0, 1⟩
  | .HST_RING_NTF1 => ⟨0xC00084, 0x0, 1, 0x0, 1⟩
  | .HST_RING_BASE_LO => ⟨0xC01000, 0x40, 64, 0x0, 1⟩
  | .HST_RING_BASE_HI => ⟨0xC01004, 0x40, 64, 0x0, 1⟩
  | .HST_RING_WB_LO => ⟨0xC01008, 0x40, 64, 0x0, 1⟩
  | .HST_RING_WB_HI => ⟨0xC0100C, 0x40, 64, 0x0, 1⟩
  | .HST_RING_CFG => ⟨0xC01010, 0x40, 64, 0x0, 1⟩
  | .HST_RING_STS => ⟨0xC01014, 0x40, 64, 0x0, 1⟩
  | .HST_RING_HEAD_LO => ⟨0xC01018, 0x40, 64, 0x0, 1⟩
  | .HST_RING_HEAD_HI => ⟨0xC0101C, 0x40, 64, 0x0, 1⟩
  | .HST_RING_TAIL_LO => ⟨0xC01020, 0x40, 64, 0x0, 1⟩
  | .HST_RING_TAIL_HI => ⟨0xC01024, 0x40, 64, 0x0, 1⟩
  | .EVT_RAW => ⟨0xC10000, 0x4, 10, 0x0, 1⟩
  | .EVT_PEND => ⟨0xC10040, 0x4, 10, 0x0, 1⟩
  | .EVT_MASK => ⟨0xC10080, 0x4, 10, 0x0, 1⟩
  | .EVT_ALERT => ⟨0xC100C0, 0x0, 1, 0x0, 1⟩
  | .EVT_ROUTE => ⟨0xC11000, 0x4, 320, 0x0, 1⟩
  | .EVT_VEC => ⟨0xC12000, 0x4, 512, 0x0, 1⟩
  | .CAS_ID => ⟨0xD00000, 0x0, 1, 0x0, 1⟩
  | .CAS_CFG => ⟨0xD00004, 0x0, 1, 0x0, 1⟩
  | .CAS_STS => ⟨0xD00008, 0x0, 1, 0x0, 1⟩
  | .CAS_CMD => ⟨0xD0000C, 0x0, 1, 0x0, 1⟩
  | .CAS_CMD_STS => ⟨0xD00010, 0x0, 1, 0x0, 1⟩
  | .CAS_MEM_LO => ⟨0xD00014, 0x0, 1, 0x0, 1⟩
  | .CAS_MEM_HI => ⟨0xD00018, 0x0, 1, 0x0, 1⟩
  | .CAS_LINE_DLY => ⟨0xD0001C, 0x0, 1, 0x0, 1⟩
  | .CAS_OFFSET => ⟨0xD00020, 0x0, 1, 0x0, 1⟩
  | .CAS_LNK_CFG => ⟨0xD00100, 0x100, 4, 0x0, 1⟩
  | .CAS_LNK_STS => ⟨0xD00104, 0x100, 4, 0x0, 1⟩
  | .CAS_LNK_ASYM => ⟨0xD00108, 0x100, 4, 0x0, 1⟩
  | .CAS_LNK_RTT => ⟨0xD0010C, 0x100, 4, 0x0, 1⟩
  | .CAS_LNK_DELAY => ⟨0xD00110, 0x100, 4, 0x0, 1⟩
  | .CAS_LNK_CREDIT => ⟨0xD00114, 0x100, 4, 0x0, 1⟩
  | .CAS_LNK_AUDIT => ⟨0xD00118, 0x100, 4, 0x0, 1⟩
  | .CAS_LNK_RETRY => ⟨0xD0011C, 0x100, 4, 0x0, 1⟩
  | .CAS_LNK_VCNT => ⟨0xD00140, 0x100, 4, 0x4, 20⟩
  | .CAS_TUNOUT_CFG => ⟨0xD00800, 0x8, 16, 0x0, 1⟩
  | .CAS_TUNOUT_CNT => ⟨0xD00804, 0x8, 16, 0x0, 1⟩
  | .CAS_TUNIN_CFG => ⟨0xD00900, 0x8, 16, 0x0, 1⟩
  | .CAS_TUNIN_STS => ⟨0xD00904, 0x8, 16, 0x0, 1⟩
  | .BOOT_STS => ⟨0xE00000, 0x0, 1, 0x0, 1⟩
  | .BOOT_CAUSE => ⟨0xE00004, 0x0, 1, 0x0, 1⟩
  | .BOOT_CNT => ⟨0xE00008, 0x0, 1, 0x0, 1⟩
  | .BOOT_STRAP => ⟨0xE0000C, 0x0, 1, 0x0, 1⟩
  | .BOOT_IMG_VER => ⟨0xE00010, 0x0, 1, 0x0, 1⟩
  | .BOOT_IMG_OTHER => ⟨0xE00014, 0x0, 1, 0x0, 1⟩
  | .BOOT_TIME => ⟨0xE00018, 0x0, 1, 0x0, 1⟩
  | .BOOT_SKIP => ⟨0xE0001C, 0x0, 1, 0x0, 1⟩
  | .BOOT_CMD => ⟨0xE00020, 0x0, 1, 0x0, 1⟩
  | .BOOT_CMD_STS => ⟨0xE00024, 0x0, 1, 0x0, 1⟩
  | .BOOT_LOCK => ⟨0xE00028, 0x0, 1, 0x0, 1⟩
  | .BOOT_FL_ADDR => ⟨0xE00030, 0x0, 1, 0x0, 1⟩
  | .BOOT_FL_IDX => ⟨0xE00034, 0x0, 1, 0x0, 1⟩
  | .BOOT_FL_DATA => ⟨0xE00038, 0x0, 1, 0x0, 1⟩
  | .BOOT_FL_CMD => ⟨0xE0003C, 0x0, 1, 0x0, 1⟩
  | .BOOT_FL_STS => ⟨0xE00040, 0x0, 1, 0x0, 1⟩
  | .BOOT_OTP_STS => ⟨0xE00050, 0x0, 1, 0x0, 1⟩
  | .BOOT_OTP_DIG => ⟨0xE00060, 0x4, 8, 0x0, 1⟩
  | .FLT_CTL => ⟨0xF00000, 0x0, 1, 0x0, 1⟩
  | .FLT_STS => ⟨0xF00004, 0x0, 1, 0x0, 1⟩
  | .FLT_ESC => ⟨0xF00008, 0x4, 3, 0x0, 1⟩
  | .FLT_OPEN_LO => ⟨0xF00014, 0x0, 1, 0x0, 1⟩
  | .FLT_OPEN_HI => ⟨0xF00018, 0x0, 1, 0x0, 1⟩
  | .FLT_SEL => ⟨0xF00020, 0x0, 1, 0x0, 1⟩
  | .FLT_REC_HDR => ⟨0xF00024, 0x0, 1, 0x0, 1⟩
  | .FLT_REC_STS => ⟨0xF00028, 0x0, 1, 0x0, 1⟩
  | .FLT_REC_CAUSE => ⟨0xF0002C, 0x0, 1, 0x0, 1⟩
  | .FLT_REC_DETAIL => ⟨0xF00030, 0x0, 1, 0x0, 1⟩
  | .FLT_REC_T0_LO => ⟨0xF00034, 0x0, 1, 0x0, 1⟩
  | .FLT_REC_T0_HI => ⟨0xF00038, 0x0, 1, 0x0, 1⟩
  | .FLT_REC_TL_LO => ⟨0xF0003C, 0x0, 1, 0x0, 1⟩
  | .FLT_REC_TL_HI => ⟨0xF00040, 0x0, 1, 0x0, 1⟩
  | .FLT_REC_TMR => ⟨0xF00044, 0x0, 1, 0x0, 1⟩
  | .FLT_ACK => ⟨0xF00048, 0x0, 1, 0x0, 1⟩
  | .FLT_ACK_STS => ⟨0xF0004C, 0x0, 1, 0x0, 1⟩
  | .FLT_INJ => ⟨0xF00050, 0x0, 1, 0x0, 1⟩
  | .PWR_STS => ⟨0xF10000, 0x0, 1, 0x0, 1⟩
  | .PWR_VIN => ⟨0xF10004, 0x0, 1, 0x0, 1⟩
  | .PWR_VIN_CFG => ⟨0xF10008, 0x0, 1, 0x0, 1⟩
  | .PWR_RAIL => ⟨0xF10010, 0x4, 12, 0x0, 1⟩
  | .PWR_DOM => ⟨0xF10040, 0x4, 3, 0x0, 1⟩
  | .PWR_DOM_REQ => ⟨0xF10050, 0x0, 1, 0x0, 1⟩
  | .PWR_DOM_STS => ⟨0xF10054, 0x0, 1, 0x0, 1⟩
  | .PWR_TEMP => ⟨0xF10060, 0x4, 4, 0x0, 1⟩
  | .PWR_TEMP_THR => ⟨0xF10070, 0x0, 1, 0x0, 1⟩
  | .PWR_TMR_CFG => ⟨0xF10080, 0x8, 8, 0x0, 1⟩
  | .PWR_TMR_PER => ⟨0xF10084, 0x8, 8, 0x0, 1⟩
  | .RPR_LANE => ⟨0xF20000, 0x0, 1, 0x0, 1⟩
  | .RPR_NOSPARE => ⟨0xF20004, 0x0, 1, 0x0, 1⟩
  | .RPR_ENG => ⟨0xF20008, 0x0, 1, 0x0, 1⟩
  | .RPR_MADC => ⟨0xF2000C, 0x0, 1, 0x0, 1⟩
  | .RPR_QROW => ⟨0xF20010, 0x0, 1, 0x0, 1⟩
  | .RPR_LDG => ⟨0xF20014, 0x0, 1, 0x0, 1⟩
  | .RPR_DRAM => ⟨0xF20018, 0x0, 1, 0x0, 1⟩
  | .RPR_DEC => ⟨0xF2001C, 0x0, 1, 0x0, 1⟩

/-- The field tables. Bits that no field covers are RSVD. -/
def regFields : Reg → List FieldDef
  | .GLB_ID => [⟨0, 32, .ro, 425722033, .any⟩]
  | .GLB_STATE => [⟨0, 3, .ro, 1, .any⟩, ⟨4, 4, .ro, 0, .any⟩, ⟨8, 4, .ro, 0, .any⟩, ⟨12, 1, .ro, 0, .any⟩]
  | .GLB_CMD => [⟨0, 4, .wo, 0, .any⟩]
  | .GLB_CMD_STS => [⟨0, 4, .ro, 0, .any⟩, ⟨4, 2, .ro, 0, .any⟩, ⟨8, 8, .ro, 0, .any⟩]
  | .GLB_HZN_D_LO => [⟨0, 32, .ro, 0, .any⟩]
  | .GLB_HZN_D_HI => [⟨0, 32, .ro, 0, .any⟩]
  | .GLB_HZN_R_LO => [⟨0, 32, .ro, 0, .any⟩]
  | .GLB_HZN_R_HI => [⟨0, 32, .ro, 0, .any⟩]
  | .GLB_LATE_CNT => [⟨0, 32, .rc, 0, .any⟩]
  | .PRT_CFG => [⟨0, 1, .rw, 0, .any⟩, ⟨1, 1, .rw, 0, .any⟩, ⟨2, 1, .rw, 0, .any⟩, ⟨4, 2, .rw, 0, .range 0 2⟩]
  | .PRT_WIN => [⟨0, 12, .rw, 0, .any⟩, ⟨16, 12, .rw, 0, .any⟩]
  | .PRT_HYST => [⟨0, 7, .rw, 0, .any⟩, ⟨8, 7, .rw, 0, .any⟩]
  | .PRT_FILT => [⟨0, 6, .rw, 0, .odd⟩, ⟨8, 6, .rw, 0, .odd⟩]
  | .PRT_PSC => [⟨0, 16, .rw, 0, .any⟩, ⟨16, 16, .rw, 0, .any⟩]
  | .PRT_LVL => [⟨0, 2, .ro, 3, .any⟩, ⟨2, 1, .ro, 0, .any⟩, ⟨3, 1, .ro, 0, .any⟩, ⟨4, 1, .ro, 0, .any⟩, ⟨5, 1, .ro, 0, .any⟩, ⟨6, 1, .ro, 0, .any⟩]
  | .PRT_STS => [⟨0, 1, .w1c, 0, .any⟩, ⟨1, 1, .w1c, 0, .any⟩, ⟨2, 1, .ro, 0, .any⟩]
  | .PRT_SER => [⟨0, 32, .ro, 0, .any⟩]
  | .PRT_CNTU_LO => [⟨0, 32, .ro, 0, .any⟩]
  | .PRT_CNTU_HI => [⟨0, 32, .ro, 0, .any⟩]
  | .PRT_CNTL_LO => [⟨0, 32, .ro, 0, .any⟩]
  | .PRT_CNTL_HI => [⟨0, 32, .ro, 0, .any⟩]
  | .PRT_EVT_EN => [⟨0, 1, .rw, 0, .any⟩, ⟨1, 1, .rw, 0, .any⟩, ⟨2, 1, .rw, 0, .any⟩, ⟨3, 1, .rw, 0, .any⟩]
  | .PRT_EVT_STS => [⟨0, 1, .w1c, 0, .any⟩, ⟨1, 1, .w1c, 0, .any⟩, ⟨2, 1, .w1c, 0, .any⟩, ⟨3, 1, .w1c, 0, .any⟩]
  | .PRT_WAKE => [⟨0, 3, .rw, 0, .any⟩, ⟨8, 1, .rw, 0, .any⟩]
  | .PRT_CHK_CTL => [⟨0, 1, .wo, 0, .any⟩, ⟨1, 2, .rw, 0, .range 0 2⟩, ⟨3, 1, .wo, 0, .any⟩]
  | .PRT_CHK_STS => [⟨0, 1, .ro, 0, .any⟩, ⟨1, 1, .ro, 0, .any⟩, ⟨2, 2, .ro, 0, .any⟩, ⟨4, 3, .ro, 0, .any⟩, ⟨8, 1, .w1c, 0, .any⟩, ⟨16, 16, .ro, 0, .any⟩]
  | .PRT_CHK_T_LO => [⟨0, 32, .ro, 0, .any⟩]
  | .PRT_CHK_T_HI => [⟨0, 32, .ro, 0, .any⟩]
  | .PRT_RB => [⟨0, 8, .ro, 0, .any⟩, ⟨8, 8, .ro, 0, .any⟩, ⟨16, 1, .w1c, 0, .any⟩, ⟨17, 1, .w1c, 0, .any⟩]
  | .PRT_VTT => [⟨0, 10, .rw, 0, .range 0 1000⟩, ⟨16, 1, .ro, 0, .any⟩]
  | .PRT_CHK_IDLE => [⟨0, 24, .rw, 62500, .range 1 16777215⟩]
  | .PRT_CHK_PERIOD => [⟨0, 32, .rw, 60000, .range 1 4294967295⟩]
  | .PRT_RB_CTL => [⟨0, 1, .rw, 0, .any⟩, ⟨8, 8, .rw, 4, .range 1 255⟩]
  | .PRT_WAKE_SRC => [⟨0, 7, .ro, 0, .any⟩, ⟨8, 2, .ro, 0, .any⟩, ⟨15, 1, .ro, 0, .any⟩]
  | .PRT_LVL_ALL => [⟨0, 32, .ro, 4294967295, .any⟩]
  | .TB_REF_CFG => [⟨0, 1, .rwl, 0, .any⟩, ⟨1, 1, .rwl, 0, .any⟩]
  | .TB_PLL_STS => [⟨0, 1, .ro, 0, .any⟩, ⟨1, 1, .ro, 0, .any⟩, ⟨2, 1, .w1c, 0, .any⟩, ⟨3, 1, .w1c, 0, .any⟩, ⟨16, 16, .ro, 0, .any⟩]
  | .TB_NOW_LO => [⟨0, 32, .ro, 0, .any⟩]
  | .TB_NOW_HI => [⟨0, 32, .ro, 0, .any⟩]
  | .TB_EPOCH => [⟨0, 16, .ro, 0, .any⟩]
  | .TB_OUT_CFG => [⟨0, 1, .rw, 0, .any⟩, ⟨1, 1, .rw, 0, .any⟩]
  | .TB_CAL_CTL => [⟨0, 1, .rw, 0, .any⟩, ⟨8, 8, .rw, 0, .any⟩, ⟨16, 16, .rw, 0, .range 1 65535⟩]
  | .TB_CAL_CMD => [⟨0, 8, .wo, 0, .any⟩, ⟨8, 3, .wo, 0, .any⟩]
  | .TB_CAL_STS => [⟨0, 8, .ro, 0, .any⟩, ⟨8, 3, .ro, 0, .any⟩, ⟨11, 1, .ro, 0, .any⟩, ⟨12, 3, .ro, 0, .any⟩, ⟨15, 1, .ro, 0, .any⟩, ⟨24, 8, .ro, 0, .any⟩]
  | .TB_DIST_STS => [⟨0, 1, .w1c, 0, .any⟩, ⟨8, 6, .ro, 0, .any⟩, ⟨16, 16, .ro, 0, .any⟩]
  | .TB_TBL_ADDR => [⟨0, 10, .rw, 0, .any⟩, ⟨16, 8, .rw, 0, .any⟩]
  | .TB_TBL_DATA => [⟨0, 16, .ro, 0, .any⟩]
  | .TB_SVC_EN => [⟨0, 5, .rw, 0, .any⟩]
  | .TB_SVC_SER => [⟨0, 32, .ro, 0, .any⟩]
  | .TB_SVC_CNT_LO => [⟨0, 32, .ro, 0, .any⟩]
  | .TB_SVC_CNT_HI => [⟨0, 32, .ro, 0, .any⟩]
  | .TB_LANE_STS => [⟨0, 3, .ro, 0, .any⟩, ⟨4, 8, .ro, 0, .any⟩, ⟨12, 1, .ro, 0, .any⟩]
  | .TB_LANE_CAL => [⟨0, 8, .ro, 0, .any⟩, ⟨8, 8, .ro, 0, .any⟩, ⟨16, 8, .ro, 0, .any⟩, ⟨24, 8, .ro, 0, .any⟩]
  | .TB_LANE_CORR => [⟨0, 16, .ro, 0, .any⟩]
  | .TB_LANE_DCAL => [⟨0, 16, .ro, 0, .any⟩]
  | .TB_LANE_CALT_LO => [⟨0, 32, .ro, 0, .any⟩]
  | .TB_LANE_CALT_HI => [⟨0, 32, .ro, 0, .any⟩]
  | .TB_LANE_SER => [⟨0, 32, .ro, 0, .any⟩]
  | .TB_LANE_HCNT => [⟨0, 16, .ro, 0, .any⟩, ⟨16, 16, .ro, 0, .any⟩]
  | .TB_SPR_CORR => [⟨0, 16, .ro, 0, .any⟩]
  | .TLY_CTL => [⟨0, 1, .rw, 0, .any⟩]
  | .TLY_STS => [⟨0, 13, .ro, 0, .any⟩, ⟨16, 13, .ro, 0, .any⟩]
  | .TLY_AUDIT_CNT => [⟨0, 32, .rc, 0, .any⟩]
  | .TLY_CMD => [⟨0, 13, .wo, 0, .any⟩, ⟨16, 3, .wo, 0, .any⟩]
  | .TLY_CMD_STS => [⟨0, 13, .ro, 0, .any⟩, ⟨16, 3, .ro, 0, .any⟩, ⟨19, 2, .ro, 0, .any⟩, ⟨24, 8, .ro, 0, .any⟩]
  | .TLY_PRESET_LO => [⟨0, 32, .rw, 0, .any⟩]
  | .TLY_PRESET_HI => [⟨0, 32, .rw, 0, .any⟩]
  | .TLY_CFG => [⟨0, 2, .rw, 0, .any⟩, ⟨2, 1, .rw, 0, .any⟩]
  | .TLY_Q_LO => [⟨0, 32, .rw, 0, .any⟩]
  | .TLY_Q_HI => [⟨0, 32, .rw, 0, .any⟩]
  | .TLY_NT_LO => [⟨0, 32, .ro, 0, .any⟩]
  | .TLY_NT_HI => [⟨0, 32, .ro, 0, .any⟩]
  | .TLY_FRAC => [⟨0, 32, .ro, 0, .any⟩]
  | .TLY_FLG => [⟨0, 1, .ro, 0, .any⟩, ⟨1, 7, .ro, 0, .any⟩, ⟨8, 1, .w1c, 0, .any⟩, ⟨9, 7, .ro, 0, .any⟩, ⟨16, 12, .ro, 0, .any⟩, ⟨28, 1, .ro, 0, .any⟩]
  | .TLY_AUD => [⟨0, 16, .ro, 0, .any⟩, ⟨16, 16, .ro, 0, .any⟩]
  | .LDG_CTL => [⟨0, 16, .rw, 16, .range 1 1000⟩]
  | .LDG_STS => [⟨0, 2, .ro, 0, .any⟩, ⟨2, 1, .ro, 0, .any⟩, ⟨3, 1, .ro, 0, .any⟩, ⟨4, 1, .ro, 0, .any⟩, ⟨5, 1, .ro, 0, .any⟩]
  | .LDG_SEQ_LO => [⟨0, 32, .ro, 0, .any⟩]
  | .LDG_SEQ_HI => [⟨0, 32, .ro, 0, .any⟩]
  | .LDG_RCV => [⟨0, 3, .ro, 0, .any⟩, ⟨3, 1, .ro, 0, .any⟩, ⟨4, 4, .ro, 0, .any⟩, ⟨8, 2, .ro, 0, .any⟩, ⟨16, 16, .ro, 0, .any⟩]
  | .LDG_SPARE => [⟨0, 7, .ro, 64, .any⟩, ⟨8, 7, .ro, 0, .any⟩]
  | .LDG_WEAR => [⟨0, 32, .ro, 0, .any⟩]
  | .LDG_MIG => [⟨0, 9, .ro, 0, .any⟩, ⟨9, 3, .ro, 0, .any⟩, ⟨16, 9, .ro, 0, .any⟩]
  | .LDG_PF_CFG => [⟨0, 8, .rw, 136, .range 10 255⟩, ⟨8, 1, .rw, 0, .any⟩, ⟨9, 1, .rw, 0, .any⟩]
  | .LDG_PF_STS => [⟨0, 1, .w1c, 0, .any⟩, ⟨1, 2, .ro, 0, .any⟩, ⟨3, 1, .ro, 0, .any⟩, ⟨16, 16, .ro, 0, .any⟩]
  | .LDG_RD_ADDR => [⟨0, 19, .rw, 0, .any⟩, ⟨19, 4, .rw, 0, .any⟩]
  | .LDG_RD_DATA => [⟨0, 32, .ro, 0, .any⟩]
  | .LDG_CMD => [⟨0, 4, .wo, 0, .any⟩]
  | .LDG_CMD_STS => [⟨0, 4, .ro, 0, .any⟩, ⟨4, 2, .ro, 0, .any⟩, ⟨8, 8, .ro, 0, .any⟩]
  | .DEC_BANK_STS => [⟨0, 16, .ro, 0, .any⟩, ⟨16, 11, .ro, 0, .any⟩]
  | .DEC_COEF_ADDR => [⟨0, 8, .rw, 0, .any⟩, ⟨8, 8, .rw, 0, .any⟩]
  | .DEC_COEF_DATA => [⟨0, 24, .rw, 0, .any⟩]
  | .DEC_COEF_HDR => [⟨0, 9, .rw, 0, .range 1 256⟩, ⟨16, 5, .rw, 0, .range 1 16⟩, ⟨31, 1, .ro, 0, .any⟩]
  | .DEC_COEF_STS => [⟨0, 1, .w1c, 0, .any⟩, ⟨1, 1, .w1c, 0, .any⟩]
  | .DEC_HB_COEF => [⟨0, 24, .ro, 0, .any⟩]
  | .DEC_CTX_SRC => [⟨0, 13, .rw, 0, .any⟩, ⟨13, 2, .rw, 0, .range 0 2⟩, ⟨16, 7, .rw, 0, .any⟩, ⟨24, 7, .rw, 0, .any⟩]
  | .DEC_CTX_CFG => [⟨0, 3, .rw, 0, .range 0 4⟩, ⟨3, 1, .rw, 0, .any⟩, ⟨4, 1, .rw, 0, .any⟩, ⟨5, 1, .rw, 0, .any⟩, ⟨6, 1, .rw, 0, .any⟩, ⟨7, 1, .rw, 0, .any⟩, ⟨8, 5, .rw, 0, .range 8 24⟩, ⟨16, 8, .rw, 0, .range 1 255⟩]
  | .DEC_CTX_CIC => [⟨0, 4, .rw, 0, .range 0 10⟩, ⟨4, 3, .rw, 0, .range 1 5⟩, ⟨8, 14, .rw, 0, .range 2 8192⟩]
  | .DEC_CTX_SHIFT_A => [⟨0, 6, .rw, 0, .any⟩, ⟨8, 6, .rw, 0, .any⟩, ⟨16, 6, .rw, 0, .any⟩, ⟨24, 6, .rw, 0, .any⟩]
  | .DEC_CTX_SHIFT_B => [⟨0, 6, .rw, 0, .any⟩, ⟨8, 6, .rw, 0, .any⟩]
  | .DEC_CTX_PHASE => [⟨0, 20, .rw, 0, .any⟩]
  | .DEC_CTX_COEF => [⟨0, 8, .rw, 0, .any⟩, ⟨8, 8, .ro, 0, .any⟩, ⟨16, 8, .ro, 0, .any⟩, ⟨24, 1, .ro, 0, .any⟩, ⟨25, 1, .ro, 0, .any⟩]
  | .DEC_CTX_OUTQ => [⟨0, 11, .rw, 0, .any⟩]
  | .DEC_CTX_CMD => [⟨0, 3, .wo, 0, .any⟩, ⟨3, 1, .wo, 0, .any⟩, ⟨4, 4, .wo, 0, .any⟩, ⟨8, 8, .wo, 0, .any⟩]
  | .DEC_CTX_STS => [⟨0, 2, .ro, 0, .any⟩, ⟨2, 1, .ro, 0, .any⟩, ⟨3, 1, .ro, 0, .any⟩, ⟨4, 4, .ro, 0, .any⟩, ⟨8, 8, .ro, 0, .any⟩, ⟨16, 12, .ro, 0, .any⟩]
  | .DEC_CTX_SEQ => [⟨0, 32, .ro, 0, .any⟩]
  | .DEC_CTX_SETTLE => [⟨0, 16, .ro, 0, .any⟩, ⟨16, 16, .ro, 0, .any⟩]
  | .DEC_CTX_CNT => [⟨0, 16, .rc, 0, .any⟩, ⟨16, 16, .rc, 0, .any⟩]
  | .DEC_CTX_AT_LO => [⟨0, 32, .rw, 0, .any⟩]
  | .DEC_CTX_AT_HI => [⟨0, 32, .rw, 0, .any⟩]
  | .MADC_TAP => [⟨0, 6, .rw, 0, .range 0 45⟩]
  | .MADC_STS => [⟨0, 2, .ro, 0, .any⟩, ⟨2, 3, .ro, 0, .any⟩, ⟨5, 1, .ro, 0, .any⟩, ⟨6, 1, .w1c, 0, .any⟩]
  | .MADC_RB => [⟨0, 6, .ro, 0, .any⟩, ⟨8, 24, .ro, 0, .any⟩]
  | .MADC_CHK => [⟨0, 24, .ro, 0, .any⟩, ⟨24, 8, .ro, 0, .any⟩]
  | .MADC_CMD => [⟨0, 4, .wo, 0, .any⟩, ⟨4, 3, .wo, 0, .any⟩]
  | .MADC_CMD_STS => [⟨0, 4, .ro, 0, .any⟩, ⟨4, 3, .ro, 0, .any⟩, ⟨7, 2, .ro, 0, .any⟩, ⟨16, 8, .ro, 0, .any⟩]
  | .TRG_CFG => [⟨0, 3, .rw, 0, .range 0 4⟩, ⟨4, 4, .rw, 0, .any⟩, ⟨8, 1, .rw, 0, .any⟩, ⟨9, 1, .rw, 0, .any⟩, ⟨10, 1, .rw, 0, .any⟩]
  | .TRG_WIN => [⟨0, 32, .rw, 0, .any⟩]
  | .TRG_AUTO => [⟨0, 32, .rw, 0, .any⟩]
  | .TRG_OUTQ => [⟨0, 11, .rw, 0, .any⟩]
  | .TRG_SRC => [⟨0, 3, .rw, 0, .range 0 6⟩, ⟨8, 7, .rw, 0, .any⟩, ⟨16, 13, .rw, 0, .any⟩]
  | .TRG_ARG => [⟨0, 32, .rw, 0, .any⟩]
  | .TRG_LL_LO => [⟨0, 32, .rw, 0, .any⟩]
  | .TRG_LL_HI => [⟨0, 32, .rw, 0, .any⟩]
  | .TRG_UL_LO => [⟨0, 32, .rw, 0, .any⟩]
  | .TRG_UL_HI => [⟨0, 32, .rw, 0, .any⟩]
  | .TRG_CMD => [⟨0, 3, .wo, 0, .any⟩, ⟨3, 1, .wo, 0, .any⟩, ⟨4, 4, .wo, 0, .any⟩]
  | .TRG_STS => [⟨0, 2, .ro, 0, .any⟩, ⟨2, 1, .ro, 0, .any⟩, ⟨4, 4, .ro, 0, .any⟩, ⟨8, 1, .w1c, 0, .any⟩, ⟨9, 1, .w1c, 0, .any⟩, ⟨10, 1, .w1c, 0, .any⟩, ⟨16, 8, .ro, 0, .any⟩]
  | .TRG_SEQ => [⟨0, 32, .ro, 0, .any⟩]
  | .TRG_LAST_LO => [⟨0, 32, .ro, 0, .any⟩]
  | .TRG_LAST_HI => [⟨0, 32, .ro, 0, .any⟩]
  | .TRG_J_LO => [⟨0, 32, .ro, 0, .any⟩]
  | .TRG_J_HI => [⟨0, 32, .ro, 0, .any⟩]
  | .TRG_AT_LO => [⟨0, 32, .rw, 0, .any⟩]
  | .TRG_AT_HI => [⟨0, 32, .rw, 0, .any⟩]
  | .TRG_TB_CFG => [⟨0, 24, .rw, 0, .range 1 16777215⟩]
  | .TRG_TB_STS => [⟨0, 16, .rc, 0, .any⟩, ⟨16, 16, .rc, 0, .any⟩]
  | .TRG_TBL => [⟨0, 4, .rw, 0, .any⟩, ⟨4, 1, .rw, 0, .any⟩]
  | .TRG_PIN => [⟨0, 1, .rw, 0, .any⟩, ⟨1, 1, .rw, 0, .any⟩, ⟨2, 1, .rw, 0, .any⟩, ⟨3, 4, .rw, 0, .any⟩, ⟨8, 16, .rw, 0, .range 1 65535⟩]
  | .TRG_PDLY => [⟨0, 24, .rw, 0, .any⟩]
  | .TRG_PSTS => [⟨0, 16, .rc, 0, .any⟩, ⟨16, 16, .rc, 0, .any⟩]
  | .ACQ_CFG => [⟨0, 2, .rw, 0, .range 0 2⟩, ⟨4, 4, .rw, 0, .any⟩, ⟨8, 1, .rw, 0, .any⟩, ⟨16, 7, .rw, 0, .any⟩]
  | .ACQ_PRE => [⟨0, 24, .rw, 0, .any⟩]
  | .ACQ_POST => [⟨0, 32, .rw, 0, .any⟩]
  | .ACQ_POST_T => [⟨0, 32, .rw, 0, .any⟩]
  | .ACQ_NSEG => [⟨0, 24, .rw, 0, .any⟩]
  | .ACQ_HOLDOFF => [⟨0, 24, .rw, 0, .any⟩]
  | .ACQ_REGION => [⟨0, 8, .rw, 0, .any⟩]
  | .ACQ_STAGE => [⟨0, 8, .rw, 0, .any⟩, ⟨16, 9, .rw, 0, .range 0 256⟩]
  | .ACQ_CHMASK => [⟨0, 32, .rw, 0, .any⟩]
  | .ACQ_RRANGE => [⟨0, 13, .rw, 0, .any⟩, ⟨16, 13, .rw, 0, .any⟩]
  | .ACQ_CMD => [⟨0, 2, .wo, 0, .any⟩, ⟨2, 1, .wo, 0, .any⟩]
  | .ACQ_STS => [⟨0, 3, .ro, 0, .any⟩, ⟨4, 4, .ro, 0, .any⟩, ⟨8, 1, .w1c, 0, .any⟩, ⟨9, 1, .w1c, 0, .any⟩, ⟨10, 1, .w1c, 0, .any⟩, ⟨11, 1, .w1c, 0, .any⟩, ⟨16, 8, .ro, 0, .any⟩]
  | .ACQ_SEGS => [⟨0, 25, .ro, 0, .any⟩]
  | .ACQ_SEG_RD => [⟨0, 25, .rw, 0, .any⟩]
  | .ACQ_SLOTS => [⟨0, 25, .ro, 0, .any⟩]
  | .ACQ_SLOT_SZ => [⟨0, 32, .ro, 0, .any⟩]
  | .ACQ_LOST_LO => [⟨0, 32, .ro, 0, .any⟩]
  | .ACQ_LOST_HI => [⟨0, 32, .ro, 0, .any⟩]
  | .ACQ_SKIP => [⟨0, 16, .ro, 0, .any⟩, ⟨16, 16, .ro, 0, .any⟩]
  | .ACQ_OVW => [⟨0, 32, .ro, 0, .any⟩]
  | .ACQ_AT_LO => [⟨0, 32, .rw, 0, .any⟩]
  | .ACQ_AT_HI => [⟨0, 32, .rw, 0, .any⟩]
  | .QUE_CMD => [⟨0, 11, .wo, 0, .any⟩, ⟨16, 3, .wo, 0, .any⟩]
  | .QUE_CMD_STS => [⟨0, 11, .ro, 0, .any⟩, ⟨16, 3, .ro, 0, .any⟩, ⟨19, 2, .ro, 0, .any⟩, ⟨24, 8, .ro, 0, .any⟩]
  | .QUE_SLICE_STS => [⟨0, 9, .ro, 256, .any⟩, ⟨16, 9, .ro, 0, .any⟩]
  | .QUE_SYSQ_FLT => [⟨0, 11, .rw, 0, .range 0 1279⟩, ⟨15, 1, .rw, 0, .any⟩]
  | .QUE_SYSQ_LNK => [⟨0, 11, .rw, 0, .range 0 1279⟩, ⟨15, 1, .rw, 0, .any⟩]
  | .QUE_SYSQ_LVL => [⟨0, 11, .rw, 0, .range 0 1279⟩, ⟨15, 1, .rw, 0, .any⟩]
  | .QUE_POP_SEL => [⟨0, 11, .rw, 0, .range 0 1279⟩]
  | .QUE_POP_STS => [⟨0, 1, .ro, 0, .any⟩, ⟨1, 1, .ro, 0, .any⟩, ⟨2, 1, .ro, 0, .any⟩]
  | .QUE_POP_W => [⟨0, 32, .ro, 0, .any⟩]
  | .QUE_Q_CFG => [⟨0, 1, .rw, 0, .any⟩, ⟨1, 3, .rw, 0, .range 0 5⟩, ⟨8, 8, .rw, 0, .any⟩, ⟨16, 2, .rw, 0, .range 0 1⟩, ⟨24, 5, .rw, 0, .any⟩]
  | .QUE_Q_PRI => [⟨0, 2, .rw, 0, .any⟩, ⟨2, 2, .rw, 0, .any⟩, ⟨4, 2, .rw, 0, .any⟩, ⟨6, 2, .rw, 0, .any⟩]
  | .QUE_Q_COUNT => [⟨0, 13, .ro, 0, .any⟩, ⟨13, 1, .ro, 0, .any⟩, ⟨14, 1, .ro, 0, .any⟩, ⟨15, 1, .ro, 0, .any⟩, ⟨16, 16, .rc, 0, .any⟩]
  | .QUE_CTL => [⟨0, 1, .wo, 0, .any⟩, ⟨1, 1, .wo, 0, .any⟩]
  | .QUE_Q_STS => [⟨0, 1, .w1c, 0, .any⟩, ⟨1, 1, .w1c, 0, .any⟩, ⟨2, 1, .ro, 0, .any⟩, ⟨3, 1, .w1c, 0, .any⟩]
  | .QUE_Q_IN_LO => [⟨0, 32, .ro, 0, .any⟩]
  | .QUE_Q_IN_HI => [⟨0, 32, .ro, 0, .any⟩]
  | .QUE_Q_SKIP => [⟨0, 32, .ro, 0, .any⟩]
  | .LNK_CFG => [⟨0, 1, .rw, 0, .any⟩, ⟨1, 2, .rw, 0, .range 0 2⟩]
  | .LNK_STS => [⟨0, 3, .ro, 0, .any⟩, ⟨3, 1, .ro, 0, .any⟩, ⟨4, 1, .ro, 0, .any⟩, ⟨5, 1, .w1c, 0, .any⟩, ⟨6, 1, .w1c, 0, .any⟩, ⟨16, 16, .ro, 0, .any⟩]
  | .LNK_CMD => [⟨0, 2, .wo, 0, .any⟩]
  | .LNK_CMD_STS => [⟨0, 2, .ro, 0, .any⟩, ⟨2, 2, .ro, 0, .any⟩, ⟨8, 8, .ro, 0, .any⟩]
  | .LNK_SYNC_CFG => [⟨0, 8, .rw, 0, .range 1 255⟩, ⟨8, 8, .rw, 0, .range 1 255⟩]
  | .LNK_ASYM => [⟨0, 16, .rw, 0, .any⟩]
  | .LNK_RTT => [⟨0, 24, .ro, 0, .any⟩]
  | .LNK_DELAY => [⟨0, 24, .ro, 0, .any⟩]
  | .LNK_SYNC_STS => [⟨0, 16, .ro, 0, .any⟩, ⟨16, 16, .rc, 0, .any⟩]
  | .LNK_CREDIT => [⟨0, 7, .ro, 0, .any⟩, ⟨8, 7, .ro, 0, .any⟩, ⟨16, 7, .ro, 0, .any⟩]
  | .LNK_AUDIT => [⟨0, 16, .ro, 0, .any⟩, ⟨16, 16, .ro, 0, .any⟩]
  | .LNK_RETRY => [⟨0, 16, .ro, 0, .any⟩, ⟨16, 16, .ro, 0, .any⟩]
  | .LNK_TMO => [⟨0, 8, .rw, 0, .range 2 255⟩, ⟨8, 8, .rw, 0, .range 1 255⟩, ⟨16, 8, .rw, 0, .range 1 255⟩]
  | .LNK_EVT_CFG => [⟨0, 16, .rw, 0, .any⟩]
  | .LNK_BOARD => [⟨0, 16, .ro, 0, .any⟩, ⟨16, 9, .ro, 0, .any⟩]
  | .LNK_FLITS_LO => [⟨0, 32, .ro, 0, .any⟩]
  | .LNK_FLITS_HI => [⟨0, 32, .ro, 0, .any⟩]
  | .LNK_VCNT => [⟨0, 32, .rc, 0, .any⟩]
  | .LNK_CHEN => [⟨0, 32, .rw, 0, .any⟩]
  | .LNK_CNT_LO => [⟨0, 32, .ro, 0, .any⟩]
  | .LNK_CNT_HI => [⟨0, 32, .ro, 0, .any⟩]
  | .ENG_POOL => [⟨0, 8, .ro, 0, .any⟩, ⟨8, 8, .ro, 0, .any⟩, ⟨16, 8, .ro, 0, .any⟩]
  | .ENG_RSV => [⟨0, 5, .rw, 0, .range 4 16⟩]
  | .ENG_QPOOL => [⟨0, 10, .rw, 0, .any⟩, ⟨16, 10, .rw, 0, .any⟩]
  | .ENG_CMD => [⟨0, 3, .wo, 0, .any⟩, ⟨4, 12, .wo, 0, .any⟩, ⟨16, 8, .wo, 0, .any⟩, ⟨24, 8, .wo, 0, .any⟩]
  | .ENG_CMD_STS => [⟨0, 3, .ro, 0, .any⟩, ⟨3, 1, .ro, 0, .any⟩, ⟨4, 3, .ro, 0, .any⟩, ⟨8, 8, .ro, 0, .any⟩]
  | .ENG_HO_STS => [⟨0, 3, .ro, 0, .any⟩, ⟨3, 1, .ro, 0, .any⟩, ⟨4, 8, .ro, 0, .any⟩, ⟨12, 8, .ro, 0, .any⟩, ⟨20, 12, .ro, 0, .any⟩]
  | .ENG_HO_T_LO => [⟨0, 32, .ro, 0, .any⟩]
  | .ENG_HO_T_HI => [⟨0, 32, .ro, 0, .any⟩]
  | .ENG_TASK_SEL => [⟨0, 12, .rw, 0, .any⟩]
  | .ENG_TASK_INFO => [⟨0, 8, .ro, 0, .any⟩, ⟨8, 5, .ro, 0, .any⟩, ⟨13, 1, .ro, 0, .any⟩, ⟨14, 1, .ro, 0, .any⟩, ⟨16, 11, .ro, 0, .any⟩]
  | .ENG_GOLD => [⟨0, 32, .ro, 0, .any⟩]
  | .ENG_FUNC => [⟨0, 8, .ro, 0, .any⟩, ⟨8, 1, .ro, 0, .any⟩, ⟨9, 1, .ro, 0, .any⟩, ⟨10, 1, .ro, 0, .any⟩]
  | .ENG_STS => [⟨0, 3, .ro, 0, .any⟩, ⟨4, 6, .ro, 0, .any⟩, ⟨16, 4, .ro, 0, .any⟩, ⟨20, 1, .w1c, 0, .any⟩]
  | .ENG_MCHK => [⟨0, 12, .ro, 0, .any⟩, ⟨12, 4, .ro, 0, .any⟩, ⟨16, 5, .ro, 0, .any⟩, ⟨21, 1, .ro, 0, .any⟩]
  | .ENG_USE => [⟨0, 17, .ro, 0, .any⟩, ⟨17, 11, .ro, 0, .any⟩]
  | .ENG_ECC => [⟨0, 32, .rc, 0, .any⟩]
  | .ENG_CS_ADDR => [⟨0, 12, .rw, 0, .any⟩, ⟨12, 2, .rw, 0, .any⟩]
  | .ENG_CS_DATA => [⟨0, 32, .ro, 0, .any⟩]
  | .ENG_CS_PAR => [⟨0, 4, .ro, 0, .any⟩]
  | .ENG_CTX => [⟨0, 12, .ro, 0, .any⟩, ⟨12, 1, .ro, 0, .any⟩, ⟨13, 1, .ro, 0, .any⟩, ⟨14, 1, .ro, 0, .any⟩, ⟨15, 1, .ro, 0, .any⟩, ⟨16, 16, .rc, 0, .any⟩]
  | .DRM_STS => [⟨0, 4, .ro, 0, .any⟩, ⟨4, 4, .ro, 0, .any⟩, ⟨8, 3, .ro, 0, .any⟩, ⟨16, 8, .ro, 0, .any⟩]
  | .DRM_SCRUB => [⟨0, 1, .rw, 0, .any⟩, ⟨8, 8, .rw, 0, .range 1 255⟩, ⟨16, 8, .rw, 0, .range 1 255⟩]
  | .DRM_ERR => [⟨0, 1, .w1c, 0, .any⟩, ⟨1, 1, .w1c, 0, .any⟩, ⟨2, 2, .ro, 0, .any⟩]
  | .DRM_CE_CNT => [⟨0, 32, .rc, 0, .any⟩]
  | .DRM_UE_CNT => [⟨0, 32, .rc, 0, .any⟩]
  | .DRM_ERR_ADDR_LO => [⟨0, 32, .ro, 0, .any⟩]
  | .DRM_ERR_ADDR_HI => [⟨0, 32, .ro, 0, .any⟩]
  | .DRM_RETIRE => [⟨0, 13, .ro, 0, .any⟩, ⟨13, 1, .ro, 0, .any⟩]
  | .DRM_CMD => [⟨0, 8, .wo, 0, .any⟩, ⟨8, 3, .wo, 0, .any⟩]
  | .DRM_CMD_STS => [⟨0, 3, .ro, 0, .any⟩, ⟨3, 2, .ro, 0, .any⟩, ⟨8, 8, .ro, 0, .any⟩]
  | .DRM_RG_CFG => [⟨0, 3, .ro, 0, .any⟩, ⟨3, 1, .ro, 0, .any⟩, ⟨4, 1, .ro, 0, .any⟩, ⟨8, 8, .ro, 0, .any⟩]
  | .DRM_RG_BASE => [⟨0, 18, .ro, 0, .any⟩]
  | .DRM_RG_SIZE => [⟨0, 18, .ro, 0, .any⟩]
  | .DRM_RG_STS => [⟨0, 1, .ro, 0, .any⟩, ⟨1, 1, .w1c, 0, .any⟩, ⟨2, 1, .w1c, 0, .any⟩, ⟨3, 1, .w1c, 0, .any⟩]
  | .DRM_RG_WR_LO => [⟨0, 32, .ro, 0, .any⟩]
  | .DRM_RG_WR_HI => [⟨0, 32, .ro, 0, .any⟩]
  | .DRM_RG_RD_LO => [⟨0, 32, .rw, 0, .any⟩]
  | .DRM_RG_RD_HI => [⟨0, 32, .rw, 0, .any⟩]
  | .DRM_RG_SP_LO => [⟨0, 32, .ro, 0, .any⟩]
  | .DRM_RG_SP_HI => [⟨0, 32, .ro, 0, .any⟩]
  | .NVS_CFG => [⟨0, 2, .rw, 0, .any⟩, ⟨2, 1, .rw, 0, .any⟩, ⟨8, 8, .rw, 0, .range 1 255⟩]
  | .NVS_CMD => [⟨0, 1, .wo, 0, .any⟩, ⟨1, 3, .wo, 0, .any⟩]
  | .NVS_CMD_STS => [⟨0, 1, .ro, 0, .any⟩, ⟨1, 3, .ro, 0, .any⟩, ⟨4, 2, .ro, 0, .any⟩, ⟨8, 8, .ro, 0, .any⟩]
  | .NVS_XR_ADDR_LO => [⟨0, 32, .rw, 0, .any⟩]
  | .NVS_XR_ADDR_HI => [⟨0, 32, .rw, 0, .any⟩]
  | .NVS_XR_SLOT => [⟨0, 23, .rw, 0, .any⟩, ⟨23, 1, .rw, 0, .any⟩]
  | .NVS_XR_CMD => [⟨0, 1, .wo, 0, .any⟩]
  | .NVS_XR_STS => [⟨0, 1, .ro, 0, .any⟩, ⟨1, 3, .ro, 0, .any⟩, ⟨8, 8, .ro, 0, .any⟩, ⟨16, 16, .ro, 0, .any⟩]
  | .NVS_DRV_STS => [⟨0, 3, .ro, 0, .any⟩, ⟨4, 3, .ro, 0, .any⟩, ⟨8, 3, .ro, 0, .any⟩, ⟨12, 4, .ro, 0, .any⟩, ⟨16, 8, .ro, 0, .any⟩]
  | .NVS_DRV_SLOTS => [⟨0, 23, .ro, 0, .any⟩]
  | .NVS_DRV_NEXT => [⟨0, 23, .ro, 0, .any⟩]
  | .NVS_DRV_ERR => [⟨0, 16, .ro, 0, .any⟩, ⟨16, 8, .ro, 0, .any⟩, ⟨24, 8, .ro, 0, .any⟩]
  | .NVS_DRV_EXT_LO => [⟨0, 32, .ro, 0, .any⟩]
  | .NVS_DRV_EXT_HI => [⟨0, 32, .ro, 0, .any⟩]
  | .HST_LINK => [⟨0, 3, .ro, 0, .any⟩, ⟨3, 4, .ro, 0, .any⟩, ⟨7, 2, .ro, 0, .any⟩, ⟨9, 1, .ro, 0, .any⟩, ⟨10, 1, .ro, 0, .any⟩, ⟨11, 1, .ro, 0, .any⟩]
  | .HST_CFG => [⟨0, 1, .rw, 0, .any⟩]
  | .HST_STS => [⟨0, 1, .ro, 0, .any⟩, ⟨1, 1, .w1c, 0, .any⟩, ⟨2, 1, .w1c, 0, .any⟩, ⟨3, 1, .w1c, 0, .any⟩, ⟨4, 1, .w1c, 0, .any⟩, ⟨5, 1, .w1c, 0, .any⟩, ⟨6, 1, .w1c, 0, .any⟩]
  | .HST_ERR_CNT => [⟨0, 16, .rc, 0, .any⟩, ⟨16, 16, .rc, 0, .any⟩]
  | .HST_BAR2_BASE => [⟨0, 11, .rw, 0, .any⟩]
  | .HST_CQ_BASE_LO => [⟨0, 32, .rw, 0, .any⟩]
  | .HST_CQ_BASE_HI => [⟨0, 32, .rw, 0, .any⟩]
  | .HST_CQ_CFG => [⟨0, 1, .rw, 0, .any⟩, ⟨4, 4, .rw, 0, .range 4 12⟩]
  | .HST_CQ_PTR => [⟨0, 16, .ro, 0, .any⟩, ⟨16, 16, .ro, 0, .any⟩]
  | .HST_CPL_BASE_LO => [⟨0, 32, .rw, 0, .any⟩]
  | .HST_CPL_BASE_HI => [⟨0, 32, .rw, 0, .any⟩]
  | .HST_CPL_CFG => [⟨0, 1, .rw, 0, .any⟩, ⟨4, 4, .rw, 0, .range 4 12⟩]
  | .HST_CPL_PTR => [⟨0, 16, .ro, 0, .any⟩, ⟨16, 16, .rw, 0, .any⟩]
  | .HST_DB_VAL => [⟨0, 32, .ro, 0, .any⟩]
  | .HST_SMB_CFG => [⟨0, 7, .rw, 76, .range 8 119⟩, ⟨8, 1, .rw, 0, .any⟩, ⟨9, 1, .rw, 0, .any⟩]
  | .HST_RING_NTF0 => [⟨0, 32, .w1c, 0, .any⟩]
  | .HST_RING_NTF1 => [⟨0, 32, .w1c, 0, .any⟩]
  | .HST_RING_BASE_LO => [⟨0, 32, .rw, 0, .any⟩]
  | .HST_RING_BASE_HI => [⟨0, 32, .rw, 0, .any⟩]
  | .HST_RING_WB_LO => [⟨0, 32, .rw, 0, .any⟩]
  | .HST_RING_WB_HI => [⟨0, 32, .rw, 0, .any⟩]
  | .HST_RING_CFG => [⟨0, 1, .rw, 0, .any⟩, ⟨1, 5, .rw, 0, .range 8 26⟩, ⟨6, 1, .rw, 0, .any⟩, ⟨8, 24, .rw, 0, .any⟩]
  | .HST_RING_STS => [⟨0, 1, .w1c, 0, .any⟩, ⟨1, 1, .w1c, 0, .any⟩, ⟨2, 1, .ro, 0, .any⟩]
  | .HST_RING_HEAD_LO => [⟨0, 32, .ro, 0, .any⟩]
  | .HST_RING_HEAD_HI => [⟨0, 32, .ro, 0, .any⟩]
  | .HST_RING_TAIL_LO => [⟨0, 32, .rw, 0, .any⟩]
  | .HST_RING_TAIL_HI => [⟨0, 32, .rw, 0, .any⟩]
  | .EVT_RAW => [⟨0, 32, .ro, 0, .any⟩]
  | .EVT_PEND => [⟨0, 32, .w1c, 0, .any⟩]
  | .EVT_MASK => [⟨0, 32, .rw, 4294967295, .any⟩]
  | .EVT_ALERT => [⟨0, 9, .ro, 0, .any⟩, ⟨15, 1, .ro, 0, .any⟩, ⟨16, 1, .ro, 0, .any⟩]
  | .EVT_ROUTE => [⟨0, 9, .rw, 0, .any⟩, ⟨9, 1, .rw, 0, .any⟩, ⟨10, 1, .rw, 0, .any⟩]
  | .EVT_VEC => [⟨0, 16, .rw, 0, .any⟩]
  | .CAS_ID => [⟨0, 2, .ro, 0, .any⟩, ⟨8, 6, .ro, 0, .any⟩, ⟨16, 6, .ro, 0, .any⟩]
  | .CAS_CFG => [⟨0, 1, .rw, 0, .any⟩, ⟨1, 3, .rw, 0, .any⟩, ⟨8, 8, .rw, 0, .range 1 255⟩, ⟨16, 8, .rw, 0, .range 1 255⟩]
  | .CAS_STS => [⟨0, 3, .ro, 0, .any⟩, ⟨3, 3, .ro, 0, .any⟩, ⟨6, 1, .ro, 0, .any⟩, ⟨7, 1, .w1c, 0, .any⟩, ⟨8, 6, .ro, 0, .any⟩, ⟨16, 3, .ro, 0, .any⟩]
  | .CAS_CMD => [⟨0, 2, .wo, 0, .any⟩]
  | .CAS_CMD_STS => [⟨0, 2, .ro, 0, .any⟩, ⟨2, 2, .ro, 0, .any⟩, ⟨8, 8, .ro, 0, .any⟩]
  | .CAS_MEM_LO => [⟨0, 32, .ro, 0, .any⟩]
  | .CAS_MEM_HI => [⟨0, 32, .ro, 0, .any⟩]
  | .CAS_LINE_DLY => [⟨0, 24, .ro, 0, .any⟩]
  | .CAS_OFFSET => [⟨0, 16, .ro, 0, .any⟩, ⟨16, 16, .rc, 0, .any⟩]
  | .CAS_LNK_CFG => [⟨0, 1, .rw, 0, .any⟩, ⟨1, 2, .rw, 0, .any⟩]
  | .CAS_LNK_STS => [⟨0, 3, .ro, 0, .any⟩, ⟨3, 1, .ro, 0, .any⟩, ⟨4, 1, .ro, 0, .any⟩, ⟨5, 1, .w1c, 0, .any⟩, ⟨6, 1, .w1c, 0, .any⟩, ⟨8, 6, .ro, 0, .any⟩, ⟨14, 1, .ro, 0, .any⟩, ⟨16, 16, .ro, 0, .any⟩]
  | .CAS_LNK_ASYM => [⟨0, 16, .rw, 0, .any⟩]
  | .CAS_LNK_RTT => [⟨0, 24, .ro, 0, .any⟩]
  | .CAS_LNK_DELAY => [⟨0, 24, .ro, 0, .any⟩]
  | .CAS_LNK_CREDIT => [⟨0, 8, .ro, 0, .any⟩, ⟨8, 8, .ro, 0, .any⟩, ⟨16, 8, .ro, 0, .any⟩]
  | .CAS_LNK_AUDIT => [⟨0, 16, .ro, 0, .any⟩, ⟨16, 16, .ro, 0, .any⟩]
  | .CAS_LNK_RETRY => [⟨0, 16, .ro, 0, .any⟩, ⟨16, 16, .ro, 0, .any⟩]
  | .CAS_LNK_VCNT => [⟨0, 32, .rc, 0, .any⟩]
  | .CAS_TUNOUT_CFG => [⟨0, 11, .rw, 0, .any⟩, ⟨16, 6, .rw, 0, .any⟩, ⟨24, 4, .rw, 0, .any⟩, ⟨30, 1, .w1c, 0, .any⟩, ⟨31, 1, .rw, 0, .any⟩]
  | .CAS_TUNOUT_CNT => [⟨0, 32, .ro, 0, .any⟩]
  | .CAS_TUNIN_CFG => [⟨0, 11, .rw, 0, .any⟩, ⟨16, 6, .rw, 0, .any⟩, ⟨30, 1, .w1c, 0, .any⟩, ⟨31, 1, .rw, 0, .any⟩]
  | .CAS_TUNIN_STS => [⟨0, 1, .w1c, 0, .any⟩, ⟨16, 16, .ro, 0, .any⟩]
  | .BOOT_STS => [⟨0, 4, .ro, 0, .any⟩, ⟨4, 1, .ro, 0, .any⟩, ⟨5, 2, .ro, 0, .any⟩, ⟨7, 2, .ro, 2, .any⟩, ⟨9, 1, .ro, 0, .any⟩, ⟨10, 1, .ro, 0, .any⟩, ⟨11, 1, .ro, 0, .any⟩]
  | .BOOT_CAUSE => [⟨0, 5, .ro, 1, .any⟩, ⟨5, 1, .ro, 0, .any⟩, ⟨8, 6, .ro, 0, .any⟩, ⟨14, 1, .ro, 0, .any⟩]
  | .BOOT_CNT => [⟨0, 16, .ro, 0, .any⟩, ⟨16, 3, .ro, 0, .any⟩]
  | .BOOT_STRAP => [⟨0, 2, .ro, 0, .any⟩, ⟨2, 2, .ro, 0, .any⟩, ⟨4, 6, .ro, 0, .any⟩]
  | .BOOT_IMG_VER => [⟨0, 32, .ro, 0, .any⟩]
  | .BOOT_IMG_OTHER => [⟨0, 32, .ro, 0, .any⟩]
  | .BOOT_TIME => [⟨0, 16, .ro, 0, .any⟩, ⟨16, 4, .ro, 0, .any⟩]
  | .BOOT_SKIP => [⟨0, 16, .ro, 0, .any⟩, ⟨16, 16, .ro, 0, .any⟩]
  | .BOOT_CMD => [⟨0, 3, .wo, 0, .any⟩, ⟨4, 2, .wo, 0, .any⟩]
  | .BOOT_CMD_STS => [⟨0, 3, .ro, 0, .any⟩, ⟨3, 2, .ro, 0, .any⟩, ⟨8, 8, .ro, 0, .any⟩]
  | .BOOT_LOCK => [⟨0, 1, .rwl, 0, .any⟩, ⟨1, 1, .rwl, 0, .any⟩, ⟨31, 1, .w1s, 0, .any⟩]
  | .BOOT_FL_ADDR => [⟨0, 28, .rw, 0, .any⟩]
  | .BOOT_FL_IDX => [⟨0, 6, .rw, 0, .any⟩]
  | .BOOT_FL_DATA => [⟨0, 32, .rw, 0, .any⟩]
  | .BOOT_FL_CMD => [⟨0, 2, .wo, 0, .any⟩]
  | .BOOT_FL_STS => [⟨0, 1, .ro, 0, .any⟩, ⟨1, 2, .ro, 0, .any⟩, ⟨8, 8, .ro, 0, .any⟩, ⟨16, 5, .ro, 0, .any⟩]
  | .BOOT_OTP_STS => [⟨0, 1, .ro, 0, .any⟩, ⟨1, 2, .ro, 0, .any⟩, ⟨3, 1, .ro, 0, .any⟩, ⟨4, 1, .ro, 0, .any⟩]
  | .BOOT_OTP_DIG => [⟨0, 32, .ro, 0, .any⟩]
  | .FLT_CTL => [⟨1, 3, .rwl, 0, .any⟩, ⟨31, 1, .w1s, 0, .any⟩]
  | .FLT_STS => [⟨0, 7, .ro, 0, .any⟩, ⟨7, 1, .ro, 0, .any⟩, ⟨8, 2, .ro, 0, .any⟩, ⟨10, 1, .ro, 0, .any⟩]
  | .FLT_ESC => [⟨0, 24, .rwl, 0, .range 1 16000000⟩]
  | .FLT_OPEN_LO => [⟨0, 32, .ro, 0, .any⟩]
  | .FLT_OPEN_HI => [⟨0, 32, .ro, 0, .any⟩]
  | .FLT_SEL => [⟨0, 6, .rw, 0, .any⟩]
  | .FLT_REC_HDR => [⟨0, 6, .ro, 0, .any⟩, ⟨6, 2, .ro, 0, .any⟩, ⟨8, 8, .ro, 0, .any⟩, ⟨16, 16, .ro, 0, .any⟩]
  | .FLT_REC_STS => [⟨0, 16, .ro, 0, .any⟩, ⟨16, 1, .ro, 0, .any⟩, ⟨17, 1, .ro, 0, .any⟩, ⟨18, 1, .ro, 0, .any⟩, ⟨19, 1, .ro, 0, .any⟩, ⟨20, 1, .ro, 0, .any⟩]
  | .FLT_REC_CAUSE => [⟨0, 32, .ro, 0, .any⟩]
  | .FLT_REC_DETAIL => [⟨0, 32, .ro, 0, .any⟩]
  | .FLT_REC_T0_LO => [⟨0, 32, .ro, 0, .any⟩]
  | .FLT_REC_T0_HI => [⟨0, 32, .ro, 0, .any⟩]
  | .FLT_REC_TL_LO => [⟨0, 32, .ro, 0, .any⟩]
  | .FLT_REC_TL_HI => [⟨0, 32, .ro, 0, .any⟩]
  | .FLT_REC_TMR => [⟨0, 32, .ro, 0, .any⟩]
  | .FLT_ACK => [⟨0, 6, .wo, 0, .any⟩, ⟨8, 2, .wo, 0, .any⟩]
  | .FLT_ACK_STS => [⟨0, 6, .ro, 0, .any⟩, ⟨6, 2, .ro, 0, .any⟩, ⟨8, 8, .ro, 0, .any⟩]
  | .FLT_INJ => [⟨0, 16, .wo, 0, .any⟩, ⟨16, 16, .wo, 0, .any⟩]
  | .PWR_STS => [⟨0, 1, .w1c, 0, .any⟩, ⟨1, 1, .w1c, 0, .any⟩, ⟨2, 1, .w1c, 0, .any⟩, ⟨3, 1, .w1c, 0, .any⟩, ⟨4, 1, .w1c, 0, .any⟩, ⟨5, 1, .w1c, 0, .any⟩]
  | .PWR_VIN => [⟨0, 16, .ro, 0, .any⟩, ⟨16, 16, .ro, 0, .any⟩]
  | .PWR_VIN_CFG => [⟨0, 8, .rw, 210, .range 20 255⟩]
  | .PWR_RAIL => [⟨0, 16, .ro, 0, .any⟩, ⟨16, 16, .ro, 0, .any⟩]
  | .PWR_DOM => [⟨0, 32, .ro, 0, .any⟩]
  | .PWR_DOM_REQ => [⟨0, 7, .wo, 0, .any⟩, ⟨8, 2, .wo, 0, .any⟩]
  | .PWR_DOM_STS => [⟨0, 7, .ro, 0, .any⟩, ⟨8, 2, .ro, 0, .any⟩, ⟨16, 8, .ro, 0, .any⟩]
  | .PWR_TEMP => [⟨0, 10, .ro, 0, .any⟩, ⟨16, 2, .ro, 0, .any⟩]
  | .PWR_TEMP_THR => [⟨0, 8, .rw, 105, .any⟩, ⟨8, 8, .rw, 115, .any⟩, ⟨16, 8, .rw, 125, .any⟩]
  | .PWR_TMR_CFG => [⟨0, 1, .rw, 0, .any⟩, ⟨1, 1, .rw, 0, .any⟩, ⟨2, 1, .rw, 0, .any⟩]
  | .PWR_TMR_PER => [⟨0, 32, .rw, 0, .range 1 4294967295⟩]
  | .RPR_LANE => [⟨0, 5, .ro, 0, .any⟩, ⟨8, 8, .ro, 0, .any⟩]
  | .RPR_NOSPARE => [⟨0, 24, .ro, 0, .any⟩]
  | .RPR_ENG => [⟨0, 8, .ro, 0, .any⟩, ⟨8, 8, .ro, 0, .any⟩, ⟨16, 5, .ro, 0, .any⟩]
  | .RPR_MADC => [⟨0, 4, .ro, 0, .any⟩, ⟨8, 4, .ro, 0, .any⟩]
  | .RPR_QROW => [⟨0, 9, .ro, 0, .any⟩, ⟨16, 4, .ro, 0, .any⟩]
  | .RPR_LDG => [⟨0, 7, .ro, 0, .any⟩]
  | .RPR_DRAM => [⟨0, 13, .ro, 0, .any⟩]
  | .RPR_DEC => [⟨0, 13, .ro, 0, .any⟩]

/-- Register names, part 0. -/
def allRegs0 : List Reg := [.GLB_ID, .GLB_STATE, .GLB_CMD, .GLB_CMD_STS, .GLB_HZN_D_LO, .GLB_HZN_D_HI, .GLB_HZN_R_LO, .GLB_HZN_R_HI, .GLB_LATE_CNT, .PRT_CFG, .PRT_WIN, .PRT_HYST, .PRT_FILT, .PRT_PSC, .PRT_LVL, .PRT_STS, .PRT_SER, .PRT_CNTU_LO, .PRT_CNTU_HI, .PRT_CNTL_LO, .PRT_CNTL_HI, .PRT_EVT_EN, .PRT_EVT_STS, .PRT_WAKE, .PRT_CHK_CTL, .PRT_CHK_STS, .PRT_CHK_T_LO, .PRT_CHK_T_HI, .PRT_RB, .PRT_VTT, .PRT_CHK_IDLE, .PRT_CHK_PERIOD, .PRT_RB_CTL, .PRT_WAKE_SRC, .PRT_LVL_ALL, .TB_REF_CFG, .TB_PLL_STS, .TB_NOW_LO, .TB_NOW_HI, .TB_EPOCH]

/-- Register names, part 1. -/
def allRegs1 : List Reg := [.TB_OUT_CFG, .TB_CAL_CTL, .TB_CAL_CMD, .TB_CAL_STS, .TB_DIST_STS, .TB_TBL_ADDR, .TB_TBL_DATA, .TB_SVC_EN, .TB_SVC_SER, .TB_SVC_CNT_LO, .TB_SVC_CNT_HI, .TB_LANE_STS, .TB_LANE_CAL, .TB_LANE_CORR, .TB_LANE_DCAL, .TB_LANE_CALT_LO, .TB_LANE_CALT_HI, .TB_LANE_SER, .TB_LANE_HCNT, .TB_SPR_CORR, .TLY_CTL, .TLY_STS, .TLY_AUDIT_CNT, .TLY_CMD, .TLY_CMD_STS, .TLY_PRESET_LO, .TLY_PRESET_HI, .TLY_CFG, .TLY_Q_LO, .TLY_Q_HI, .TLY_NT_LO, .TLY_NT_HI, .TLY_FRAC, .TLY_FLG, .TLY_AUD, .LDG_CTL, .LDG_STS, .LDG_SEQ_LO, .LDG_SEQ_HI, .LDG_RCV]

/-- Register names, part 2. -/
def allRegs2 : List Reg := [.LDG_SPARE, .LDG_WEAR, .LDG_MIG, .LDG_PF_CFG, .LDG_PF_STS, .LDG_RD_ADDR, .LDG_RD_DATA, .LDG_CMD, .LDG_CMD_STS, .DEC_BANK_STS, .DEC_COEF_ADDR, .DEC_COEF_DATA, .DEC_COEF_HDR, .DEC_COEF_STS, .DEC_HB_COEF, .DEC_CTX_SRC, .DEC_CTX_CFG, .DEC_CTX_CIC, .DEC_CTX_SHIFT_A, .DEC_CTX_SHIFT_B, .DEC_CTX_PHASE, .DEC_CTX_COEF, .DEC_CTX_OUTQ, .DEC_CTX_CMD, .DEC_CTX_STS, .DEC_CTX_SEQ, .DEC_CTX_SETTLE, .DEC_CTX_CNT, .DEC_CTX_AT_LO, .DEC_CTX_AT_HI, .MADC_TAP, .MADC_STS, .MADC_RB, .MADC_CHK, .MADC_CMD, .MADC_CMD_STS, .TRG_CFG, .TRG_WIN, .TRG_AUTO, .TRG_OUTQ]

/-- Register names, part 3. -/
def allRegs3 : List Reg := [.TRG_SRC, .TRG_ARG, .TRG_LL_LO, .TRG_LL_HI, .TRG_UL_LO, .TRG_UL_HI, .TRG_CMD, .TRG_STS, .TRG_SEQ, .TRG_LAST_LO, .TRG_LAST_HI, .TRG_J_LO, .TRG_J_HI, .TRG_AT_LO, .TRG_AT_HI, .TRG_TB_CFG, .TRG_TB_STS, .TRG_TBL, .TRG_PIN, .TRG_PDLY, .TRG_PSTS, .ACQ_CFG, .ACQ_PRE, .ACQ_POST, .ACQ_POST_T, .ACQ_NSEG, .ACQ_HOLDOFF, .ACQ_REGION, .ACQ_STAGE, .ACQ_CHMASK, .ACQ_RRANGE, .ACQ_CMD, .ACQ_STS, .ACQ_SEGS, .ACQ_SEG_RD, .ACQ_SLOTS, .ACQ_SLOT_SZ, .ACQ_LOST_LO, .ACQ_LOST_HI, .ACQ_SKIP]

/-- Register names, part 4. -/
def allRegs4 : List Reg := [.ACQ_OVW, .ACQ_AT_LO, .ACQ_AT_HI, .QUE_CMD, .QUE_CMD_STS, .QUE_SLICE_STS, .QUE_SYSQ_FLT, .QUE_SYSQ_LNK, .QUE_SYSQ_LVL, .QUE_POP_SEL, .QUE_POP_STS, .QUE_POP_W, .QUE_Q_CFG, .QUE_Q_PRI, .QUE_Q_COUNT, .QUE_CTL, .QUE_Q_STS, .QUE_Q_IN_LO, .QUE_Q_IN_HI, .QUE_Q_SKIP, .LNK_CFG, .LNK_STS, .LNK_CMD, .LNK_CMD_STS, .LNK_SYNC_CFG, .LNK_ASYM, .LNK_RTT, .LNK_DELAY, .LNK_SYNC_STS, .LNK_CREDIT, .LNK_AUDIT, .LNK_RETRY, .LNK_TMO, .LNK_EVT_CFG, .LNK_BOARD, .LNK_FLITS_LO, .LNK_FLITS_HI, .LNK_VCNT, .LNK_CHEN, .LNK_CNT_LO]

/-- Register names, part 5. -/
def allRegs5 : List Reg := [.LNK_CNT_HI, .ENG_POOL, .ENG_RSV, .ENG_QPOOL, .ENG_CMD, .ENG_CMD_STS, .ENG_HO_STS, .ENG_HO_T_LO, .ENG_HO_T_HI, .ENG_TASK_SEL, .ENG_TASK_INFO, .ENG_GOLD, .ENG_FUNC, .ENG_STS, .ENG_MCHK, .ENG_USE, .ENG_ECC, .ENG_CS_ADDR, .ENG_CS_DATA, .ENG_CS_PAR, .ENG_CTX, .DRM_STS, .DRM_SCRUB, .DRM_ERR, .DRM_CE_CNT, .DRM_UE_CNT, .DRM_ERR_ADDR_LO, .DRM_ERR_ADDR_HI, .DRM_RETIRE, .DRM_CMD, .DRM_CMD_STS, .DRM_RG_CFG, .DRM_RG_BASE, .DRM_RG_SIZE, .DRM_RG_STS, .DRM_RG_WR_LO, .DRM_RG_WR_HI, .DRM_RG_RD_LO, .DRM_RG_RD_HI, .DRM_RG_SP_LO]

/-- Register names, part 6. -/
def allRegs6 : List Reg := [.DRM_RG_SP_HI, .NVS_CFG, .NVS_CMD, .NVS_CMD_STS, .NVS_XR_ADDR_LO, .NVS_XR_ADDR_HI, .NVS_XR_SLOT, .NVS_XR_CMD, .NVS_XR_STS, .NVS_DRV_STS, .NVS_DRV_SLOTS, .NVS_DRV_NEXT, .NVS_DRV_ERR, .NVS_DRV_EXT_LO, .NVS_DRV_EXT_HI, .HST_LINK, .HST_CFG, .HST_STS, .HST_ERR_CNT, .HST_BAR2_BASE, .HST_CQ_BASE_LO, .HST_CQ_BASE_HI, .HST_CQ_CFG, .HST_CQ_PTR, .HST_CPL_BASE_LO, .HST_CPL_BASE_HI, .HST_CPL_CFG, .HST_CPL_PTR, .HST_DB_VAL, .HST_SMB_CFG, .HST_RING_NTF0, .HST_RING_NTF1, .HST_RING_BASE_LO, .HST_RING_BASE_HI, .HST_RING_WB_LO, .HST_RING_WB_HI, .HST_RING_CFG, .HST_RING_STS, .HST_RING_HEAD_LO, .HST_RING_HEAD_HI]

/-- Register names, part 7. -/
def allRegs7 : List Reg := [.HST_RING_TAIL_LO, .HST_RING_TAIL_HI, .EVT_RAW, .EVT_PEND, .EVT_MASK, .EVT_ALERT, .EVT_ROUTE, .EVT_VEC, .CAS_ID, .CAS_CFG, .CAS_STS, .CAS_CMD, .CAS_CMD_STS, .CAS_MEM_LO, .CAS_MEM_HI, .CAS_LINE_DLY, .CAS_OFFSET, .CAS_LNK_CFG, .CAS_LNK_STS, .CAS_LNK_ASYM, .CAS_LNK_RTT, .CAS_LNK_DELAY, .CAS_LNK_CREDIT, .CAS_LNK_AUDIT, .CAS_LNK_RETRY, .CAS_LNK_VCNT, .CAS_TUNOUT_CFG, .CAS_TUNOUT_CNT, .CAS_TUNIN_CFG, .CAS_TUNIN_STS, .BOOT_STS, .BOOT_CAUSE, .BOOT_CNT, .BOOT_STRAP, .BOOT_IMG_VER, .BOOT_IMG_OTHER, .BOOT_TIME, .BOOT_SKIP, .BOOT_CMD, .BOOT_CMD_STS]

/-- Register names, part 8. -/
def allRegs8 : List Reg := [.BOOT_LOCK, .BOOT_FL_ADDR, .BOOT_FL_IDX, .BOOT_FL_DATA, .BOOT_FL_CMD, .BOOT_FL_STS, .BOOT_OTP_STS, .BOOT_OTP_DIG, .FLT_CTL, .FLT_STS, .FLT_ESC, .FLT_OPEN_LO, .FLT_OPEN_HI, .FLT_SEL, .FLT_REC_HDR, .FLT_REC_STS, .FLT_REC_CAUSE, .FLT_REC_DETAIL, .FLT_REC_T0_LO, .FLT_REC_T0_HI, .FLT_REC_TL_LO, .FLT_REC_TL_HI, .FLT_REC_TMR, .FLT_ACK, .FLT_ACK_STS, .FLT_INJ, .PWR_STS, .PWR_VIN, .PWR_VIN_CFG, .PWR_RAIL, .PWR_DOM, .PWR_DOM_REQ, .PWR_DOM_STS, .PWR_TEMP, .PWR_TEMP_THR, .PWR_TMR_CFG, .PWR_TMR_PER, .RPR_LANE, .RPR_NOSPARE, .RPR_ENG]

/-- Register names, part 9. -/
def allRegs9 : List Reg := [.RPR_MADC, .RPR_QROW, .RPR_LDG, .RPR_DRAM, .RPR_DEC]

/-- Every register name, in map order. -/
def allRegs : List Reg :=
  allRegs0 ++ allRegs1 ++ allRegs2 ++ allRegs3 ++ allRegs4 ++ allRegs5 ++ allRegs6 ++ allRegs7 ++ allRegs8 ++ allRegs9

/-! The named fields. -/
namespace F
abbrev GLB_ID : Fld := ⟨.GLB_ID, 0, 32⟩
abbrev GLB_STATE_state : Fld := ⟨.GLB_STATE, 0, 3⟩
abbrev GLB_STATE_halt_cause : Fld := ⟨.GLB_STATE, 4, 4⟩
abbrev GLB_STATE_wake_cause : Fld := ⟨.GLB_STATE, 8, 4⟩
abbrev GLB_STATE_busy : Fld := ⟨.GLB_STATE, 12, 1⟩
abbrev GLB_CMD_cmd : Fld := ⟨.GLB_CMD, 0, 4⟩
abbrev GLB_CMD_STS_last_cmd : Fld := ⟨.GLB_CMD_STS, 0, 4⟩
abbrev GLB_CMD_STS_result : Fld := ⟨.GLB_CMD_STS, 4, 2⟩
abbrev GLB_CMD_STS_seq : Fld := ⟨.GLB_CMD_STS, 8, 8⟩
abbrev GLB_HZN_D_LO : Fld := ⟨.GLB_HZN_D_LO, 0, 32⟩
abbrev GLB_HZN_D_HI : Fld := ⟨.GLB_HZN_D_HI, 0, 32⟩
abbrev GLB_HZN_R_LO : Fld := ⟨.GLB_HZN_R_LO, 0, 32⟩
abbrev GLB_HZN_R_HI : Fld := ⟨.GLB_HZN_R_HI, 0, 32⟩
abbrev GLB_LATE_CNT : Fld := ⟨.GLB_LATE_CNT, 0, 32⟩
abbrev PRT_CFG_en : Fld := ⟨.PRT_CFG, 0, 1⟩
abbrev PRT_CFG_class : Fld := ⟨.PRT_CFG, 1, 1⟩
abbrev PRT_CFG_mode : Fld := ⟨.PRT_CFG, 2, 1⟩
abbrev PRT_CFG_term : Fld := ⟨.PRT_CFG, 4, 2⟩
abbrev PRT_WIN_thr_lo : Fld := ⟨.PRT_WIN, 0, 12⟩
abbrev PRT_WIN_thr_hi : Fld := ⟨.PRT_WIN, 16, 12⟩
abbrev PRT_HYST_hyst_hi : Fld := ⟨.PRT_HYST, 0, 7⟩
abbrev PRT_HYST_hyst_lo : Fld := ⟨.PRT_HYST, 8, 7⟩
abbrev PRT_FILT_win_hi : Fld := ⟨.PRT_FILT, 0, 6⟩
abbrev PRT_FILT_win_lo : Fld := ⟨.PRT_FILT, 8, 6⟩
abbrev PRT_PSC_div_hi : Fld := ⟨.PRT_PSC, 0, 16⟩
abbrev PRT_PSC_div_lo : Fld := ⟨.PRT_PSC, 16, 16⟩
abbrev PRT_LVL_level : Fld := ⟨.PRT_LVL, 0, 2⟩
abbrev PRT_LVL_hi_state : Fld := ⟨.PRT_LVL, 2, 1⟩
abbrev PRT_LVL_lo_state : Fld := ⟨.PRT_LVL, 3, 1⟩
abbrev PRT_LVL_hi_known : Fld := ⟨.PRT_LVL, 4, 1⟩
abbrev PRT_LVL_lo_known : Fld := ⟨.PRT_LVL, 5, 1⟩
abbrev PRT_LVL_hold : Fld := ⟨.PRT_LVL, 6, 1⟩
abbrev PRT_STS_win_err : Fld := ⟨.PRT_STS, 0, 1⟩
abbrev PRT_STS_cfg_err : Fld := ⟨.PRT_STS, 1, 1⟩
abbrev PRT_STS_thr_settle : Fld := ⟨.PRT_STS, 2, 1⟩
abbrev PRT_SER : Fld := ⟨.PRT_SER, 0, 32⟩
abbrev PRT_CNTU_LO : Fld := ⟨.PRT_CNTU_LO, 0, 32⟩
abbrev PRT_CNTU_HI : Fld := ⟨.PRT_CNTU_HI, 0, 32⟩
abbrev PRT_CNTL_LO : Fld := ⟨.PRT_CNTL_LO, 0, 32⟩
abbrev PRT_CNTL_HI : Fld := ⟨.PRT_CNTL_HI, 0, 32⟩
abbrev PRT_EVT_EN_rise_hi : Fld := ⟨.PRT_EVT_EN, 0, 1⟩
abbrev PRT_EVT_EN_fall_hi : Fld := ⟨.PRT_EVT_EN, 1, 1⟩
abbrev PRT_EVT_EN_rise_lo : Fld := ⟨.PRT_EVT_EN, 2, 1⟩
abbrev PRT_EVT_EN_fall_lo : Fld := ⟨.PRT_EVT_EN, 3, 1⟩
abbrev PRT_EVT_STS_rise_hi : Fld := ⟨.PRT_EVT_STS, 0, 1⟩
abbrev PRT_EVT_STS_fall_hi : Fld := ⟨.PRT_EVT_STS, 1, 1⟩
abbrev PRT_EVT_STS_rise_lo : Fld := ⟨.PRT_EVT_STS, 2, 1⟩
abbrev PRT_EVT_STS_fall_lo : Fld := ⟨.PRT_EVT_STS, 3, 1⟩
abbrev PRT_WAKE_mask : Fld := ⟨.PRT_WAKE, 0, 3⟩
abbrev PRT_WAKE_en : Fld := ⟨.PRT_WAKE, 8, 1⟩
abbrev PRT_CHK_CTL_run : Fld := ⟨.PRT_CHK_CTL, 0, 1⟩
abbrev PRT_CHK_CTL_mode : Fld := ⟨.PRT_CHK_CTL, 1, 2⟩
abbrev PRT_CHK_CTL_abort : Fld := ⟨.PRT_CHK_CTL, 3, 1⟩
abbrev PRT_CHK_STS_busy : Fld := ⟨.PRT_CHK_STS, 0, 1⟩
abbrev PRT_CHK_STS_pending : Fld := ⟨.PRT_CHK_STS, 1, 1⟩
abbrev PRT_CHK_STS_result : Fld := ⟨.PRT_CHK_STS, 2, 2⟩
abbrev PRT_CHK_STS_fail_step : Fld := ⟨.PRT_CHK_STS, 4, 3⟩
abbrev PRT_CHK_STS_refused : Fld := ⟨.PRT_CHK_STS, 8, 1⟩
abbrev PRT_CHK_STS_runs : Fld := ⟨.PRT_CHK_STS, 16, 16⟩
abbrev PRT_CHK_T_LO : Fld := ⟨.PRT_CHK_T_LO, 0, 32⟩
abbrev PRT_CHK_T_HI : Fld := ⟨.PRT_CHK_T_HI, 0, 32⟩
abbrev PRT_RB_err_hi : Fld := ⟨.PRT_RB, 0, 8⟩
abbrev PRT_RB_err_lo : Fld := ⟨.PRT_RB, 8, 8⟩
abbrev PRT_RB_mis_hi : Fld := ⟨.PRT_RB, 16, 1⟩
abbrev PRT_RB_mis_lo : Fld := ⟨.PRT_RB, 17, 1⟩
abbrev PRT_VTT_code : Fld := ⟨.PRT_VTT, 0, 10⟩
abbrev PRT_VTT_ovld : Fld := ⟨.PRT_VTT, 16, 1⟩
abbrev PRT_CHK_IDLE_ticks : Fld := ⟨.PRT_CHK_IDLE, 0, 24⟩
abbrev PRT_CHK_PERIOD : Fld := ⟨.PRT_CHK_PERIOD, 0, 32⟩
abbrev PRT_RB_CTL_en : Fld := ⟨.PRT_RB_CTL, 0, 1⟩
abbrev PRT_RB_CTL_interval : Fld := ⟨.PRT_RB_CTL, 8, 8⟩
abbrev PRT_WAKE_SRC_port : Fld := ⟨.PRT_WAKE_SRC, 0, 7⟩
abbrev PRT_WAKE_SRC_level : Fld := ⟨.PRT_WAKE_SRC, 8, 2⟩
abbrev PRT_WAKE_SRC_valid : Fld := ⟨.PRT_WAKE_SRC, 15, 1⟩
abbrev PRT_LVL_ALL : Fld := ⟨.PRT_LVL_ALL, 0, 32⟩
abbrev TB_REF_CFG_freq : Fld := ⟨.TB_REF_CFG, 0, 1⟩
abbrev TB_REF_CFG_std : Fld := ⟨.TB_REF_CFG, 1, 1⟩
abbrev TB_PLL_STS_lock : Fld := ⟨.TB_PLL_STS, 0, 1⟩
abbrev TB_PLL_STS_holdover : Fld := ⟨.TB_PLL_STS, 1, 1⟩
abbrev TB_PLL_STS_ref_loss : Fld := ⟨.TB_PLL_STS, 2, 1⟩
abbrev TB_PLL_STS_relock : Fld := ⟨.TB_PLL_STS, 3, 1⟩
abbrev TB_PLL_STS_loss_cnt : Fld := ⟨.TB_PLL_STS, 16, 16⟩
abbrev TB_NOW_LO : Fld := ⟨.TB_NOW_LO, 0, 32⟩
abbrev TB_NOW_HI : Fld := ⟨.TB_NOW_HI, 0, 32⟩
abbrev TB_EPOCH_epoch : Fld := ⟨.TB_EPOCH, 0, 16⟩
abbrev TB_OUT_CFG_en : Fld := ⟨.TB_OUT_CFG, 0, 1⟩
abbrev TB_OUT_CFG_src : Fld := ⟨.TB_OUT_CFG, 1, 1⟩
abbrev TB_CAL_CTL_sched_en : Fld := ⟨.TB_CAL_CTL, 0, 1⟩
abbrev TB_CAL_CTL_dtemp : Fld := ⟨.TB_CAL_CTL, 8, 8⟩
abbrev TB_CAL_CTL_period : Fld := ⟨.TB_CAL_CTL, 16, 16⟩
abbrev TB_CAL_CMD_lane : Fld := ⟨.TB_CAL_CMD, 0, 8⟩
abbrev TB_CAL_CMD_op : Fld := ⟨.TB_CAL_CMD, 8, 3⟩
abbrev TB_CAL_STS_lane : Fld := ⟨.TB_CAL_STS, 0, 8⟩
abbrev TB_CAL_STS_op : Fld := ⟨.TB_CAL_STS, 8, 3⟩
abbrev TB_CAL_STS_busy : Fld := ⟨.TB_CAL_STS, 11, 1⟩
abbrev TB_CAL_STS_result : Fld := ⟨.TB_CAL_STS, 12, 3⟩
abbrev TB_CAL_STS_nospare : Fld := ⟨.TB_CAL_STS, 15, 1⟩
abbrev TB_CAL_STS_seq : Fld := ⟨.TB_CAL_STS, 24, 8⟩
abbrev TB_DIST_STS_mism : Fld := ⟨.TB_DIST_STS, 0, 1⟩
abbrev TB_DIST_STS_island : Fld := ⟨.TB_DIST_STS, 8, 6⟩
abbrev TB_DIST_STS_count : Fld := ⟨.TB_DIST_STS, 16, 16⟩
abbrev TB_TBL_ADDR_entry : Fld := ⟨.TB_TBL_ADDR, 0, 10⟩
abbrev TB_TBL_ADDR_lane : Fld := ⟨.TB_TBL_ADDR, 16, 8⟩
abbrev TB_TBL_DATA_value : Fld := ⟨.TB_TBL_DATA, 0, 16⟩
abbrev TB_SVC_EN_en : Fld := ⟨.TB_SVC_EN, 0, 5⟩
abbrev TB_SVC_SER : Fld := ⟨.TB_SVC_SER, 0, 32⟩
abbrev TB_SVC_CNT_LO : Fld := ⟨.TB_SVC_CNT_LO, 0, 32⟩
abbrev TB_SVC_CNT_HI : Fld := ⟨.TB_SVC_CNT_HI, 0, 32⟩
abbrev TB_LANE_STS_state : Fld := ⟨.TB_LANE_STS, 0, 3⟩
abbrev TB_LANE_STS_partner : Fld := ⟨.TB_LANE_STS, 4, 8⟩
abbrev TB_LANE_STS_cal_valid : Fld := ⟨.TB_LANE_STS, 12, 1⟩
abbrev TB_LANE_CAL_max_bin : Fld := ⟨.TB_LANE_CAL, 0, 8⟩
abbrev TB_LANE_CAL_shift : Fld := ⟨.TB_LANE_CAL, 8, 8⟩
abbrev TB_LANE_CAL_slot_err : Fld := ⟨.TB_LANE_CAL, 16, 8⟩
abbrev TB_LANE_CAL_passes : Fld := ⟨.TB_LANE_CAL, 24, 8⟩
abbrev TB_LANE_CORR_corr : Fld := ⟨.TB_LANE_CORR, 0, 16⟩
abbrev TB_LANE_DCAL_dcal : Fld := ⟨.TB_LANE_DCAL, 0, 16⟩
abbrev TB_LANE_CALT_LO : Fld := ⟨.TB_LANE_CALT_LO, 0, 32⟩
abbrev TB_LANE_CALT_HI : Fld := ⟨.TB_LANE_CALT_HI, 0, 32⟩
abbrev TB_LANE_SER : Fld := ⟨.TB_LANE_SER, 0, 32⟩
abbrev TB_LANE_HCNT_done : Fld := ⟨.TB_LANE_HCNT, 0, 16⟩
abbrev TB_LANE_HCNT_aborted : Fld := ⟨.TB_LANE_HCNT, 16, 16⟩
abbrev TB_SPR_CORR_corr : Fld := ⟨.TB_SPR_CORR, 0, 16⟩
abbrev TLY_CTL_audit_en : Fld := ⟨.TLY_CTL, 0, 1⟩
abbrev TLY_STS_n_inexact : Fld := ⟨.TLY_STS, 0, 13⟩
abbrev TLY_STS_n_bound : Fld := ⟨.TLY_STS, 16, 13⟩
abbrev TLY_AUDIT_CNT : Fld := ⟨.TLY_AUDIT_CNT, 0, 32⟩
abbrev TLY_CMD_slot : Fld := ⟨.TLY_CMD, 0, 13⟩
abbrev TLY_CMD_op : Fld := ⟨.TLY_CMD, 16, 3⟩
abbrev TLY_CMD_STS_slot : Fld := ⟨.TLY_CMD_STS, 0, 13⟩
abbrev TLY_CMD_STS_op : Fld := ⟨.TLY_CMD_STS, 16, 3⟩
abbrev TLY_CMD_STS_result : Fld := ⟨.TLY_CMD_STS, 19, 2⟩
abbrev TLY_CMD_STS_seq : Fld := ⟨.TLY_CMD_STS, 24, 8⟩
abbrev TLY_PRESET_LO : Fld := ⟨.TLY_PRESET_LO, 0, 32⟩
abbrev TLY_PRESET_HI : Fld := ⟨.TLY_PRESET_HI, 0, 32⟩
abbrev TLY_CFG_dir : Fld := ⟨.TLY_CFG, 0, 2⟩
abbrev TLY_CFG_dir0 : Fld := ⟨.TLY_CFG, 2, 1⟩
abbrev TLY_Q_LO : Fld := ⟨.TLY_Q_LO, 0, 32⟩
abbrev TLY_Q_HI : Fld := ⟨.TLY_Q_HI, 0, 32⟩
abbrev TLY_NT_LO : Fld := ⟨.TLY_NT_LO, 0, 32⟩
abbrev TLY_NT_HI : Fld := ⟨.TLY_NT_HI, 0, 32⟩
abbrev TLY_FRAC : Fld := ⟨.TLY_FRAC, 0, 32⟩
abbrev TLY_FLG_inexact : Fld := ⟨.TLY_FLG, 0, 1⟩
abbrev TLY_FLG_cause : Fld := ⟨.TLY_FLG, 1, 7⟩
abbrev TLY_FLG_cfg_err : Fld := ⟨.TLY_FLG, 8, 1⟩
abbrev TLY_FLG_tflags : Fld := ⟨.TLY_FLG, 9, 7⟩
abbrev TLY_FLG_task : Fld := ⟨.TLY_FLG, 16, 12⟩
abbrev TLY_FLG_bound : Fld := ⟨.TLY_FLG, 28, 1⟩
abbrev TLY_AUD_fixed : Fld := ⟨.TLY_AUD, 0, 16⟩
abbrev TLY_AUD_unfixed : Fld := ⟨.TLY_AUD, 16, 16⟩
abbrev LDG_CTL_interval : Fld := ⟨.LDG_CTL, 0, 16⟩
abbrev LDG_STS_wr : Fld := ⟨.LDG_STS, 0, 2⟩
abbrev LDG_STS_final : Fld := ⟨.LDG_STS, 2, 1⟩
abbrev LDG_STS_mig : Fld := ⟨.LDG_STS, 3, 1⟩
abbrev LDG_STS_hold : Fld := ⟨.LDG_STS, 4, 1⟩
abbrev LDG_STS_nospare : Fld := ⟨.LDG_STS, 5, 1⟩
abbrev LDG_SEQ_LO : Fld := ⟨.LDG_SEQ_LO, 0, 32⟩
abbrev LDG_SEQ_HI : Fld := ⟨.LDG_SEQ_HI, 0, 32⟩
abbrev LDG_RCV_result : Fld := ⟨.LDG_RCV, 0, 3⟩
abbrev LDG_RCV_copy : Fld := ⟨.LDG_RCV, 3, 1⟩
abbrev LDG_RCV_cause : Fld := ⟨.LDG_RCV, 4, 4⟩
abbrev LDG_RCV_mig : Fld := ⟨.LDG_RCV, 8, 2⟩
abbrev LDG_RCV_walked : Fld := ⟨.LDG_RCV, 16, 16⟩
abbrev LDG_SPARE_spares : Fld := ⟨.LDG_SPARE, 0, 7⟩
abbrev LDG_SPARE_retired : Fld := ⟨.LDG_SPARE, 8, 7⟩
abbrev LDG_WEAR : Fld := ⟨.LDG_WEAR, 0, 32⟩
abbrev LDG_MIG_lblock : Fld := ⟨.LDG_MIG, 0, 9⟩
abbrev LDG_MIG_step : Fld := ⟨.LDG_MIG, 9, 3⟩
abbrev LDG_MIG_target : Fld := ⟨.LDG_MIG, 16, 9⟩
abbrev LDG_PF_CFG_thr : Fld := ⟨.LDG_PF_CFG, 0, 8⟩
abbrev LDG_PF_CFG_pin_en : Fld := ⟨.LDG_PF_CFG, 8, 1⟩
abbrev LDG_PF_CFG_vin_en : Fld := ⟨.LDG_PF_CFG, 9, 1⟩
abbrev LDG_PF_STS_warned : Fld := ⟨.LDG_PF_STS, 0, 1⟩
abbrev LDG_PF_STS_src : Fld := ⟨.LDG_PF_STS, 1, 2⟩
abbrev LDG_PF_STS_done : Fld := ⟨.LDG_PF_STS, 3, 1⟩
abbrev LDG_PF_STS_dur : Fld := ⟨.LDG_PF_STS, 16, 16⟩
abbrev LDG_RD_ADDR_line : Fld := ⟨.LDG_RD_ADDR, 0, 19⟩
abbrev LDG_RD_ADDR_word : Fld := ⟨.LDG_RD_ADDR, 19, 4⟩
abbrev LDG_RD_DATA : Fld := ⟨.LDG_RD_DATA, 0, 32⟩
abbrev LDG_CMD_op : Fld := ⟨.LDG_CMD, 0, 4⟩
abbrev LDG_CMD_STS_last_op : Fld := ⟨.LDG_CMD_STS, 0, 4⟩
abbrev LDG_CMD_STS_result : Fld := ⟨.LDG_CMD_STS, 4, 2⟩
abbrev LDG_CMD_STS_seq : Fld := ⟨.LDG_CMD_STS, 8, 8⟩
abbrev DEC_BANK_STS_cost : Fld := ⟨.DEC_BANK_STS, 0, 16⟩
abbrev DEC_BANK_STS_active : Fld := ⟨.DEC_BANK_STS, 16, 11⟩
abbrev DEC_COEF_ADDR_bank : Fld := ⟨.DEC_COEF_ADDR, 0, 8⟩
abbrev DEC_COEF_ADDR_index : Fld := ⟨.DEC_COEF_ADDR, 8, 8⟩
abbrev DEC_COEF_DATA_coef : Fld := ⟨.DEC_COEF_DATA, 0, 24⟩
abbrev DEC_COEF_HDR_ntaps : Fld := ⟨.DEC_COEF_HDR, 0, 9⟩
abbrev DEC_COEF_HDR_df : Fld := ⟨.DEC_COEF_HDR, 16, 5⟩
abbrev DEC_COEF_HDR_valid : Fld := ⟨.DEC_COEF_HDR, 31, 1⟩
abbrev DEC_COEF_STS_busy_err : Fld := ⟨.DEC_COEF_STS, 0, 1⟩
abbrev DEC_COEF_STS_ro_err : Fld := ⟨.DEC_COEF_STS, 1, 1⟩
abbrev DEC_HB_COEF_h : Fld := ⟨.DEC_HB_COEF, 0, 24⟩
abbrev DEC_CTX_SRC_src : Fld := ⟨.DEC_CTX_SRC, 0, 13⟩
abbrev DEC_CTX_SRC_kind : Fld := ⟨.DEC_CTX_SRC, 13, 2⟩
abbrev DEC_CTX_SRC_codes_pos : Fld := ⟨.DEC_CTX_SRC, 16, 7⟩
abbrev DEC_CTX_SRC_codes_neg : Fld := ⟨.DEC_CTX_SRC, 24, 7⟩
abbrev DEC_CTX_CFG_preset : Fld := ⟨.DEC_CTX_CFG, 0, 3⟩
abbrev DEC_CTX_CFG_fmt : Fld := ⟨.DEC_CTX_CFG, 3, 1⟩
abbrev DEC_CTX_CFG_hb2_en : Fld := ⟨.DEC_CTX_CFG, 4, 1⟩
abbrev DEC_CTX_CFG_dcb_en : Fld := ⟨.DEC_CTX_CFG, 5, 1⟩
abbrev DEC_CTX_CFG_dcb_frz : Fld := ⟨.DEC_CTX_CFG, 6, 1⟩
abbrev DEC_CTX_CFG_dcb_seed : Fld := ⟨.DEC_CTX_CFG, 7, 1⟩
abbrev DEC_CTX_CFG_dcb_k : Fld := ⟨.DEC_CTX_CFG, 8, 5⟩
abbrev DEC_CTX_CFG_pkt : Fld := ⟨.DEC_CTX_CFG, 16, 8⟩
abbrev DEC_CTX_CIC_p : Fld := ⟨.DEC_CTX_CIC, 0, 4⟩
abbrev DEC_CTX_CIC_order : Fld := ⟨.DEC_CTX_CIC, 4, 3⟩
abbrev DEC_CTX_CIC_r : Fld := ⟨.DEC_CTX_CIC, 8, 14⟩
abbrev DEC_CTX_SHIFT_A_s1 : Fld := ⟨.DEC_CTX_SHIFT_A, 0, 6⟩
abbrev DEC_CTX_SHIFT_A_s2 : Fld := ⟨.DEC_CTX_SHIFT_A, 8, 6⟩
abbrev DEC_CTX_SHIFT_A_s3 : Fld := ⟨.DEC_CTX_SHIFT_A, 16, 6⟩
abbrev DEC_CTX_SHIFT_A_s4 : Fld := ⟨.DEC_CTX_SHIFT_A, 24, 6⟩
abbrev DEC_CTX_SHIFT_B_s5 : Fld := ⟨.DEC_CTX_SHIFT_B, 0, 6⟩
abbrev DEC_CTX_SHIFT_B_s6 : Fld := ⟨.DEC_CTX_SHIFT_B, 8, 6⟩
abbrev DEC_CTX_PHASE_phase : Fld := ⟨.DEC_CTX_PHASE, 0, 20⟩
abbrev DEC_CTX_COEF_bank : Fld := ⟨.DEC_CTX_COEF, 0, 8⟩
abbrev DEC_CTX_COEF_cur : Fld := ⟨.DEC_CTX_COEF, 8, 8⟩
abbrev DEC_CTX_COEF_pend : Fld := ⟨.DEC_CTX_COEF, 16, 8⟩
abbrev DEC_CTX_COEF_fading : Fld := ⟨.DEC_CTX_COEF, 24, 1⟩
abbrev DEC_CTX_COEF_waiting : Fld := ⟨.DEC_CTX_COEF, 25, 1⟩
abbrev DEC_CTX_OUTQ_queue : Fld := ⟨.DEC_CTX_OUTQ, 0, 11⟩
abbrev DEC_CTX_CMD_op : Fld := ⟨.DEC_CTX_CMD, 0, 3⟩
abbrev DEC_CTX_CMD_at : Fld := ⟨.DEC_CTX_CMD, 3, 1⟩
abbrev DEC_CTX_CMD_code : Fld := ⟨.DEC_CTX_CMD, 4, 4⟩
abbrev DEC_CTX_CMD_bank : Fld := ⟨.DEC_CTX_CMD, 8, 8⟩
abbrev DEC_CTX_STS_state : Fld := ⟨.DEC_CTX_STS, 0, 2⟩
abbrev DEC_CTX_STS_settling : Fld := ⟨.DEC_CTX_STS, 2, 1⟩
abbrev DEC_CTX_STS_staged : Fld := ⟨.DEC_CTX_STS, 3, 1⟩
abbrev DEC_CTX_STS_result : Fld := ⟨.DEC_CTX_STS, 4, 4⟩
abbrev DEC_CTX_STS_seq : Fld := ⟨.DEC_CTX_STS, 8, 8⟩
abbrev DEC_CTX_STS_fade_j : Fld := ⟨.DEC_CTX_STS, 16, 12⟩
abbrev DEC_CTX_SEQ : Fld := ⟨.DEC_CTX_SEQ, 0, 32⟩
abbrev DEC_CTX_SETTLE_smax : Fld := ⟨.DEC_CTX_SETTLE, 0, 16⟩
abbrev DEC_CTX_SETTLE_last : Fld := ⟨.DEC_CTX_SETTLE, 16, 16⟩
abbrev DEC_CTX_CNT_replaced : Fld := ⟨.DEC_CTX_CNT, 0, 16⟩
abbrev DEC_CTX_CNT_sat : Fld := ⟨.DEC_CTX_CNT, 16, 16⟩
abbrev DEC_CTX_AT_LO : Fld := ⟨.DEC_CTX_AT_LO, 0, 32⟩
abbrev DEC_CTX_AT_HI : Fld := ⟨.DEC_CTX_AT_HI, 0, 32⟩
abbrev MADC_TAP_tap : Fld := ⟨.MADC_TAP, 0, 6⟩
abbrev MADC_STS_state : Fld := ⟨.MADC_STS, 0, 2⟩
abbrev MADC_STS_set : Fld := ⟨.MADC_STS, 2, 3⟩
abbrev MADC_STS_slot : Fld := ⟨.MADC_STS, 5, 1⟩
abbrev MADC_STS_chk_fail : Fld := ⟨.MADC_STS, 6, 1⟩
abbrev MADC_RB_tap : Fld := ⟨.MADC_RB, 0, 6⟩
abbrev MADC_RB_uv : Fld := ⟨.MADC_RB, 8, 24⟩
abbrev MADC_CHK_uv : Fld := ⟨.MADC_CHK, 0, 24⟩
abbrev MADC_CHK_passes : Fld := ⟨.MADC_CHK, 24, 8⟩
abbrev MADC_CMD_conv : Fld := ⟨.MADC_CMD, 0, 4⟩
abbrev MADC_CMD_op : Fld := ⟨.MADC_CMD, 4, 3⟩
abbrev MADC_CMD_STS_conv : Fld := ⟨.MADC_CMD_STS, 0, 4⟩
abbrev MADC_CMD_STS_op : Fld := ⟨.MADC_CMD_STS, 4, 3⟩
abbrev MADC_CMD_STS_result : Fld := ⟨.MADC_CMD_STS, 7, 2⟩
abbrev MADC_CMD_STS_seq : Fld := ⟨.MADC_CMD_STS, 16, 8⟩
abbrev TRG_CFG_op : Fld := ⟨.TRG_CFG, 0, 3⟩
abbrev TRG_CFG_use : Fld := ⟨.TRG_CFG, 4, 4⟩
abbrev TRG_CFG_auto : Fld := ⟨.TRG_CFG, 8, 1⟩
abbrev TRG_CFG_evt_en : Fld := ⟨.TRG_CFG, 9, 1⟩
abbrev TRG_CFG_q_en : Fld := ⟨.TRG_CFG, 10, 1⟩
abbrev TRG_WIN : Fld := ⟨.TRG_WIN, 0, 32⟩
abbrev TRG_AUTO : Fld := ⟨.TRG_AUTO, 0, 32⟩
abbrev TRG_OUTQ_queue : Fld := ⟨.TRG_OUTQ, 0, 11⟩
abbrev TRG_SRC_kind : Fld := ⟨.TRG_SRC, 0, 3⟩
abbrev TRG_SRC_codes : Fld := ⟨.TRG_SRC, 8, 7⟩
abbrev TRG_SRC_sel : Fld := ⟨.TRG_SRC, 16, 13⟩
abbrev TRG_ARG : Fld := ⟨.TRG_ARG, 0, 32⟩
abbrev TRG_LL_LO : Fld := ⟨.TRG_LL_LO, 0, 32⟩
abbrev TRG_LL_HI : Fld := ⟨.TRG_LL_HI, 0, 32⟩
abbrev TRG_UL_LO : Fld := ⟨.TRG_UL_LO, 0, 32⟩
abbrev TRG_UL_HI : Fld := ⟨.TRG_UL_HI, 0, 32⟩
abbrev TRG_CMD_op : Fld := ⟨.TRG_CMD, 0, 3⟩
abbrev TRG_CMD_at : Fld := ⟨.TRG_CMD, 3, 1⟩
abbrev TRG_CMD_soft_mask : Fld := ⟨.TRG_CMD, 4, 4⟩
abbrev TRG_STS_state : Fld := ⟨.TRG_STS, 0, 2⟩
abbrev TRG_STS_staged : Fld := ⟨.TRG_STS, 2, 1⟩
abbrev TRG_STS_result : Fld := ⟨.TRG_STS, 4, 4⟩
abbrev TRG_STS_trig : Fld := ⟨.TRG_STS, 8, 1⟩
abbrev TRG_STS_out_late : Fld := ⟨.TRG_STS, 9, 1⟩
abbrev TRG_STS_tb_late : Fld := ⟨.TRG_STS, 10, 1⟩
abbrev TRG_STS_seq : Fld := ⟨.TRG_STS, 16, 8⟩
abbrev TRG_SEQ : Fld := ⟨.TRG_SEQ, 0, 32⟩
abbrev TRG_LAST_LO : Fld := ⟨.TRG_LAST_LO, 0, 32⟩
abbrev TRG_LAST_HI : Fld := ⟨.TRG_LAST_HI, 0, 32⟩
abbrev TRG_J_LO : Fld := ⟨.TRG_J_LO, 0, 32⟩
abbrev TRG_J_HI : Fld := ⟨.TRG_J_HI, 0, 32⟩
abbrev TRG_AT_LO : Fld := ⟨.TRG_AT_LO, 0, 32⟩
abbrev TRG_AT_HI : Fld := ⟨.TRG_AT_HI, 0, 32⟩
abbrev TRG_TB_CFG_lag : Fld := ⟨.TRG_TB_CFG, 0, 24⟩
abbrev TRG_TB_STS_late : Fld := ⟨.TRG_TB_STS, 0, 16⟩
abbrev TRG_TB_STS_merged : Fld := ⟨.TRG_TB_STS, 16, 16⟩
abbrev TRG_TBL_src : Fld := ⟨.TRG_TBL, 0, 4⟩
abbrev TRG_TBL_en : Fld := ⟨.TRG_TBL, 4, 1⟩
abbrev TRG_PIN_dir : Fld := ⟨.TRG_PIN, 0, 1⟩
abbrev TRG_PIN_pol : Fld := ⟨.TRG_PIN, 1, 1⟩
abbrev TRG_PIN_skind : Fld := ⟨.TRG_PIN, 2, 1⟩
abbrev TRG_PIN_src : Fld := ⟨.TRG_PIN, 3, 4⟩
abbrev TRG_PIN_width : Fld := ⟨.TRG_PIN, 8, 16⟩
abbrev TRG_PDLY_delay : Fld := ⟨.TRG_PDLY, 0, 24⟩
abbrev TRG_PSTS_late : Fld := ⟨.TRG_PSTS, 0, 16⟩
abbrev TRG_PSTS_merged : Fld := ⟨.TRG_PSTS, 16, 16⟩
abbrev ACQ_CFG_mode : Fld := ⟨.ACQ_CFG, 0, 2⟩
abbrev ACQ_CFG_pip : Fld := ⟨.ACQ_CFG, 4, 4⟩
abbrev ACQ_CFG_wrap : Fld := ⟨.ACQ_CFG, 8, 1⟩
abbrev ACQ_CFG_codes : Fld := ⟨.ACQ_CFG, 16, 7⟩
abbrev ACQ_PRE_pre : Fld := ⟨.ACQ_PRE, 0, 24⟩
abbrev ACQ_POST : Fld := ⟨.ACQ_POST, 0, 32⟩
abbrev ACQ_POST_T : Fld := ⟨.ACQ_POST_T, 0, 32⟩
abbrev ACQ_NSEG_n : Fld := ⟨.ACQ_NSEG, 0, 24⟩
abbrev ACQ_HOLDOFF_ticks : Fld := ⟨.ACQ_HOLDOFF, 0, 24⟩
abbrev ACQ_REGION_region : Fld := ⟨.ACQ_REGION, 0, 8⟩
abbrev ACQ_STAGE_base : Fld := ⟨.ACQ_STAGE, 0, 8⟩
abbrev ACQ_STAGE_size : Fld := ⟨.ACQ_STAGE, 16, 9⟩
abbrev ACQ_CHMASK : Fld := ⟨.ACQ_CHMASK, 0, 32⟩
abbrev ACQ_RRANGE_first : Fld := ⟨.ACQ_RRANGE, 0, 13⟩
abbrev ACQ_RRANGE_count : Fld := ⟨.ACQ_RRANGE, 16, 13⟩
abbrev ACQ_CMD_op : Fld := ⟨.ACQ_CMD, 0, 2⟩
abbrev ACQ_CMD_at : Fld := ⟨.ACQ_CMD, 2, 1⟩
abbrev ACQ_STS_state : Fld := ⟨.ACQ_STS, 0, 3⟩
abbrev ACQ_STS_result : Fld := ⟨.ACQ_STS, 4, 4⟩
abbrev ACQ_STS_done : Fld := ⟨.ACQ_STS, 8, 1⟩
abbrev ACQ_STS_gap : Fld := ⟨.ACQ_STS, 9, 1⟩
abbrev ACQ_STS_cfg_err : Fld := ⟨.ACQ_STS, 10, 1⟩
abbrev ACQ_STS_pip_off : Fld := ⟨.ACQ_STS, 11, 1⟩
abbrev ACQ_STS_seq : Fld := ⟨.ACQ_STS, 16, 8⟩
abbrev ACQ_SEGS_segs : Fld := ⟨.ACQ_SEGS, 0, 25⟩
abbrev ACQ_SEG_RD_consumed : Fld := ⟨.ACQ_SEG_RD, 0, 25⟩
abbrev ACQ_SLOTS_k : Fld := ⟨.ACQ_SLOTS, 0, 25⟩
abbrev ACQ_SLOT_SZ : Fld := ⟨.ACQ_SLOT_SZ, 0, 32⟩
abbrev ACQ_LOST_LO : Fld := ⟨.ACQ_LOST_LO, 0, 32⟩
abbrev ACQ_LOST_HI : Fld := ⟨.ACQ_LOST_HI, 0, 32⟩
abbrev ACQ_SKIP_skipped : Fld := ⟨.ACQ_SKIP, 0, 16⟩
abbrev ACQ_SKIP_missed : Fld := ⟨.ACQ_SKIP, 16, 16⟩
abbrev ACQ_OVW : Fld := ⟨.ACQ_OVW, 0, 32⟩
abbrev ACQ_AT_LO : Fld := ⟨.ACQ_AT_LO, 0, 32⟩
abbrev ACQ_AT_HI : Fld := ⟨.ACQ_AT_HI, 0, 32⟩
abbrev QUE_CMD_queue : Fld := ⟨.QUE_CMD, 0, 11⟩
abbrev QUE_CMD_op : Fld := ⟨.QUE_CMD, 16, 3⟩
abbrev QUE_CMD_STS_queue : Fld := ⟨.QUE_CMD_STS, 0, 11⟩
abbrev QUE_CMD_STS_op : Fld := ⟨.QUE_CMD_STS, 16, 3⟩
abbrev QUE_CMD_STS_result : Fld := ⟨.QUE_CMD_STS, 19, 2⟩
abbrev QUE_CMD_STS_seq : Fld := ⟨.QUE_CMD_STS, 24, 8⟩
abbrev QUE_SLICE_STS_spares : Fld := ⟨.QUE_SLICE_STS, 0, 9⟩
abbrev QUE_SLICE_STS_repaired : Fld := ⟨.QUE_SLICE_STS, 16, 9⟩
abbrev QUE_SYSQ_FLT_queue : Fld := ⟨.QUE_SYSQ_FLT, 0, 11⟩
abbrev QUE_SYSQ_FLT_en : Fld := ⟨.QUE_SYSQ_FLT, 15, 1⟩
abbrev QUE_SYSQ_LNK_queue : Fld := ⟨.QUE_SYSQ_LNK, 0, 11⟩
abbrev QUE_SYSQ_LNK_en : Fld := ⟨.QUE_SYSQ_LNK, 15, 1⟩
abbrev QUE_SYSQ_LVL_queue : Fld := ⟨.QUE_SYSQ_LVL, 0, 11⟩
abbrev QUE_SYSQ_LVL_en : Fld := ⟨.QUE_SYSQ_LVL, 15, 1⟩
abbrev QUE_POP_SEL_queue : Fld := ⟨.QUE_POP_SEL, 0, 11⟩
abbrev QUE_POP_STS_eop : Fld := ⟨.QUE_POP_STS, 0, 1⟩
abbrev QUE_POP_STS_nv : Fld := ⟨.QUE_POP_STS, 1, 1⟩
abbrev QUE_POP_STS_wrong : Fld := ⟨.QUE_POP_STS, 2, 1⟩
abbrev QUE_POP_W : Fld := ⟨.QUE_POP_W, 0, 32⟩
abbrev QUE_Q_CFG_en : Fld := ⟨.QUE_Q_CFG, 0, 1⟩
abbrev QUE_Q_CFG_cons : Fld := ⟨.QUE_Q_CFG, 1, 3⟩
abbrev QUE_Q_CFG_cidx : Fld := ⟨.QUE_Q_CFG, 8, 8⟩
abbrev QUE_Q_CFG_prod : Fld := ⟨.QUE_Q_CFG, 16, 2⟩
abbrev QUE_Q_CFG_pidx : Fld := ⟨.QUE_Q_CFG, 24, 5⟩
abbrev QUE_Q_PRI_sys : Fld := ⟨.QUE_Q_PRI, 0, 2⟩
abbrev QUE_Q_PRI_rtr : Fld := ⟨.QUE_Q_PRI, 2, 2⟩
abbrev QUE_Q_PRI_unit : Fld := ⟨.QUE_Q_PRI, 4, 2⟩
abbrev QUE_Q_PRI_eng : Fld := ⟨.QUE_Q_PRI, 6, 2⟩
abbrev QUE_Q_COUNT_depth : Fld := ⟨.QUE_Q_COUNT, 0, 13⟩
abbrev QUE_Q_COUNT_mark : Fld := ⟨.QUE_Q_COUNT, 13, 1⟩
abbrev QUE_Q_COUNT_open : Fld := ⟨.QUE_Q_COUNT, 14, 1⟩
abbrev QUE_Q_COUNT_disc : Fld := ⟨.QUE_Q_COUNT, 15, 1⟩
abbrev QUE_Q_COUNT_drops : Fld := ⟨.QUE_Q_COUNT, 16, 16⟩
abbrev QUE_CTL_skip_pkt : Fld := ⟨.QUE_CTL, 0, 1⟩
abbrev QUE_CTL_flush : Fld := ⟨.QUE_CTL, 1, 1⟩
abbrev QUE_Q_STS_skip_none : Fld := ⟨.QUE_Q_STS, 0, 1⟩
abbrev QUE_Q_STS_cfg_err : Fld := ⟨.QUE_Q_STS, 1, 1⟩
abbrev QUE_Q_STS_bad : Fld := ⟨.QUE_Q_STS, 2, 1⟩
abbrev QUE_Q_STS_flushed : Fld := ⟨.QUE_Q_STS, 3, 1⟩
abbrev QUE_Q_IN_LO : Fld := ⟨.QUE_Q_IN_LO, 0, 32⟩
abbrev QUE_Q_IN_HI : Fld := ⟨.QUE_Q_IN_HI, 0, 32⟩
abbrev QUE_Q_SKIP : Fld := ⟨.QUE_Q_SKIP, 0, 32⟩
abbrev LNK_CFG_en : Fld := ⟨.LNK_CFG, 0, 1⟩
abbrev LNK_CFG_rate : Fld := ⟨.LNK_CFG, 1, 2⟩
abbrev LNK_STS_state : Fld := ⟨.LNK_STS, 0, 3⟩
abbrev LNK_STS_rate_act : Fld := ⟨.LNK_STS, 3, 1⟩
abbrev LNK_STS_time_ok : Fld := ⟨.LNK_STS, 4, 1⟩
abbrev LNK_STS_chg : Fld := ⟨.LNK_STS, 5, 1⟩
abbrev LNK_STS_audit_fail : Fld := ⟨.LNK_STS, 6, 1⟩
abbrev LNK_STS_trains : Fld := ⟨.LNK_STS, 16, 16⟩
abbrev LNK_CMD_op : Fld := ⟨.LNK_CMD, 0, 2⟩
abbrev LNK_CMD_STS_last_op : Fld := ⟨.LNK_CMD_STS, 0, 2⟩
abbrev LNK_CMD_STS_result : Fld := ⟨.LNK_CMD_STS, 2, 2⟩
abbrev LNK_CMD_STS_seq : Fld := ⟨.LNK_CMD_STS, 8, 8⟩
abbrev LNK_SYNC_CFG_period : Fld := ⟨.LNK_SYNC_CFG, 0, 8⟩
abbrev LNK_SYNC_CFG_tol : Fld := ⟨.LNK_SYNC_CFG, 8, 8⟩
abbrev LNK_ASYM_asym : Fld := ⟨.LNK_ASYM, 0, 16⟩
abbrev LNK_RTT_rtt : Fld := ⟨.LNK_RTT, 0, 24⟩
abbrev LNK_DELAY_d : Fld := ⟨.LNK_DELAY, 0, 24⟩
abbrev LNK_SYNC_STS_err : Fld := ⟨.LNK_SYNC_STS, 0, 16⟩
abbrev LNK_SYNC_STS_errmax : Fld := ⟨.LNK_SYNC_STS, 16, 16⟩
abbrev LNK_CREDIT_ungranted : Fld := ⟨.LNK_CREDIT, 0, 7⟩
abbrev LNK_CREDIT_occupied : Fld := ⟨.LNK_CREDIT, 8, 7⟩
abbrev LNK_CREDIT_granted : Fld := ⟨.LNK_CREDIT, 16, 7⟩
abbrev LNK_AUDIT_passed : Fld := ⟨.LNK_AUDIT, 0, 16⟩
abbrev LNK_AUDIT_failed : Fld := ⟨.LNK_AUDIT, 16, 16⟩
abbrev LNK_RETRY_naks : Fld := ⟨.LNK_RETRY, 0, 16⟩
abbrev LNK_RETRY_replays : Fld := ⟨.LNK_RETRY, 16, 16⟩
abbrev LNK_TMO_loss : Fld := ⟨.LNK_TMO, 0, 8⟩
abbrev LNK_TMO_ack : Fld := ⟨.LNK_TMO, 8, 8⟩
abbrev LNK_TMO_retrain : Fld := ⟨.LNK_TMO, 16, 8⟩
abbrev LNK_EVT_CFG_gap : Fld := ⟨.LNK_EVT_CFG, 0, 16⟩
abbrev LNK_BOARD_id : Fld := ⟨.LNK_BOARD, 0, 16⟩
abbrev LNK_BOARD_chans : Fld := ⟨.LNK_BOARD, 16, 9⟩
abbrev LNK_FLITS_LO : Fld := ⟨.LNK_FLITS_LO, 0, 32⟩
abbrev LNK_FLITS_HI : Fld := ⟨.LNK_FLITS_HI, 0, 32⟩
abbrev LNK_VCNT : Fld := ⟨.LNK_VCNT, 0, 32⟩
abbrev LNK_CHEN : Fld := ⟨.LNK_CHEN, 0, 32⟩
abbrev LNK_CNT_LO : Fld := ⟨.LNK_CNT_LO, 0, 32⟩
abbrev LNK_CNT_HI : Fld := ⟨.LNK_CNT_HI, 0, 32⟩
abbrev ENG_POOL_active : Fld := ⟨.ENG_POOL, 0, 8⟩
abbrev ENG_POOL_spare : Fld := ⟨.ENG_POOL, 8, 8⟩
abbrev ENG_POOL_retired : Fld := ⟨.ENG_POOL, 16, 8⟩
abbrev ENG_RSV_reserve : Fld := ⟨.ENG_RSV, 0, 5⟩
abbrev ENG_QPOOL_first : Fld := ⟨.ENG_QPOOL, 0, 10⟩
abbrev ENG_QPOOL_last : Fld := ⟨.ENG_QPOOL, 16, 10⟩
abbrev ENG_CMD_op : Fld := ⟨.ENG_CMD, 0, 3⟩
abbrev ENG_CMD_task : Fld := ⟨.ENG_CMD, 4, 12⟩
abbrev ENG_CMD_eng : Fld := ⟨.ENG_CMD, 16, 8⟩
abbrev ENG_CMD_tgt : Fld := ⟨.ENG_CMD, 24, 8⟩
abbrev ENG_CMD_STS_last_op : Fld := ⟨.ENG_CMD_STS, 0, 3⟩
abbrev ENG_CMD_STS_busy : Fld := ⟨.ENG_CMD_STS, 3, 1⟩
abbrev ENG_CMD_STS_result : Fld := ⟨.ENG_CMD_STS, 4, 3⟩
abbrev ENG_CMD_STS_seq : Fld := ⟨.ENG_CMD_STS, 8, 8⟩
abbrev ENG_HO_STS_step : Fld := ⟨.ENG_HO_STS, 0, 3⟩
abbrev ENG_HO_STS_imm : Fld := ⟨.ENG_HO_STS, 3, 1⟩
abbrev ENG_HO_STS_src : Fld := ⟨.ENG_HO_STS, 4, 8⟩
abbrev ENG_HO_STS_tgt : Fld := ⟨.ENG_HO_STS, 12, 8⟩
abbrev ENG_HO_STS_buf : Fld := ⟨.ENG_HO_STS, 20, 12⟩
abbrev ENG_HO_T_LO : Fld := ⟨.ENG_HO_T_LO, 0, 32⟩
abbrev ENG_HO_T_HI : Fld := ⟨.ENG_HO_T_HI, 0, 32⟩
abbrev ENG_TASK_SEL_task : Fld := ⟨.ENG_TASK_SEL, 0, 12⟩
abbrev ENG_TASK_INFO_eng : Fld := ⟨.ENG_TASK_INFO, 0, 8⟩
abbrev ENG_TASK_INFO_ctx : Fld := ⟨.ENG_TASK_INFO, 8, 5⟩
abbrev ENG_TASK_INFO_placed : Fld := ⟨.ENG_TASK_INFO, 13, 1⟩
abbrev ENG_TASK_INFO_moving : Fld := ⟨.ENG_TASK_INFO, 14, 1⟩
abbrev ENG_TASK_INFO_outq : Fld := ⟨.ENG_TASK_INFO, 16, 11⟩
abbrev ENG_GOLD : Fld := ⟨.ENG_GOLD, 0, 32⟩
abbrev ENG_FUNC_frame : Fld := ⟨.ENG_FUNC, 0, 8⟩
abbrev ENG_FUNC_valid : Fld := ⟨.ENG_FUNC, 8, 1⟩
abbrev ENG_FUNC_hist : Fld := ⟨.ENG_FUNC, 9, 1⟩
abbrev ENG_FUNC_spill : Fld := ⟨.ENG_FUNC, 10, 1⟩
abbrev ENG_STS_state : Fld := ⟨.ENG_STS, 0, 3⟩
abbrev ENG_STS_ctxs : Fld := ⟨.ENG_STS, 4, 6⟩
abbrev ENG_STS_mchk : Fld := ⟨.ENG_STS, 16, 4⟩
abbrev ENG_STS_scrub : Fld := ⟨.ENG_STS, 20, 1⟩
abbrev ENG_MCHK_pc : Fld := ⟨.ENG_MCHK, 0, 12⟩
abbrev ENG_MCHK_quarters : Fld := ⟨.ENG_MCHK, 12, 4⟩
abbrev ENG_MCHK_ctx : Fld := ⟨.ENG_MCHK, 16, 5⟩
abbrev ENG_MCHK_valid : Fld := ⟨.ENG_MCHK, 21, 1⟩
abbrev ENG_USE_frame : Fld := ⟨.ENG_USE, 0, 17⟩
abbrev ENG_USE_bins : Fld := ⟨.ENG_USE, 17, 11⟩
abbrev ENG_ECC : Fld := ⟨.ENG_ECC, 0, 32⟩
abbrev ENG_CS_ADDR_word : Fld := ⟨.ENG_CS_ADDR, 0, 12⟩
abbrev ENG_CS_ADDR_quarter : Fld := ⟨.ENG_CS_ADDR, 12, 2⟩
abbrev ENG_CS_DATA_data : Fld := ⟨.ENG_CS_DATA, 0, 32⟩
abbrev ENG_CS_PAR_par : Fld := ⟨.ENG_CS_PAR, 0, 4⟩
abbrev ENG_CTX_task : Fld := ⟨.ENG_CTX, 0, 12⟩
abbrev ENG_CTX_valid : Fld := ⟨.ENG_CTX, 12, 1⟩
abbrev ENG_CTX_evwait : Fld := ⟨.ENG_CTX, 13, 1⟩
abbrev ENG_CTX_open : Fld := ⟨.ENG_CTX, 14, 1⟩
abbrev ENG_CTX_moving : Fld := ⟨.ENG_CTX, 15, 1⟩
abbrev ENG_CTX_drops : Fld := ⟨.ENG_CTX, 16, 16⟩
abbrev DRM_STS_used : Fld := ⟨.DRM_STS, 0, 4⟩
abbrev DRM_STS_failed : Fld := ⟨.DRM_STS, 4, 4⟩
abbrev DRM_STS_rate : Fld := ⟨.DRM_STS, 8, 3⟩
abbrev DRM_STS_gib : Fld := ⟨.DRM_STS, 16, 8⟩
abbrev DRM_SCRUB_en : Fld := ⟨.DRM_SCRUB, 0, 1⟩
abbrev DRM_SCRUB_period : Fld := ⟨.DRM_SCRUB, 8, 8⟩
abbrev DRM_SCRUB_retire_thr : Fld := ⟨.DRM_SCRUB, 16, 8⟩
abbrev DRM_ERR_ce : Fld := ⟨.DRM_ERR, 0, 1⟩
abbrev DRM_ERR_ue : Fld := ⟨.DRM_ERR, 1, 1⟩
abbrev DRM_ERR_chan : Fld := ⟨.DRM_ERR, 2, 2⟩
abbrev DRM_CE_CNT : Fld := ⟨.DRM_CE_CNT, 0, 32⟩
abbrev DRM_UE_CNT : Fld := ⟨.DRM_UE_CNT, 0, 32⟩
abbrev DRM_ERR_ADDR_LO : Fld := ⟨.DRM_ERR_ADDR_LO, 0, 32⟩
abbrev DRM_ERR_ADDR_HI : Fld := ⟨.DRM_ERR_ADDR_HI, 0, 32⟩
abbrev DRM_RETIRE_pages : Fld := ⟨.DRM_RETIRE, 0, 13⟩
abbrev DRM_RETIRE_full : Fld := ⟨.DRM_RETIRE, 13, 1⟩
abbrev DRM_CMD_region : Fld := ⟨.DRM_CMD, 0, 8⟩
abbrev DRM_CMD_op : Fld := ⟨.DRM_CMD, 8, 3⟩
abbrev DRM_CMD_STS_last_op : Fld := ⟨.DRM_CMD_STS, 0, 3⟩
abbrev DRM_CMD_STS_result : Fld := ⟨.DRM_CMD_STS, 3, 2⟩
abbrev DRM_CMD_STS_seq : Fld := ⟨.DRM_CMD_STS, 8, 8⟩
abbrev DRM_RG_CFG_kind : Fld := ⟨.DRM_RG_CFG, 0, 3⟩
abbrev DRM_RG_CFG_spill : Fld := ⟨.DRM_RG_CFG, 3, 1⟩
abbrev DRM_RG_CFG_host_rd : Fld := ⟨.DRM_RG_CFG, 4, 1⟩
abbrev DRM_RG_CFG_flush_ms : Fld := ⟨.DRM_RG_CFG, 8, 8⟩
abbrev DRM_RG_BASE_base : Fld := ⟨.DRM_RG_BASE, 0, 18⟩
abbrev DRM_RG_SIZE_size : Fld := ⟨.DRM_RG_SIZE, 0, 18⟩
abbrev DRM_RG_STS_writer : Fld := ⟨.DRM_RG_STS, 0, 1⟩
abbrev DRM_RG_STS_full : Fld := ⟨.DRM_RG_STS, 1, 1⟩
abbrev DRM_RG_STS_cfg_err : Fld := ⟨.DRM_RG_STS, 2, 1⟩
abbrev DRM_RG_STS_poison : Fld := ⟨.DRM_RG_STS, 3, 1⟩
abbrev DRM_RG_WR_LO : Fld := ⟨.DRM_RG_WR_LO, 0, 32⟩
abbrev DRM_RG_WR_HI : Fld := ⟨.DRM_RG_WR_HI, 0, 32⟩
abbrev DRM_RG_RD_LO : Fld := ⟨.DRM_RG_RD_LO, 0, 32⟩
abbrev DRM_RG_RD_HI : Fld := ⟨.DRM_RG_RD_HI, 0, 32⟩
abbrev DRM_RG_SP_LO : Fld := ⟨.DRM_RG_SP_LO, 0, 32⟩
abbrev DRM_RG_SP_HI : Fld := ⟨.DRM_RG_SP_HI, 0, 32⟩
abbrev NVS_CFG_en : Fld := ⟨.NVS_CFG, 0, 2⟩
abbrev NVS_CFG_wrap : Fld := ⟨.NVS_CFG, 2, 1⟩
abbrev NVS_CFG_tmo : Fld := ⟨.NVS_CFG, 8, 8⟩
abbrev NVS_CMD_drive : Fld := ⟨.NVS_CMD, 0, 1⟩
abbrev NVS_CMD_op : Fld := ⟨.NVS_CMD, 1, 3⟩
abbrev NVS_CMD_STS_drive : Fld := ⟨.NVS_CMD_STS, 0, 1⟩
abbrev NVS_CMD_STS_op : Fld := ⟨.NVS_CMD_STS, 1, 3⟩
abbrev NVS_CMD_STS_result : Fld := ⟨.NVS_CMD_STS, 4, 2⟩
abbrev NVS_CMD_STS_seq : Fld := ⟨.NVS_CMD_STS, 8, 8⟩
abbrev NVS_XR_ADDR_LO : Fld := ⟨.NVS_XR_ADDR_LO, 0, 32⟩
abbrev NVS_XR_ADDR_HI : Fld := ⟨.NVS_XR_ADDR_HI, 0, 32⟩
abbrev NVS_XR_SLOT_slot : Fld := ⟨.NVS_XR_SLOT, 0, 23⟩
abbrev NVS_XR_SLOT_drive : Fld := ⟨.NVS_XR_SLOT, 23, 1⟩
abbrev NVS_XR_CMD_go : Fld := ⟨.NVS_XR_CMD, 0, 1⟩
abbrev NVS_XR_STS_busy : Fld := ⟨.NVS_XR_STS, 0, 1⟩
abbrev NVS_XR_STS_result : Fld := ⟨.NVS_XR_STS, 1, 3⟩
abbrev NVS_XR_STS_seq : Fld := ⟨.NVS_XR_STS, 8, 8⟩
abbrev NVS_XR_STS_poison : Fld := ⟨.NVS_XR_STS, 16, 16⟩
abbrev NVS_DRV_STS_state : Fld := ⟨.NVS_DRV_STS, 0, 3⟩
abbrev NVS_DRV_STS_gen : Fld := ⟨.NVS_DRV_STS, 4, 3⟩
abbrev NVS_DRV_STS_width : Fld := ⟨.NVS_DRV_STS, 8, 3⟩
abbrev NVS_DRV_STS_qpairs : Fld := ⟨.NVS_DRV_STS, 12, 4⟩
abbrev NVS_DRV_STS_smart : Fld := ⟨.NVS_DRV_STS, 16, 8⟩
abbrev NVS_DRV_SLOTS_n : Fld := ⟨.NVS_DRV_SLOTS, 0, 23⟩
abbrev NVS_DRV_NEXT_slot : Fld := ⟨.NVS_DRV_NEXT, 0, 23⟩
abbrev NVS_DRV_ERR_timeouts : Fld := ⟨.NVS_DRV_ERR, 0, 16⟩
abbrev NVS_DRV_ERR_aborts : Fld := ⟨.NVS_DRV_ERR, 16, 8⟩
abbrev NVS_DRV_ERR_resets : Fld := ⟨.NVS_DRV_ERR, 24, 8⟩
abbrev NVS_DRV_EXT_LO : Fld := ⟨.NVS_DRV_EXT_LO, 0, 32⟩
abbrev NVS_DRV_EXT_HI : Fld := ⟨.NVS_DRV_EXT_HI, 0, 32⟩
abbrev HST_LINK_gen : Fld := ⟨.HST_LINK, 0, 3⟩
abbrev HST_LINK_width : Fld := ⟨.HST_LINK, 3, 4⟩
abbrev HST_LINK_mps : Fld := ⟨.HST_LINK, 7, 2⟩
abbrev HST_LINK_bme : Fld := ⟨.HST_LINK, 9, 1⟩
abbrev HST_LINK_msix : Fld := ⟨.HST_LINK, 10, 1⟩
abbrev HST_LINK_l1 : Fld := ⟨.HST_LINK, 11, 1⟩
abbrev HST_CFG_ro_en : Fld := ⟨.HST_CFG, 0, 1⟩
abbrev HST_STS_ring_ntf : Fld := ⟨.HST_STS, 0, 1⟩
abbrev HST_STS_cpl : Fld := ⟨.HST_STS, 1, 1⟩
abbrev HST_STS_link : Fld := ⟨.HST_STS, 2, 1⟩
abbrev HST_STS_req_err : Fld := ⟨.HST_STS, 3, 1⟩
abbrev HST_STS_mps_err : Fld := ⟨.HST_STS, 4, 1⟩
abbrev HST_STS_bme_off : Fld := ⟨.HST_STS, 5, 1⟩
abbrev HST_STS_cq_err : Fld := ⟨.HST_STS, 6, 1⟩
abbrev HST_ERR_CNT_ur : Fld := ⟨.HST_ERR_CNT, 0, 16⟩
abbrev HST_ERR_CNT_ca : Fld := ⟨.HST_ERR_CNT, 16, 16⟩
abbrev HST_BAR2_BASE_base : Fld := ⟨.HST_BAR2_BASE, 0, 11⟩
abbrev HST_CQ_BASE_LO : Fld := ⟨.HST_CQ_BASE_LO, 0, 32⟩
abbrev HST_CQ_BASE_HI : Fld := ⟨.HST_CQ_BASE_HI, 0, 32⟩
abbrev HST_CQ_CFG_en : Fld := ⟨.HST_CQ_CFG, 0, 1⟩
abbrev HST_CQ_CFG_size : Fld := ⟨.HST_CQ_CFG, 4, 4⟩
abbrev HST_CQ_PTR_head : Fld := ⟨.HST_CQ_PTR, 0, 16⟩
abbrev HST_CQ_PTR_tail : Fld := ⟨.HST_CQ_PTR, 16, 16⟩
abbrev HST_CPL_BASE_LO : Fld := ⟨.HST_CPL_BASE_LO, 0, 32⟩
abbrev HST_CPL_BASE_HI : Fld := ⟨.HST_CPL_BASE_HI, 0, 32⟩
abbrev HST_CPL_CFG_en : Fld := ⟨.HST_CPL_CFG, 0, 1⟩
abbrev HST_CPL_CFG_size : Fld := ⟨.HST_CPL_CFG, 4, 4⟩
abbrev HST_CPL_PTR_tail : Fld := ⟨.HST_CPL_PTR, 0, 16⟩
abbrev HST_CPL_PTR_head : Fld := ⟨.HST_CPL_PTR, 16, 16⟩
abbrev HST_DB_VAL : Fld := ⟨.HST_DB_VAL, 0, 32⟩
abbrev HST_SMB_CFG_addr : Fld := ⟨.HST_SMB_CFG, 0, 7⟩
abbrev HST_SMB_CFG_pec_req : Fld := ⟨.HST_SMB_CFG, 8, 1⟩
abbrev HST_SMB_CFG_bar0_wr : Fld := ⟨.HST_SMB_CFG, 9, 1⟩
abbrev HST_RING_NTF0 : Fld := ⟨.HST_RING_NTF0, 0, 32⟩
abbrev HST_RING_NTF1 : Fld := ⟨.HST_RING_NTF1, 0, 32⟩
abbrev HST_RING_BASE_LO : Fld := ⟨.HST_RING_BASE_LO, 0, 32⟩
abbrev HST_RING_BASE_HI : Fld := ⟨.HST_RING_BASE_HI, 0, 32⟩
abbrev HST_RING_WB_LO : Fld := ⟨.HST_RING_WB_LO, 0, 32⟩
abbrev HST_RING_WB_HI : Fld := ⟨.HST_RING_WB_HI, 0, 32⟩
abbrev HST_RING_CFG_en : Fld := ⟨.HST_RING_CFG, 0, 1⟩
abbrev HST_RING_CFG_size : Fld := ⟨.HST_RING_CFG, 1, 5⟩
abbrev HST_RING_CFG_wb_en : Fld := ⟨.HST_RING_CFG, 6, 1⟩
abbrev HST_RING_CFG_thr : Fld := ⟨.HST_RING_CFG, 8, 24⟩
abbrev HST_RING_STS_full : Fld := ⟨.HST_RING_STS, 0, 1⟩
abbrev HST_RING_STS_cfg_err : Fld := ⟨.HST_RING_STS, 1, 1⟩
abbrev HST_RING_STS_big : Fld := ⟨.HST_RING_STS, 2, 1⟩
abbrev HST_RING_HEAD_LO : Fld := ⟨.HST_RING_HEAD_LO, 0, 32⟩
abbrev HST_RING_HEAD_HI : Fld := ⟨.HST_RING_HEAD_HI, 0, 32⟩
abbrev HST_RING_TAIL_LO : Fld := ⟨.HST_RING_TAIL_LO, 0, 32⟩
abbrev HST_RING_TAIL_HI : Fld := ⟨.HST_RING_TAIL_HI, 0, 32⟩
abbrev EVT_RAW : Fld := ⟨.EVT_RAW, 0, 32⟩
abbrev EVT_PEND : Fld := ⟨.EVT_PEND, 0, 32⟩
abbrev EVT_MASK : Fld := ⟨.EVT_MASK, 0, 32⟩
abbrev EVT_ALERT_src : Fld := ⟨.EVT_ALERT, 0, 9⟩
abbrev EVT_ALERT_valid : Fld := ⟨.EVT_ALERT, 15, 1⟩
abbrev EVT_ALERT_pin : Fld := ⟨.EVT_ALERT, 16, 1⟩
abbrev EVT_ROUTE_vector : Fld := ⟨.EVT_ROUTE, 0, 9⟩
abbrev EVT_ROUTE_msix : Fld := ⟨.EVT_ROUTE, 9, 1⟩
abbrev EVT_ROUTE_alert : Fld := ⟨.EVT_ROUTE, 10, 1⟩
abbrev EVT_VEC_holdoff : Fld := ⟨.EVT_VEC, 0, 16⟩
abbrev CAS_ID_role : Fld := ⟨.CAS_ID, 0, 2⟩
abbrev CAS_ID_dev_addr : Fld := ⟨.CAS_ID, 8, 6⟩
abbrev CAS_ID_dev : Fld := ⟨.CAS_ID, 16, 6⟩
abbrev CAS_CFG_wake_fwd : Fld := ⟨.CAS_CFG, 0, 1⟩
abbrev CAS_CFG_group : Fld := ⟨.CAS_CFG, 1, 3⟩
abbrev CAS_CFG_join_tmo : Fld := ⟨.CAS_CFG, 8, 8⟩
abbrev CAS_CFG_tol : Fld := ⟨.CAS_CFG, 16, 8⟩
abbrev CAS_STS_state : Fld := ⟨.CAS_STS, 0, 3⟩
abbrev CAS_STS_level : Fld := ⟨.CAS_STS, 3, 3⟩
abbrev CAS_STS_rooted : Fld := ⟨.CAS_STS, 6, 1⟩
abbrev CAS_STS_mem_chg : Fld := ⟨.CAS_STS, 7, 1⟩
abbrev CAS_STS_parent : Fld := ⟨.CAS_STS, 8, 6⟩
abbrev CAS_STS_refuse : Fld := ⟨.CAS_STS, 16, 3⟩
abbrev CAS_CMD_op : Fld := ⟨.CAS_CMD, 0, 2⟩
abbrev CAS_CMD_STS_last_op : Fld := ⟨.CAS_CMD_STS, 0, 2⟩
abbrev CAS_CMD_STS_result : Fld := ⟨.CAS_CMD_STS, 2, 2⟩
abbrev CAS_CMD_STS_seq : Fld := ⟨.CAS_CMD_STS, 8, 8⟩
abbrev CAS_MEM_LO : Fld := ⟨.CAS_MEM_LO, 0, 32⟩
abbrev CAS_MEM_HI : Fld := ⟨.CAS_MEM_HI, 0, 32⟩
abbrev CAS_LINE_DLY_ticks : Fld := ⟨.CAS_LINE_DLY, 0, 24⟩
abbrev CAS_OFFSET_err : Fld := ⟨.CAS_OFFSET, 0, 16⟩
abbrev CAS_OFFSET_errmax : Fld := ⟨.CAS_OFFSET, 16, 16⟩
abbrev CAS_LNK_CFG_en : Fld := ⟨.CAS_LNK_CFG, 0, 1⟩
abbrev CAS_LNK_CFG_rate : Fld := ⟨.CAS_LNK_CFG, 1, 2⟩
abbrev CAS_LNK_STS_state : Fld := ⟨.CAS_LNK_STS, 0, 3⟩
abbrev CAS_LNK_STS_rate_act : Fld := ⟨.CAS_LNK_STS, 3, 1⟩
abbrev CAS_LNK_STS_time_ok : Fld := ⟨.CAS_LNK_STS, 4, 1⟩
abbrev CAS_LNK_STS_chg : Fld := ⟨.CAS_LNK_STS, 5, 1⟩
abbrev CAS_LNK_STS_audit_fail : Fld := ⟨.CAS_LNK_STS, 6, 1⟩
abbrev CAS_LNK_STS_peer : Fld := ⟨.CAS_LNK_STS, 8, 6⟩
abbrev CAS_LNK_STS_peer_valid : Fld := ⟨.CAS_LNK_STS, 14, 1⟩
abbrev CAS_LNK_STS_trains : Fld := ⟨.CAS_LNK_STS, 16, 16⟩
abbrev CAS_LNK_ASYM_asym : Fld := ⟨.CAS_LNK_ASYM, 0, 16⟩
abbrev CAS_LNK_RTT_rtt : Fld := ⟨.CAS_LNK_RTT, 0, 24⟩
abbrev CAS_LNK_DELAY_d : Fld := ⟨.CAS_LNK_DELAY, 0, 24⟩
abbrev CAS_LNK_CREDIT_ungranted : Fld := ⟨.CAS_LNK_CREDIT, 0, 8⟩
abbrev CAS_LNK_CREDIT_occupied : Fld := ⟨.CAS_LNK_CREDIT, 8, 8⟩
abbrev CAS_LNK_CREDIT_granted : Fld := ⟨.CAS_LNK_CREDIT, 16, 8⟩
abbrev CAS_LNK_AUDIT_passed : Fld := ⟨.CAS_LNK_AUDIT, 0, 16⟩
abbrev CAS_LNK_AUDIT_failed : Fld := ⟨.CAS_LNK_AUDIT, 16, 16⟩
abbrev CAS_LNK_RETRY_naks : Fld := ⟨.CAS_LNK_RETRY, 0, 16⟩
abbrev CAS_LNK_RETRY_replays : Fld := ⟨.CAS_LNK_RETRY, 16, 16⟩
abbrev CAS_LNK_VCNT : Fld := ⟨.CAS_LNK_VCNT, 0, 32⟩
abbrev CAS_TUNOUT_CFG_queue : Fld := ⟨.CAS_TUNOUT_CFG, 0, 11⟩
abbrev CAS_TUNOUT_CFG_dst : Fld := ⟨.CAS_TUNOUT_CFG, 16, 6⟩
abbrev CAS_TUNOUT_CFG_dtun : Fld := ⟨.CAS_TUNOUT_CFG, 24, 4⟩
abbrev CAS_TUNOUT_CFG_cfg_err : Fld := ⟨.CAS_TUNOUT_CFG, 30, 1⟩
abbrev CAS_TUNOUT_CFG_en : Fld := ⟨.CAS_TUNOUT_CFG, 31, 1⟩
abbrev CAS_TUNOUT_CNT : Fld := ⟨.CAS_TUNOUT_CNT, 0, 32⟩
abbrev CAS_TUNIN_CFG_queue : Fld := ⟨.CAS_TUNIN_CFG, 0, 11⟩
abbrev CAS_TUNIN_CFG_src : Fld := ⟨.CAS_TUNIN_CFG, 16, 6⟩
abbrev CAS_TUNIN_CFG_cfg_err : Fld := ⟨.CAS_TUNIN_CFG, 30, 1⟩
abbrev CAS_TUNIN_CFG_en : Fld := ⟨.CAS_TUNIN_CFG, 31, 1⟩
abbrev CAS_TUNIN_STS_brk : Fld := ⟨.CAS_TUNIN_STS, 0, 1⟩
abbrev CAS_TUNIN_STS_rewound : Fld := ⟨.CAS_TUNIN_STS, 16, 16⟩
abbrev BOOT_STS_step : Fld := ⟨.BOOT_STS, 0, 4⟩
abbrev BOOT_STS_hold : Fld := ⟨.BOOT_STS, 4, 1⟩
abbrev BOOT_STS_err : Fld := ⟨.BOOT_STS, 5, 2⟩
abbrev BOOT_STS_copy : Fld := ⟨.BOOT_STS, 7, 2⟩
abbrev BOOT_STS_fallback : Fld := ⟨.BOOT_STS, 9, 1⟩
abbrev BOOT_STS_diverge : Fld := ⟨.BOOT_STS, 10, 1⟩
abbrev BOOT_STS_other_bad : Fld := ⟨.BOOT_STS, 11, 1⟩
abbrev BOOT_CAUSE_cause : Fld := ⟨.BOOT_CAUSE, 0, 5⟩
abbrev BOOT_CAUSE_pf_restart : Fld := ⟨.BOOT_CAUSE, 5, 1⟩
abbrev BOOT_CAUSE_frec : Fld := ⟨.BOOT_CAUSE, 8, 6⟩
abbrev BOOT_CAUSE_frec_valid : Fld := ⟨.BOOT_CAUSE, 14, 1⟩
abbrev BOOT_CNT_boots : Fld := ⟨.BOOT_CNT, 0, 16⟩
abbrev BOOT_CNT_fails : Fld := ⟨.BOOT_CNT, 16, 3⟩
abbrev BOOT_STRAP_boot_src : Fld := ⟨.BOOT_STRAP, 0, 2⟩
abbrev BOOT_STRAP_casc_role : Fld := ⟨.BOOT_STRAP, 2, 2⟩
abbrev BOOT_STRAP_dev_addr : Fld := ⟨.BOOT_STRAP, 4, 6⟩
abbrev BOOT_IMG_VER : Fld := ⟨.BOOT_IMG_VER, 0, 32⟩
abbrev BOOT_IMG_OTHER : Fld := ⟨.BOOT_IMG_OTHER, 0, 32⟩
abbrev BOOT_TIME_ms : Fld := ⟨.BOOT_TIME, 0, 16⟩
abbrev BOOT_TIME_slow_step : Fld := ⟨.BOOT_TIME, 16, 4⟩
abbrev BOOT_SKIP_entries : Fld := ⟨.BOOT_SKIP, 0, 16⟩
abbrev BOOT_SKIP_tasks : Fld := ⟨.BOOT_SKIP, 16, 16⟩
abbrev BOOT_CMD_op : Fld := ⟨.BOOT_CMD, 0, 3⟩
abbrev BOOT_CMD_level : Fld := ⟨.BOOT_CMD, 4, 2⟩
abbrev BOOT_CMD_STS_last_op : Fld := ⟨.BOOT_CMD_STS, 0, 3⟩
abbrev BOOT_CMD_STS_result : Fld := ⟨.BOOT_CMD_STS, 3, 2⟩
abbrev BOOT_CMD_STS_seq : Fld := ⟨.BOOT_CMD_STS, 8, 8⟩
abbrev BOOT_LOCK_fl_lock : Fld := ⟨.BOOT_LOCK, 0, 1⟩
abbrev BOOT_LOCK_soft_en : Fld := ⟨.BOOT_LOCK, 1, 1⟩
abbrev BOOT_LOCK_lock : Fld := ⟨.BOOT_LOCK, 31, 1⟩
abbrev BOOT_FL_ADDR_addr : Fld := ⟨.BOOT_FL_ADDR, 0, 28⟩
abbrev BOOT_FL_IDX_idx : Fld := ⟨.BOOT_FL_IDX, 0, 6⟩
abbrev BOOT_FL_DATA : Fld := ⟨.BOOT_FL_DATA, 0, 32⟩
abbrev BOOT_FL_CMD_op : Fld := ⟨.BOOT_FL_CMD, 0, 2⟩
abbrev BOOT_FL_STS_busy : Fld := ⟨.BOOT_FL_STS, 0, 1⟩
abbrev BOOT_FL_STS_result : Fld := ⟨.BOOT_FL_STS, 1, 2⟩
abbrev BOOT_FL_STS_seq : Fld := ⟨.BOOT_FL_STS, 8, 8⟩
abbrev BOOT_FL_STS_size : Fld := ⟨.BOOT_FL_STS, 16, 5⟩
abbrev BOOT_OTP_STS_dig_en : Fld := ⟨.BOOT_OTP_STS, 0, 1⟩
abbrev BOOT_OTP_STS_jtag : Fld := ⟨.BOOT_OTP_STS, 1, 2⟩
abbrev BOOT_OTP_STS_dig_set : Fld := ⟨.BOOT_OTP_STS, 3, 1⟩
abbrev BOOT_OTP_STS_pending : Fld := ⟨.BOOT_OTP_STS, 4, 1⟩
abbrev BOOT_OTP_DIG : Fld := ⟨.BOOT_OTP_DIG, 0, 32⟩
abbrev FLT_CTL_esc_en : Fld := ⟨.FLT_CTL, 1, 3⟩
abbrev FLT_CTL_lock : Fld := ⟨.FLT_CTL, 31, 1⟩
abbrev FLT_STS_open : Fld := ⟨.FLT_STS, 0, 7⟩
abbrev FLT_STS_ovf : Fld := ⟨.FLT_STS, 7, 1⟩
abbrev FLT_STS_top : Fld := ⟨.FLT_STS, 8, 2⟩
abbrev FLT_STS_unack : Fld := ⟨.FLT_STS, 10, 1⟩
abbrev FLT_ESC_us : Fld := ⟨.FLT_ESC, 0, 24⟩
abbrev FLT_OPEN_LO : Fld := ⟨.FLT_OPEN_LO, 0, 32⟩
abbrev FLT_OPEN_HI : Fld := ⟨.FLT_OPEN_HI, 0, 32⟩
abbrev FLT_SEL_index : Fld := ⟨.FLT_SEL, 0, 6⟩
abbrev FLT_REC_HDR_index : Fld := ⟨.FLT_REC_HDR, 0, 6⟩
abbrev FLT_REC_HDR_class : Fld := ⟨.FLT_REC_HDR, 6, 2⟩
abbrev FLT_REC_HDR_merges : Fld := ⟨.FLT_REC_HDR, 8, 8⟩
abbrev FLT_REC_HDR_code : Fld := ⟨.FLT_REC_HDR, 16, 16⟩
abbrev FLT_REC_STS_unit : Fld := ⟨.FLT_REC_STS, 0, 16⟩
abbrev FLT_REC_STS_live : Fld := ⟨.FLT_REC_STS, 16, 1⟩
abbrev FLT_REC_STS_ack : Fld := ⟨.FLT_REC_STS, 17, 1⟩
abbrev FLT_REC_STS_esc : Fld := ⟨.FLT_REC_STS, 18, 1⟩
abbrev FLT_REC_STS_ovf : Fld := ⟨.FLT_REC_STS, 19, 1⟩
abbrev FLT_REC_STS_open : Fld := ⟨.FLT_REC_STS, 20, 1⟩
abbrev FLT_REC_CAUSE : Fld := ⟨.FLT_REC_CAUSE, 0, 32⟩
abbrev FLT_REC_DETAIL : Fld := ⟨.FLT_REC_DETAIL, 0, 32⟩
abbrev FLT_REC_T0_LO : Fld := ⟨.FLT_REC_T0_LO, 0, 32⟩
abbrev FLT_REC_T0_HI : Fld := ⟨.FLT_REC_T0_HI, 0, 32⟩
abbrev FLT_REC_TL_LO : Fld := ⟨.FLT_REC_TL_LO, 0, 32⟩
abbrev FLT_REC_TL_HI : Fld := ⟨.FLT_REC_TL_HI, 0, 32⟩
abbrev FLT_REC_TMR : Fld := ⟨.FLT_REC_TMR, 0, 32⟩
abbrev FLT_ACK_index : Fld := ⟨.FLT_ACK, 0, 6⟩
abbrev FLT_ACK_op : Fld := ⟨.FLT_ACK, 8, 2⟩
abbrev FLT_ACK_STS_index : Fld := ⟨.FLT_ACK_STS, 0, 6⟩
abbrev FLT_ACK_STS_result : Fld := ⟨.FLT_ACK_STS, 6, 2⟩
abbrev FLT_ACK_STS_seq : Fld := ⟨.FLT_ACK_STS, 8, 8⟩
abbrev FLT_INJ_unit : Fld := ⟨.FLT_INJ, 0, 16⟩
abbrev FLT_INJ_code : Fld := ⟨.FLT_INJ, 16, 16⟩
abbrev PWR_STS_pf : Fld := ⟨.PWR_STS, 0, 1⟩
abbrev PWR_STS_vin_hi : Fld := ⟨.PWR_STS, 1, 1⟩
abbrev PWR_STS_rail : Fld := ⟨.PWR_STS, 2, 1⟩
abbrev PWR_STS_oc : Fld := ⟨.PWR_STS, 3, 1⟩
abbrev PWR_STS_dom : Fld := ⟨.PWR_STS, 4, 1⟩
abbrev PWR_STS_shed : Fld := ⟨.PWR_STS, 5, 1⟩
abbrev PWR_VIN_mv : Fld := ⟨.PWR_VIN, 0, 16⟩
abbrev PWR_VIN_p : Fld := ⟨.PWR_VIN, 16, 16⟩
abbrev PWR_VIN_CFG_hi : Fld := ⟨.PWR_VIN_CFG, 0, 8⟩
abbrev PWR_RAIL_mv : Fld := ⟨.PWR_RAIL, 0, 16⟩
abbrev PWR_RAIL_ma10 : Fld := ⟨.PWR_RAIL, 16, 16⟩
abbrev PWR_DOM : Fld := ⟨.PWR_DOM, 0, 32⟩
abbrev PWR_DOM_REQ_dom : Fld := ⟨.PWR_DOM_REQ, 0, 7⟩
abbrev PWR_DOM_REQ_op : Fld := ⟨.PWR_DOM_REQ, 8, 2⟩
abbrev PWR_DOM_STS_dom : Fld := ⟨.PWR_DOM_STS, 0, 7⟩
abbrev PWR_DOM_STS_result : Fld := ⟨.PWR_DOM_STS, 8, 2⟩
abbrev PWR_DOM_STS_seq : Fld := ⟨.PWR_DOM_STS, 16, 8⟩
abbrev PWR_TEMP_t : Fld := ⟨.PWR_TEMP, 0, 10⟩
abbrev PWR_TEMP_zone : Fld := ⟨.PWR_TEMP, 16, 2⟩
abbrev PWR_TEMP_THR_warn : Fld := ⟨.PWR_TEMP_THR, 0, 8⟩
abbrev PWR_TEMP_THR_crit : Fld := ⟨.PWR_TEMP_THR, 8, 8⟩
abbrev PWR_TEMP_THR_trip : Fld := ⟨.PWR_TEMP_THR, 16, 8⟩
abbrev PWR_TMR_CFG_en : Fld := ⟨.PWR_TMR_CFG, 0, 1⟩
abbrev PWR_TMR_CFG_periodic : Fld := ⟨.PWR_TMR_CFG, 1, 1⟩
abbrev PWR_TMR_CFG_wake : Fld := ⟨.PWR_TMR_CFG, 2, 1⟩
abbrev PWR_TMR_PER : Fld := ⟨.PWR_TMR_PER, 0, 32⟩
abbrev RPR_LANE_idle : Fld := ⟨.RPR_LANE, 0, 5⟩
abbrev RPR_LANE_retired : Fld := ⟨.RPR_LANE, 8, 8⟩
abbrev RPR_NOSPARE_quads : Fld := ⟨.RPR_NOSPARE, 0, 24⟩
abbrev RPR_ENG_spare : Fld := ⟨.RPR_ENG, 0, 8⟩
abbrev RPR_ENG_retired : Fld := ⟨.RPR_ENG, 8, 8⟩
abbrev RPR_ENG_reserve : Fld := ⟨.RPR_ENG, 16, 5⟩
abbrev RPR_MADC_ready : Fld := ⟨.RPR_MADC, 0, 4⟩
abbrev RPR_MADC_retired : Fld := ⟨.RPR_MADC, 8, 4⟩
abbrev RPR_QROW_fewest : Fld := ⟨.RPR_QROW, 0, 9⟩
abbrev RPR_QROW_bad : Fld := ⟨.RPR_QROW, 16, 4⟩
abbrev RPR_LDG_spares : Fld := ⟨.RPR_LDG, 0, 7⟩
abbrev RPR_DRAM_left : Fld := ⟨.RPR_DRAM, 0, 13⟩
abbrev RPR_DEC_idle : Fld := ⟨.RPR_DEC, 0, 13⟩
end F

end Sys2Proof.Machine
end

