-- ==== Sys2Proof/Machine/State.lean ====
section
/-! DEFINITION. The state of the block: every register, queue, buffer, counter and mode that the manual gives it, as plain
data, with the queue of commands that wait; its reset value; and the reasons for which a command stops. -/

namespace Sys2Proof.Machine

/-- The faults of a step. -/
inductive Fault where
  /-- JTAG_UPDATE_IR of an opcode that the manual reserves to the manufacturer, at lock level 0 (R611): the manual gives it
  no effect. Safe: the run stops. -/
  | privateJtag
deriving DecidableEq, Repr

/-- The refusals of a step. -/
inductive Refusal where
  /-- A command that has no meaning yet. Safe: the run stops. -/
  | notModelled (mnemonic : String)
deriving DecidableEq, Repr


/-! ### Memories -/

/-- Byte-addressed memory: (address, byte) pairs with addresses strictly rising and no entry equal to the blank byte. -/
abbrev Memory := List Host.Cell

/-! ### Register access (R12) -/

/-- The held low word and the shadow of one requester, each tagged with the offset of its pair's low word (R12). -/
structure PairEntry where
  who : Requester
  held : Option (Nat × Word)
  shadow : Option (Nat × Word)
deriving DecidableEq, Repr

/-! ### What the device sends -/

/-- The kinds of balls of the package, as the boundary register sees them (R612). -/
inductive BallKind where
  | digital | lvds | hcsl | ddr5 | pcie | nvme | lorren | cascade | portLeg | vin | gnd
deriving DecidableEq, Repr

/-- A data register that the TAP's instruction selects (R611), and what drives the pins (R613). -/
inductive TapReg where
  | boundary | idcode | bypass
deriving DecidableEq, Repr
inductive PinSource where
  | system | cells | highZ
deriving DecidableEq, Repr

/-- What REFCLK_OUT carries (R603). -/
inductive ClockOut where
  | low | refclk | pll
deriving DecidableEq, Repr

/-- Everything the device sends to the world outside it, oldest first. -/
inductive Out where
  /-- Completion of a register or window read. -/
  | readData (who : Requester) (off : Nat) (data : Word)
  | bar2Data (addr : Nat) (data : List Byte) (ep : Bool)
  | unsupported
  | completerAbort
  /-- PCIe requests of the device (R482). -/
  | hostWrite (addr : Nat) (data : List Byte) (relaxed : Bool)
  | hostRead (addr : Nat) (len : Nat)
  | msix (vector : Nat) (addr : Nat) (data : Word)
  /-- SMBus responses (R502–R504). -/
  | smbByte (data : Nat)
  | smbNack
  | smbAddress (addr : Nat)
  /-- Flits on a Lorren or cascade link (0–15 L0–L15, 16–19 C0–C3): type and content words. -/
  | flit (link : Nat) (kind : Nat) (content : List Nat)
  /-- Signalling for 10 µs on a cascade link that leaves WATCH (R531). -/
  | linkWake (link : Nat)
  /-- REFCLK_OUT changes (R603). -/
  | refclkOut (c : ClockOut)
  /-- XSPI_RESET_N changes (R607). -/
  | xspiReset (level : Bool)
  /-- Completion of a configuration read (R1). -/
  | cfgData (who : Requester) (off : Nat) (data : Word)
  /-- A pulse edge on a TRIG pin (R295). -/
  | pin (i : Nat) (level : Bool)
  /-- NVMe commands to drive `d` (R460–R466): opcode and operands. -/
  | nvme (d : Nat) (opcode : Nat) (args : List Nat)
deriving DecidableEq, Repr

/-! ### Device states (R35–R45, R535–R543) -/

/-- The five device states (R35). -/
inductive DevState where
  | powerup | boot | run | watch | halt
deriving DecidableEq, Repr

/-- The transition in progress while GLB_STATE.busy is 1, or a final checkpoint is being written. -/
inductive Trans where
  | none
  | toWatch
  | toHalt (cause : Nat)
  | reset
  | powerFail
  | waking (cause : WakeCause)
deriving DecidableEq, Repr

/-- The device state machine. `cut` is the cut tick of a final checkpoint, `finalCause` its cause byte, `snapTaken` and `finalDone`
its progress (R212); `shed` load shedding has begun, `portsOff` it has reached ports and links (R221); `causes` the reset causes
gathered for BOOT_CAUSE and `frec` the record of a fault reset (R537); `bootStep` the step that boot has reached; `early` until 10 s
of RUN have passed since the last reset (R549); `heldWake` a wake event held during WATCH entry (R585); `waitReset`, `waitFault` and
`waitHalt` what waits for a transition to end, and `waitPor` a POR that lets the final write run (R222); `pfBoot` a power-fail warning that stopped boot (R38); `cells` the update latches of the boundary register (R612); `jtagIr` the instruction in the
TAP's register, `pinsWait` and `pinsTaken` one that will take, or has taken, the pins (R613); `bridging` counters run since the cut of
WATCH or HALT (R216); `drained` the queues were flushed after the drain of an entry to WATCH or HALT (R353); `pfAct` and `dimmPwr` the
levels of GPIO4 and GPIO5 (R610); `runAt` the tick at which boot reached RUN (R549); `tmrs` the tick at which each general timer's count began, where it
counts (R586). -/
structure Dev where
  st : DevState
  trans : Trans
  cut : Option Nat
  finalCause : Nat
  snapTaken : Bool
  finalDone : Bool
  shed : Bool
  portsOff : Bool
  causes : Nat
  frec : Option Nat
  bootStep : Nat
  early : Bool
  heldWake : Option WakeCause
  waitReset : Bool
  waitFault : Bool
  waitPor : Bool
  waitHalt : Option Nat
  pfBoot : Bool
  jtagIr : Nat
  cells : List Bool
  pinsWait : Bool
  pinsTaken : Bool
  perstLow : Bool
  bridging : Bool
  drained : Bool
  pfAct : Bool
  dimmPwr : Bool
  runAt : Nat
  tmrs : Tab (Option Nat)
deriving DecidableEq, Repr

/-- The device just after power-on reset; the TAP's instruction register holds IDCODE. -/
def Dev.init : Dev :=
  { st := .powerup, trans := .none, cut := none, finalCause := 0, snapTaken := false, finalDone := false, shed := false,
    portsOff := false, causes := 1, frec := none, bootStep := 0, early := true, heldWake := none, waitReset := false,
    waitFault := false, waitPor := false, waitHalt := none, pfBoot := false, jtagIr := 2, cells := [], pinsWait := false, pinsTaken := false, perstLow := false,
    bridging := false, drained := false, pfAct := false, dimmPwr := false, runAt := 0, tmrs := [] }

/-! ### Tansy queues (R327–R354) -/

/-- A committed packet: its records and the priority that its producer class had (R338). -/
structure QPkt where
  recs : List Rec
  pri : Nat
deriving DecidableEq, Repr

/-- A marker in the reserved slot (R342, R345, R362). `after` counts the committed packets ahead of it (R343, cross-island);
`late` is set once a record has been committed after it opened. -/
structure Marker where
  flush : Bool
  dropped : Nat
  flushed : Nat
  pdrop : Nat
  pflush : Nat
  satd : Bool
  split : Bool
  rewound : Bool
  pwr : Bool
  committed : Bool
  after : Nat
  late : Bool
deriving DecidableEq, Repr

/-- The open packet: its producer and the records pushed so far (R332, R333). -/
structure OpenPkt where
  prod : Nat
  cls : PClass
  recs : List Rec
deriving DecidableEq, Repr

/-- A push that waits because another producer's packet is open (R333). -/
structure WaitPush where
  prod : Nat
  cls : PClass
  record : Rec
  last : Bool
deriving DecidableEq, Repr

/-- A Tansy queue. `cur` is the unread rest of the packet being read; `disc` the producers whose packet's rest is discarded,
with true where a flush discards it (R341, R345); `vis` the committed packets that the consumer of a cross-island queue
sees and `hidden` the freed entries that its producer does not yet see (R348). -/
structure Queue where
  pkts : List QPkt
  cur : List Rec
  opn : Option OpenPkt
  disc : List (Nat × Bool)
  marker : Option Marker
  waiting : List WaitPush
  vis : Nat
  hidden : Nat
  bad : Bool
deriving DecidableEq, Repr

/-- An empty queue. -/
def Queue.init : Queue :=
  { pkts := [], cur := [], opn := none, disc := [], marker := none, waiting := [], vis := 0, hidden := 0, bad := false }

/-- The queues by number. Spare rows are counted in QUE_SLICE_STS; a queue that a test found faulty beyond them is `bad` (R354). -/
structure Fabric where
  queues : Tab Queue
deriving DecidableEq, Repr

/-- The queue fabric, empty. -/
def Fabric.init : Fabric := { queues := [] }

/-! ### Events (R497–R504) -/

/-- The hold-off of one MSI-X vector: running, whether a message is held for its end, and the tick of the last message (R500). -/
structure VecSt where
  running : Bool
  held : Bool
  since : Nat
deriving DecidableEq, Repr

/-- The event collector beside its registers, and the function's MSI-X structures (R508): table words by index 4v + j,
pending bits as a list of vectors, enables as the configuration space holds them. -/
structure Events where
  vecs : Tab VecSt
  alertPin : Bool
  table : Tab Word
  pba : List Nat
  msixEn : Bool
  funcMask : Bool
  bme : Bool
  roCap : Bool
  d3hot : Bool
  aspmL1 : Bool
  /-- log2 of the size of the BAR2 window (R477). -/
  bar2 : Nat
deriving DecidableEq, Repr

/-- The collector and the MSI-X structures after reset. -/
def Events.init : Events :=
  { vecs := [], alertPin := false, table := [], pba := [], msixEn := false, funcMask := false, bme := false, roCap := true,
    d3hot := false, aspmL1 := false, bar2 := 28 }

/-! ### Faults (R562–R576) -/

/-- An open fault record (R562). `conds` are the codes whose
lasting condition holds (R568); `deadline` is the tick at which its timer runs out; `mergeDue` a merge that no FAULT packet
has covered, and `sent` the tick of the last one (R570). Times are full times in fine units. -/
structure FaultRec where
  cls : Nat
  code : Nat
  unit : Nat
  cause : Nat
  detail : Nat
  merges : Nat
  opened : Nat
  seen : Nat
  live : Bool
  conds : List Nat
  ack : Bool
  esc : Bool
  deadline : Option Nat
  mergeDue : Bool
  sent : Nat
deriving DecidableEq, Repr

/-- The fault table, the position in the fault log, the log entries that wait in AON, and the record that was logged last (R575, R576, R566). -/
structure Faults where
  recs : Tab (Option FaultRec)
  ring : Nat
  seq : Nat
  hdrSeq : Nat
  wait : List (List Byte)
  serials : List Nat
  handled : Option Nat
deriving DecidableEq, Repr

/-- The fault table after POR. -/
def Faults.init : Faults := { recs := [], ring := 0, seq := 0, hdrSeq := 0, wait := [], serials := [], handled := none }

/-! ### The Ledger (R208–R228) -/

/-- A checkpoint being written: sequence, kind (1 PERIODIC, 2 FINAL), cause, snapshot time, image version, bound count and
every slot's N_total (R211–R214); `start` is the tick at which its frame begins, after the root lines that precede it. -/
structure Ckpt where
  seq : Nat
  kind : Nat
  cause : Nat
  time : Nat
  image : Nat
  bound : Nat
  cmd : Bool
  start : Nat
  totals : Tab Int
deriving DecidableEq, Repr

/-- A block migration in progress (R226): logical block, physical target, failed targets so far, the tick at which this target's INTENT
began. -/
structure Migration where
  lblock : Nat
  target : Nat
  tries : Nat
  since : Nat
deriving DecidableEq, Repr

/-- The Ledger: its physical lines, and the writer's working state. -/
structure Ledger where
  /-- 64-byte physical lines, 0 to 524,287; unlisted lines hold zero bytes. -/
  lines : Tab (BitVec 512)
  /-- Logical block → physical block + 1; unlisted blocks lie at their own number (R209). -/
  bmap : Tab Nat
  retired : List Nat
  nextSeq : Nat
  anchorNext : Nat
  mapNext : Nat
  intentNext : Nat
  latchGen : Nat
  latchSeq : Nat
  wr : Option Ckpt
  /-- Checkpoints that fell due while another was being written, oldest first: whether an LDG_CMD asked for each (R211). -/
  due : List Bool
  /-- The tick at which the checkpoint interval expired last. -/
  lastDue : Nat
  mig : Option Migration
  /-- A power-fail warning has stopped migrations until the next boot (R222). -/
  migStop : Bool
  /-- Block, target and tick of the COMMIT of the last migration (R226). -/
  migEnd : Option (Nat × Nat × Nat)
  /-- The tick at which the root lines written so far are all in both copies, at 2 lines per µs (R208). -/
  rootEnd : Nat
  /-- Target of a migration that boot recovery restarts (R228), plus one. -/
  migTarget : Nat
  migQ : List Nat
  corrected : Tab Nat
  noSpare : List Nat
  /-- Marker counts latched at the cut of WATCH or HALT: port lanes, then remote channels by CHAN − 0x100 (R203). -/
  bridgeLane : Tab Nat
  bridgeRem : Tab Nat
  /-- Bridged counts recovered at boot and not yet added (R216). -/
  bootLane : Tab Nat
  bootRem : Tab Nat
  /-- Slots that have added them. -/
  bootDone : List Nat
deriving DecidableEq, Repr

/-- An empty Ledger: nothing written, the writer idle. -/
def Ledger.init : Ledger :=
  { lines := [], bmap := [], retired := [], nextSeq := 0, anchorNext := 0, mapNext := 0, intentNext := 0, latchGen := 0,
    latchSeq := 0, wr := none, due := [], lastDue := 0, mig := none, migStop := false, migEnd := none, rootEnd := 0, migTarget := 0, migQ := [], corrected := [], noSpare := [], bridgeLane := [],
    bridgeRem := [], bootLane := [], bootRem := [], bootDone := [] }

/-! ### Ports (R46–R91) -/

/-- A raw transition as an interpolator captured it: its sampler interval, counted in quarters of a tick from the start of the time base,
and the raw codes of the comparator's own lane and of its quad's spare (R114). -/
structure Mark where
  q : Nat
  code : Nat
  spare : Nat
deriving DecidableEq, Repr

/-- A raw transition that no sample has seen yet: its time in picoseconds, its new level and its mark (R54). -/
structure RawTr where
  ps : Nat
  level : Bool
  mark : Mark
deriving DecidableEq, Repr

/-- A comparator with its sampler, prescaler and filter. `raw` is the output at the last sample, none where it has held no level since the
domain switched on (R620); `pend` the later raw transitions and `bar` the first instant at which the output may switch again (R54); `up` and
`dn` the last captured transitions to 1 and to 0; `hist` the samples, newest first, each with the mark of the last transition to its value
(R55, R56), collected since sample `since`; `state` the filtered state, none while UNKNOWN (R65); `count` the prescaler's count (R68). -/
structure Comp where
  raw : Option Bool
  bar : Nat
  pend : List RawTr
  up : Mark
  dn : Mark
  hist : List (Bool × Mark)
  since : Nat
  state : Option Bool
  count : Nat
deriving DecidableEq, Repr

/-- A comparator after reset. -/
def Comp.init : Comp :=
  { raw := none, bar := 0, pend := [], up := ⟨0, 0, 0⟩, dn := ⟨0, 0, 0⟩, hist := [], since := 0, state := none, count := 0 }

/-- The settings of a port that are in force: enable, mode, termination, threshold and hysteresis codes, filter windows and divisors
N − 1, upper before lower. -/
structure PortSet where
  en : Bool
  mode : Nat
  term : Nat
  thr : Nat × Nat
  hyst : Nat × Nat
  win : Nat × Nat
  div : Nat × Nat
deriving DecidableEq, Repr

/-- Nothing is set. -/
def PortSet.init : PortSet := { en := false, mode := 0, term := 0, thr := (0, 0), hyst := (0, 0), win := (0, 0), div := (0, 0) }

/-- A self-check in progress: the first tick of step 1, and the first tick after the step 7 of an aborted one (R79, R86). -/
structure Chk where
  start : Nat
  back : Option Nat
deriving DecidableEq, Repr

/-- A port. `set` are the settings in force and `next` those that a tick boundary puts in force (R49, R52, R53, R59, R70, R77); `v` the
voltages of its legs, in nV; `k` the next sample, counted from the start of the time base, four to a tick (R54); `seen` a tick and the states
before its first sample (R66); `hold` the first tick and the end of a hold (R49); `settle` the end of threshold settling (R52); `chk` the
running check (R79); `lastEdge` and `lastChk` serve the schedule (R83). -/
structure Port where
  hi : Comp
  lo : Comp
  set : PortSet
  next : Option (Nat × PortSet)
  v : Option (Int × Int)
  k : Nat
  seen : Nat × Option Bool × Option Bool
  hold : Option (Nat × Nat)
  settle : Option Nat
  chk : Option Chk
  lastEdge : Nat
  lastChk : Nat
  everChk : Bool
deriving DecidableEq, Repr

/-- A port after reset. -/
def Port.init : Port :=
  { hi := Comp.init, lo := Comp.init, set := PortSet.init, next := none, v := none, k := 0, seen := (0, none, none), hold := none,
    settle := none, chk := none, lastEdge := 0, lastChk := 0, everChk := false }

/-- A packet that a port island holds until a check word follows its formation (R112): the lane whose buffer it occupies, 221 where none,
its records, the time in picoseconds at which it leaves the buffer, and whether a good check word has followed it. -/
structure HeldPkt where
  lane : Nat
  recs : List Rec
  leave : Nat
  ok : Bool
deriving DecidableEq, Repr

/-- Edges of a lane that found its buffer full (R25): times of the first and last, number, CHAN and flags of the GAP record. -/
structure LaneLoss where
  first : Nat
  last : Nat
  count : Nat
  chan : Nat
  flags : Nat
deriving DecidableEq, Repr

/-! ### Time base and lanes (R102–R137) -/

/-- The phase of a quad's lane work (R121, R125, R129). -/
inductive CalPhase where
  | idle
  | waitCheck
  | prepare
  | shadow
  | detach
  | inPlace
  | relieved
  | hold
deriving DecidableEq, Repr

/-- The lane work of one quad: the lane concerned, the command op that asked (0 none, 1 CALIBRATE, 2 RETRY, 3 HANDOVER,
4 RETURN, 5 schedule), whether the hand-over is the return, pairs compared and their largest difference (R125, R126). -/
structure QuadCal where
  phase : CalPhase
  lane : Nat
  op : Nat
  ret : Bool
  tries : Nat
  started : Nat
  pairs : Nat
  maxDiff : Nat
  wait : List (Nat × Nat)
deriving DecidableEq, Repr

/-- A quad with no lane work. -/
def QuadCal.init : QuadCal :=
  { phase := .idle, lane := 0, op := 0, ret := false, tries := 0, started := 0, pairs := 0, maxDiff := 0, wait := [] }

/-- The time base, the lanes' tables (unlisted entries are those of a uniform density), the quads' lane work and rotations (R122), and the
records that islands hold, with the instant at which each lane's buffer is empty, in picoseconds (R15). `copies` is how far each island's
copy of now differs from it (R112); `keep` the tick of the horizon keeper (R28); `holdovers` lists holdover intervals in full ticks, the open
one without end (R107); `refBack` a valid reference has returned since the last loss (R105). -/
structure TimeBase where
  on : Bool
  keep : Nat
  copies : Tab Int
  rot : Tab Nat
  bufs : Tab Nat
  refBack : Bool
  tables : Tab (List Nat)
  quads : Tab QuadCal
  svcCal : Tab Nat
  held : Tab (List HeldPkt)
  loss : Tab (Option LaneLoss)
  holdovers : List (Nat × Option Nat)
  epochDue : Bool
deriving DecidableEq, Repr

/-- The time base before its start. -/
def TimeBase.init : TimeBase :=
  { on := false, keep := 0, copies := [], rot := [], bufs := [], refBack := true, tables := [], quads := [], svcCal := [], held := [], loss := [], holdovers := [], epochDue := false }

/-! ### Tasks and engines (R139–R207, R407–R442) -/

/-- A subscription of a task (R187, R418): channel, queue, whether the queue comes from ENG_QPOOL, and the full time from which
records are delivered (R159, R436). -/
structure Sub where
  chan : Nat
  queue : Nat
  pool : Bool
  since : Nat
deriving DecidableEq, Repr

/-- What the event input port holds of one packet: the full time of its place, its rank among equal times (0 marker, 1 channel
A, 2 channel B, 3 gate-defining), the channel of its subscription, its records, the records dropped before it on its queue, and whether the
port formed it from a gate notice (R419–R421). -/
structure PortRec where
  time : Nat
  rank : Nat
  sub : Nat
  late : Bool
  recs : List Rec
  drops : Nat
  formed : Bool
deriving DecidableEq, Repr

/-- A boundary of a task's gates that the router has delivered (R30, R31, R146, R150, R158–R160): what begins and ends there,
the flags that it gives the results, the descriptor that takes effect (R159), whether the task stops, whether a tally bridges
from there (R203), TLY_CFG and TLY_Q of the slot from there on where a switch changes them (R191), the channels whose markers are still to
be released (`marks`) and the counts of the others (`got`). -/
structure Bound where
  time : Nat
  closes : Bool
  opens : Bool
  flags : Nat
  xfl : Nat
  nextX : Nat
  chain : Bool
  desc : List Word
  tag : Nat
  stop : Bool
  bridge : Bool
  tly : Option (Nat × Nat)
  marks : List Nat
  got : Tab (Option Nat)
deriving DecidableEq, Repr

/-- A descriptor switch or a stop that waits for its point (R159, R426): `desc` empty for a stop; `atGate` the gate sequence
that names the point (R494); TLY_CFG and TLY_Q where the switch changes them (R191). -/
structure Pend where
  time : Nat
  atGate : Option Nat
  desc : List Word
  tag : Nat
  tly : Option (Nat × Nat)
deriving DecidableEq, Repr

/-- The phase of a task's gates (R150). Other gate sources use armed until the first gate opens. -/
inductive GatePhase where
  | idle | armed | opened
deriving DecidableEq, Repr

/-- The router's view of a task's gates: phase, start of the open gate, end of the last, sequence number of the open or next
gate, gate-defining edges not yet applied (time; 8 × CHAN + code), and boundaries of SYNC, PIP and HOST gates not
yet reached. `run` is false before the start point, and after a cut (R45, R158); `from` is the point from which the first gate
may begin; `orig` the full time of a TIME boundary. -/
structure GateSt where
  phase : GatePhase
  start : Nat
  last : Option Nat
  seq : Nat
  defs : List (Nat × Nat)
  bounds : List Nat
  run : Bool
  orig : Nat
  start0 : Nat
  chain : Bool
  nextX : Nat
deriving DecidableEq, Repr

/-- A pending A-role edge (R171): time, xflags of its record, the time of the earliest loss on a paired channel that lies at or after it, and
its code. -/
structure PendA where
  time : Nat
  xfl : Nat
  lost : Option Nat
  code : Nat
deriving DecidableEq, Repr

/-- The statistics of one gate (R178–R180): Welford's accumulators and the histogram. -/
structure Stat where
  n : Nat
  acc0 : Int
  acc1 : Int
  mn : Int
  mx : Int
  rej : Nat
  bins : Tab Nat
  below : Nat
  above : Nat
deriving DecidableEq, Repr

/-- Empty statistics. -/
def Stat.init : Stat := { n := 0, acc0 := 0, acc1 := 0, mn := 0, mx := 0, rej := 0, bins := [], below := 0, above := 0 }

/-- Sums of a regression (R168): times relative to the first timed edge, and indices. -/
structure Regr where
  first : Option Nat
  lastT : Nat
  idx : Nat
  n : Int
  si : Int
  st : Int
  sit : Int
  sii : Int
deriving DecidableEq, Repr

/-- Empty sums. -/
def Regr.init : Regr := { first := none, lastT := 0, idx := 0, n := 0, si := 0, st := 0, sit := 0, sii := 0 }

/-- The working state of DUTY (R170). -/
structure DutySt where
  first : Option Nat
  rise : Nat
  fall : Option Nat
  k : Nat
  sum : Nat
  pend : Nat
  bad : Bool
  /-- xflags of the falling edges after the last rising one (R155). -/
  pendX : Nat
deriving DecidableEq, Repr

/-- Empty DUTY state. -/
def DutySt.init : DutySt := { first := none, rise := 0, fall := none, k := 0, sum := 0, pend := 0, bad := false, pendX := 0 }

/-- A run of ADEV (R181–R184): the y values as binary64 patterns, newest first, their exact sum in units of 2^−1074, the frequency used, and
the run's flags. The ring of the u values stands in the task's spill area (R183). -/
structure RunSt where
  u : List Nat
  sum : Int
  fnom : Nat
  start : Nat
  stop : Nat
  seq : Nat
  flags : Nat
  xfl : Nat
  lost : Nat
deriving DecidableEq, Repr

/-- No run. -/
def RunSt.init : RunSt := { u := [], sum := 0, fnom := 0, start := 0, stop := 0, seq := 0, flags := 0, xfl := 0, lost := 0 }

/-- The working state of TALLY (R192–R203): the last two counted timed edges with their signs, N_k, the fractions, the direction
state, per-lane counts of the gate, the marker counts at the last boundary by channel, and
the counts at a cut whose edges are to be bridged. -/
structure TallySt where
  last : Option (Nat × Int)
  prev : Option (Nat × Int)
  nk : Int
  fPrev : Int
  dir : Int
  dirInit : Bool
  /-- Time of the chan_b edge that set the direction state last. -/
  dirT : Nat
  dirMoved : Bool
  pairInit : Bool
  laneCnt : Tab Nat
  marks : Tab (Option Nat)
  audited : Bool
  chain : Bool
  bridged : Int
  bridge : Bool
  /-- Last transition of each lane of chan_a and the direction state at the cut, whether a bridge is due in the next gate, the
  bridged edges of each lane (key 2: whether chan_b's counts changed), and each lane's first transition since the cut or since the task was
  placed (R156, R216). -/
  cut : Tab Nat
  cutDir : Int
  due : Bool
  carry : Tab Nat
  firsts : Tab Nat
  satd : Bool
deriving DecidableEq, Repr

/-- A fresh TALLY state. -/
def TallySt.init : TallySt :=
  { last := none, prev := none, nk := 0, fPrev := 0, dir := 1, dirInit := true, dirT := 0, dirMoved := false, pairInit := false,
    laneCnt := [], marks := [], audited := true, chain := true, bridged := 0, bridge := false, cut := [],
    cutDir := 1, due := false, carry := [], firsts := [], satd := false }

/-- The working state of a library function (chapter 4): the open gate, its flags, the OOS spans, events that wait until a loss's
codes are decided (R156; 1 beside a loss that has already touched the pairs), the lanes' last transitions (1 rose, 2 fell), and the function's own state. -/
structure Meas where
  desc : List Word
  isOpen : Bool
  start : Nat
  seq : Nat
  contig : Bool
  lastEnd : Option Nat
  flags : Nat
  xfl : Nat
  lost : Nat
  oos : List (Nat × Nat × Nat)
  evq : List (PortRec × Nat)
  dirs : Tab Nat
  n : Nat
  satd : Bool
  tref : Option Nat
  /-- xflags of a t_ref that lies before the gate (R155). -/
  trefX : Nat
  /-- The last timed edge of the gate that codes_a selects, with its xflags, and the selected edges lost since (R167). -/
  lastSel : Option (Nat × Nat)
  sinceLost : Nat
  tlast : Option Nat
  nSeg : Nat
  pend : Nat
  lateN : Nat
  regr : Regr
  duty : DutySt
  pa : Option PendA
  /-- The first and the last B edge of the present PHASE cycle, with their xflags (R176). -/
  pb : Option (Nat × Nat)
  pbLast : Option (Nat × Nat)
  t0 : Option Nat
  /-- xflags of t_0 (R155, R177). -/
  t0X : Nat
  k : Nat
  tPrev : Option Nat
  fit : List (Nat × Nat × Nat)
  stat : Stat
  adev : RunSt
  tly : TallySt
deriving DecidableEq, Repr

/-- A fresh working state. -/
def Meas.init : Meas :=
  { desc := [], isOpen := false, start := 0, seq := 0, contig := false, lastEnd := none, flags := 0, xfl := 0, lost := 0, oos := [], evq := [],
    dirs := [], n := 0, satd := false, tref := none, trefX := 0, lastSel := none, sinceLost := 0, tlast := none, nSeg := 0, pend := 0, lateN := 0, regr := Regr.init,
    duty := DutySt.init, pa := none, pb := none, pbLast := none, t0 := none, t0X := 0, k := 0, tPrev := none, fit := [], stat := Stat.init,
    adev := RunSt.init, tly := TallySt.init }

/-- A placed task (R418–R426): its descriptor, engine and context, subscriptions, output queue, gates, the boundaries that the
router has delivered and the function has not yet taken, what its event input port holds, pending switches, and stop. `tag` is
the host command's tag of the last switch. -/
structure Task where
  desc : List Word
  eng : Nat
  ctx : Nat
  subs : List Sub
  outq : Nat
  started : Bool
  startAt : Nat
  gates : GateSt
  bounds : List Bound
  port : List PortRec
  gapPart : List (Nat × Rec)
  dropPart : Tab Nat
  pend : List Pend
  stopAt : Option Nat
  ended : Bool
  moving : Bool
  spill : Nat × Nat
  meas : Meas
deriving DecidableEq, Repr

/-- The flags of a context (R416). -/
structure CFlags where
  z : Bool
  n : Bool
  c : Bool
  v : Bool
  ev : Bool
  mark : Bool
  sel : Bool
  dvz : Bool
  sat : Bool
deriving DecidableEq, Repr

/-- All flags zero. -/
def CFlags.init : CFlags :=
  { z := false, n := false, c := false, v := false, ev := false, mark := false, sel := false, dvz := false, sat := false }

/-- The current event of a context (R420): its record, role bits, subscription and drops since the previous event. -/
structure CEvent where
  record : Rec
  roles : Nat
  sub : Nat
  drops : Nat
deriving DecidableEq, Repr

/-- A context (R411–R426): registers, accumulators, flags, program counter, call stack, event registers, histogram origin,
width and bins, frame bytes, and whether it is blocked in EVPOP, has an output packet open, or has issued the op of a word whose
sequencer operation is still to act. `stopSeen` is the time at which EVPOP returned EV = 0 (R426). -/
structure Ctx where
  valid : Bool
  task : Nat
  g : Tab (BitVec 64)
  acc0 : BitVec 128
  acc1 : BitVec 128
  fl : CFlags
  pc : Nat
  stack : List Nat
  ev : Option CEvent
  rest : List (Rec × Nat × Nat)
  origin : Int
  width : Nat
  bins : Tab Nat
  below : Nat
  above : Nat
  frame : Memory
  blocked : Bool
  opn : Bool
  seqPend : Bool
  stopSeen : Option Nat
  moving : Bool
deriving DecidableEq, Repr

/-- An empty context: everything zero. -/
def Ctx.init : Ctx :=
  { valid := false, task := 0, g := [], acc0 := 0, acc1 := 0, fl := CFlags.init, pc := 0, stack := [], ev := none, rest := [],
    origin := 0, width := 0, bins := [], below := 0, above := 0, frame := [], blocked := false, opn := false, seqPend := false,
    stopSeen := none, moving := false }

/-- An ENG_CMD in progress (R439, R442): its number, and the engines that it names. -/
structure EngCmd where
  num : Nat
  named : List Nat
deriving DecidableEq, Repr

/-- Why an engine's control store is loaded (R409, R430, R433–R436). -/
inductive LoadWhy where
  | retry (cmd : EngCmd) | afterMove | afterMchk | forMove (src : Nat) | forMchk (src : Nat)
deriving DecidableEq, Repr

/-- A move of tasks to a target engine (R433, R435, R436): immediate or planned, source, tasks, step, T_h, and the records that
the hand-over buffer holds by task. `auto` is the number of the automatic try, 0 for a command; `cmd` is the ENG_CMD
that started it. -/
structure Move where
  imm : Bool
  src : Nat
  tasks : List Nat
  step : Nat
  th : Nat
  whole : Bool
  auto : Nat
  cmd : Option EngCmd
  spare : Bool
  buf : List (Nat × Nat × List Rec)
deriving DecidableEq, Repr

/-- The engines: the library of every control store, loads and moves in progress by engine, automatic evacuations to be retried
(by engine: tries so far, and the tick of the next), the number of ENG_CMDs taken, tasks, aborted tasks that an escalation
restarts (R422), contexts by 32e + x, the times of counted transitions and reports by counter (R200), packets
whose records the router is popping. -/
structure Engines where
  store : Tab (BitVec 128)
  loads : Tab (Option (LoadWhy × Nat))
  moves : Tab (Option Move)
  retries : Tab (Nat × Nat)
  cmds : Nat
  tasks : Tab (Option Task)
  aborted : Tab (Option Task)
  ctxs : Tab Ctx
  counted : Tab (List (Nat × Nat))
  parts : Tab (List Rec)
deriving DecidableEq, Repr

/-- No engine loaded, no task placed. -/
def Engines.init : Engines :=
  { store := [], loads := [], moves := [], retries := [], cmds := 0, tasks := [], aborted := [], ctxs := [], counted := [], parts := [] }

/-! ### Monitor converters and decimation (R234–R282) -/

/-- A chain configuration (R251, R263, R267, R281): a copy of the staging registers. -/
structure DecCfg where
  src : Nat
  kind : Nat
  pos : Nat
  neg : Nat
  preset : Nat
  fmt : Bool
  hb2 : Bool
  dcb : Bool
  frz : Bool
  seed : Bool
  k : Nat
  pkt : Nat
  p : Nat
  order : Nat
  r : Nat
  sh : List Nat
  phase : Nat
  bank : Nat
  outq : Nat
deriving DecidableEq, Repr

/-- No configuration. -/
def DecCfg.init : DecCfg :=
  { src := 0, kind := 0, pos := 0, neg := 0, preset := 0, fmt := false, hb2 := false, dcb := false, frz := false, seed := false, k := 0,
    pkt := 0, p := 0, order := 0, r := 0, sh := [], phase := 0, bank := 0, outq := 0 }

/-- What a resampler holds of one edge, or of lost edges (`lost` not 0), until the horizon passes its time (R237–R240). -/
structure REdge where
  time : Nat
  code : Nat
  lower : Bool
  lost : Nat
  late : Bool
  tsus : Bool
deriving DecidableEq, Repr

/-- A disturbed span of a settling event (R260): its FLAGS bit, start and end in fine units, no end while it
lasts; whether the context has reached it. -/
structure DSpan where
  cause : Nat
  start : Nat
  stop : Option Nat
  seen : Bool
deriving DecidableEq, Repr

/-- A running cross-fade (R270): the old bank, the new one, log2 of its length, and outputs completed. -/
structure Fade where
  bank : Nat
  log : Nat
  j : Nat
deriving DecidableEq, Repr

/-- A coefficient switch that has not begun (R269, R271): bank, code, point, tag of a host command. -/
structure FadeReq where
  bank : Nat
  code : Nat
  point : Nat
  tag : Nat
deriving DecidableEq, Repr

/-- An APPLY that waits for its grid boundary (R276). -/
structure DecApply where
  cfg : DecCfg
  point : Nat
  tag : Nat
deriving DecidableEq, Repr

/-- An open SAMPLE packet (R274, R275): instant and sequence number of the first sample, flags, time at which the first sample
was formed, and the samples. -/
structure SamplePkt where
  head : Nat
  seq : Nat
  flags : Nat
  formed : Nat
  data : List Word
deriving DecidableEq, Repr

/-- A suppression in progress (R262): cause bits, instant of the first suppressed output, and their number. -/
structure Supp where
  causes : Nat
  first : Option Nat
  count : Nat
deriving DecidableEq, Repr

/-- A decimation context. `st` 0 IDLE, 1 ARMED, 2 RUN; `anchor` T0 and `del` the phase delay in fine units (R265, R267); `i`
grid intervals taken since T0, `m` outputs since T0, `seq` the next sequence number; then the resampler's count
function (R238, R239) with its value at the last grid point where the chain has one, the last direction of each lane with its time and
the kinds of edge seen (R156), the edges counted since the last grid boundary with the directions there, the codes of a converter that the
horizon has not passed, each with its bridge and clip marks; by bit of FLAGS until when outputs of a filter of one tap carry it; the settling
events; until when outputs are open (assumption log 75); the chain's registers (newest first), the banks, and the open packet. -/
structure DecCtx where
  st : Nat
  cfg : DecCfg
  anchor : Nat
  del : Nat
  i : Nat
  m : Nat
  seq : Nat
  edges : List REdge
  chainFrom : Nat
  n : Int
  last : Option (Nat × Int)
  prev : Option (Nat × Int)
  cPrev : Option Int
  excess : Int
  dirs : Tab (Nat × Nat)
  kinds : Nat
  back : Option (List REdge × Tab (Nat × Nat))
  conv : List (Int × Bool × Bool)
  marks : Tab Nat
  openTo : Nat
  spans : List DSpan
  supp : Option Supp
  coefSup : Nat
  pre : Int
  integ : List Int
  comb : List Int
  est : Int
  dcbIn : Int
  d1 : List Int
  d2 : List Int
  d3 : List Int
  cur : Nat
  fade : Option Fade
  req : Option FadeReq
  apply : Option DecApply
  stopAt : Option Nat
  pkt : Option SamplePkt
deriving DecidableEq, Repr

/-- A context in IDLE. -/
def DecCtx.init : DecCtx :=
  { st := 0, cfg := DecCfg.init, anchor := 0, del := 0, i := 0, m := 0, seq := 0, edges := [], chainFrom := 0, n := 0, last := none, prev := none,
    cPrev := none, excess := 0, dirs := [], kinds := 0, back := none, conv := [], marks := [], openTo := 0, spans := [], supp := none, coefSup := 0, pre := 0, integ := [], comb := [],
    est := 0, dcbIn := 0, d1 := [], d2 := [], d3 := [], cur := 0, fade := none, req := none, apply := none, stopAt := none,
    pkt := none }

/-- A readback or check slot of a converter (R246–R248): the DAC of the tap set (2 × port + 1 for the lower one), none for a
check; intervals taken; start tick; whether the reading is discarded (R91); the readback filter's integrators, combs and
outputs; and why a check runs: 0 rotation or schedule, 1 CHECK command, 2 RETRY, 3 after SUBSTITUTE. -/
structure MadcSlot where
  dac : Option Nat
  k : Nat
  start : Nat
  discard : Bool
  integ : List Int
  comb : List Int
  outs : List Int
  why : Nat
deriving DecidableEq, Repr

/-- A monitor converter: the last 4,096 codes, newest first; the slot; the next DAC of its tap set's rotation; whether the last
check passed; the bridge value and the grid intervals of bridge left (R247); a MADC_TAP write held by a slot (R245). -/
structure Madc where
  codes : List Nat
  slot : Option MadcSlot
  passed : Bool
  bridge : Int
  left : Nat
deriving DecidableEq, Repr

/-- A converter that has done nothing. -/
def Madc.init : Madc := { codes := [], slot := none, passed := false, bridge := 0, left := 0 }

/-- The decimation unit: contexts, coefficients by 256 × bank + index, bank headers; the converters; by tap set the next DAC of
the rotation, the tick after the start of its last readback slot (0: none), the end of a MUX or SPARE span with its cause, and a tap write
that a slot holds, plus one. -/
structure Decim where
  ctxs : Tab DecCtx
  coefs : Tab (BitVec 24)
  hdrs : Tab Word
  conv : Tab Madc
  next : Tab Nat
  lastRb : Tab Nat
  muxEnd : Tab (Nat × Nat)
  heldTap : Tab Nat
deriving DecidableEq, Repr

/-- Every context in IDLE. -/
def Decim.init : Decim := { ctxs := [], coefs := [], hdrs := [], conv := [], next := [], lastRb := [], muxEnd := [], heldTap := [] }

/-! ### Links (R374–R406, R509–R534) -/

/-- A sequenced flit kept for replay (R394): sequence number, type, records or events, and slots; its time fields are formed at
each sending (R393). -/
structure TxFlit where
  seq : Nat
  kind : Nat
  nrep : Nat
  slots : List Nat
deriving DecidableEq, Repr

/-- LINK_EVT forming for one code of a link (R399): end of the gap in ticks, 0 where none runs; events since the last LINK_EVT;
the latest held event. -/
structure LinkEvt where
  until_ : Nat
  count : Nat
  held : Option (Nat × Nat × Nat × Nat)
deriving DecidableEq, Repr

/-- What a forwarder knows of a record on its way (R526): source, destination, tunnel, last of its packet. -/
structure FwdTag where
  src : Nat
  dst : Nat
  tun : Nat
  last : Bool
deriving DecidableEq, Repr

/-- A link, L0–L15 or C0–C3 as 16–19. `step` the training step (0 none, 1 LOCK, 2 HELLO, 3 waiting to join, 5 SYNC, 6 first
TIME sent); `tries`; receive side: sequence expected, whether any was accepted, NAKs for it, whether a good flit has come since
the last bad one; send side: next sequence, flits kept, flits that wait for room, resends of the oldest; G, credits received
and held, FWD flits sent and accepted (R397, R517); CREDIT_OVR seen; H and the last A (R380); last time of each channel (R398);
the TREQ in flight, exchanges and their sum, exchanges left of a RESYNC; the AREQ in flight; LINK_EVT forming by code; when the
link went down; when the last good flit came and the oldest flit was sent; when the last TREQ, TIME and AREQ of their periods went
(R385, R386, R397), each where one has gone since the link came UP; DEVs of its subtree; flits that wait for room in the
receive queue (R526); the peer's role and rooted bit in its HELLO. -/
structure Link where
  step : Nat
  tries : Nat
  rx : Nat
  rxAny : Bool
  naks : Nat
  good : Bool
  tx : Nat
  kept : List TxFlit
  waitTx : List TxFlit
  resent : Nat
  g : Nat
  rb : Nat
  bal : Nat
  sent : Nat
  acc : Nat
  ovr : Bool
  high : Option Nat
  lastA : Option Nat
  times : Tab Nat
  t1 : Option Nat
  exch : Nat
  rttSum : Int
  more : Nat
  rttKnown : Bool
  lastErr : Int
  areq : Option Nat
  evts : Tab LinkEvt
  downAt : Option Nat
  heard : Nat
  since : Nat
  treqAt : Option Nat
  timeAt : Option Nat
  areqAt : Option Nat
  devs : List Nat
  rxBuf : List (List Rec × List FwdTag)
  role : Nat
  rooted : Bool
deriving DecidableEq, Repr

/-- No event of a code yet. -/
def LinkEvt.init : LinkEvt := { until_ := 0, count := 0, held := none }

/-- A link that has never trained. -/
def Link.init : Link :=
  { step := 0, tries := 0, rx := 0, rxAny := false, naks := 0, good := true, tx := 0, kept := [], waitTx := [], resent := 0, g := 0, rb := 0,
    bal := 0, sent := 0, acc := 0, ovr := false, high := none, lastA := none, times := [], t1 := none, exch := 0, rttSum := 0, more := 0,
    rttKnown := false, lastErr := 0, areq := none, evts := [], downAt := none, heard := 0, since := 0,
    treqAt := none, timeAt := none, areqAt := none, devs := [], rxBuf := [],
    role := 0, rooted := false }

/-- The cascade of a device: what a member's load added to its own count, in fine units (R513 step 6); offset o and its target (R519), last err of a member; at the root U of each member and the line
events already merged, as (line, group, tick) and time (R522); the link through which a JOIN came, by DEV; tags of the records
in XQ40–XQ47 by queue (R526); the tick at which step 9 began (R512) and the tick of the last step of o (R519). -/
structure Casc where
  base : Int
  off : Int
  target : Int
  err : Int
  us : Tab Nat
  via : Tab Nat
  lines : List (Nat × Nat × Nat)
  tags : Tab (List FwdTag)
  begun : Nat
  stepAt : Option Nat
deriving DecidableEq, Repr

/-- A device alone. -/
def Casc.init : Casc := { base := 0, off := 0, target := 0, err := 0, us := [], via := [], lines := [], tags := [], begun := 0, stepAt := none }

/-! ### Trigger units (R283–R302) -/

/-- What a Pip unit takes: an EDGE record, a GAP packet (its flags and lost count), a result (task, function, value, channel), a
line event, or a SOFT command. -/
inductive PWhat where
  | edge (chan code flags : Nat)
  | gap (chan flags count : Nat)
  | result (task func value chan : Nat)
  | line (l : Nat) (late : Bool)
  | soft (mask : Nat)
deriving DecidableEq, Repr

/-- An input of a Pip unit, at its full time; `order` and `serial` rank equal times (R305's order). -/
structure PItem where
  time : Nat
  order : Nat
  serial : Nat
  what : PWhat
deriving DecidableEq, Repr

/-- A condition (R283): a copy of its TRG_SRC, TRG_ARG, TRG_LL and TRG_UL registers. -/
structure PCond where
  kind : Nat
  codes : Nat
  sel : Nat
  arg : Nat
  ll : Nat
  ul : Nat
deriving DecidableEq, Repr

/-- No condition. -/
def PCond.init : PCond := { kind := 0, codes := 0, sel := 0, arg := 0, ll := 0, ul := 0 }

/-- A configuration of a Pip unit (R300). `tmo` is the auto timeout, 2^32 for a register of 0 (R291). -/
structure PipCfg where
  op : Nat
  use : Nat
  auto : Bool
  evtEn : Bool
  qEn : Bool
  win : Nat
  tmo : Nat
  outq : Nat
  conds : List PCond
deriving DecidableEq, Repr

/-- A Pip command that waits for its point (R300): 1 ENABLE, 2 DISABLE, 3 APPLY; first tick that it concerns, its point, the host
command's tag, and the staged copy as it was checked. -/
structure PipCmd where
  tick : Nat
  op : Nat
  point : Nat
  tag : Nat
  cfg : Option PipCfg
deriving DecidableEq, Repr

/-- A Pip unit: its running configuration (none in OFF), first tick not judged, inputs in order, commands that wait; the states of
WINDOW comparators by condition and side (1 low, 2 high), COUNT counters, ticks + 1 of the latest events for AND, the sequence's next
step with the times of its first and latest events; next trigger number, t_ref; and the last transition of each lane (R156). -/
structure Pip where
  cfg : Option PipCfg
  j : Nat
  items : List PItem
  cmds : List PipCmd
  win : Tab Nat
  cnt : Tab Nat
  mem : Tab Nat
  step : Nat
  first : Nat
  last : Nat
  seq : Nat
  tref : Nat
  dirs : Tab Nat
deriving DecidableEq, Repr

/-- A unit in OFF. -/
def Pip.init : Pip :=
  { cfg := none, j := 0, items := [], cmds := [], win := [], cnt := [], mem := [], step := 0, first := 0, last := 0, seq := 0, tref := 0,
    dirs := [] }

/-- A pulse of a TRIG pin (R295): full times of its start and end, its polarity, and whether it has begun. -/
structure Pulse where
  start : Nat
  stop : Nat
  low : Bool
  begun : Bool
deriving DecidableEq, Repr

/-- A TRIG pin: whether it is an output now, the direction that it takes at the next tick boundary (R295, R605), and its pulses in order. -/
structure TrigPin where
  drives : Bool
  turn : Option Bool
  pulses : List Pulse
deriving DecidableEq, Repr

/-- An input. -/
def TrigPin.init : TrigPin := { drives := false, turn := none, pulses := [] }

/-- The Pip units and the TRIG pins. -/
structure Trig where
  units : Tab Pip
  pins : Tab TrigPin
deriving DecidableEq, Repr

/-- Every unit in OFF, every pin an input. -/
def Trig.init : Trig := { units := [], pins := [] }

/-! ### Acquisition units (R303–R321) -/

/-- A trigger on its way to an acquisition unit: its time, and its TRIG packet. -/
structure ATrig where
  time : Nat
  recs : List Rec
deriving DecidableEq, Repr

/-- A packet of the capture set in the merge buffer (R305), or the trace of one that the full buffer lost (R318). -/
structure AItem where
  time : Nat
  chan : Nat
  code : Nat
  serial : Nat
  late : Bool
  lost : Bool
  recs : List Rec
deriving DecidableEq, Repr

/-- A run of lost records (R318): times of the first and the last, their number, CHAN of the first. -/
structure ALoss where
  first : Nat
  last : Nat
  count : Nat
  chan : Nat
deriving DecidableEq, Repr

/-- An open segment (R308): its trigger, number, records before its trigger, records counted after it and delivered, records lost, GAP
packets, time of its last record, the bytes of the slot or of the part written so far as records, the running loss, and parts done. -/
structure ASeg where
  trig : ATrig
  num : Nat
  pre : Nat
  post : Nat
  given : Nat
  lost : Nat
  gaps : Nat
  last : Nat
  body : List Rec
  loss : Option ALoss
  part : Nat
deriving DecidableEq, Repr

/-- An acquisition unit beside its registers: arm point, stop point with its close reason and whether the Pip unit's DISABLE set it;
merge buffer, triggers not yet placed; the sequence released and outside every segment, newest first, for the pre-trigger history; open
segment; r of R310; triggers skipped and missed since the last segment; full count of segments written; the running loss of a stream;
whether the EPOCH record that begins the stream has been written. -/
structure Acq where
  arm : Nat
  stop : Option (Nat × Nat)
  pipOff : Bool
  buf : List AItem
  trigs : List ATrig
  hist : List AItem
  seg : Option ASeg
  rearm : Nat
  skipped : Nat
  missed : Nat
  written : Nat
  loss : Option ALoss
  begun : Bool
deriving DecidableEq, Repr

/-- A unit in IDLE. -/
def Acq.init : Acq :=
  { arm := 0, stop := none, pipOff := false, buf := [], trigs := [], hist := [], seg := none, rearm := 0, skipped := 0, missed := 0,
    written := 0, loss := none, begun := false }


/-! ### Memory and record store (R443–R472) -/

/-- A stream ring beside its registers (R453–R459): its writer (0 none, 1 + a an acquisition unit, 256 + q a queue), the tick of the
first record of the open extent, the next extent to be given to a drive, extents above SP whose Writes have completed, extents to
be given again (R466), and whether its last packet found it full. -/
structure Ring where
  writer : Nat
  first : Option Nat
  given : Nat
  done : List Nat
  redo : List Nat
  full : Bool
deriving DecidableEq, Repr

/-- A ring that was reset. -/
def Ring.init : Ring := { writer := 0, first := none, given := 0, done := [], redo := [], full := false }

/-- A directory entry that is valid (R462). -/
structure DirEntry where
  xseq : Nat
  first : Nat
  records : Nat
  region : Nat
  epoch : Nat
  poison : Nat
  crc : Nat
deriving DecidableEq, Repr

/-- A command outstanding on a drive: its number, NVMe opcode, the region and extent that a Write belongs to, slot, and whether an Abort
has named it, and the tick from which its timeout runs (R465). -/
structure NvCmd where
  id : Nat
  opcode : Nat
  region : Nat
  xseq : Nat
  slot : Nat
  part : Nat
  aborted : Bool
  since : Nat
deriving DecidableEq, Repr

/-- An NVMe drive beside its registers (R461–R466): slots N and directory slots k, store generation, bytes of one command, valid
directory entries by slot, commands outstanding, number of the next, extents being written (region, extent, slot), the tick of the
last controller reset, and the tick at which its SMART log is due. -/
structure Drive where
  n : Nat
  k : Nat
  gen : Nat
  chunk : Nat
  dir : Tab (Option DirEntry)
  cmds : List NvCmd
  nextId : Nat
  writing : List (Nat × Nat × Nat)
  resetAt : Option Nat
  smartAt : Nat
deriving DecidableEq, Repr

/-- A drive never initialised. -/
def Drive.init : Drive :=
  { n := 0, k := 0, gen := 0, chunk := 131072, dir := [], cmds := [], nextId := 0, writing := [], resetAt := none, smartAt := 0 }

/-- External memory beside its contents: corrected errors by page, poisoned 64-byte lines, retired pages in the order of their spare pages,
patrol scrubber's next line, whether a SCRUB_NOW pass runs, and the tick before which the next pass does not begin (R448); rings by region; drives; the drive and the ring served last (R463); and
the extent read in progress: drive, slot, host address (R464). -/
structure Store where
  ce : Tab Nat
  poison : List Nat
  retired : List Nat
  scrub : Nat
  pass : Bool
  passAt : Nat
  rings : Tab Ring
  drives : Tab Drive
  turn : Nat
  lastRing : Nat
  xr : Option (Nat × Nat × Nat)
deriving DecidableEq, Repr

/-- Nothing trained, nothing written. -/
def Store.init : Store :=
  { ce := [], poison := [], retired := [], scrub := 0, pass := false, passAt := 0, rings := [], drives := [], turn := 0, lastRing := 0, xr := none }



/-! ### Host rings and the command path (R484–R496) -/

/-- A host ring beside its registers: the head at the last notice (R488), the length of the packet that waits for room, 0 where none does
(R487), and the queue served last (R485). -/
structure HRing where
  noted : Nat
  want : Nat
  turn : Nat
deriving DecidableEq, Repr

/-- A ring just enabled. -/
def HRing.init : HRing := { noted := 0, want := 0, turn := 0 }

/-- A host command that was accepted: op, object, tag, the full time at which it takes effect, and the op of a unit command. -/
structure LiveCmd where
  op : Nat
  obj : Nat
  tag : Nat
  point : Nat
  sub : Nat
deriving DecidableEq, Repr

/-- A completion entry: tag, op, status, code and point (R496). -/
structure CplEntry where
  tag : Nat
  op : Nat
  status : Nat
  code : Nat
  point : Nat
deriving DecidableEq, Repr

/-- The host path: rings; the phase of the completion queue (R496); entries of a group fetched so far (R495); FENCEs that wait, and the
commands accepted so far whose effect it waits for; and completion entries that wait for room in the completion queue. -/
structure HostSt where
  rings : Tab HRing
  phase : Bool
  group : List CmdEntry
  fences : List CmdEntry
  live : List LiveCmd
  cpls : List CplEntry
deriving DecidableEq, Repr

/-- Nothing enabled. -/
def HostSt.init : HostSt := { rings := [], phase := true, group := [], fences := [], live := [], cpls := [] }

/-! ### Boot, flash and fuses (R535–R561) -/

/-- The fuses (R554): the digest, dig_en and the JTAG level as they are fused; what is in effect stands in BOOT_OTP_STS and
BOOT_OTP_DIG. -/
structure Otp where
  digest : Option (List Byte)
  digEn : Bool
  jtag : Nat
deriving DecidableEq, Repr

/-- Boot state beside the registers: the page buffer by byte, the flash command in progress with its address (R557), the fuses, the
TASKS section that step 10 places, log2 of the fitted flash's size, what the world showed at the last boot, and the reserve of engines in effect (R409). -/
structure BootSt where
  page : Memory
  flash : Option (Nat × Nat)
  otp : Otp
  tasks : List Byte
  flashLog : Nat
  env : Option BootEnv
  reserve : Nat
deriving DecidableEq, Repr

/-- No fuse programmed, no command in progress. -/
def BootSt.init : BootSt := { page := [], flash := none, otp := { digest := none, digEn := false, jtag := 0 }, tasks := [], flashLog := 0, env := none, reserve := 0 }


/-! ### The whole state -/

/-- The state of the block. `regs` holds every stored field of every BAR0 register, by offset; an unlisted register reads
zero. `time` counts full ticks, epoch × 2^55 + tick (R6); `up` the ticks since the time base started (R40). -/
structure State where
  /-- Commands waiting, first in, first out. -/
  pending : List Instr
  /-- The model's own counter: advanced at each use of a free value. No statement rests on its value. -/
  freeCtr : Nat
  time : Nat
  up : Nat
  regs : Tab Word
  pairs : List PairEntry
  out : List Out
  dev : Dev
  q : Fabric
  evt : Events
  flt : Faults
  ldg : Ledger
  ports : Tab Port
  tb : TimeBase
  domReq : List Nat
  eng : Engines
  thrs : Tab (List (Nat × Nat))
  dram : Memory
  dec : Decim
  links : Tab Link
  casc : Casc
  trg : Trig
  acq : Tab Acq
  store : Store
  hst : HostSt
  flash : Memory
  boot : BootSt
deriving DecidableEq, Repr

/-- Addresses of every copy of a register. -/
def regCopies (r : Reg) : List Nat :=
  let p := regShape r
  (natsFrom 0 p.n1).flatMap fun i => (natsFrom 0 p.n2).map fun j => p.base + p.s1 * i + p.s2 * j

/-- The reset value of a register: the reset values of its fields (R7; R553 for "img"). -/
def regReset (r : Reg) : Word :=
  (regFields r).foldl (fun w f => setBits w f.lo f.w f.rst) 0

/-- Copies of a register whose reset value differs from copy to copy: MADC_STS (R242, R279) and FLT_ESC (R572). -/
def resetExtra : List (Nat × Word) :=
  ((natsFrom 0 12).map fun c =>
    ((regShape .MADC_STS).base + (regShape .MADC_STS).s1 * c,
      if c % 3 = 2 then (1 : Word) else BitVec.ofNat 32 (4 * (2 * (c / 3) + c % 3)))) ++
  [((regShape .FLT_ESC).base, 10000), ((regShape .FLT_ESC).base + (regShape .FLT_ESC).s1, 1000),
   ((regShape .FLT_ESC).base + 2 * (regShape .FLT_ESC).s1, 100)]

/-- The registers whose reset value is not zero, in one table. -/
def resetRegs : Tab Word :=
  resetExtra.foldl (fun t e => Tab.set 0 t e.1 e.2)
    (allRegs.foldl (fun t r =>
      if regReset r = 0 then t else (regCopies r).foldl (fun t a => Tab.set 0 t a (regReset r)) t) [])

/-- Reset: POWERUP just after POR, with every register at its reset value and nothing pending (R36, R535, R538). -/
def State.reset : State :=
  { pending := [], freeCtr := 0, time := 0, up := 0, regs := resetRegs, pairs := [], out := [], dev := Dev.init,
    q := Fabric.init, evt := Events.init, flt := Faults.init, ldg := Ledger.init,
    ports := [],
    tb := TimeBase.init,
    domReq := [],
    eng := Engines.init,
    thrs := [],
    dram := [],
    dec := Decim.init,
    links := [],
    casc := Casc.init,
    trg := Trig.init,
    acq := [],
    store := Store.init,
    hst := HostSt.init,
    flash := [],
    boot := BootSt.init }

end Sys2Proof.Machine
end

