-- ==== Sys2Proof/Machine/Ops.lean ====
section
/-! DEFINITION. The named operations over registers, fields, memories, time and the outbox, which every meaning uses. -/

namespace Sys2Proof.Machine

/-! ### Registers and fields -/

/-- Offset of copy (i, j) of a register in BAR0. -/
def regAddr (r : Reg) (i j : Nat) : Nat :=
  let p := regShape r
  p.base + p.s1 * i + p.s2 * j

/-- The stored word of a register. -/
def State.rg (s : State) (r : Reg) (i : Nat := 0) (j : Nat := 0) : Word := Tab.get 0 s.regs (regAddr r i j)

/-- Store a register's word. -/
def State.setRg (s : State) (r : Reg) (w : Word) (i : Nat := 0) (j : Nat := 0) : State :=
  { s with regs := Tab.set 0 s.regs (regAddr r i j) w }

/-- The value of a field. -/
def State.fd (s : State) (f : Fld) (i : Nat := 0) (j : Nat := 0) : Nat := bitsOf (s.rg f.reg i j) f.lo f.w

/-- Whether a one-bit field is 1. -/
def State.bit (s : State) (f : Fld) (i : Nat := 0) (j : Nat := 0) : Bool := s.fd f i j == 1

/-- Set a field to the low bits of a number. -/
def State.setFd (s : State) (f : Fld) (v : Nat) (i : Nat := 0) (j : Nat := 0) : State :=
  s.setRg f.reg (setBits (s.rg f.reg i j) f.lo f.w v) i j

/-- Add one to a field, modulo its width. -/
def State.incFd (s : State) (f : Fld) (i : Nat := 0) (j : Nat := 0) : State := s.setFd f (s.fd f i j + 1) i j

/-- Add to a field that sticks at its maximum. -/
def State.addSat (s : State) (f : Fld) (n : Nat) (i : Nat := 0) (j : Nat := 0) : State :=
  s.setFd f (sat (2 ^ f.w - 1) (s.fd f i j + n)) i j

/-- The 64-bit quantity of a register pair, named by its low and high registers (R12). -/
def State.pair (s : State) (lo hi : Reg) (i : Nat := 0) (j : Nat := 0) : Nat := pairNat (s.rg lo i j) (s.rg hi i j)

/-- Set both words of a pair at once. -/
def State.setPair (s : State) (lo hi : Reg) (v : Nat) (i : Nat := 0) (j : Nat := 0) : State :=
  (s.setRg lo (loWord v) i j).setRg hi (hiWord v) i j

/-! ### Outbox, free values -/

/-- The device sends `o`. -/
def State.emit (s : State) (o : Out) : State := { s with out := s.out ++ [o] }

/-- The next free value (Config.freeValue): what it is, nothing says. -/
def State.free (s : State) : Nat × State :=
  ((Config.freeValue s.freeCtr).toNat, { s with freeCtr := s.freeCtr + 1 })

/-! ### Time (R5, R6, R28, R40) -/

/-- Ticks of one epoch. -/
def epochTicks : Nat := 2 ^ 55

/-- The device time of a time counted from the start of this device's own count, in fine units: a cascade member's load (R513) and its
offset (R519) are added. -/
def State.devTime (s : State) (t : Nat) : Nat := ((t : Int) + (s.casc.base + s.casc.off)).toNat

/-- Full time of now in fine units. -/
def State.now (s : State) : Nat := s.devTime (s.time * 512)

/-- Now in full ticks. -/
def State.nowTick (s : State) : Nat := s.now / 512

/-- The tick count in [63:9] of a timestamp. -/
def State.tick (s : State) : Nat := s.nowTick % epochTicks

/-- The direct horizon in full ticks, from the horizon keeper's tick; zero until now passes 1,250 ticks after the time base starts (R28, R40). -/
def State.hD (s : State) : Nat := if 1250 ≤ s.up then s.tb.keep - 1250 else 0

/-- The remote horizon in full ticks. -/
def State.hR (s : State) : Nat := if 12500 ≤ s.up then s.tb.keep - 12500 else 0

/-- The 64-bit timestamp of a full time (R6). -/
def stamp (full : Nat) : Nat := full % 2 ^ 64

/-- The full time nearest to now that a 64-bit timestamp names. -/
def State.fullTime (s : State) (t : Nat) : Nat :=
  let e := s.now / 2 ^ 64
  let c := 2 ^ 64 * e + t % 2 ^ 64
  if 2 ^ 63 + s.now < c ∧ 0 < e then c - 2 ^ 64
  else if 2 ^ 63 + c < s.now then 2 ^ 64 + c else c

/-- Ticks in `us` microseconds and `ms` milliseconds. -/
def usTicks (us : Nat) : Nat := us * 625
def msTicks (ms : Nat) : Nat := 625000 * ms

/-- Whether a time counted in ticks has come. Before the time base runs, no tick is counted, and what is due is taken as it comes
(assumption log 152). -/
def State.due (s : State) (t : Nat) : Bool := ! s.tb.on || decide (t ≤ s.time)

/-! ### Memories -/

/-- The byte at an address; `blank` is what an unlisted address reads as. -/
def Memory.read (blank : Byte) (m : Memory) (a : Nat) : Byte := Tab.get blank m a

/-- Write one byte. -/
def Memory.write (blank : Byte) (m : Memory) (a : Nat) (b : Byte) : Memory := Tab.set blank m a b

/-- `n` bytes from an address. -/
def Memory.readN (blank : Byte) (m : Memory) (a n : Nat) : List Byte := (natsFrom a n).map (Memory.read blank m)

/-- Write bytes from an address. -/
def Memory.writeN (blank : Byte) : Memory → Nat → List Byte → Memory
  | m, _, [] => m
  | m, a, b :: t => Memory.writeN blank (Memory.write blank m a b) (a + 1) t

/-- The canonical form of a memory. -/
abbrev Memory.wf (blank : Byte) (m : Memory) : Bool := Tab.wf blank m

/-! ### Records (record catalogue, R355) -/

/-- W0 of a record: TYPE, CHAN, CODE, FLAGS. -/
def recW0 (ty chan code flags : Nat) : Word :=
  BitVec.ofNat 32 (ty % 256 * 2 ^ 24 + chan % 8192 * 2 ^ 11 + code % 8 * 2 ^ 8 + flags % 256)

/-- A record whose W1:W2 hold a 64-bit value. -/
def mkRec (ty chan code flags v w3 : Nat) : Rec := ⟨recW0 ty chan code flags, loWord v, hiWord v, w32 w3⟩

/-- A record from its words. -/
def mkRecW (ty chan code flags w1 w2 w3 : Nat) : Rec := ⟨recW0 ty chan code flags, w32 w1, w32 w2, w32 w3⟩

/-- The fields of a record. -/
def Rec.type (r : Rec) : Nat := bitsOf r.w0 24 8
def Rec.chan (r : Rec) : Nat := bitsOf r.w0 11 13
def Rec.code (r : Rec) : Nat := bitsOf r.w0 8 3
def Rec.flags (r : Rec) : Nat := bitsOf r.w0 0 8
def Rec.stampOf (r : Rec) : Nat := pairNat r.w1 r.w2

/-- The 16 bytes of a record (R4). -/
def recBytes (r : Rec) : List Byte :=
  leBytes 4 r.w0.toNat ++ leBytes 4 r.w1.toNat ++ leBytes 4 r.w2.toNat ++ leBytes 4 r.w3.toNat

/-- The NOT_VALID record (R336). -/
def notValid : Rec := ⟨0, 0, 0, 0⟩

/-! ### Channels (R14, R20, R21) -/

/-- Direct port. -/
def isPortChan (c : Nat) : Bool := decide (c < 0x60)
/-- SYNC_IN or a TRIG input. -/
def isSvcChan (c : Nat) : Bool := decide (0x60 ≤ c ∧ c ≤ 0x64)
/-- Remote channel. -/
def isRemChan (c : Nat) : Bool := decide (0x100 ≤ c ∧ c ≤ 0x10FF)
/-- A CHAN that is not reserved (R20). -/
def chanOk (c : Nat) : Bool := isPortChan c || isSvcChan c || isRemChan c
/-- Link and index of a remote channel. -/
def chanLink (c : Nat) : Nat := (c - 0x100) / 256
def chanIdx (c : Nat) : Nat := (c - 0x100) % 256

/-- Tally slot of a channel (R188). -/
def slotOf (c : Nat) : Nat := if c < 0x60 then c else c - 0x100 + 96
/-- Channel of a tally slot. -/
def chanOfSlot (sl : Nat) : Nat := if sl < 96 then sl else sl - 96 + 0x100

/-! ### Power domains (R580, R39) -/

/-- Whether power domain `d` is on. -/
def State.domOn (s : State) (d : Nat) : Bool := natBit (s.rg .PWR_DOM (d / 32)).toNat (d % 32)

/-- Switch power domain `d`. -/
def State.setDom (s : State) (d : Nat) (on : Bool) : State :=
  s.setRg .PWR_DOM (setBits (s.rg .PWR_DOM (d / 32)) (d % 32) 1 (b2n on)) (d / 32)

/-- Engine cluster of an engine: eight engines each (R17). -/
def clusterOf (e : Nat) : Nat := e / 8

end Sys2Proof.Machine
end

