-- ==== Sys2Proof/Machine/Events.lean ====
section
/-! DEFINITION. The event collector (R497–R501, R504): assertion of sources, pending bits, MSI-X messages, hold-off and
SMB_ALERT_N. -/

namespace Sys2Proof.Machine

/-- Whether bit `src` of a bank of ten words is set. -/
def State.evBit (s : State) (r : Reg) (src : Nat) : Bool := natBit (s.rg r (src / 32)).toNat (src % 32)

/-- Set bit `src` of a bank of words. -/
def State.setEvBit (s : State) (r : Reg) (src : Nat) (b : Bool) : State :=
  s.setRg r (setBits (s.rg r (src / 32)) (src % 32) 1 (b2n b)) (src / 32)

/-- A source is active while it is pending and not masked (R499). -/
def State.evActive (s : State) (src : Nat) : Bool := s.evBit .EVT_PEND src && ! s.evBit .EVT_MASK src

/-- Hold-off state of a vector. -/
def State.vec (s : State) (v : Nat) : VecSt := Tab.get ⟨false, false, 0⟩ s.evt.vecs v
def State.setVec (s : State) (v : Nat) (x : VecSt) : State :=
  { s with evt := { s.evt with vecs := Tab.set ⟨false, false, 0⟩ s.evt.vecs v x } }

/-- Word `j` of MSI-X table entry `v`; vector control is masked after reset, as MSI-X prescribes (R508). -/
def State.msixWord (s : State) (v j : Nat) : Word :=
  if j = 3 then Tab.get 0 s.evt.table (4 * v + j) ^^^ 1 else Tab.get 0 s.evt.table (4 * v + j)

/-- The message of vector `v` goes out, which returns the link from L1 to L0 (R476), or sets its PBA bit where a mask blocks it (R499). -/
def State.msiOut (s : State) (v : Nat) : State :=
  if (s.msixWord v 3).toNat % 2 = 1 ∨ s.evt.funcMask = true then
    { s with evt := { s.evt with pba := if s.evt.pba.contains v then s.evt.pba else s.evt.pba ++ [v] } }
  else (s.setFd F.HST_LINK_l1 0).emit (.msix v (pairNat (s.msixWord v 0) (s.msixWord v 1)) (s.msixWord v 2))

/-- A message of vector `v` is due: held during a hold-off (R500); none while MSI-X or Bus Master is disabled (R499). -/
def State.msiDue (s : State) (v : Nat) : State :=
  if s.evt.msixEn = true ∧ s.evt.bme = true ∧ s.evt.d3hot = false then
    if s.fd F.EVT_VEC_holdoff v = 0 then s.msiOut v
    else if (s.vec v).running then s.setVec v { s.vec v with held := true }
    else (s.msiOut v).setVec v ⟨true, false, s.time⟩
  else s

/-- A source has become active: its vector's message (R499) and SMB_ALERT_N (R504). -/
def State.becameActive (s : State) (src : Nat) : State :=
  let s1 := if s.bit F.EVT_ROUTE_msix src then s.msiDue (s.fd F.EVT_ROUTE_vector src) else s
  if s.bit F.EVT_ROUTE_alert src then { s1 with evt := { s1.evt with alertPin := true } } else s1

/-- A source changes from deasserted to asserted: its pending bit is set (R498). -/
def State.setPending (s : State) (src : Nat) : State :=
  if s.evBit .EVT_PEND src then s
  else
    let s1 := s.setEvBit .EVT_PEND src true
    if s1.evBit .EVT_MASK src then s1 else s1.becameActive src

/-- A source asserted once at an occurrence (R498). -/
def State.assertOnce (s : State) (src : Nat) : State := s.setPending src

/-- A source asserted while a condition holds (R498). -/
def State.setLevel (s : State) (src : Nat) (b : Bool) : State :=
  if s.evBit .EVT_RAW src == b then s
  else
    let s1 := s.setEvBit .EVT_RAW src b
    if b then s1.setPending src else s1

/-- Whether any source routed to the alert is active. -/
def State.alertSrc (s : State) : Option Nat :=
  (natsFrom 0 320).find? fun i => s.evActive i && s.bit F.EVT_ROUTE_alert i

/-- SMB_ALERT_N is released where no source routed to it is active any more (R504). -/
def State.alertRefresh (s : State) : State :=
  match s.alertSrc with
  | some _ => s
  | none => { s with evt := { s.evt with alertPin := false } }

/-- A W1C write to EVT_PEND word `k`: cleared bits of sources still asserted stay set and count as newly set (R498). -/
def State.clearPending (s : State) (k : Nat) (mask : Word) : State :=
  let still := s.rg .EVT_RAW k &&& mask &&& s.rg .EVT_PEND k
  let s1 := s.setRg .EVT_PEND ((s.rg .EVT_PEND k &&& ~~~mask) ||| still) k
  let s2 := (natsFrom 0 32).foldl (fun t j =>
    if natBit still.toNat j && ! t.evBit .EVT_MASK (32 * k + j) then t.becameActive (32 * k + j) else t) s1
  s2.alertRefresh

/-- A write of EVT_MASK word `k`: sources that it unmasks while pending become active (R499). -/
def State.writeMask (s : State) (k : Nat) (w : Word) : State :=
  let old := s.rg .EVT_MASK k
  let s1 := s.setRg .EVT_MASK w k
  let newly := s1.rg .EVT_PEND k &&& old &&& ~~~w
  let s2 := (natsFrom 0 32).foldl (fun t j => if natBit newly.toNat j then t.becameActive (32 * k + j) else t) s1
  s2.alertRefresh

/-- Messages that a mask blocked go out on unmask (R499). -/
def State.pbaRelease (s : State) : State :=
  if s.evt.msixEn = true ∧ s.evt.bme = true ∧ s.evt.d3hot = false ∧ s.evt.funcMask = false then
    s.evt.pba.foldl (fun t v =>
      if (t.msixWord v 3).toNat % 2 = 0 then
        ({ t with evt := { t.evt with pba := t.evt.pba.filter (· != v) } }).msiOut v else t) s
  else s

/-- Event source 280 is asserted while any bit of HST_STS is set (R497); ring_ntf is the OR of the notices (R488). -/
def State.hstLevel (s : State) : State :=
  let ntf := decide (s.rg .HST_RING_NTF0 ≠ 0 ∨ s.rg .HST_RING_NTF1 ≠ 0)
  let s1 := s.setFd F.HST_STS_ring_ntf (b2n ntf)
  s1.setLevel 280 (decide (s1.rg .HST_STS ≠ 0))

/-- Set a bit of HST_STS. -/
def State.hstSts (s : State) (f : Fld) : State := (s.setFd f 1).hstLevel

/-! ### Requests of the device (R474, R475, R482) -/

/-- A request that the device would make now: none in D3hot; with Bus Master off or a payload size of 128 B the work waits and
HST_STS says so (R474, R475, R482). -/
def State.mayRequest (s : State) : State × Bool :=
  if s.evt.d3hot then (s, false)
  else if s.evt.bme = false then (s.hstSts F.HST_STS_bme_off, false)
  else if s.fd F.HST_LINK_mps = 0 then (s.hstSts F.HST_STS_mps_err, false)
  else (s, true)

/-- Whether data writes carry Relaxed Ordering (R482). -/
def State.relaxed (s : State) : Bool := s.bit F.HST_CFG_ro_en && s.evt.roCap

/-- Event sources 287 to 292 are asserted while the bits of PWR_STS are 1 (R579). -/
def State.pwrLevel (s : State) : State :=
  (natsFrom 0 6).foldl (fun t i => t.setLevel (287 + i) (natBit (t.rg .PWR_STS).toNat i)) s

/-- Set a bit of PWR_STS. -/
def State.pwrSts (s : State) (f : Fld) : State := (s.setFd f 1).pwrLevel

end Sys2Proof.Machine
end

