-- ==== Sys2Proof/Machine/Queues.lean ====
section
/-! DEFINITION. Tansy queues (R327–R354): push, pop, rewind, skip and flush as operations on one queue, then on the fabric.
Coincident accesses are commands in the order in which the rules let them act (R347, R349, R350). -/

namespace Sys2Proof.Machine

/-! ### Numbers -/

/-- Whether a queue number names a queue (R327). -/
def queueOk (n : Nat) : Bool := decide (n < 1280)
/-- Whether a queue is a cross-island one. -/
def isXq (n : Nat) : Bool := decide (1024 ≤ n)
/-- Slice of a queue (R328). -/
def sliceOf (n : Nat) : Nat := if n < 1024 then n / 256 else (n - 1024) / 64
/-- Data capacity of a queue (R327). -/
def queueCap (n : Nat) : Nat := if n < 1024 then 63 else 4095

/-- Producer numbers of the units that push. -/
def prodSys : Nat := 1
def prodRouter : Nat := 2
def prodDec (n : Nat) : Nat := 0x2000 + n
def prodPip (n : Nat) : Nat := 0x4000 + n
def prodTask (t : Nat) : Nat := 0x8000 + t

/-! ### Markers (R342, R345, R346, R362) -/

/-- A fresh marker; `after` is the number of committed packets ahead of it. -/
def Marker.fresh (flush : Bool) (after : Nat) : Marker :=
  { flush := flush, dropped := 0, flushed := 0, pdrop := 0, pflush := 0, satd := false, split := false, rewound := false,
    pwr := false, committed := true, after := after, late := false }

/-- Add losses; each count sticks at its field's maximum and sets SAT (R342). -/
def Marker.add (m : Marker) (d f pd pf : Nat) (rew : Bool) : Marker :=
  let big := decide (2 ^ 32 ≤ m.dropped + d) || decide (2 ^ 32 ≤ m.flushed + f) || decide (2 ^ 16 ≤ m.pdrop + pd) ||
    decide (2 ^ 16 ≤ m.pflush + pf)
  { m with
    dropped := sat (2 ^ 32 - 1) (m.dropped + d), flushed := sat (2 ^ 32 - 1) (m.flushed + f),
    pdrop := sat 65535 (m.pdrop + pd), pflush := sat 65535 (m.pflush + pf),
    satd := m.satd || big, rewound := m.rewound || rew, split := m.split || m.late }

/-- The record of a marker (R362). -/
def Marker.toRec (m : Marker) : Rec :=
  mkRecW (if m.flush then 0x0A else 0x09) 0 0 (b2n m.satd + 2 * b2n m.split + 4 * b2n m.rewound + 8 * b2n m.pwr)
    m.dropped m.flushed (m.pdrop + 65536 * m.pflush)

/-! ### One queue -/

/-- Records in committed packets not yet popped, with the rest of the one being read. -/
def Queue.committed (u : Queue) : Nat := sumNat (u.pkts.map fun p => p.recs.length) + u.cur.length

/-- Records of the open packet. -/
def Queue.openLen (u : Queue) : Nat := match u.opn with | some o => o.recs.length | none => 0

/-- Occupancy as the producer sees it (R332, R348, R351). -/
def Queue.occupancy (u : Queue) : Nat := u.committed + u.openLen + u.hidden

/-- Committed records as the consumer sees them. -/
def Queue.depth (x : Bool) (u : Queue) : Nat :=
  (if x then sumNat ((u.pkts.take u.vis).map fun p => p.recs.length) else sumNat (u.pkts.map fun p => p.recs.length)) +
    u.cur.length

/-- Losses go to the pending marker, or open a DROP_MARK (R342). -/
def Queue.lose (u : Queue) (d f pd pf : Nat) (rew : Bool) : Queue :=
  let m := match u.marker with | some m => m | none => Marker.fresh false u.pkts.length
  { u with marker := some (m.add d f pd pf rew) }

/-- What became of a push. -/
inductive PushResult where
  | stored
  | dropped (records : Nat)
  | waits
  | flushedMark
deriving DecidableEq, Repr

/-- Close a discard of producer `p` (R341, R345): the last record has arrived. -/
def Queue.endDisc (u : Queue) (p : Nat) : Queue :=
  { u with disc := u.disc.filter fun e => e.1 != p,
           marker := u.marker.map fun m => { m with committed := m.committed || (u.disc.filter fun e => e.1 != p && e.2).isEmpty } }

/-- One push (R332, R333, R341, R342, R344). `ok` is false for a disabled or bad queue, `cap` the data capacity, `pri` the
priority of the producer's class. -/
def Queue.push1 (u : Queue) (ok : Bool) (cap pri prod : Nat) (cls : PClass) (r : Rec) (last : Bool) : Queue × PushResult :=
  match u.disc.find? (fun e => e.1 == prod) with
  | some (_, fl) =>
    let u1 := if fl then u.lose 0 1 0 0 true else u.lose 1 0 0 0 true
    let u2 := if last then u1.endDisc prod else u1
    let fin := match u2.marker with | some m => m.committed | none => false
    (u2, if fl then (if last && fin then .flushedMark else .stored) else .dropped 1)
  | none =>
    let mine := match u.opn with | some o => o.prod == prod | none => true
    if ! mine then ({ u with waiting := u.waiting ++ [⟨prod, cls, r, last⟩] }, .waits)
    else if ! ok || decide (cap ≤ u.occupancy) then
      let k := u.openLen
      let u1 := { u with opn := none }.lose (k + 1) 0 1 0 (decide (0 < k) || ! last)
      ((if last then u1 else { u1 with disc := u1.disc ++ [(prod, false)] }), .dropped (k + 1))
    else
      let rs := (match u.opn with | some o => o.recs | none => []) ++ [r]
      if last then
        ({ u with opn := none, pkts := u.pkts ++ [⟨rs, pri⟩], marker := u.marker.map fun m => { m with late := true } }, .stored)
      else ({ u with opn := some ⟨prod, cls, rs⟩ }, .stored)

/-- Rewind (R334): the producer's open packet vanishes. -/
def Queue.rewind (u : Queue) (prod : Nat) : Queue :=
  match u.opn with
  | some o => if o.prod == prod then { u with opn := none } else u
  | none => u

/-- Whether the pending marker may be delivered now (R343). -/
def Queue.markReady (x : Bool) (u : Queue) : Bool :=
  match u.marker with
  | some m => u.disc.isEmpty && m.committed && (! x || m.after == 0)
  | none => false

/-- The oldest committed packet of the highest priority, and the others (R338). -/
def takeBest : List QPkt → Option (QPkt × List QPkt)
  | [] => none
  | p :: t =>
    match takeBest t with
    | none => some (p, [])
    | some (b, rest) => if p.pri ≤ b.pri then some (p, t) else some (b, p :: rest)

/-- What a pop returns: the record, whether it is the last of its packet, whether it is valid and whether it is data. -/
structure Popped where
  record : Rec
  eop : Bool
  valid : Bool
  data : Bool
deriving DecidableEq, Repr

/-- The pop that finds nothing (R336). -/
def Popped.nothing : Popped := ⟨notValid, false, false, false⟩

/-- One pop (R336–R339, R343, R344, R348). -/
def Queue.pop1 (u : Queue) (x ok : Bool) : Queue × Popped :=
  if ! ok then (u, Popped.nothing)
  else match u.cur with
  | r :: t => ({ u with cur := t, hidden := if x then u.hidden + 1 else u.hidden }, ⟨r, t.isEmpty, true, true⟩)
  | [] =>
    match u.marker, u.markReady x with
    | some m, true => ({ u with marker := none }, ⟨m.toRec, true, true, false⟩)
    | _, _ =>
      if x then
        match u.pkts with
        | p :: t =>
          if u.vis = 0 then (u, Popped.nothing)
          else match p.recs with
            | r :: rs =>
              ({ u with pkts := t, cur := rs, vis := u.vis - 1, hidden := u.hidden + 1,
                        marker := u.marker.map fun m => { m with after := m.after - 1 } }, ⟨r, rs.isEmpty, true, true⟩)
            | [] => ({ u with pkts := t, vis := u.vis - 1 }, Popped.nothing)
        | [] => (u, Popped.nothing)
      else
        match takeBest u.pkts with
        | some (p, rest) =>
          match p.recs with
          | r :: rs =>
            ({ u with pkts := rest, cur := rs, marker := u.marker.map fun m => { m with after := m.after - 1 } },
              ⟨r, rs.isEmpty, true, true⟩)
          | [] => ({ u with pkts := rest }, Popped.nothing)
        | none => (u, Popped.nothing)

/-- SKIP_PKT (R340): the rest of the packet being read is removed; the number of records removed. -/
def Queue.skip1 (u : Queue) (x : Bool) : Queue × Nat :=
  ({ u with cur := [], hidden := if x then u.hidden + u.cur.length else u.hidden }, u.cur.length)

/-- FLUSH (R345, R346): what is removed, and whether the FLUSH_MARK is committed at once. -/
def Queue.flush1 (u : Queue) (x : Bool) : Queue × Bool :=
  let recs := u.committed
  let pk := u.pkts.length + (if u.cur.isEmpty then 0 else 1)
  let m0 := match u.marker with | some m => m | none => Marker.fresh true 0
  let u1 := { u with pkts := [], cur := [], vis := 0, hidden := if x then u.hidden + recs else u.hidden }
  match u.opn with
  | some o =>
    let m := { (m0.add 0 (recs + o.recs.length) 0 (pk + 1) true) with flush := true, after := 0, committed := false }
    ({ u1 with opn := none, disc := u1.disc ++ [(o.prod, true)], marker := some m }, false)
  | none =>
    let m := { (m0.add 0 recs 0 pk false) with flush := true, after := 0 }
    let late := u.disc.any fun e => e.2
    ({ u1 with marker := some { m with committed := ! late } }, ! late)

/-! ### The fabric -/

/-- Queue `n`. -/
def State.queue (s : State) (n : Nat) : Queue := Tab.get Queue.init s.q.queues n

/-- Replace queue `n`. -/
def State.setQueue (s : State) (n : Nat) (u : Queue) : State :=
  { s with q := { s.q with queues := Tab.set Queue.init s.q.queues n u } }

/-- Enabled and not bad (R344, R354), with its slice on (R353, R580); XQ0 to XQ47 read enabled (R371). -/
def State.queueOn (s : State) (n : Nat) : Bool :=
  ((decide (1024 ≤ n) && decide (n < 1072)) || s.bit F.QUE_Q_CFG_en n) && ! (s.queue n).bad && s.domOn (58 + sliceOf n)

/-- Priority of a producer class in a local queue (R338). -/
def State.queuePri (s : State) (n : Nat) (c : PClass) : Nat :=
  if isXq n then 0 else
  match c with
  | .sys => s.fd F.QUE_Q_PRI_sys n
  | .rtr => s.fd F.QUE_Q_PRI_rtr n
  | .unit => s.fd F.QUE_Q_PRI_unit n
  | .eng => s.fd F.QUE_Q_PRI_eng n

/-- Count records as produced (QUE_Q_IN, R352). -/
def State.countIn (s : State) (n k : Nat) : State :=
  s.setPair .QUE_Q_IN_LO .QUE_Q_IN_HI (s.pair .QUE_Q_IN_LO .QUE_Q_IN_HI n + k) n

/-- One push to queue `n` and its counts. -/
def State.pushOnce (s : State) (n prod : Nat) (cls : PClass) (r : Rec) (last : Bool) : State × PushResult :=
  let u := s.queue n
  let (u1, res) := u.push1 (s.queueOn n) (queueCap n) (s.queuePri n cls) prod cls r last
  let s1 := s.setQueue n u1
  match res with
  | .stored =>
    if u.disc.any (fun e => e.1 == prod && e.2) then (s1.countIn n 1, res)
    else if last then (s1.countIn n (u.openLen + 1), res) else (s1, res)
  | .dropped k => ((s1.countIn n k).addSat F.QUE_Q_COUNT_drops k n, res)
  | .waits => (s1, res)
  | .flushedMark =>
    (((s1.countIn n 1).setFd F.QUE_Q_STS_flushed 1 n).assertOnce (270 + sliceOf n), res)

/-- Pushes that waited go on once no packet is open (R333). -/
def State.drainWaiting : Nat → State → Nat → State
  | 0, s, _ => s
  | k + 1, s, n =>
    let u := s.queue n
    match u.waiting with
    | [] => s
    | w :: t =>
      let blocked := match u.opn with | some o => o.prod != w.prod | none => false
      if blocked then s
      else ((s.setQueue n { u with waiting := t }).pushOnce n w.prod w.cls w.record w.last).1.drainWaiting k n

/-- A push, then the pushes that it lets go on (R332, R333). A producer whose earlier push waits stays behind it. -/
def State.push (s : State) (n prod : Nat) (cls : PClass) (r : Rec) (last : Bool) : State × PushResult :=
  let u := s.queue n
  if u.waiting.any fun w => w.prod == prod then
    (s.setQueue n { u with waiting := u.waiting ++ [⟨prod, cls, r, last⟩] }, .waits)
  else
    let (s1, res) := s.pushOnce n prod cls r last
    (s1.drainWaiting ((s1.queue n).waiting.length) n, res)

/-- Push the records of a whole packet; the result says whether any was dropped. -/
def State.pushPkt (s : State) (n prod : Nat) (cls : PClass) : List Rec → State × Bool
  | [] => (s, false)
  | r :: t =>
    let (s1, res) := s.push n prod cls r t.isEmpty
    let d := match res with | .dropped _ => true | _ => false
    let (s2, d2) := s1.pushPkt n prod cls t
    (s2, d || d2)

/-- One pop of queue `n` (R336). -/
def State.popOnce (s : State) (n : Nat) : State × Popped :=
  let (u, p) := (s.queue n).pop1 (isXq n) (s.queueOn n)
  (s.setQueue n u, p)

/-- Rewind, then the pushes that it lets go on (R334). -/
def State.rewindQ (s : State) (n prod : Nat) : State :=
  let s1 := s.setQueue n ((s.queue n).rewind prod)
  s1.drainWaiting ((s1.queue n).waiting.length) n

/-- SKIP_PKT (R340). -/
def State.skipQ (s : State) (n : Nat) : State :=
  let u := s.queue n
  if u.cur.isEmpty then s.setFd F.QUE_Q_STS_skip_none 1 n
  else
    let (u1, k) := u.skip1 (isXq n)
    let c := (s.rg .QUE_Q_SKIP n).toNat
    (s.setQueue n u1).setRg .QUE_Q_SKIP (w32 (sat (2 ^ 32 - 1) (c + k))) n

/-- FLUSH (R345, R346, R350). -/
def State.flushQ (s : State) (n : Nat) : State :=
  let u := s.queue n
  let (u1, now) := u.flush1 (isXq n)
  let s1 := (s.setQueue n u1).countIn n u.openLen
  let s2 := if now then (s1.setFd F.QUE_Q_STS_flushed 1 n).assertOnce (270 + sliceOf n) else s1
  s2.drainWaiting ((s2.queue n).waiting.length) n

end Sys2Proof.Machine
end

