-- ==== Sys2Proof/Machine/LedgerStore.lean ====
section
/-! DEFINITION. The Ledger's lines (R208–R210, R227): physical and logical blocks, root lines with their framing, and the
fault log of logical block 2 (R575, R576). -/

namespace Sys2Proof.Machine

/-- The bytes of a line and the line of 64 bytes. -/
def lineBytes (v : BitVec 512) : List Byte := leBytes 64 v.toNat
def bytesLine (bs : List Byte) : BitVec 512 := BitVec.ofNat 512 (ofLe bs)

/-- Extend or cut a byte list to `n` bytes. -/
def padTo (n : Nat) (bs : List Byte) : List Byte := (bs ++ List.replicate (n - bs.length) 0).take n

/-- A line of 60 content bytes and their CRC-32C (R210, R575). -/
def crcLine (content : List Byte) : List Byte :=
  let c := padTo 60 content
  c ++ leBytes 4 (crc32c c)

/-- Whether a line's CRC is good. -/
def lineGood (bs : List Byte) : Bool := ofLe (bs.drop 60) == crc32c (bs.take 60)

/-- Physical line `l`. -/
def State.physLine (s : State) (l : Nat) : List Byte := lineBytes (Tab.get 0 s.ldg.lines l)

/-- Write physical line `l`, atomically (R208). -/
def State.writePhys (s : State) (l : Nat) (bs : List Byte) : State :=
  { s with ldg := { s.ldg with lines := Tab.set 0 s.ldg.lines l (bytesLine bs) } }

/-- Physical block of a logical block (R209). -/
def State.physBlock (s : State) (b : Nat) : Nat :=
  match Tab.get 0 s.ldg.bmap b with | 0 => b | p + 1 => p

/-- Read line `l` of logical block `b`. -/
def State.logLine (s : State) (b l : Nat) : List Byte := s.physLine (s.physBlock b * 1024 + l)

/-- Write line `l` of logical block `b`; between COPY and COMMIT of its migration, to both blocks (R227). -/
def State.writeLog (s : State) (b l : Nat) (bs : List Byte) : State :=
  let s1 := s.writePhys (s.physBlock b * 1024 + l) bs
  match s.ldg.mig with
  | some m => if m.lblock = b then s1.writePhys (m.target * 1024 + l) bs else s1
  | none => s1

/-- Root line `l`: the copy whose CRC is good; where both are, the one with the higher sequence (R210). -/
def State.rootLine (s : State) (l : Nat) : Option (List Byte) :=
  let a := s.physLine l
  let b := s.physLine (1024 + l)
  match lineGood a, lineGood b with
  | true, true => if ofLe ((a.drop 56).take 4) < ofLe ((b.drop 56).take 4) then some b else some a
  | true, false => some a
  | false, true => some b
  | false, false => none

/-- Two more line writes of the root pair are on their way, at 2 lines per µs (R208). -/
def State.rootBusy (s : State) : State := { s with ldg := { s.ldg with rootEnd := max s.time s.ldg.rootEnd + usTicks 1 } }

/-- Write root line `l`: content, the next line sequence and CRC, copy 0 first (R210). -/
def State.writeRoot (s : State) (l : Nat) (content : List Byte) : State :=
  let sq := match s.rootLine l with | some bs => ofLe ((bs.drop 56).take 4) + 1 | none => 1
  let bs := crcLine (padTo 56 content ++ leBytes 4 sq)
  ((s.writePhys l bs).writePhys (1024 + l) bs).rootBusy

/-- Write root line `l` with a given sequence (latch generations, R210). -/
def State.writeRootSeq (s : State) (l : Nat) (content : List Byte) (sq : Nat) : State :=
  let bs := crcLine (padTo 56 content ++ leBytes 4 sq)
  ((s.writePhys l bs).writePhys (1024 + l) bs).rootBusy

/-! ### Fault log (R575, R576) -/

/-- The log header in alternation: next ring line, DIMM serial numbers, sequence. -/
def State.logHeader (s : State) : State :=
  let h := s.flt.hdrSeq + 1
  let body := leBytes 4 0x474C5446 ++ leBytes 4 0 ++ leBytes 2 (297 + s.flt.ring) ++ leBytes 6 0 ++
    (s.flt.serials.flatMap fun d => leBytes 4 d)
  let s1 := s.writeLog 2 (h % 2) (crcLine (padTo 56 body ++ leBytes 4 h))
  { s1 with flt := { s1.flt with hdrSeq := h } }

/-- Write one entry of the event ring; the oldest is overwritten. -/
def State.logWrite (s : State) (entry : List Byte) : State :=
  let s1 := s.writeLog 2 (297 + s.flt.ring) (crcLine (leBytes 8 s.flt.seq ++ entry))
  let s2 := { s1 with flt := { s1.flt with ring := (s1.flt.ring + 1) % 727, seq := s1.flt.seq + 1 } }
  s2.logHeader

/-- An entry of the event ring goes to the Ledger, or waits in AON while PD75 is off, or in a boot that has not written its BOOT entry
(R576; assumption log 48). -/
def State.logEntry (s : State) (entry : List Byte) : State :=
  if s.domOn 75 = true ∧ (s.dev.st ≠ .boot ∨ 7 < s.dev.bootStep) then s.logWrite entry
  else { s with flt := { s.flt with wait := s.flt.wait ++ [entry] } }

/-- The entries that waited in AON are written at wake (R576). -/
def State.logFlush (s : State) : State :=
  let w := s.flt.wait
  w.foldl (fun t e => t.logWrite e) { s with flt := { s.flt with wait := [] } }

/-- The bytes of an event entry after its sequence (R575): kind 1 BOOT, 2 OPEN, 3 CLASS, 4 ESCALATE. -/
def State.entryBytes (s : State) (kind : Nat) (r : FaultRec) (ovf : Bool) : List Byte :=
  leBytes 1 kind ++ leBytes 1 r.cls ++ leBytes 2 r.code ++ leBytes 2 r.unit ++ leBytes 1 r.merges ++
    leBytes 1 (b2n r.live + 2 * b2n r.ack + 4 * b2n r.esc + 8 * b2n ovf) ++ leBytes 8 (stamp r.opened) ++
    leBytes 8 (stamp r.seen) ++ leBytes 4 r.cause ++ leBytes 4 r.detail ++ leBytes 2 (r.opened / 2 ^ 64) ++
    leBytes 2 (s.fd F.BOOT_CNT_boots) ++ leBytes 4 (s.rg .BOOT_IMG_VER).toNat

end Sys2Proof.Machine
end

