-- ==== Sys2Proof/Machine/Faults.lean ====
section
/-! DEFINITION. Fault records (R562–R574): raising a fault, merging, the overflow record, LIVE, FAULT packets, the timers,
acknowledge and clear. What an escalation does to the device stands in Power.lean. -/

namespace Sys2Proof.Machine

/-- The fault codes and their classes (R574), kinds 0 to 3. -/
def faultTable0 : List (Nat × Nat) :=
  [(0x000, 1), (0x001, 2), (0x002, 0), (0x003, 2), (0x004, 2), (0x005, 0), (0x006, 0), (0x007, 0), (0x008, 0), (0x009, 0),
   (0x00A, 0), (0x00B, 0), (0x00C, 1), (0x00D, 1), (0x00E, 1), (0x00F, 2), (0x010, 1), (0x020, 0), (0x021, 0),
   (0x022, 2), (0x023, 1), (0x024, 0), (0x025, 2), (0x026, 2), (0x040, 0), (0x041, 1), (0x042, 3), (0x043, 2), (0x044, 1),
   (0x045, 0), (0x046, 2), (0x047, 2), (0x060, 0), (0x061, 1), (0x062, 1)]
/-- The fault codes of kinds 4 to 11. -/
def faultTable1 : List (Nat × Nat) :=
  [(0x080, 0), (0x081, 1), (0x082, 1), (0x0A0, 1), (0x0A1, 1), (0x0A2, 0), (0x0A3, 1), (0x0A4, 0), (0x0C0, 2), (0x0C1, 1),
   (0x0C2, 1), (0x0C3, 0), (0x0E0, 1), (0x0E1, 2), (0x0E2, 0), (0x0E3, 0), (0x0E4, 1), (0x0E5, 0), (0x100, 1), (0x120, 2),
   (0x140, 1), (0x141, 1), (0x142, 1), (0x160, 1), (0x161, 0), (0x162, 1), (0x163, 0), (0x164, 1)]

/-- Class of a listed fault code (R574). -/
def faultClass (code : Nat) : Option Nat :=
  match (faultTable0 ++ faultTable1).find? (fun e => e.1 == code) with
  | some e => some e.2
  | none => none

/-- A unit of kind `k` and index `i` (R563). -/
def unitOf (k i : Nat) : Nat := k * 4096 + i % 4096

/-- Record `i`, where open. -/
def State.frec (s : State) (i : Nat) : Option FaultRec := Tab.get none s.flt.recs i
def State.setFrec (s : State) (i : Nat) (r : Option FaultRec) : State :=
  { s with flt := { s.flt with recs := Tab.set none s.flt.recs i r } }

/-- The open ordinary record that holds a unit. -/
def State.recOfUnit (s : State) (u : Nat) : Option Nat :=
  (natsFrom 0 63).find? fun i => match s.frec i with | some r => r.unit == u | none => false

/-- The lowest free ordinary record (R565). -/
def State.freeRec (s : State) : Option Nat := (natsFrom 0 63).find? fun i => (s.frec i).isNone

/-- Ticks of the escalation time of class `c` (R572). -/
def State.escTicks (s : State) (c : Nat) : Nat := usTicks (s.fd F.FLT_ESC_us (c - 1))

/-- Whether records of class `c` run timers (FLT_CTL.esc_en bit c, R572). -/
def State.escOn (s : State) (c : Nat) : Bool := decide (1 ≤ c) && natBit (s.fd F.FLT_CTL_esc_en) (c - 1)

/-- The record's three packet records (R363). -/
def faultPacket (i : Nat) (r : FaultRec) : List Rec :=
  [mkRec 0x0E 0 0 0 (stamp r.opened) (i + 64 * r.cls + 256 * r.merges + 65536 * r.code),
   mkRec 0x0E 0 1 0 (stamp r.seen)
     (r.unit + 65536 * b2n r.live + 131072 * b2n r.ack + 262144 * b2n r.esc + 524288 * b2n (i == 63)),
   mkRecW 0x0E 0 2 0 r.cause r.detail 0]

/-- A fault of the fault-handling path merges into the record being handled: cause bit 31, one more merge (R566). -/
def FaultRec.nest (r : FaultRec) : FaultRec :=
  { r with cause := r.cause % 2 ^ 31 + 2 ^ 31, merges := sat 255 (r.merges + 1), mergeDue := true }

/-- Form a FAULT packet for record `i` where QUE_SYSQ_FLT.en is 1 (R570); a dropped packet, or a disabled queue, is a nested
fault (R566). -/
def State.faultPkt (s : State) (i : Nat) : State :=
  match s.frec i with
  | none => s
  | some r =>
    let r1 := { r with mergeDue := false, sent := s.time }
    let s1 := s.setFrec i (some r1)
    if s.bit F.QUE_SYSQ_FLT_en then
      let (s2, d) := s1.pushPkt (s.fd F.QUE_SYSQ_FLT_queue) prodSys .sys (faultPacket i r)
      if d then s2.setFrec i (some r1.nest) else s2
    else s1

/-- An OPEN, CLASS or ESCALATE entry for a record of class 1 to 3 (R576). -/
def State.faultLog (s : State) (i kind : Nat) : State :=
  match s.frec i with
  | some r => if r.cls = 0 then s else ({ s with flt := { s.flt with handled := some i } } : State).logEntry (s.entryBytes kind r (i == 63))
  | none => s

/-- Open record `i` (R562, R565, R570, R571, R572). -/
def State.openRec (s : State) (i : Nat) (r : FaultRec) : State :=
  let dl := if s.escOn r.cls then some (s.time + s.escTicks r.cls) else none
  let s1 := (s.setFrec i (some { r with deadline := dl })).assertOnce (283 + r.cls)
  (s1.faultLog i 2).faultPkt i

/-- The shorter of the remaining time and a new class's full time, where that class runs timers (R572). -/
def mergeDeadline (old : Option Nat) (on : Bool) (full : Nat) : Option Nat :=
  if on then some (match old with | some d => min d full | none => full) else none

/-- Merge a fault into open record `i` (R565, R569, R570, R571, R572). -/
def State.mergeRec (s : State) (i cls cause detail : Nat) (conds : List Nat) : State :=
  match s.frec i with
  | none => s
  | some r =>
    let up := decide (r.cls < cls)
    let c := max r.cls cls
    let dl := if up then mergeDeadline r.deadline (s.escOn cls) (s.time + s.escTicks cls) else r.deadline
    let r1 := { r with
      cls := c, cause := Nat.lor r.cause cause, detail := detail, merges := sat 255 (r.merges + 1), seen := s.now,
      live := r.live || ! conds.isEmpty, conds := r.conds ++ conds.filter (! r.conds.contains ·), ack := r.ack && ! up, deadline := dl, mergeDue := true }
    let s1 := s.setFrec i (some r1)
    if up then ((s1.assertOnce (283 + c)).faultLog i 3).faultPkt i
    else if ! conds.isEmpty && ! r.live then s1.faultPkt i else s1

/-- Raise a fault of a class with a cause word against a unit (R565, R567). -/
def State.raiseAs (s : State) (cls code unit cause detail : Nat) (live : Bool) : State :=
  match s.recOfUnit unit with
  | some i => s.mergeRec i cls cause detail (if live then [code] else [])
  | none =>
    match s.freeRec with
    | some i =>
      s.openRec i { cls := cls, code := code, unit := unit, cause := cause, detail := detail, merges := 1, opened := s.now,
                    seen := s.now, live := live, conds := if live then [code] else [], ack := false, esc := false, deadline := none, mergeDue := false, sent := s.time }
    | none =>
      let k := 2 ^ (unit / 4096)
      match s.frec 63 with
      | some _ => s.mergeRec 63 cls k code []
      | none =>
        s.openRec 63 { cls := cls, code := 0x011, unit := 0, cause := k, detail := code, merges := 1, opened := s.now,
                       seen := s.now, live := false, conds := [], ack := false, esc := false, deadline := none, mergeDue := false, sent := s.time }

/-- Raise a listed fault (R564, R574). -/
def State.raise (s : State) (code unit detail : Nat) (live : Bool := false) : State :=
  match faultClass code with
  | some c => s.raiseAs c code unit (2 ^ (code % 32)) (detail % 2 ^ 32) live
  | none => s

/-- The condition of a lasting fault has ended: LIVE drops and a FAULT packet is formed (R568, R570). -/
def State.dropLive (s : State) (unit code : Nat) : State :=
  match s.recOfUnit unit with
  | some i =>
    match s.frec i with
    | some r =>
      let cs := r.conds.filter (· != code)
      let s1 := s.setFrec i (some { r with conds := cs, live := ! cs.isEmpty })
      if r.live && cs.isEmpty then s1.faultPkt i else s1
    | none => s
  | none => s

/-- Whether an ordinary record of the unit is open with a given code's cause bit and LIVE. -/
def State.faultLive (s : State) (code unit : Nat) : Bool :=
  match s.recOfUnit unit with
  | some i => match s.frec i with | some r => r.conds.contains code | none => false
  | none => false

/-- Open records. -/
def State.openRecs (s : State) : List FaultRec := (natsFrom 0 64).filterMap fun i => s.frec i

/-- Whether a class 2 or 3 record is open (R44, R503). -/
def State.severeOpen (s : State) : Bool := s.openRecs.any fun r => decide (2 ≤ r.cls)

/-- Record the outcome of an FLT_ACK or FLT_INJ write (R592). -/
def State.ackSts (s : State) (i result : Nat) : State :=
  ((s.setFd F.FLT_ACK_STS_index i).setFd F.FLT_ACK_STS_result result).incFd F.FLT_ACK_STS_seq

/-- FLT_ACK op ACK (R569, R570): the record is acknowledged and its timer stops. -/
def fltAck (i : Nat) (s : State) : State :=
  match s.frec i with
  | none => s.ackSts i 2
  | some r => ((s.setFrec i (some { r with ack := true, deadline := none })).faultPkt i).ackSts i 1

/-- FLT_ACK op CLEAR (R569, R570): refused while LIVE is 1 and, for class 1 to 3, while not acknowledged. -/
def fltClear (i : Nat) (s : State) : State :=
  match s.frec i with
  | none => s.ackSts i 2
  | some r =>
    if r.live = true ∨ (1 ≤ r.cls ∧ r.ack = false) then s.ackSts i 2
    else (((s.faultPkt i).setFrec i none)).ackSts i 1

/-- FLT_INJ (R564, R574, R592): the fault is raised with cause bit 30; a reserved code or unit kind, or the lock, refuses
it. -/
def fltInj (unit code : Nat) (s : State) : State :=
  match faultClass (code % 65536) with
  | none => s.ackSts 0 2
  | some c =>
    if s.bit F.FLT_CTL_lock ∨ 12 ≤ unit % 65536 / 4096 then s.ackSts 0 2
    else
      (s.raiseAs c (code % 65536) (unit % 65536) (2 ^ (code % 32) + 2 ^ 30) 0 false).ackSts 0 1

/-- A line of the fault log that fails read-back is a nested fault of the record logged last (R566). -/
def State.logFailed (s : State) : State :=
  match s.flt.handled with
  | some i => match s.frec i with | some r => s.setFrec i (some r.nest) | none => s
  | none => s

/-- A FAULT packet that covers the merges since the last one, at most once per millisecond (R570). -/
def faultPacketTimer (i : Nat) (s : State) : State :=
  match s.frec i with
  | some r => if r.mergeDue && s.due (r.sent + msTicks 1) then s.faultPkt i else s
  | none => s

def execAck (i : Nat) (s : State) : Host.Outcome State Fault Refusal := .next (fltAck i s)
def execClear (i : Nat) (s : State) : Host.Outcome State Fault Refusal := .next (fltClear i s)
def execFltInj (unit code : Nat) (s : State) : Host.Outcome State Fault Refusal := .next (fltInj unit code s)
def execFaultPacketTimer (i : Nat) (s : State) : Host.Outcome State Fault Refusal := .next (faultPacketTimer i s)

end Sys2Proof.Machine
end

