-- ==== Sys2Proof/Machine/Float.lean ====
section
/-! DEFINITION. binary64 values as bit patterns in Nat, computed exactly and rounded once, to nearest with ties to even. -/

namespace Sys2Proof.Machine

/-- 2^e for a non-negative exponent, 1 otherwise. -/
def pow2 (e : Int) : Nat := 2 ^ e.toNat

/-- The quotient n·2^(−e)/d rounded to an integer, ties to even. -/
def roundQ (n d : Nat) (e : Int) : Nat :=
  let a := n * pow2 (-e)
  let b := d * pow2 e
  let q := a / b
  let r := a % b
  if 2 * r < b then q else if b < 2 * r then q + 1 else q + q % 2

/-- binary64 of ± n/d (d > 0), rounded to nearest, ties to even; overflow gives infinity. -/
def f64OfRat (neg : Bool) (n d : Nat) : Nat :=
  let sg := if neg then 2 ^ 63 else 0
  if n = 0 then sg
  else
    let e0 : Int := (Nat.log2 n : Int) - (Nat.log2 d : Int) - 52
    let e1 : Int := if (n * pow2 (-e0)) / (d * pow2 e0) < 2 ^ 52 then e0 - 1 else e0
    let e : Int := max e1 (-1074)
    let q := roundQ n d e
    let (q, e) := if q = 2 ^ 53 then (2 ^ 52, e + 1) else (q, e)
    if q < 2 ^ 52 then sg + q
    else if 971 < e then sg + 0x7FF * 2 ^ 52
    else sg + (e + 1075).toNat * 2 ^ 52 + (q - 2 ^ 52)

/-- binary64 of a signed rational. -/
def f64OfInt (num : Int) (den : Nat) : Nat := f64OfRat (decide (num < 0)) num.natAbs den

/-- Nearest integer of n/d, ties away from zero (rdiv). -/
def rdiv (n : Int) (d : Nat) : Int :=
  let q := (2 * n.natAbs + d) / (2 * d)
  if n < 0 then -(q : Int) else (q : Int)

/-! ### Decoding, free choices within a bound, square roots -/

/-- Whether a pattern is finite; its signed integer significand and exponent: the value is m·2^e. -/
def f64Fin (p : Nat) : Bool := natBits p 52 11 != 0x7FF
def f64Neg (p : Nat) : Bool := natBit p 63
def f64Exp (p : Nat) : Int := (max 1 (natBits p 52 11) : Nat) - 1075
def f64Mant (p : Nat) : Int :=
  let m : Nat := p % 2 ^ 52 + (if natBits p 52 11 = 0 then 0 else 2 ^ 52)
  if f64Neg p then -(m : Int) else m

/-- Whether the binary64 value p lies within one unit in its last place of the positive n/d. -/
def within1 (p n d : Nat) : Bool :=
  let e := f64Exp p
  f64Fin p && ! f64Neg p && decide ((f64Mant p * (pow2 e * d : Nat) - (n * pow2 (-e) : Nat)).natAbs ≤ pow2 e * d)

/-- A binary64 value within one unit in the last place of n/d (R166): which one, `free` chooses. -/
def f64Near1 (free n d : Nat) : Nat :=
  let p := f64OfRat false n d
  let c := p + free % 3 - 1
  if n ≠ 0 ∧ p ≠ 0 ∧ within1 c n d = true then c else p

/-- Integer square root, bit by bit from bit b − 1. -/
def isqrtFrom (n : Nat) : Nat → Nat → Nat
  | 0, r => r
  | b + 1, r => let c := r + 2 ^ b; isqrtFrom n b (if c * c ≤ n then c else r)
def isqrt (n : Nat) : Nat := isqrtFrom n (Nat.log2 n / 2 + 1) 0

/-- binary64 of √(n/d), rounded to nearest, ties to even. -/
def f64Sqrt (n d : Nat) : Nat :=
  if n = 0 then 0 else
  let k := 66 + Nat.log2 d / 2
  let q := n * 4 ^ k / d
  let r := isqrt q
  f64OfRat false (2 * r + (if r * r = q ∧ n * 4 ^ k % d = 0 then 0 else 1)) (2 ^ (k + 1))

/-- Whether the square of binary64 p lies within the relative bounds (1 ± 2^−40)² of n/d. -/
def withinRel40 (p n d : Nat) : Bool :=
  let e := f64Exp p
  let m2 := (f64Mant p * f64Mant p).toNat * pow2 (2 * e) * d * 2 ^ 80
  let w := n * pow2 (-2 * e)
  f64Fin p && decide (w * (2 ^ 40 - 1) ^ 2 ≤ m2) && decide (m2 ≤ w * (2 ^ 40 + 1) ^ 2)

/-- A binary64 value within a relative 2^−40 of √(n/d) (R182): which one, `free` chooses. -/
def f64SqrtNear (free n d : Nat) : Nat :=
  let p := f64Sqrt n d
  let c := p + free % 2 ^ 14 - 2 ^ 13
  if n ≠ 0 ∧ 2 ^ 13 ≤ p ∧ withinRel40 c n d = true then c else p

/-! ### binary64 arithmetic on patterns (R417, class FPU) -/

def f64Nan (p : Nat) : Bool := natBits p 52 11 == 0x7FF && p % 2 ^ 52 != 0
def f64Inf (p : Nat) : Bool := natBits p 52 11 == 0x7FF && p % 2 ^ 52 == 0
def f64Zero (p : Nat) : Bool := p % 2 ^ 63 == 0
/-- Infinity and zero of a sign. -/
def f64InfOf (neg : Bool) : Nat := 0x7FF * 2 ^ 52 + b2n neg * 2 ^ 63
def f64ZeroOf (neg : Bool) : Nat := b2n neg * 2 ^ 63

/-- A quiet NaN whose sign and payload `free` chooses. -/
def f64NanOf (free : Nat) : Nat := 0x7FF * 2 ^ 52 + 2 ^ 51 + free % 2 ^ 51 + natBits free 63 1 * 2 ^ 63

/-- binary64 of m·2^e, m not zero. -/
def f64Scaled (m e : Int) : Nat := f64OfInt (m * (pow2 e : Nat)) (pow2 (-e))

/-- Sum. -/
def f64Add (free p q : Nat) : Nat :=
  if f64Nan p || f64Nan q then f64NanOf free
  else if f64Inf p && f64Inf q then (if f64Neg p == f64Neg q then p else f64NanOf free)
  else if f64Inf p then p
  else if f64Inf q then q
  else
    let e := min (f64Exp p) (f64Exp q)
    let m := f64Mant p * (pow2 (f64Exp p - e) : Nat) + f64Mant q * (pow2 (f64Exp q - e) : Nat)
    if m = 0 then f64ZeroOf (f64Neg p && f64Neg q) else f64Scaled m e

/-- The negative of a pattern. -/
def f64Negate (p : Nat) : Nat := if f64Neg p then p - 2 ^ 63 else p + 2 ^ 63

/-- Product. -/
def f64Mul (free p q : Nat) : Nat :=
  let neg := f64Neg p != f64Neg q
  if f64Nan p || f64Nan q then f64NanOf free
  else if f64Inf p || f64Inf q then (if f64Zero p || f64Zero q then f64NanOf free else f64InfOf neg)
  else if f64Zero p || f64Zero q then f64ZeroOf neg
  else f64Scaled (f64Mant p * f64Mant q) (f64Exp p + f64Exp q)

/-- Quotient; a zero divisor is not its concern. -/
def f64Div (free p q : Nat) : Nat :=
  let neg := f64Neg p != f64Neg q
  if f64Nan p || f64Nan q then f64NanOf free
  else if f64Inf p then (if f64Inf q then f64NanOf free else f64InfOf neg)
  else if f64Inf q then f64ZeroOf neg
  else if f64Zero p then f64ZeroOf neg
  else
    let e := f64Exp p - f64Exp q
    f64OfRat neg ((f64Mant p).natAbs * pow2 e) ((f64Mant q).natAbs * pow2 (-e))

/-- Square root. -/
def f64Root (free p : Nat) : Nat :=
  if f64Nan p then f64NanOf free
  else if f64Zero p then p
  else if f64Neg p then f64NanOf free
  else if f64Inf p then p
  else f64Sqrt ((f64Mant p).toNat * pow2 (f64Exp p)) (pow2 (-(f64Exp p)))

/-- Equal, less than, unordered. -/
def f64Cmp (p q : Nat) : Bool × Bool × Bool :=
  if f64Nan p || f64Nan q then (false, false, true)
  else if f64Zero p && f64Zero q then (true, false, false)
  else if f64Neg p != f64Neg q then (false, f64Neg p, false)
  else if p = q then (true, false, false)
  else (false, (if f64Neg p then decide (q < p) else decide (p < q)), false)

/-- The integer nearest to a finite value, ties away from zero. -/
def f64Round (p : Nat) : Int :=
  rdiv (f64Mant p * (pow2 (f64Exp p) : Nat)) (pow2 (-(f64Exp p)))

end Sys2Proof.Machine
end

