-- ==== Sys2Proof/Machine/Ledger.lean ====
section
/-! DEFINITION. Tally slots and their commands (R188–R191, R206, R207, R231), checkpoints (R211–R216), recovery at boot
(R217–R219), block migration (R225–R228), and the Ledger's commands (R233). -/

namespace Sys2Proof.Machine

/-! ### Slots -/

/-- The number of tally slots (R188). -/
def nSlots : Nat := 4192

/-- N_total of a slot. -/
def State.nTotal (s : State) (sl : Nat) : Int := sInt 64 (s.pair .TLY_NT_LO .TLY_NT_HI sl)
/-- Set N_total. -/
def State.setNTotal (s : State) (sl : Nat) (n : Int) : State := s.setPair .TLY_NT_LO .TLY_NT_HI (uNat 64 n) sl

/-- The quantum q of a slot, aC (R189). -/
def State.quantum (s : State) (sl : Nat) : Nat := s.pair .TLY_Q_LO .TLY_Q_HI sl

/-- Causes of the inexact latch, by bit of TLY_FLG (R206). -/
inductive Inexact where
  | unclean | fatal | nospare | diverge | audit | bridge | lost
deriving DecidableEq, Repr

/-- Bit of TLY_FLG that holds a cause (R231). -/
def Inexact.bit : Inexact → Nat
  | .unclean => 1 | .fatal => 2 | .nospare => 3 | .diverge => 4 | .audit => 5 | .bridge => 6 | .lost => 7

/-- Slots whose latch is set. -/
def State.countInexact (s : State) : Nat := ((natsFrom 0 nSlots).filter fun i => s.bit F.TLY_FLG_inexact i).length

/-- Write the 75 latch lines of the generation not written last (R210). -/
def State.writeLatches (s : State) : State :=
  let g := 1 - s.ldg.latchGen
  let sq := s.ldg.latchSeq + 1
  let s1 := (natsFrom 0 75).foldl (fun t i =>
    let body := (natsFrom (56 * i) 56).map fun k =>
      if k < nSlots then BitVec.ofNat 8 (bitsOf (s.rg .TLY_FLG k) 0 8) else 0
    t.writeRootSeq (520 + 75 * g + i) body sq) s
  { s1 with ldg := { s1.ldg with latchGen := g, latchSeq := sq } }

/-- Set the latch and a cause of a slot, without the write of the latch lines. -/
def State.latchBits (s : State) (sl : Nat) (c : Inexact) : State :=
  s.setRg .TLY_FLG (setBits (setBits (s.rg .TLY_FLG sl) 0 1 1) c.bit 1 1) sl

/-- Latch a cause on a list of slots and write the latch lines (R206, R210). -/
def State.latchSlots (s : State) (sls : List Nat) (c : Inexact) : State :=
  ((sls.foldl (fun t sl => t.latchBits sl c) s).writeLatches)

/-- Outcome of a TLY_CMD. -/
def State.tlyCmdSts (s : State) (sl op result : Nat) : State :=
  (((s.setFd F.TLY_CMD_STS_slot sl).setFd F.TLY_CMD_STS_op op).setFd F.TLY_CMD_STS_result result).incFd F.TLY_CMD_STS_seq

/-- Whether a latch cause of the slot still holds (R207). -/
def State.causeHolds (s : State) (sl : Nat) : Bool := s.bit F.LDG_STS_nospare && natBit (s.rg .TLY_FLG sl).toNat 3

/-- TLY_CMD op CLEAR_INEXACT (R207). -/
def clearInexact (sl : Nat) (s : State) : State :=
  if nSlots ≤ sl ∨ s.causeHolds sl = true then s.tlyCmdSts sl 1 2
  else ((s.setRg .TLY_FLG (setBits (s.rg .TLY_FLG sl) 0 8 0) sl).writeLatches).tlyCmdSts sl 1 1

/-- TLY_CMD op ZERO (R231): refused on a bound slot. -/
def tlyZero (sl : Nat) (s : State) : State :=
  if nSlots ≤ sl ∨ s.bit F.TLY_FLG_bound sl = true then s.tlyCmdSts sl 2 2
  else ((s.setNTotal sl 0).writeLatches).tlyCmdSts sl 2 1

/-- TLY_CMD op PRESET (R231): refused on a bound slot. -/
def tlyPreset (sl : Nat) (s : State) : State :=
  if nSlots ≤ sl ∨ s.bit F.TLY_FLG_bound sl = true then s.tlyCmdSts sl 3 2
  else ((s.setPair .TLY_NT_LO .TLY_NT_HI (s.pair .TLY_PRESET_LO .TLY_PRESET_HI) sl).writeLatches).tlyCmdSts sl 3 1

/-- A write to TLY_CFG or TLY_Q (R191): ignored with cfg_err where a task binds the slot. -/
def tlyCfgWrite (sl : Nat) (isQ : Bool) (v : Nat) (s : State) : State :=
  if nSlots ≤ sl then s
  else if s.bit F.TLY_FLG_bound sl then s.setFd F.TLY_FLG_cfg_err 1 sl
  else if isQ then s.setPair .TLY_Q_LO .TLY_Q_HI v sl
  else s.setRg .TLY_CFG (w32 (v % 8)) sl

/-! ### Frames (R213, R214) -/

/-- Physical place of a ring line: logical block and line. -/
def ringLine (n : Nat) : Nat × Nat := (5 + (n % 453632) / 1024, n % 453632 % 1024)

/-- Ring laps completed once checkpoint q is written (R213, R224). -/
def ringLaps (q : Nat) : Nat := (2 * q + 2) * 525 / 453632

/-- First ring line of frame (q, c). -/
def frameStart (q c : Nat) : Nat := ((2 * q + c) * 525) % 453632

/-- Entry line i (1 to 524): eight slots' totals. -/
def entryLine (k : Ckpt) (i : Nat) : List Byte :=
  (natsFrom (8 * (i - 1)) 8).flatMap fun sl => leBytes 8 (uNat 64 (Tab.get 0 k.totals sl))

/-- The frame header of a copy (R214). -/
def frameHeader (k : Ckpt) (copy : Nat) (bodyCrc : Nat) : List Byte :=
  crcLine (leBytes 4 0x4B43474C ++ leBytes 1 k.kind ++ leBytes 1 k.cause ++ leBytes 1 copy ++ leBytes 1 1 ++ leBytes 8 k.seq ++
    leBytes 8 (stamp k.time) ++ leBytes 2 (k.time / 2 ^ 64) ++ leBytes 2 0 ++ leBytes 4 k.image ++ leBytes 4 k.bound ++
    List.replicate 20 0 ++ leBytes 4 bodyCrc)

/-- Write one copy: entry lines 1 to 524, then the header (R213). -/
def State.writeFrame (s : State) (k : Ckpt) (copy : Nat) : State :=
  let st := frameStart k.seq copy
  let s1 := (natsFrom 1 524).foldl (fun t i => let p := ringLine (st + i); t.writeLog p.1 p.2 (entryLine k i)) s
  let body := crc32c ((natsFrom 1 524).flatMap fun i => entryLine k i)
  let p := ringLine st
  s1.writeLog p.1 p.2 (frameHeader k copy body)

/-- Every slot's N_total (snapshot, R211). -/
def State.allTotals (s : State) : Tab Int :=
  (natsFrom 0 nSlots).filterMap fun sl => let n := s.nTotal sl; if n = 0 then none else some (sl, n)

/-- Slots bound to tasks. -/
def State.countBound (s : State) : Nat := ((natsFrom 0 nSlots).filter fun i => s.bit F.TLY_FLG_bound i).length

/-- The writer takes a snapshot and begins a checkpoint; its frame follows the root lines not yet written (R211, R213, R216). -/
def State.beginCkpt (s : State) (kind cause : Nat) (cmd : Bool) : State :=
  let k : Ckpt := { seq := s.ldg.nextSeq, kind := kind, cause := cause, time := s.now, image := (s.rg .BOOT_IMG_VER).toNat,
                    bound := s.countBound, cmd := cmd, start := max s.time s.ldg.rootEnd, totals := s.allTotals }
  { s with ldg := { s.ldg with wr := some k, nextSeq := s.ldg.nextSeq + 1 } }

/-- LDG_STS.wr: root lines, copy A or copy B, by the lines written since the frame's start at 2 lines per µs (R208, R213, R233). -/
def State.ldgWr (s : State) : Nat :=
  match s.ldg.wr with
  | some k => if s.time < k.start then 3 else if 2 * (s.time - k.start) < 525 * usTicks 1 then 1 else 2
  | none => if s.time < s.ldg.rootEnd then 3 else 0

/-- A PERIODIC checkpoint falls due: taken now, or when the one being written ends; none is skipped (R211). -/
def State.dueCkpt (s : State) (cmd : Bool) : State :=
  match s.ldg.wr with
  | some _ => { s with ldg := { s.ldg with due := s.ldg.due ++ [cmd] } }
  | none => s.beginCkpt 1 0 cmd

/-- The checkpoint interval expires (R211). -/
def periodicCheckpoint (s : State) : State :=
  if s.dev.st = .run ∧ s.ldg.lastDue + msTicks (s.fd F.LDG_CTL_interval) ≤ s.time then
    ({ s with ldg := { s.ldg with lastDue := s.time } }).dueCkpt false
  else s

/-- Outcome of an LDG_CMD. -/
def State.ldgCmdSts (s : State) (op result : Nat) : State :=
  ((s.setFd F.LDG_CMD_STS_last_op op).setFd F.LDG_CMD_STS_result result).incFd F.LDG_CMD_STS_seq

/-- LDG_CMD op CHECKPOINT (R211, R233): refused in WATCH and HALT. -/
def checkpointCmd (s : State) : State :=
  if s.dev.st = .watch ∨ s.dev.st = .halt then s.ldgCmdSts 1 1 else (s.dueCkpt true).ldgCmdSts 1 0

/-- LDG_CMD op RELEASE_HOLD (R218, R229, R233). -/
def releaseHold (s : State) : State :=
  if s.bit F.LDG_STS_hold then ((s.setFd F.LDG_STS_hold 0).ldgCmdSts 2 0).assertOnce 281 else s.ldgCmdSts 2 1

/-! ### Bridge record (R216) -/

/-- Counts of the port lanes (2p upper, 2p + 1 lower) modulo 2^32, and of the remote channels by CHAN − 0x100. -/
def State.laneCount (s : State) (l : Nat) : Nat :=
  (if l % 2 = 0 then s.rg .PRT_CNTU_LO (l / 2) else s.rg .PRT_CNTL_LO (l / 2)).toNat
def State.remCount (s : State) (c : Nat) : Nat := (s.rg .LNK_CNT_LO (c / 256) (c % 256)).toNat

/-- Difference modulo 2^32. -/
def sub32 (a b : Nat) : Nat := (2 ^ 32 - b % 2 ^ 32 + a) % 2 ^ 32

/-- The marker counts latched at the cut of WATCH or HALT (R203). -/
def State.latchBridge (s : State) : State :=
  let ls := (natsFrom 0 192).filterMap fun l => if s.laneCount l = 0 then none else some (l, s.laneCount l)
  let rs := (natsFrom 0 4096).filterMap fun c => if s.remCount c = 0 then none else some (c, s.remCount c)
  { s with ldg := { s.ldg with bridgeLane := ls, bridgeRem := rs } }

/-- The bridge record and its header, tagged with the coming checkpoint's sequence (R210, R216). -/
def State.writeBridge (s : State) : State :=
  let s1 := (natsFrom 0 14).foldl (fun t i =>
    t.writeRoot (672 + i) ((natsFrom (14 * i) 14).flatMap fun l =>
      leBytes 4 (if l < 192 then sub32 (s.laneCount l) (Tab.get 0 s.ldg.bridgeLane l) else 0))) s
  let s2 := (natsFrom 0 293).foldl (fun t i =>
    t.writeRoot (686 + i) ((natsFrom (14 * i) 14).flatMap fun c =>
      leBytes 4 (if c < 4096 then sub32 (s.remCount c) (Tab.get 0 s.ldg.bridgeRem c) else 0))) s1
  s2.writeRoot 671 (leBytes 8 s.ldg.nextSeq)

/-! ### Migration (R225–R228) -/

/-- Physical spare blocks 448 to 511 that hold no block and are not retired (R209). -/
def State.nextSpare (s : State) : Option Nat :=
  (natsFrom 448 64).find? fun p => ! s.ldg.retired.contains p && ! (s.ldg.bmap.any fun e => e.2 == p + 1)

/-- A logical block asks for migration (R225). -/
def State.askMigration (s : State) (b : Nat) : State :=
  let busy := match s.ldg.mig with | some m => m.lblock == b | none => false
  if busy || s.ldg.migQ.contains b || s.ldg.noSpare.contains b then s
  else { s with ldg := { s.ldg with migQ := s.ldg.migQ ++ [b] } }

/-- Logical block of a physical line, where it holds one. -/
def State.logicalOf (s : State) (phys : Nat) : Nat :=
  match s.ldg.bmap.find? (fun e => e.2 == phys + 1) with | some e => e.1 | none => phys

/-- A spare leaves the pool; LEDGER_SPARE_LOW when spares fall to 4 (R225, R226). -/
def State.useSpare (s : State) (retire : Nat) : State :=
  let n := s.fd F.LDG_SPARE_spares - 1
  let s1 := { s with ldg := { s.ldg with retired := s.ldg.retired ++ [retire] } }
  let s2 := (((s1.setFd F.LDG_SPARE_spares n).incFd F.LDG_SPARE_retired)).assertOnce 282
  if n ≤ 4 then s2.raise 0x021 (unitOf 1 0xFFF) n true else s2

/-- Steps INTENT and COPY to a target begin (R226). -/
def State.migCopy (s : State) (b target tries : Nat) : State :=
  let old := s.physBlock b
  let s1 := s.writeRoot (256 + s.ldg.intentNext % 8)
    (leBytes 4 b ++ leBytes 4 old ++ leBytes 4 target ++ leBytes 4 (s.ldg.intentNext + 1) ++ leBytes 4 0)
  let s2 := (natsFrom 0 1024).foldl (fun t l => t.writePhys (target * 1024 + l) (s.physLine (old * 1024 + l))) s1
  ({ s2 with ldg := { s2.ldg with mig := some ⟨b, target, tries, s.time⟩, intentNext := s2.ldg.intentNext + 1 } }).setFd F.LDG_STS_mig 1

/-- LDG_MIG: the block, the step and the target. INTENT, COMMIT and RETIRE write one root line each and COPY 1,024 lines, at 2 lines per µs;
VERIFY lasts until the migration is done (R208, R226, R233). -/
def State.ldgMig (s : State) : Nat :=
  let word := fun (b step target : Nat) => b % 2 ^ 9 + 2 ^ 9 * step + 2 ^ 16 * (target % 2 ^ 9)
  match s.ldg.mig, s.ldg.migEnd with
  | some m, _ => word m.lblock (if s.time < m.since + usTicks 1 then 1 else if s.time < m.since + usTicks 513 then 2 else 3) m.target
  | none, some (b, target, t) => if s.time < t + usTicks 1 then word b 4 target else if s.time < t + usTicks 2 then word b 5 target else 0
  | none, none => 0

/-- No spare remains (R206, R225): the block stays in use. -/
def State.migNoSpare (s : State) (b : Nat) : State :=
  let s1 := { s with ldg := { s.ldg with noSpare := s.ldg.noSpare ++ [b], mig := none } }
  ((s1.setFd F.LDG_STS_nospare 1).raise 0x022 (unitOf 1 b) 0 true).latchSlots (natsFrom 0 nSlots) .nospare

/-- The oldest waiting request starts (R225, R226), one that boot recovery restarts in RUN only (R228), and none after a power-fail warning
(R222). -/
def migrationStart (s : State) : State :=
  match s.ldg.mig, s.ldg.migQ with
  | none, b :: t =>
    if s.ldg.migStop = true ∨ (s.ldg.migTarget ≠ 0 ∧ s.dev.st ≠ .run) then s
    else
    let s1 := { s with ldg := { s.ldg with migQ := t, migTarget := 0 } }
    if s.fd F.LDG_SPARE_spares = 0 then s1.migNoSpare b
    else
      match (if s.ldg.migTarget = 0 then s1.nextSpare else some (s.ldg.migTarget - 1)) with
      | some p => (s1.migCopy b p 0).assertOnce 282
      | none => s1.migNoSpare b
  | _, _ => s

/-- The migration leaves the stage (R226, R229). -/
def State.migClear (s : State) : State :=
  let s1 := { s with ldg := { s.ldg with mig := none } }
  (s1.setFd F.LDG_STS_mig 0).assertOnce 282

/-- Step RETIRE (R226): the intent is closed, and the old block leaves the spares. -/
def State.retireBlock (s : State) (b old target : Nat) : State :=
  (s.writeRoot (256 + (s.ldg.intentNext - 1) % 8)
    (leBytes 4 b ++ leBytes 4 old ++ leBytes 4 target ++ leBytes 4 s.ldg.intentNext ++ leBytes 4 1)).useSpare old

/-- A migration ends: COMMIT and RETIRE, or VERIFY has failed and the next spare is tried, at most three (R226, R227). -/
def migrationDone (verified : Bool) (s : State) : State :=
  match s.ldg.mig with
  | none => s
  | some m =>
    if s.ldg.migStop then s
    else if verified then
      let old := s.physBlock m.lblock
      let s1 := s.writeRoot (s.ldg.mapNext % 256) (leBytes 4 m.lblock ++ leBytes 4 m.target ++ leBytes 4 (s.ldg.mapNext + 1))
      let s2 := { s1 with ldg := { s1.ldg with
        bmap := Tab.set 0 s1.ldg.bmap m.lblock (m.target + 1), mapNext := s1.ldg.mapNext + 1,
        corrected := Tab.set 0 s1.ldg.corrected m.lblock 0, migEnd := some (m.lblock, m.target, s.time) } }
      (s2.retireBlock m.lblock old m.target).migClear
    else
      let s1 := s.useSpare m.target
      if 2 ≤ m.tries then (s1.migClear).raise 0x023 (unitOf 1 m.lblock) m.target
      else
        match s1.nextSpare with
        | some p => s1.migCopy m.lblock p (m.tries + 1)
        | none => s1.migClear.migNoSpare m.lblock

/-! ### The frame is written -/

/-- Writes that failed read-back three times, and corrected reads, ask for migrations (R225); a line of the fault log raises no fault of its own
(R566). -/
def State.wearNotes (s : State) (failed corrected : List Nat) : State :=
  let s1 := failed.foldl (fun t l =>
    let b := t.logicalOf (l / 1024)
    if 2 ≤ b ∧ b < 448 then (if b = 2 then t.logFailed else t.raise 0x020 (unitOf 1 b) l).askMigration b else t) s
  corrected.foldl (fun t b =>
    let n := Tab.get 0 t.ldg.corrected b + 1
    let t1 := { t with ldg := { t.ldg with corrected := Tab.set 0 t.ldg.corrected b n } }
    if 64 < n then t1.askMigration b else t1) s1

/-- The anchor line after a checkpoint whose sequence is a multiple of 128 (R215). -/
def State.writeAnchor (s : State) (q : Nat) : State :=
  let s1 := s.writeRoot (264 + s.ldg.anchorNext % 256) (leBytes 8 q ++ leBytes 8 (ringLaps q))
  { s1 with ldg := { s1.ldg with anchorNext := s1.ldg.anchorNext + 1 } }

/-- The oldest checkpoint that waited is taken (R211). -/
def State.nextDue (s : State) : State :=
  match s.ldg.due with
  | c :: t => ({ s with ldg := { s.ldg with due := t } }).beginCkpt 1 0 c
  | [] => s

/-- Copy A and copy B are in the ring (R213, R215, R224, R229). A FINAL checkpoint of a reset or a power failure is the run's last: what
waited is covered by it. -/
def frameWriteDone (failed corrected : List Nat) (s : State) : State :=
  match s.ldg.wr with
  | none => s.wearNotes failed corrected
  | some k =>
    let s1 := (s.writeFrame k 0).writeFrame k 1
    let s2 := (s1.setPair .LDG_SEQ_LO .LDG_SEQ_HI k.seq).setFd F.LDG_STS_final (b2n (k.kind == 2))
    let s3 := s2.setRg .LDG_WEAR (w32 (ringLaps k.seq))
    let s4 := if k.seq % 128 = 0 then s3.writeAnchor k.seq else s3
    let s5 := { s4 with ldg := { s4.ldg with wr := none } }
    let s6 := s5.wearNotes failed corrected
    let s7 := if k.kind = 2 ∨ k.cmd = true then s6.assertOnce 281 else s6
    let s8 := if k.kind = 2 then { s7 with dev := { s7.dev with finalDone := true } } else s7
    if k.kind = 2 ∧ (s8.dev.trans = .reset ∨ s8.dev.trans = .powerFail) then s8 else s8.nextDue

/-! ### Recovery (R217–R219, R228) -/

/-- Whether frame (q, c) is valid, and its lines (R214). -/
def State.frameLines (s : State) (q c : Nat) : List Byte × List Byte :=
  let st := frameStart q c
  let h := let p := ringLine st; s.logLine p.1 p.2
  (h, (natsFrom 1 524).flatMap fun i => let p := ringLine (st + i); s.logLine p.1 p.2)

/-- Validity of a frame: both CRCs good, magic, and seq and copy match the position (R214). -/
def frameValid (q c : Nat) (f : List Byte × List Byte) : Bool :=
  lineGood f.1 && ofLe (f.1.take 4) == 0x4B43474C && ofLe ((f.1.drop 8).take 8) == q && ofLe ((f.1.drop 6).take 1) == c &&
    ofLe ((f.1.drop 56).take 4) == crc32c f.2

/-- The anchors' highest sequence (R215, R217). -/
def State.highAnchor (s : State) : Option Nat :=
  (natsFrom 264 256).foldl (fun best l =>
    match s.rootLine l with
    | none => best
    | some bs => let q := ofLe (bs.take 8); match best with | some b => some (max b q) | none => some q) none

/-- The walk from the anchor: the last sequence with a valid copy, and the number walked (R217). -/
def State.walk (s : State) : Nat → Nat → Nat → Option Nat → Nat → Option Nat × Nat
  | 0, _, _, best, n => (best, n)
  | k + 1, q, misses, best, n =>
    if 2 ≤ misses then (best, n)
    else if frameValid q 0 (s.frameLines q 0) || frameValid q 1 (s.frameLines q 1) then s.walk k (q + 1) 0 (some q) (n + 1)
    else s.walk k (q + 1) (misses + 1) best (n + 1)

/-- Total of a slot in a frame body. -/
def bodyTotal (body : List Byte) (sl : Nat) : Int := sInt 64 (ofLe ((body.drop (8 * sl)).take 8))

/-- The settling of a migration that a reset or power loss cut (R228). -/
def State.settleMigration (s : State) : State :=
  let maps := (natsFrom 0 256).filterMap fun l => s.rootLine l
  let best := fun (b : Nat) => maps.foldl (fun (acc : Nat × Nat) bs =>
    if ofLe (bs.take 4) = b ∧ acc.1 < ofLe ((bs.drop 8).take 4) then (ofLe ((bs.drop 8).take 4), ofLe ((bs.drop 4).take 4) + 1)
    else acc) (0, 0)
  let bm := (natsFrom 2 446).filterMap fun b => if (best b).2 = 0 then none else some (b, (best b).2)
  let s1 := { s with ldg := { s.ldg with bmap := bm, mig := none, migStop := false, migQ := [], migTarget := 0 } }
  let intents := (natsFrom 256 8).filterMap fun l => s1.rootLine l
  let top := intents.foldl (fun (acc : Nat × List Byte) bs =>
    if acc.1 < ofLe ((bs.drop 12).take 4) then (ofLe ((bs.drop 12).take 4), bs) else acc) (0, [])
  if top.1 = 0 ∨ ofLe ((top.2.drop 16).take 4) = 1 then s1.setFd F.LDG_RCV_mig 0
  else
    let b := ofLe (top.2.take 4)
    let old := ofLe ((top.2.drop 4).take 4)
    let new := ofLe ((top.2.drop 8).take 4)
    if (best b).2 = new + 1 then (s1.retireBlock b old new).setFd F.LDG_RCV_mig 2
    else if s1.ldg.retired.contains new then s1.setFd F.LDG_RCV_mig 0
    else
      ({ s1 with ldg := { s1.ldg with migQ := [b], migTarget := new + 1 } }).setFd F.LDG_RCV_mig 1

/-- The valid latch lines of a generation, and their sequence where all 75 are valid (R210). -/
def State.latchLines (s : State) (g : Nat) : List (List Byte) := (natsFrom 0 75).filterMap fun i => s.rootLine (520 + 75 * g + i)
def State.latchLinesSeq (s : State) (g : Nat) : Nat :=
  match s.latchLines g with
  | [] => 0
  | bs :: t => if t.length = 74 then ofLe ((bs.drop 56).take 4) else 0

/-- The latches of the generation whose 75 lines are all valid and whose sequence is higher (R210). -/
def State.loadLatches (s : State) : State :=
  let q0 := s.latchLinesSeq 0
  let q1 := s.latchLinesSeq 1
  if q0 + q1 = 0 then s
  else
    let g := if q0 < q1 then 1 else 0
    let bytes : List Byte := (s.latchLines g).flatMap fun bs => bs.take 56
    let s1 := (natsFrom 0 nSlots).foldl (fun t sl =>
      let b := (nth 0 bytes sl).toNat
      if b = 0 then t else t.setRg .TLY_FLG (setBits (t.rg .TLY_FLG sl) 0 8 b) sl) s
    { s1 with ldg := { s1.ldg with latchGen := g, latchSeq := max q0 q1 } }

/-- The bridge record, applied where the frame with its sequence is valid (R216). -/
def State.loadBridge (s : State) (q : Nat) : State :=
  match s.rootLine 671 with
  | none => s
  | some h =>
    if ofLe (h.take 8) ≠ q then s
    else
      let rd := fun (base n : Nat) => (natsFrom 0 n).flatMap fun i =>
        match s.rootLine (base + i) with
        | some bs => (natsFrom 0 14).map fun k => ofLe ((bs.drop (4 * k)).take 4)
        | none => List.replicate 14 0
      let tab := fun (l : List Nat) (m : Nat) => ((natsFrom 0 m).zip l).filter fun e => e.2 != 0
      { s with ldg := { s.ldg with bootLane := tab (rd 672 14) 192, bootRem := tab (rd 686 293) 4096 } }

/-- Whether the fault log shows a class 3 escalation as the last event before the newest BOOT entry (R219, R576). -/
def State.lastWasFatal (s : State) : Bool :=
  let es := (natsFrom 297 727).filterMap fun l => let bs := s.logLine 2 l; if lineGood bs then some bs else none
  let seqOf := fun (bs : List Byte) => ofLe (bs.take 8)
  let kind := fun (bs : List Byte) => ofLe ((bs.drop 8).take 1)
  let top := es.foldl (fun (acc : Option (List Byte)) bs =>
    match acc with | some a => if seqOf a < seqOf bs then some bs else some a | none => some bs) none
  match top with
  | some bs => kind bs == 4 && ofLe ((bs.drop 9).take 1) == 3
  | none => false

/-- The last checkpoint from anchor `a` to `q` of which both copies are valid; the anchor's own was written in both (R215, R232). -/
def State.bothCopies (s : State) (a q : Nat) : Nat :=
  (natsFrom a (q + 1 - a)).foldl (fun (b : Nat) n => if frameValid n 0 (s.frameLines n 0) && frameValid n 1 (s.frameLines n 1) then n else b) a

/-- Recovery in boot step 7 (R217, R218, R219, R229). -/
def State.recoverLedger (s : State) : State :=
  let s1 := (s.settleMigration).loadLatches
  match s1.highAnchor with
  | none =>
    if (s1.rootLine 670).isSome then
      let s2 := (natsFrom 0 nSlots).foldl (fun t sl => t.setNTotal sl 0) s1
      (((s2.latchSlots (natsFrom 0 nSlots) .lost).raise 0x025 (unitOf 1 0xFFF) 0).setFd F.LDG_RCV_result 5).assertOnce 282
    else
      let s2 := (s1.writeRoot 670 (leBytes 8 1))
      (({ s2 with ldg := { s2.ldg with nextSeq := 0 } }).setFd F.LDG_RCV_result 0).assertOnce 282
  | some a =>
    let (best, n) := s1.walk 600 a 0 none 0
    match best with
    | none =>
      let s2 := (natsFrom 0 nSlots).foldl (fun t sl => t.setNTotal sl 0) s1
      (((s2.latchSlots (natsFrom 0 nSlots) .lost).raise 0x025 (unitOf 1 0xFFF) 0).setFd F.LDG_RCV_result 5).assertOnce 282
    | some q =>
      let fa := s1.frameLines q 0
      let fb := s1.frameLines q 1
      let va := frameValid q 0 fa
      let vb := frameValid q 1 fb
      let useB := vb
      let fr := if useB then fb else fa
      let kind := ofLe ((fr.1.drop 4).take 1)
      let cause := ofLe ((fr.1.drop 5).take 1)
      let differ := va && vb && decide (fa.2 ≠ fb.2)
      let s2 := (natsFrom 0 nSlots).foldl (fun t sl => t.setNTotal sl (bodyTotal fr.2 sl)) s1
      let s3 := { s2 with ldg := { s2.ldg with nextSeq := q + 1 } }
      let s4 := ((((s3.setFd F.LDG_RCV_copy (b2n useB)).setFd F.LDG_RCV_cause cause).setFd F.LDG_RCV_walked (sat 65535 n)).setPair
        .LDG_SEQ_LO .LDG_SEQ_HI (s1.bothCopies a q)).setRg .LDG_WEAR (w32 (ringLaps q))
      let s5 :=
        if differ then
          let bad := (natsFrom 0 nSlots).filter fun sl => bodyTotal fa.2 sl != bodyTotal fb.2 sl
          let t1 := (s4.latchSlots bad .diverge).raise 0x026 (unitOf 1 0xFFF) q
          if t1.bit F.LDG_STS_hold then t1
          else
            let put := fun (t : State) (base : Nat) (f : List Byte × List Byte) =>
              (natsFrom 0 525).foldl (fun u i =>
                let n := base + i
                u.writeLog (3 + n / 1024) (n % 1024) (if i = 0 then f.1 else (f.2.drop (64 * (i - 1))).take 64)) t
            (put (put t1 0 fa) 525 fb).setFd F.LDG_STS_hold 1
        else s4
      let clean := kind == 2 && (cause == 1 || cause == 2)
      let s6 :=
        if clean then s5
        else (s5.latchSlots (natsFrom 0 nSlots) (if s5.lastWasFatal then .fatal else .unclean)).raise 0x024 (unitOf 1 0xFFF) q
      let res := if differ then 3 else if ! (va && vb) then 4 else if clean then 1 else 2
      let s7 := (s6.setFd F.LDG_RCV_result res).loadBridge q
      if res = 1 then s7 else s7.assertOnce 282

def execTlyCfgWrite (slot : Nat) (isQ : Bool) (value : Nat) (s : State) : Host.Outcome State Fault Refusal :=
  .next (tlyCfgWrite slot isQ value s)
def execClearInexact (slot : Nat) (s : State) : Host.Outcome State Fault Refusal := .next (clearInexact slot s)
def execZero (slot : Nat) (s : State) : Host.Outcome State Fault Refusal := .next (tlyZero slot s)
def execPreset (slot : Nat) (s : State) : Host.Outcome State Fault Refusal := .next (tlyPreset slot s)
def execPeriodicCheckpoint (s : State) : Host.Outcome State Fault Refusal := .next (periodicCheckpoint s)
def execCheckpoint (s : State) : Host.Outcome State Fault Refusal := .next (checkpointCmd s)
def execReleaseHold (s : State) : Host.Outcome State Fault Refusal := .next (releaseHold s)
def execMigrationStart (s : State) : Host.Outcome State Fault Refusal := .next (migrationStart s)
def execMigrationDone (verified : Bool) (s : State) : Host.Outcome State Fault Refusal := .next (migrationDone verified s)

end Sys2Proof.Machine
end

