-- ==== Sys2Proof/Machine/TimeBase.lean ====
section
/-! DEFINITION. The time base (R102–R112), the horizons, the timestamp of a lane (R116), lane calibration (R119–R124, R130) and
lane hand-over (R125–R131). -/

namespace Sys2Proof.Machine

/-- Update the time base. -/
def State.setTb (s : State) (f : TimeBase → TimeBase) : State := { s with tb := f s.tb }

/-! ### The tick counter -/

/-- One tick period passes: the horizon keeper takes now, so that H_D and H_R advance, and never move backwards where a cascade member's
offset falls (R28); the tick count wraps at 2^55 and the epoch increments (R108), which makes the EPOCH records of R109 due. -/
def State.countTick (s : State) : State :=
  let s1 := { s with time := s.time + 1, up := s.up + 1 }
  s1.setTb fun t => { t with keep := max t.keep s1.nowTick, epochDue := t.epochDue || s1.nowTick / epochTicks != s.nowTick / epochTicks }

/-! ### Reference (R104–R107) -/

/-- Start counting: now and the epoch at zero (R104); a cascade member takes them from the root. -/
def State.startTime (s : State) : State :=
  let s1 := { s with time := 0, up := 0 }
  s1.setTb fun t => { t with on := true, keep := s1.nowTick }

/-- TB_PLL_STS.lock takes a value; event source 301 is asserted whenever it changes (R107). -/
def State.setLock (s : State) (b : Bool) : State :=
  if s.bit F.TB_PLL_STS_lock == b then s else (s.setFd F.TB_PLL_STS_lock (b2n b)).assertOnce 301

/-- The end of a holdover interval. -/
def State.endHoldover (s : State) : State :=
  (s.setFd F.TB_PLL_STS_holdover 0).setTb fun t =>
    { t with holdovers := t.holdovers.map fun e => match e.2 with | none => (e.1, some s.nowTick) | some _ => e }

/-- The PLL first locks in BOOT (R104). -/
def pllLock (s : State) : State :=
  if s.dev.st = .boot ∧ s.tb.on = false then (s.startTime).setLock true else s

/-- Whether a valid reference has returned since the last loss (assumption log 117). -/
def State.refSeen (s : State) (b : Bool) : State := s.setTb fun t => { t with refBack := b }

/-- Loss of reference (R105), declared once for one departure and anew only after a valid reference has returned: holdover, the loss count and
the class 1 fault REF_LOSS. -/
def State.lossOfRef (s : State) : State :=
  if s.tb.refBack then
    let s1 := (s.refSeen false).setLock false
    let s2 := if s1.bit F.TB_PLL_STS_holdover then s1
      else (s1.setFd F.TB_PLL_STS_holdover 1).setTb fun t => { t with holdovers := t.holdovers ++ [(s.nowTick, none)] }
    let s3 := (s2.setFd F.TB_PLL_STS_ref_loss 1).incFd F.TB_PLL_STS_loss_cnt
    s3.raise 0x000 0 (s3.fd F.TB_PLL_STS_loss_cnt) true
  else s

/-- No lock within 100 ms of boot step 5: the time base starts in holdover (R104). -/
def refLockTimeout (s : State) : State :=
  if s.dev.st = .boot ∧ s.tb.on = false then
    let s1 := ((s.startTime).refSeen false).setFd F.TB_PLL_STS_holdover 1
    let s2 := s1.setTb fun t => { t with holdovers := t.holdovers ++ [(s1.time, none)] }
    s2.raise 0x000 0 (s2.fd F.TB_PLL_STS_loss_cnt) true
  else s

/-- REFCLK shows no edge for 4 µs (R105). -/
def refNoEdge (s : State) : State := if s.tb.on then s.lossOfRef else s

/-- A 1 ms frequency window ends (R105): a departure beyond ±200 ppm is a loss; otherwise the reference is valid again. -/
def refFreqWindowEnd (ppm : Int) (s : State) : State :=
  if s.tb.on = false then s else if 200 < ppm.natAbs then s.lossOfRef else s.refSeen true

/-- Relock to a returned reference, without a phase step (R106, R568). -/
def relock (s : State) : State :=
  if s.tb.on = true ∧ s.bit F.TB_PLL_STS_holdover = true then
    ((((s.refSeen true).endHoldover).setLock true).setFd F.TB_PLL_STS_relock 1).dropLive 0 0x000
  else s

/-- What REFCLK_OUT carries (R107, R603): a static differential low while TB_OUT_CFG.en is 0, else a copy of REFCLK or 100 MHz from the main PLL. -/
def State.refclkOut (s : State) : ClockOut :=
  if s.bit F.TB_OUT_CFG_en = false then .low else if s.bit F.TB_OUT_CFG_src then .pll else .refclk

/-- TB_OUT_CFG takes a word: REFCLK_OUT changes with it (R107, R603). -/
def State.putOut (s : State) (w : Word) : State :=
  let s1 := s.setRg .TB_OUT_CFG w
  if s1.refclkOut = s.refclkOut then s1 else s1.emit (.refclkOut s1.refclkOut)

/-- Whether an interval of full ticks overlaps a holdover interval (R107). -/
def State.inHoldover (s : State) (a b : Nat) : Bool :=
  s.tb.holdovers.any fun e => decide (e.1 < b) && (match e.2 with | none => true | some z => decide (a < z))

/-! ### Lanes and their timestamps (R114–R117) -/

/-- The quad of a port lane or spare lane. -/
def quadOfLane (l : Nat) : Nat := if l < 192 then l / 8 else l - 192
/-- The spare lane of a quad. -/
def spareOf (q : Nat) : Nat := 192 + q
/-- Island of a tile: monitor converters and quads of tile t (R14). -/
def tileOfQuad (q : Nat) : Nat := q / 6

/-- Entry of a lane's calibration table, fu/16 from the start of the tick; uniform where none is listed. -/
def State.tableEntry (s : State) (lane e : Nat) : Nat :=
  match Tab.get [] s.tb.tables lane with
  | [] => 8 * e + 4
  | t => nth 0 t e

/-- Signed correction of a lane for a comparator (R117). -/
def State.corrOf (s : State) (lane comp : Nat) : Int :=
  if 192 ≤ lane ∧ lane < 216 then sInt 16 (s.fd F.TB_SPR_CORR_corr (lane - 192) (comp % 8))
  else sInt 16 (s.fd F.TB_LANE_CORR_corr lane)

/-- R116: nearest fine unit, ties upward, of the tick, the table entry and the correction; a full time. -/
def laneTime (tick fine16 : Nat) (corr : Int) : Nat := (((tick * 8192 + fine16 : Int) - corr + 8) / 16).toNat

/-- How far an island's copy of now stands from it, in ticks (R112); the core die has none, and reads now itself. -/
def State.copyOff (s : State) (island : Nat) : Int := Tab.get 0 s.tb.copies island

/-- The timestamp that a lane gives a transition of comparator `comp` (2p or 2p + 1) from its island's copy of now; service lanes, on the core
die, count from now. -/
def State.stampOf (s : State) (lane comp tick slot code : Nat) : Nat :=
  let t := ((tick : Nat) + (if comp < 192 then s.copyOff (comp / 8) else 0)).toNat
  s.devTime (laneTime t (s.tableEntry lane (slot * 256 + code)) (s.corrOf lane comp))

/-- A tick of the time base in fine units of device time. -/
def State.fuOf (s : State) (tick : Nat) : Nat := s.devTime (tick * 512)

/-- The lane whose time a comparator's transitions take: the spare where it covers (R120, R125). -/
def State.timingLane (s : State) (comp : Nat) : Nat :=
  let sp := spareOf (comp / 8)
  if s.fd F.TB_LANE_STS_state sp = 4 ∧ s.fd F.TB_LANE_STS_partner sp = comp then sp else comp

/-! ### One calibration pass (R119) -/

/-- Sum of a slot's 256 counts. -/
def slotSum (h : List Nat) (sl : Nat) : Nat := sumNat ((h.drop (256 * sl)).take 256)

/-- Largest departure of a slot's share from a quarter of the hits. -/
def slotDev (h : List Nat) : Nat :=
  (natsFrom 0 4).foldl (fun m sl =>
    let x := slotSum h sl
    max m (if x < 1048576 then 1048576 - x else x - 1048576)) 0

/-- The bin centres, in fu/16. -/
def binCentres : Nat → List Nat → List Nat
  | _, [] => []
  | cum, h :: t => (2 * cum + h + 512) / 1024 :: binCentres (cum + h) t

/-- A pass: the table, or none where a slot's share or a bin's width fails. -/
def densityPass (h : List Nat) : Option (List Nat) :=
  if h.length ≠ 1024 ∨ 10485 < slotDev h then none
  else if h.any fun x => decide (131072 < x) then none
  else some (binCentres 0 h)

/-- Largest difference of two tables, in fu/16. -/
def tableShift : List Nat → List Nat → Nat
  | a :: t, b :: u => max (if a < b then b - a else a - b) (tableShift t u)
  | _, _ => 0

/-- The uniform table. -/
def uniformTable : List Nat := (natsFrom 0 1024).map fun e => 8 * e + 4

/-- The figures of a pass (TB_LANE_CAL, R138). -/
def State.calFigures (s : State) (lane : Nat) (h : List Nat) (shift16 : Nat) : State :=
  let widest := h.foldl max 0
  let s1 := s.setFd F.TB_LANE_CAL_max_bin (sat 255 (widest / 1024)) lane
  let s2 := s1.setFd F.TB_LANE_CAL_shift (sat 255 (shift16 / 2)) lane
  s2.setFd F.TB_LANE_CAL_slot_err (sat 255 (slotDev h * 10000 / 4194304)) lane

/-- Store a passing table (R121). -/
def State.storeTable (s : State) (lane : Nat) (t : List Nat) : State :=
  let s1 := s.setTb fun b => { b with tables := Tab.set [] b.tables lane (if t == uniformTable then [] else t) }
  (((s1.setFd F.TB_LANE_STS_cal_valid 1 lane).incFd F.TB_LANE_CAL_passes lane).setPair
    .TB_LANE_CALT_LO .TB_LANE_CALT_HI (stamp s1.now) lane)

/-- The outcome of an in-service pass on a lane (R121): whether it passed. -/
def State.passLane (s : State) (lane : Nat) (h : List Nat) : State × Bool :=
  let old := match Tab.get [] s.tb.tables lane with | [] => uniformTable | t => t
  match densityPass h with
  | none => (s.calFigures lane h 0, false)
  | some t =>
    let d := tableShift old t
    let s1 := (s.calFigures lane h d).storeTable lane t
    ((if 64 < d then s1.raise 0x080 (unitOf 4 lane) (d / 16) else s1), true)

/-- Boot calibration of one lane (R120): two passes that agree within 16 fu/16 at every entry. -/
def State.bootCalLane (s : State) (lane : Nat) (h1 h2 : List Nat) (bad : Bool) : State × Bool :=
  match densityPass h1, densityPass h2 with
  | some t1, some t2 =>
    let d := tableShift t1 t2
    if 16 < d ∨ bad = true then (s.calFigures lane h2 d, false)
    else ((s.calFigures lane h2 d).storeTable lane t2, true)
  | _, _ => (s.calFigures lane h2 0, false)

/-- A lane's state field. -/
def State.laneState (s : State) (lane : Nat) : Nat := s.fd F.TB_LANE_STS_state lane
def State.setLane (s : State) (lane st partner : Nat) : State :=
  (s.setFd F.TB_LANE_STS_state st lane).setFd F.TB_LANE_STS_partner partner lane

/-! ### Quads' lane work -/

/-- Lane work of a quad. -/
def State.quadCal (s : State) (q : Nat) : QuadCal := Tab.get QuadCal.init s.tb.quads q
def State.setQuadCal (s : State) (q : Nat) (c : QuadCal) : State :=
  s.setTb fun t => { t with quads := Tab.set QuadCal.init t.quads q c }

/-- Whether a quad's spare covers a RETIRED lane (nospare, R130, R137). -/
def State.noSpare (s : State) (q : Nat) : Bool :=
  let sp := spareOf q
  s.laneState sp == 4 && s.laneState (s.fd F.TB_LANE_STS_partner sp) == 5

/-- A lane command is recorded (TB_CAL_STS); a refusal or a completion asserts event source 303 (R137). -/
def State.calSts (s : State) (lane op busy result : Nat) : State :=
  let s1 := ((s.setFd F.TB_CAL_STS_lane lane).setFd F.TB_CAL_STS_op op).setFd F.TB_CAL_STS_busy busy
  let s2 := s1.setFd F.TB_CAL_STS_result result
  let s3 := s2.setFd F.TB_CAL_STS_nospare (b2n (decide (lane < 216) && s2.noSpare (quadOfLane lane)))
  s3

/-- A command starts: seq increments (R136). -/
def State.calStart (s : State) (lane op : Nat) : State := (s.calSts lane op 1 0).incFd F.TB_CAL_STS_seq
/-- A command is refused (R137): a command that is in progress stays so (assumption log 118). -/
def State.calRefuse (s : State) (lane op : Nat) : State :=
  ((s.calSts lane op (s.fd F.TB_CAL_STS_busy) 2).incFd F.TB_CAL_STS_seq).assertOnce 303

/-- The command of op `op` for a lane ends; schedules (op 5) and no command leave the status alone. -/
def State.calEnd (s : State) (lane op result : Nat) : State :=
  if 1 ≤ op ∧ op ≤ 4 then (s.calSts lane op 0 result).assertOnce 303
  else if s.fd F.TB_CAL_STS_lane < 216 then
    s.setFd F.TB_CAL_STS_nospare (b2n (s.noSpare (quadOfLane (s.fd F.TB_CAL_STS_lane))))
  else s

/-! ### Ports and their self-checks, as lane work meets them (R84, R85) -/

/-- Port `p`. -/
def State.port (s : State) (p : Nat) : Port := Tab.get Port.init s.ports p
def State.setPort (s : State) (p : Nat) (x : Port) : State := { s with ports := Tab.set Port.init s.ports p x }

/-- The first tick of the next tick period. -/
def State.nextTick (s : State) : Nat := s.time + 1

/-- Whether a hand-over is in progress on a lane of the port (R85). -/
def State.handingOver (s : State) (p : Nat) : Bool :=
  let c := s.quadCal (p / 4)
  decide (c.lane / 2 = p) && (match c.phase with | .prepare => true | .shadow => true | .hold => true | .detach => true | _ => false)

/-- Whether a port of the quad is checking. -/
def State.quadChecking (s : State) (q : Nat) : Bool := (natsFrom (4 * q) 4).any fun p => (s.port p).chk.isSome

/-- A check starts with the next tick (R79, R99). The filtered states stay as they were until they restart at its end (R67, R82; assumption
log 119). -/
def State.startChk (s : State) (p : Nat) : State :=
  let s1 := s.setPort p { s.port p with chk := some ⟨s.nextTick, none⟩, lastChk := s.time, everChk := true }
  let s2 := ((s1.setFd F.PRT_CHK_STS_busy 1 p).setFd F.PRT_CHK_STS_pending 0 p).incFd F.PRT_CHK_STS_runs p
  s2.setPair .PRT_CHK_T_LO .PRT_CHK_T_HI (stamp (s.fuOf s.nextTick)) p

/-- A check is due: it starts, or shows pending (R84, R85). -/
def State.chkDue (s : State) (p : Nat) : State :=
  if s.quadChecking (p / 4) ∨ s.handingOver p = true then s.setFd F.PRT_CHK_STS_pending 1 p else s.startChk p

/-- The waiting port with the lowest number starts next (R84), unless a lane of it is in hand-over (R85). -/
def State.nextChk (s : State) (q : Nat) : State :=
  if s.quadChecking q then s
  else
    match (natsFrom (4 * q) 4).find? fun p => s.bit F.PRT_CHK_STS_pending p && ! s.handingOver p with
    | some p => s.startChk p
    | none => s

/-- Port of a lane is being checked (R85, R123). -/
def State.portChecking (s : State) (lane : Nat) : Bool :=
  decide (lane < 192) && (s.port (lane / 2)).chk.isSome

/-- Whether the port of a lane is enabled. -/
def State.lanePortOn (s : State) (lane : Nat) : Bool := decide (lane < 192) && s.bit F.PRT_CFG_en (lane / 2)

/-- SHADOW begins (R125 step 2); on a return, x shadows the spare (R129). -/
def State.beginShadow (s : State) (q : Nat) (c : QuadCal) : State :=
  let sp := spareOf q
  let s1 := if c.ret then s.setLane c.lane 1 sp else s.setLane sp 1 c.lane
  s1.setQuadCal q { c with phase := .shadow, started := s.time + 1, pairs := 0, maxDiff := 0 }

/-- A hand-over or return begins: it waits for a self-check of the port (R85); PREPARE calibrates a spare whose last
calibration is older than the period (R125 step 1). -/
def State.beginHandover (s : State) (q : Nat) (c : QuadCal) : State :=
  let sp := spareOf q
  if s.portChecking c.lane then s.setQuadCal q { c with phase := .waitCheck }
  else if ! c.ret && decide (msTicks 1000 * s.fd F.TB_CAL_CTL_period <
      s.nowTick - s.fullTime (s.pair .TB_LANE_CALT_LO .TB_LANE_CALT_HI sp) / 512) then
    (s.setLane sp 2 0).setQuadCal q { c with phase := .prepare }
  else s.beginShadow q c

/-- Calibration of a lane, relieved first where its port is enabled (R121); service lanes in place (R124). -/
def State.beginCal (s : State) (lane op : Nat) : State :=
  if 216 ≤ lane then (s.setLane lane 2 0).setTb fun t => { t with svcCal := Tab.set 0 t.svcCal lane (s.time + 1) }
  else
    let q := quadOfLane lane
    let c : QuadCal := { QuadCal.init with lane := lane, op := op, wait := (s.quadCal q).wait }
    if 192 ≤ lane ∨ s.lanePortOn lane = false then (s.setLane lane 2 0).setQuadCal q { c with phase := .inPlace }
    else s.beginHandover q c

/-- Whether work on a lane that waits may begin while its quad is free: no self-check of its port runs (R85, R123, R137), and its spare is idle
where the schedule asks, or where the lane must be relieved (R121, R123, R125). -/
def State.workReady (s : State) (q lane op : Nat) : Bool :=
  let idle := s.laneState (spareOf q) == 3
  ! s.portChecking lane && (match op with
    | 1 => if 192 ≤ lane then s.laneState lane == 3 else ! s.lanePortOn lane || idle
    | 3 => idle
    | 5 => idle
    | _ => true)

/-- Work of op `op` on a lane begins: a RETRY calibrates in place (R590), HANDOVER and RETURN hand over. -/
def State.beginWork (s : State) (q lane op : Nat) : State :=
  let c : QuadCal := { QuadCal.init with lane := lane, op := op, wait := (s.quadCal q).wait }
  match op with
  | 2 => (s.setFd F.TB_LANE_STS_state 2 lane).setQuadCal q { c with phase := .inPlace }
  | 3 => s.beginHandover q c
  | 4 => s.beginHandover q { c with ret := true }
  | _ => s.beginCal lane op

/-- The first entry of a list for which `f` holds, and the others. -/
def takeFirst (f : Nat × Nat → Bool) : List (Nat × Nat) → Option ((Nat × Nat) × List (Nat × Nat))
  | [] => none
  | x :: t => if f x then some (x, t) else (takeFirst f t).map fun r => (r.1, x :: r.2)

/-- The quad is free: of the work that waits, the first that may begin does (R123). -/
def State.quadNext (s : State) (q : Nat) : State :=
  let c := s.quadCal q
  if c.phase = .idle then
    match takeFirst (fun e => s.workReady q e.1 e.2) c.wait with
    | some (e, t) => (s.setQuadCal q { c with wait := t }).beginWork q e.1 e.2
    | none => s
  else s

/-- The quad's lane work ends: other work goes on, and a self-check that waited for the hand-over starts (R85). -/
def State.quadIdle (s : State) (q : Nat) : State :=
  ((s.setQuadCal q { QuadCal.init with wait := (s.quadCal q).wait }).quadNext q).nextChk q

/-- Ask for work on a lane: at once where it may begin, else waiting (R123). -/
def State.askWork (s : State) (lane op : Nat) : State :=
  if 216 ≤ lane then s.beginCal lane op
  else
    let q := quadOfLane lane
    let c := s.quadCal q
    if c.phase = .idle ∧ s.workReady q lane op = true then s.beginWork q lane op
    else s.setQuadCal q { c with wait := c.wait ++ [(lane, op)] }

/-- TB_CAL_CMD op CALIBRATE (R121, R137). -/
def tbCalibrate (lane : Nat) (s : State) : State :=
  if 221 ≤ lane then s
  else if s.bit F.TB_CAL_STS_busy = true ∨ s.laneState lane = 5 ∨ (lane < 192 ∧ s.noSpare (quadOfLane lane) = true) then
    s.calRefuse lane 1
  else (s.calStart lane 1).askWork lane 1

/-- TB_CAL_CMD op RETRY (R129, R137, R590): a RETIRED lane is calibrated in place. -/
def tbRetry (lane : Nat) (s : State) : State :=
  if 221 ≤ lane then s
  else if s.bit F.TB_CAL_STS_busy = true ∨ s.laneState lane ≠ 5 then s.calRefuse lane 2
  else (s.calStart lane 2).askWork lane 2

/-- TB_CAL_CMD op HANDOVER (R125, R137). -/
def tbHandover (lane : Nat) (s : State) : State :=
  if 221 ≤ lane then s
  else if s.bit F.TB_CAL_STS_busy = true ∨ 192 ≤ lane ∨ s.laneState (spareOf (quadOfLane lane)) ≠ 3 then s.calRefuse lane 3
  else (s.calStart lane 3).askWork lane 3

/-- TB_CAL_CMD op RETURN (R129, R137). -/
def tbReturn (lane : Nat) (s : State) : State :=
  if 221 ≤ lane then s
  else
    let sp := spareOf (quadOfLane lane)
    if s.bit F.TB_CAL_STS_busy = true ∨ 192 ≤ lane ∨ s.laneState sp ≠ 4 ∨ s.fd F.TB_LANE_STS_partner sp ≠ lane then
      s.calRefuse lane 4
    else (s.calStart lane 4).askWork lane 4

/-! ### The rotation (R122) -/

/-- Lane `i` of a quad's rotation: 8q to 8q + 7, then the spare. -/
def rotLane (q i : Nat) : Nat := if i < 8 then 8 * q + i else spareOf q

/-- Whether a calibration of the lane runs or waits. -/
def State.laneBusy (s : State) (q lane : Nat) : Bool :=
  let c := s.quadCal q
  (c.phase != .idle && c.lane == lane) || c.wait.any fun e => e.1 == lane

/-- Ticks since a lane's last calibration. -/
def State.sinceCal (s : State) (lane : Nat) : Nat :=
  s.nowTick - s.fullTime (s.pair .TB_LANE_CALT_LO .TB_LANE_CALT_HI lane) / 512

/-- The first lane in the order of the rotation whose period has passed since its last calibration, with its place; RETIRED lanes and those whose
calibration runs or waits are passed over. -/
def State.rotDue (s : State) (q : Nat) : Option Nat :=
  let r := Tab.get 0 s.tb.rot q
  ((natsFrom r 9).map fun i => i % 9).find? fun i =>
    let l := rotLane q i
    s.laneState l != 5 && ! s.laneBusy q l && decide (msTicks 1000 * s.fd F.TB_CAL_CTL_period ≤ s.sinceCal l)

/-- The rotation brings a lane due (R122, R123): the next in order whose period has passed, or one whose tile temperature has moved by `moved` °C
since its last calibration, where that reaches dtemp. The rotation pauses in WATCH and HALT, and stays off while the spare covers a RETIRED lane
(R130). -/
def scheduledCalibration (lane moved : Nat) (s : State) : State :=
  let q := quadOfLane lane
  let dt := s.fd F.TB_CAL_CTL_dtemp
  if s.dev.st ≠ .run ∨ s.bit F.TB_CAL_CTL_sched_en = false ∨ 216 ≤ lane ∨ s.laneState lane = 5 ∨ s.noSpare q = true ∨ s.laneBusy q lane = true then s
  else if dt ≠ 0 ∧ dt ≤ moved then
    let c := s.quadCal q
    if c.phase = .idle ∧ s.workReady q lane 5 = true then s.beginWork q lane 5 else s.setQuadCal q { c with wait := (lane, 5) :: c.wait }
  else
    match s.rotDue q with
    | some i => if rotLane q i = lane then (s.setTb fun t => { t with rot := Tab.set 0 t.rot q ((i + 1) % 9) }).askWork lane 5 else s
    | none => s

/-! ### Verify, switch, detach -/

/-- Abandon a hand-over (R126, R131): the lane that had the work keeps it. -/
def State.abandonHandover (s : State) (q : Nat) (c : QuadCal) : State :=
  let sp := spareOf q
  let s1 := if c.ret then s.setLane c.lane 2 sp else s.setLane sp 3 0
  (s1.incFd F.TB_LANE_HCNT_aborted c.lane)

/-- SWITCH (R125 step 4, R127, R128): S_h is the port's PRT_SER; both lanes record it. -/
def State.switchLane (s : State) (q : Nat) (c : QuadCal) : State :=
  let sp := spareOf q
  let sh := s.rg .PRT_SER (c.lane / 2)
  let s1 := (s.setRg .TB_LANE_SER sh c.lane).setRg .TB_LANE_SER sh sp
  let s2 := s1.incFd F.TB_LANE_HCNT_done c.lane
  let s3 := if c.ret then s2.setLane c.lane 0 0 else s2.setLane sp 4 c.lane
  s3.setQuadCal q { c with phase := .detach }

/-- VERIFY's verdict (R126, R129): SWITCH follows, or the hand-over is aborted; a return is tried once more after another calibration. -/
def State.verdict (s : State) (q : Nat) (c : QuadCal) : State :=
  if 8 < c.maxDiff then
    let s1 := (s.abandonHandover q c).raise 0x081 (unitOf 4 c.lane) (spareOf q)
    if c.ret then
      if 1 ≤ c.tries then
        ((((s1.setLane c.lane 5 (spareOf q)).raise 0x082 (unitOf 4 c.lane) (spareOf q) true)).calEnd c.lane c.op 3).quadIdle q
      else s1.setQuadCal q { c with phase := .relieved, tries := 1 }
    else (s1.calEnd c.lane c.op 3).quadIdle q
  else if (s.port (c.lane / 2)).hold.isSome then s.setQuadCal q { c with phase := .hold }
  else s.switchLane q c

/-- VERIFY ends after 16 pairs or 6,250 ticks (R125 step 3), or with the pairs compared so far where a hold began, whose end SWITCH then awaits
(R131). -/
def verifyEnd (q : Nat) (s : State) : State :=
  let c := s.quadCal q
  if c.phase = .shadow ∧ (16 ≤ c.pairs ∨ c.started + 6250 ≤ s.time ∨ (s.port (c.lane / 2)).hold.isSome = true) then s.verdict q c else s

/-- A hold of a port ends, and with it the wait of a SWITCH (R131). -/
def State.holdOver (s : State) (p : Nat) : State :=
  let q := p / 4
  let c := s.quadCal q
  if c.phase = .hold ∧ c.lane / 2 = p then s.switchLane q c else s

/-- The relieved lane's buffer has drained (R125 step 5): no edge of it is in the buffer, and none of its records is held. After a return, the
spare is idle again (R129). -/
def detachDone (q : Nat) (s : State) : State :=
  let c := s.quadCal q
  let x := if c.ret then spareOf q else c.lane
  if c.phase = .detach ∧ Tab.get 0 s.tb.bufs x ≤ 1600 * s.time ∧ (Tab.get none s.tb.loss x).isNone = true ∧
      (Tab.get [] s.tb.held q).all (fun h => h.lane != x) = true then
    if c.ret then ((s.setLane (spareOf q) 3 0).calEnd c.lane c.op 1).quadIdle q
    else ((s.setLane c.lane 2 (spareOf q)).setQuadCal q { c with phase := .relieved }).nextChk q
  else s

/-- A GAP packet of two records (R360). -/
def gapPacket (chan flags src start fin lost : Nat) : List Rec :=
  [mkRec 0x07 chan 0 (flags + (if 2 ^ 32 ≤ lost then 2 else 0)) (stamp start) (sat (2 ^ 32 - 1) lost),
   mkRec 0x07 chan 1 0 (stamp fin) src]

/-- A service lane's pass ends: the channel's OOS GAP record covers it, where the channel forms records (R124, R133; assumption log 124). -/
def State.servicePass (s : State) (lane : Nat) (ok : Bool) : State :=
  let g := gapPacket (0x60 + (lane - 216)) 1 3 (s.fuOf (Tab.get 0 s.tb.svcCal lane)) (s.fuOf s.time) 0
  let s1 := (s.setLane lane 0 0).setTb fun t =>
    { t with svcCal := Tab.set 0 t.svcCal lane 0,
             held := if natBit (s.fd F.TB_SVC_EN_en) (lane - 216) then Tab.set [] t.held 40 (Tab.get [] t.held 40 ++ [⟨221, g, 0, true⟩]) else t.held }
  let s2 := if ok then s1 else s1.raise 0x082 (unitOf 4 lane) 0
  s2.calEnd lane 1 (if ok then 1 else 4)

/-- A pass of a lane fails: it is RETIRED (R130). -/
def State.retireLane (s : State) (q lane partner detail : Nat) (c : QuadCal) : State :=
  (((s.setLane lane 5 partner).raise 0x082 (unitOf 4 lane) detail true).calEnd c.lane c.op 4).quadIdle q

/-- A code-density pass ends (R121, R124, R129, R130). The GAP record of a service lane's channel goes with the records that
its island holds (island 40). -/
def calibrationPassEnd (lane : Nat) (hist : List Nat) (s : State) : State :=
  if 221 ≤ lane ∨ s.laneState lane ≠ 2 then s
  else
    let (s1, ok) := s.passLane lane hist
    if 216 ≤ lane then s1.servicePass lane ok
    else
      let q := quadOfLane lane
      let sp := spareOf q
      let c := s.quadCal q
      match c.phase with
      | .prepare => if ok then (s1.setLane lane 3 0).beginShadow q c else s1.retireLane q lane 0 lane c
      | .inPlace =>
        if ok then
          if s1.laneState sp = 4 ∧ s1.fd F.TB_LANE_STS_partner sp = lane then
            (s1.dropLive (unitOf 4 lane) 0x082).beginHandover q { c with ret := true }
          else
            (((s1.dropLive (unitOf 4 lane) 0x082).setLane lane (if 192 ≤ lane then 3 else 0) 0).calEnd c.lane c.op 1).quadIdle q
        else s1.retireLane q lane (if lane < 192 then s1.fd F.TB_LANE_STS_partner lane else 0) sp c
      | .relieved =>
        if ok then
          if c.op = 3 then (s1.calEnd c.lane 3 1).quadIdle q
          else s1.beginHandover q { c with ret := true }
        else s1.retireLane q lane sp sp c
      | _ => s1

/-- A self-check of a port of the quad has ended: work that waited for it goes on (R85, R123). -/
def State.resumeHandover (s : State) (q : Nat) : State :=
  let c := s.quadCal q
  if c.phase = .waitCheck then s.beginHandover q c else s.quadNext q

def execPllLock (s : State) : Host.Outcome State Fault Refusal := .next (pllLock s)
def execRefLockTimeout (s : State) : Host.Outcome State Fault Refusal := .next (refLockTimeout s)
def execRefNoEdge (s : State) : Host.Outcome State Fault Refusal := .next (refNoEdge s)
def execRefFreqWindowEnd (ppm : Int) (s : State) : Host.Outcome State Fault Refusal := .next (refFreqWindowEnd ppm s)
def execRelock (s : State) : Host.Outcome State Fault Refusal := .next (relock s)
def execTbCalibrate (lane : Nat) (s : State) : Host.Outcome State Fault Refusal := .next (tbCalibrate lane s)
def execTbRetry (lane : Nat) (s : State) : Host.Outcome State Fault Refusal := .next (tbRetry lane s)
def execTbHandover (lane : Nat) (s : State) : Host.Outcome State Fault Refusal := .next (tbHandover lane s)
def execTbReturn (lane : Nat) (s : State) : Host.Outcome State Fault Refusal := .next (tbReturn lane s)
def execScheduledCalibration (turn : CalTurn) (s : State) : Host.Outcome State Fault Refusal :=
  .next (scheduledCalibration turn.lane turn.moved s)
def execVerifyEnd (q : Nat) (s : State) : Host.Outcome State Fault Refusal := .next (verifyEnd q s)
def execDetachDone (q : Nat) (s : State) : Host.Outcome State Fault Refusal := .next (detachDone q s)

end Sys2Proof.Machine
end

