-- ==== Sys2Proof/Machine/Device.lean ====
section
/-! DEFINITION. The device state machine's shared operations (R35–R45, R580, R583): its state and GLB_STATE, the power domains
that a wake switches on, and the start of a wake. -/

namespace Sys2Proof.Machine

/-- Code of a device state in GLB_STATE.state (R41). -/
def DevState.code : DevState → Nat
  | .powerup => 1 | .boot => 1 | .run => 2 | .watch => 3 | .halt => 4

/-- Code of a wake cause in GLB_STATE.wake_cause (R41). -/
def WakeCause.code : WakeCause → Nat
  | .window => 1 | .timer => 2 | .doorbell => 3 | .cascade => 4

/-- Update the device state machine. -/
def State.setDev (s : State) (f : Dev → Dev) : State := { s with dev := f s.dev }

/-- Enter a device state: no transition is in progress any more. -/
def State.enter (s : State) (d : DevState) : State :=
  ((s.setDev fun v => { v with st := d, trans := .none }).setFd F.GLB_STATE_state d.code).setFd F.GLB_STATE_busy 0

/-- A transition begins: GLB_STATE.busy is 1 and state shows the state being left (R41). -/
def State.begin (s : State) (t : Trans) : State := (s.setDev fun v => { v with trans := t }).setFd F.GLB_STATE_busy 1

/-- A domain that switches on, unless a request holds it off (R580, R581). -/
def State.domUp (s : State) (d : Nat) : State := if s.domReq.contains d then s else s.setDom d true

/-- Switch a list of domains on, or off. -/
def State.domsUp (s : State) (ds : List Nat) : State := ds.foldl (fun t d => t.domUp d) s
def State.domsDown (s : State) (ds : List Nat) : State := ds.foldl (fun t d => t.setDom d false) s

/-- Every domain (R580). -/
def allDoms : List Nat := natsFrom 0 80

/-- A wake event in WATCH (R36, R583 step 1): AON records wake_cause and switches the domains on, and the entries that waited in AON go to
the fault log (R576). During entry to WATCH it is held (R585). -/
def State.wakeStart (s : State) (c : WakeCause) : State :=
  if s.dev.st = .watch ∧ s.dev.trans = .none then
    ((((s.setFd F.GLB_STATE_wake_cause c.code).begin (.waking c)).domsUp allDoms).setFd F.HST_LINK_l1 0).logFlush
  else if s.dev.trans = .toWatch ∧ s.dev.heldWake = none then s.setDev fun v => { v with heldWake := some c }
  else s

/-! ### General timers (R586) -/

def State.tmr (s : State) (i : Nat) : Option Nat := Tab.get none s.dev.tmrs i
def State.setTmr (s : State) (i : Nat) (t : Option Nat) : State := s.setDev fun v => { v with tmrs := Tab.set none v.tmrs i t }

/-- PWR_TMR_CFG takes a word: setting en starts the count from zero, and clearing it ends it (R594). -/
def State.putTmr (s : State) (i : Nat) (w : Word) : State :=
  let s1 := s.setRg .PWR_TMR_CFG w i
  match s.bit F.PWR_TMR_CFG_en i, s1.bit F.PWR_TMR_CFG_en i with
  | false, true => s1.setTmr i (some s.time)
  | _, false => s1.setTmr i none
  | true, true => s1

/-- A window wake records its port and level (R74, R98). -/
def State.windowWake (s : State) (port level : Nat) : State :=
  if s.dev.st = .watch ∨ s.dev.trans = .toWatch then
    let s1 := ((s.setFd F.PRT_WAKE_SRC_port port).setFd F.PRT_WAKE_SRC_level level).setFd F.PRT_WAKE_SRC_valid 1
    s1.wakeStart .window
  else s

end Sys2Proof.Machine
end

