-- ==== Sys2Proof/Machine/Ports.lean ====
section
/-! DEFINITION. The 96 measurement ports (R46–R101): comparators and their hysteresis, the sampler, the majority filter and the prescaler, the
settings and the tick boundaries at which they come into force, levels, confirmed transitions with serial number and fine time, lane buffers,
holds, threshold settling, VTT and the class P self-check. -/

namespace Sys2Proof.Machine

/-! ### Comparators (R46, R50, R53, R54, R620) -/

/-- Threshold of a DAC code, in nV (R50). -/
def thrNv (code : Nat) : Int := 1953125 * code - 1500000000

/-- The voltage that a port's comparators compare (R46): of P, or of P against N in differential mode. -/
def PortSet.compared (x : PortSet) (v : Int × Int) : Int := if x.mode = 1 then v.1 - v.2 else v.1

/-- The side of an upper or lower value. -/
def side (lower : Bool) (x : Nat × Nat) : Nat := if lower then x.2 else x.1

/-- What a comparator's input makes of its output (R53): 1 above THR + H/2, 0 below THR − H/2, with H = h × 100/127 mV; between the two, nothing. -/
def PortSet.decides (x : PortSet) (lower : Bool) (v : Int × Int) : Option Bool :=
  let d := 127 * (x.compared v - thrNv (side lower x.thr))
  let w : Int := 50000000 * side lower x.hyst
  if w < d then some true else if d < -w then some false else none

/-- A comparator of a port. -/
def Port.comp (x : Port) (lower : Bool) : Comp := if lower then x.lo else x.hi
def Port.setComp (x : Port) (lower : Bool) (c : Comp) : Port := if lower then { x with lo := c } else { x with hi := c }

/-- The output of a comparator after every raw transition so far. -/
def Comp.level (c : Comp) : Option Bool :=
  match c.pend.getLast? with
  | some t => some t.level
  | none => c.raw

/-- The first instant at which the output may switch again: 160 ps after its last transition (R54). -/
def Comp.mayAt (c : Comp) : Nat :=
  match c.pend.getLast? with
  | some t => t.ps + 160
  | none => c.bar

/-- The output is to take a level at an instant. A pulse that would be shorter than 160 ps is none; where a sample has already seen its beginning,
it ends after 160 ps (R54; assumption log 120). -/
def Comp.drive (c : Comp) (b : Bool) (ps code spare : Nat) : Comp :=
  match c.level with
  | none => { c with raw := some b }
  | some old =>
    if old = b then c
    else if ps < c.mayAt ∧ c.pend ≠ [] then { c with pend := c.pend.dropLast }
    else
      let t := max ps c.mayAt
      { c with pend := c.pend ++ [⟨t, b, ⟨t / 400, code, spare⟩⟩] }

/-- A comparator whose domain is off, or that is powered down, holds no level (R620, R75). -/
def Comp.off (c : Comp) : Comp := { c with raw := none, pend := [] }

/-- A filtered state becomes UNKNOWN: samples are collected, and raw transitions counted, anew from sample `k` on (R67, R70). -/
def Comp.unknown (c : Comp) (k : Nat) : Comp := { c with hist := [], since := k, state := none, count := 0 }

/-- Whether the comparators of a port are powered: its quad's domain is on, and in WATCH the port is of class C (R75, R620). -/
def State.portPowered (s : State) (p : Nat) : Bool :=
  s.domOn (p / 4) && (s.dev.st != .watch || s.bit F.PRT_CFG_class p)

/-- A comparator without power holds no level; one that has held none takes the level that its input decides, at once. -/
def Port.power (x : Port) (on : Bool) : Port :=
  let f := fun (lower : Bool) (c : Comp) =>
    if on = false then c.off
    else match c.level, x.v with
      | none, some v => { c with raw := x.set.decides lower v }
      | _, _ => c
  { x with hi := f false x.hi, lo := f true x.lo }

/-- The input of a port changes: both comparators answer. -/
def Port.input (x : Port) (on : Bool) (ps : Nat) (g : Seg) : Port :=
  let f := fun (lower : Bool) (code : Nat) (c : Comp) =>
    match x.set.decides lower (g.vp, g.vn) with
    | some b => if on then c.drive b ps (code % 256) (g.codeS % 256) else c
    | none => c
  { x with v := some (g.vp, g.vn), hi := f false g.codeU x.hi, lo := f true g.codeL x.lo }

/-! ### Sampler, filter and prescaler (R54–R57, R67–R70) -/

/-- A raw transition passes the interpolator. -/
def Comp.note (c : Comp) (t : RawTr) : Comp :=
  if t.level then { c with raw := some true, up := t.mark, bar := t.ps + 160 } else { c with raw := some false, dn := t.mark, bar := t.ps + 160 }

/-- The raw transitions up to an instant. -/
def Comp.upTo (c : Comp) (ps : Nat) : List RawTr := c.pend.takeWhile fun t => decide (t.ps ≤ ps)

/-- They pass without a sample. -/
def Comp.absorb (c : Comp) (ps : Nat) : Comp := (c.upTo ps).foldl Comp.note { c with pend := c.pend.dropWhile fun t => decide (t.ps ≤ ps) }

/-- What a sample shows: the level at its instant, or that of a pulse which began and ended since the last one (R54). -/
def sampled (raw : Bool) (passed : Nat) : Bool := if passed ≠ 0 ∧ passed % 2 = 0 then ! raw else raw

/-- A sample of level `b` joins the filter's history, with the mark of the last transition to it. -/
def Comp.push (c : Comp) (b : Bool) : Comp := { c with hist := ((b, if b then c.up else c.dn) :: c.hist).take 63 }

/-- Number of samples equal to `b`. -/
def countEq (b : Bool) (l : List (Bool × Mark)) : Nat := (l.filter fun e => e.1 == b).length

/-- The value that at least (W + 1)/2 of the last W samples hold (R55). -/
def Comp.majority (c : Comp) (w : Nat) : Option Bool :=
  let l := c.hist.take w
  if w = 0 then none
  else if (w + 1) / 2 ≤ countEq true l then some true else if (w + 1) / 2 ≤ countEq false l then some false else none

/-- The value of the last W samples, where they are all equal (R67). -/
def Comp.agreed (c : Comp) (w : Nat) : Option Bool :=
  let l := c.hist.take w
  if w = 0 then none else if countEq true l = w then some true else if countEq false l = w then some false else none

/-- The mark of a confirmed transition to `b`: that of the first sample of the confirming run (R56). -/
def runMark (b : Bool) (m : Mark) : List (Bool × Mark) → Mark
  | [] => m
  | (x, n) :: t => if x == b then runMark b n t else m

/-- What the filter confirms: the new value, whether it is a prescaled edge, and the mark. -/
structure Hit where
  rising : Bool
  psc : Bool
  mark : Mark
deriving DecidableEq, Repr

/-- An UNKNOWN state is established where the last W samples agree (R67). -/
def Comp.establish (c : Comp) (w : Nat) : Comp := { c with state := c.agreed w }

/-- The filtered state after a sample (R55, R56), and the transition that it confirms. -/
def Comp.filtered (c : Comp) (w : Nat) : Comp × Option Hit :=
  match c.majority w with
  | some b => if c.state = some b then (c, none) else ({ c with state := some b }, some ⟨b, false, runMark b (if b then c.up else c.dn) c.hist⟩)
  | none => (c, none)

/-- A prescaler counts raw rising transitions: the N-th gives a pulse (R68, R69). -/
def Comp.prescale (c : Comp) (n : Nat) : List RawTr → Comp × Option Hit
  | [] => (c, none)
  | t :: l =>
    if t.level = false then Comp.prescale c n l
    else if c.count + 1 < n then Comp.prescale { c with count := c.count + 1 } n l
    else ((Comp.prescale { c with count := 0 } n l).1, some ⟨true, true, t.mark⟩)

/-- The window in force: 1 with a prescaler (R69). -/
def winOf (n w : Nat) : Nat := if 2 ≤ n then 1 else w

/-- Sample `k` of a comparator with divisor N and window W. A comparator that holds no level gives none. -/
def Comp.sample (c : Comp) (n w k : Nat) : Comp × Option Hit :=
  let l := c.upTo (400 * k)
  let c1 := c.absorb (400 * k)
  match c1.raw with
  | none => (c1, none)
  | some raw =>
    let c2 := c1.push (sampled raw l.length)
    if c2.state = none then (c2.establish (winOf n w), none)
    else if 2 ≤ n then
      let (c3, h) := c2.prescale n l
      ({ c3 with state := c3.majority 1 }, h)
    else c2.filtered w

/-- Whether further samples change nothing: they are all of the level that the state already has, or there are none. -/
def Comp.quiet (c : Comp) : Bool :=
  match c.raw with
  | none => true
  | some b => c.hist.all (fun e => e.1 == b) && (c.state == some b || decide (63 ≤ c.hist.length))

/-- The first sample that sees a raw transition of the list, no earlier than `lim` where none does. -/
def Comp.nextSeen (c : Comp) (lim : Nat) : Nat :=
  match c.pend with
  | [] => lim
  | t :: _ => (t.ps + 399) / 400

/-- `m` samples of a quiet comparator. -/
def Comp.idle (c : Comp) (m : Nat) : Comp :=
  match c.raw with
  | none => c
  | some b => { c with hist := (List.replicate (min m 63) (b, if b then c.up else c.dn) ++ c.hist).take 63 }

/-- A change of window refills the history with the filtered state, where it is established (R59). -/
def Comp.refill (c : Comp) (w : Nat) : Comp :=
  match c.state with
  | some b => { c with hist := List.replicate w (b, if b then c.up else c.dn) }
  | none => c

/-! ### Levels (R65, R66, R74, R77, R96, R101) -/

/-- Level code of two filtered states (R65). -/
def levelCode (hi lo : Option Bool) : Nat :=
  match hi, lo with
  | some false, some false => 0
  | some false, some true => 1
  | some true, some true => 2
  | _, _ => 3

/-- The port's level code; a disabled port reads 0b11 (R77). -/
def Port.level (x : Port) : Nat := if x.set.en then levelCode x.hi.state x.lo.state else 3
def State.level (s : State) (p : Nat) : Nat := (s.port p).level

/-- The filtered states after the last sample of the previous tick (R66). -/
def State.seen (s : State) (p : Nat) : Option Bool × Option Bool :=
  let x := s.port p
  if 4 * s.time < x.k ∧ x.seen.1 = s.time then x.seen.2 else (x.hi.state, x.lo.state)

/-- The level code that registers and LEVEL packets report (R66). -/
def State.levelSeen (s : State) (p : Nat) : Nat := if (s.port p).set.en then levelCode (s.seen p).1 (s.seen p).2 else 3

/-- PRT_LVL (R96). -/
def State.lvlWord (s : State) (p : Nat) : Word :=
  let x := s.port p
  let st := s.seen p
  let checking := match x.chk with | some c => decide (c.start ≤ s.time) | none => false
  w32 (s.levelSeen p + 4 * b2n (st.1 == some true) + 8 * b2n (st.2 == some true) + 16 * b2n st.1.isSome + 32 * b2n st.2.isSome +
    64 * b2n (x.hold.isSome || checking))

/-- PRT_LVL_ALLk: level codes of ports 16k to 16k + 15 (R101). -/
def State.lvlAll (s : State) (k : Nat) : Word :=
  w32 ((natsFrom 0 16).foldl (fun w i => w + s.levelSeen (16 * k + i) * 4 ^ i) 0)

/-- Event sources 2p and 2p + 1 are asserted while any enabled bit of PRT_EVT_STS is set for their lane (R73). -/
def State.portEvents (s : State) (p : Nat) : State :=
  let on := (s.rg .PRT_EVT_EN p &&& s.rg .PRT_EVT_STS p).toNat
  (s.setLevel (2 * p) (decide (on % 4 ≠ 0))).setLevel (2 * p + 1) (decide (on / 4 % 4 ≠ 0))

/-! ### Records of the port island (R15, R25, R71, R112) -/

/-- The records that island `i` holds gain a packet (R112). -/
def State.hold (s : State) (i : Nat) (h : HeldPkt) : State :=
  s.setTb fun t => { t with held := Tab.set [] t.held i (Tab.get [] t.held i ++ [h]) }

/-- The port island sends an OOS GAP packet for a port's channel over ticks `a` to `b` (R49, R82): none is produced in WATCH (R75). -/
def State.oosGap (s : State) (p src a b : Nat) : State :=
  if s.dev.st = .watch then s else s.hold (p / 4) ⟨221, gapPacket p 1 src (s.fuOf a) (s.fuOf b) 0, 0, false⟩

/-- A buffer gives one edge every 4 ns, the sustained rating, and holds 64 (R15, R71). -/
def edgePs : Nat := 4000
def bufEdges : Nat := 64

/-- Whether a lane's buffer takes an edge at an instant. -/
def State.bufRoom (s : State) (lane ps : Nat) : Bool := decide (Tab.get 0 s.tb.bufs lane ≤ ps + (bufEdges - 1) * edgePs)

/-- An edge joins a lane's buffer: the instant at which it leaves. -/
def State.bufTake (s : State) (lane ps : Nat) : State × Nat :=
  let e := max ps (Tab.get 0 s.tb.bufs lane) + edgePs
  (s.setTb fun t => { t with bufs := Tab.set 0 t.bufs lane e }, e)

/-- One more edge finds the buffer full (R25). -/
def State.bufLose (s : State) (lane chan t gapFlags : Nat) : State :=
  let l : LaneLoss := match Tab.get none s.tb.loss lane with
    | some l => { l with last := t, count := l.count + 1 }
    | none => ⟨t, t, 1, chan, gapFlags⟩
  s.setTb fun b => { b with loss := Tab.set none b.loss lane (some l) }

/-- The GAP packet of a lane that lost edges (R25). -/
def LaneLoss.gap (g : LaneLoss) : List Rec := gapPacket g.chan g.flags 0 g.first g.last g.count

/-- The buffer has room again: the loss is reported before any later edge of the lane. -/
def State.closeLoss (s : State) (island lane ps : Nat) : State :=
  match Tab.get none s.tb.loss lane with
  | some g =>
    if s.bufRoom lane ps then
      (s.setTb fun b => { b with loss := Tab.set none b.loss lane none }).hold island ⟨lane, g.gap, max ps (Tab.get 0 s.tb.bufs lane), false⟩
    else s
  | none => s

/-- An edge enters its lane's buffer, or finds it full and is accounted for (R15, R25). -/
def State.bufferEdge (s : State) (island lane chan t gapFlags ps : Nat) (r : Rec) : State :=
  if s.bufRoom lane ps then
    let (s1, e) := (s.closeLoss island lane ps).bufTake lane ps
    s1.hold island ⟨lane, [r], e, false⟩
  else s.bufLose lane chan t gapFlags

/-! ### A confirmed transition (R24, R56, R61–R63, R69, R72–R75, R116) -/

/-- The prescaler divisor N of a lane (R68). -/
def PortSet.pscN (x : PortSet) (lower : Bool) : Nat := side lower x.div + 1

/-- A hardware counter counts one edge; where it reaches its limit it stays and raises COUNT_SAT (R24, R78). -/
def State.countLane (s : State) (p : Nat) (lower : Bool) : State :=
  let c := if lower then s.pair .PRT_CNTL_LO .PRT_CNTL_HI p else s.pair .PRT_CNTU_LO .PRT_CNTU_HI p
  if c = 2 ^ 64 - 1 then s
  else
    let s1 := if lower then s.setPair .PRT_CNTL_LO .PRT_CNTL_HI (c + 1) p else s.setPair .PRT_CNTU_LO .PRT_CNTU_HI (c + 1) p
    if c + 1 = 2 ^ 64 - 1 then s1.raise 0x005 0 p else s1

/-- A counter remembers the times of what it counts, for the marker counts of R200: `key` is the lane, 192 + i for service
channel i, or 0x1000 + CHAN − 0x100. -/
def State.noteCount (s : State) (key t n : Nat) : State :=
  { s with eng := { s.eng with counted := Tab.set [] s.eng.counted key ((t, n) :: Tab.get [] s.eng.counted key) } }

/-- While shadowing, both timestamps are formed and compared, until 16 pairs or 6,250 ticks (R125 step 3). -/
def State.comparePair (s : State) (comp tick a b : Nat) : State :=
  let q := comp / 8
  let c := s.quadCal q
  if c.phase = .shadow ∧ c.lane = comp ∧ c.pairs < 16 ∧ c.started ≤ tick ∧ tick < c.started + 6250 then
    s.setQuadCal q { c with pairs := c.pairs + 1, maxDiff := max c.maxDiff (if a < b then b - a else a - b) }
  else s

/-- The event path (R73): an enabled bit of PRT_EVT_EN that matches sets PRT_EVT_STS. -/
def State.edgeEvent (s : State) (p bit : Nat) : State :=
  if natBit (s.rg .PRT_EVT_EN p).toNat bit then
    (s.setRg .PRT_EVT_STS (setBits (s.rg .PRT_EVT_STS p) bit 1 1) p).portEvents p
  else s

/-- The timestamps that the lane with the work, and the other lane, give a mark of a comparator. -/
def State.markStamps (s : State) (comp : Nat) (m : Mark) : Nat × Nat :=
  let lane := s.timingLane comp
  let other := if lane = comp then spareOf (comp / 8) else comp
  let code := fun (l : Nat) => if l = comp then m.code else m.spare
  (s.stampOf lane comp (m.q / 4) (m.q % 4) (code lane), s.stampOf other comp (m.q / 4) (m.q % 4) (code other))

/-- A transition is confirmed at sample `k`: serial number, hardware counter, timestamp and EDGE record, and the event path. -/
def State.confirm (s : State) (p k : Nat) (lower : Bool) (h : Hit) : State :=
  let comp := 2 * p + b2n lower
  let ser := s.rg .PRT_SER p
  let lane := s.timingLane comp
  let ts := s.markStamps comp h.mark
  let x := s.port p
  let s1 := s.setPort p { x with lastEdge := k / 4 }
  let s2 := (((s1.setRg .PRT_SER (ser + 1) p).countLane p lower).noteCount comp ts.1 1).comparePair comp (k / 4) ts.1 ts.2
  let code := if h.psc then 6 else 2 * b2n lower + b2n (! h.rising)
  let settling := match x.settle with | some e => decide (k / 4 < e) | none => false
  let flags := 2 * b2n settling + 8 * b2n lower
  let s3 := if s.dev.st = .watch then s2
    else s2.bufferEdge (p / 4) lane p ts.1 (4 * b2n lower + 8 * b2n h.psc) (400 * k) (mkRec 0x01 p code flags (stamp ts.1) ser.toNat)
  s3.edgeEvent p (if h.psc then 2 * b2n lower else code)

/-- The transitions of one sample, each with its comparator and time (R62). -/
def State.confirmBoth (s : State) (p k : Nat) : Option Hit → Option Hit → State
  | none, none => s
  | some u, none => s.confirm p k false u
  | none, some l => s.confirm p k true l
  | some u, some l =>
    if (s.markStamps (2 * p + 1) l.mark).1 < (s.markStamps (2 * p) u.mark).1 then (s.confirm p k true l).confirm p k false u
    else (s.confirm p k false u).confirm p k true l

/-- The wake logic of a class C port (R74): the level code has changed from `old`, and no establishment changed it (R67). -/
def State.wakeLogic (s : State) (p old : Nat) : State :=
  let l := s.level p
  if l ≠ old ∧ l < 3 ∧ s.bit F.PRT_CFG_class p = true ∧ s.bit F.PRT_WAKE_en p = true ∧
      natBit (s.fd F.PRT_WAKE_mask p) l = true then s.windowWake p l
  else s

/-- Whether the port is in service: enabled, in no hold, powered, and not shed (R49, R75, R77, R221). -/
def State.portLive (s : State) (p : Nat) : Bool :=
  ! s.dev.portsOff && (s.port p).set.en && s.portPowered p && (s.port p).hold.isNone

/-- The next sample of a port in service is taken. -/
def State.sampleOnce (s : State) (p : Nat) : State :=
  let x := s.port p
  let n := fun (lower : Bool) => x.set.pscN lower
  let (u, hu) := x.hi.sample (n false) x.set.win.1 x.k
  let (l, hl) := x.lo.sample (n true) x.set.win.2 x.k
  let s1 := (s.setPort p { x with hi := u, lo := l, k := x.k + 1 }).confirmBoth p x.k hu hl
  if x.hi.state.isSome = true ∧ x.lo.state.isSome = true then s1.wakeLogic p x.level else s1

/-! ### Settings come into force (R49, R52, R53, R59, R70, R77, R82) -/

/-- The settings that the registers ask for. -/
def State.asked (s : State) (p : Nat) : PortSet :=
  { en := s.bit F.PRT_CFG_en p, mode := s.fd F.PRT_CFG_mode p, term := s.fd F.PRT_CFG_term p,
    thr := (s.fd F.PRT_WIN_thr_hi p, s.fd F.PRT_WIN_thr_lo p), hyst := (s.fd F.PRT_HYST_hyst_hi p, s.fd F.PRT_HYST_hyst_lo p),
    win := (s.fd F.PRT_FILT_win_hi p, s.fd F.PRT_FILT_win_lo p), div := (s.fd F.PRT_PSC_div_hi p, s.fd F.PRT_PSC_div_lo p) }

/-- Both filtered states restart as UNKNOWN with sample `k`; earlier raw transitions pass unsampled. -/
def Port.restart (x : Port) (k : Nat) : Port :=
  let f := fun (c : Comp) => (c.absorb (400 * (k - 1))).unknown k
  { x with hi := f x.hi, lo := f x.lo, k := k }

/-- A hold begins with tick `t`, or restarts (R49). -/
def State.startHold (s : State) (p t : Nat) : State :=
  let x := s.port p
  s.setPort p { x with hold := some (match x.hold with | some h => h.1 | none => t, t + 625) }

/-- The hold ends with tick `b`: its GAP record is sent, the states restart as UNKNOWN, and a hand-over that waited switches (R131). -/
def State.endHold (s : State) (p b : Nat) : State :=
  let x := s.port p
  match x.hold with
  | none => s
  | some h => ((s.setPort p { x.restart (4 * b) with hold := none }).oosGap p 1 h.1 b).holdOver p

/-- Set the outcome fields of a check. -/
def State.chkResult (s : State) (p result step : Nat) : State :=
  ((s.setFd F.PRT_CHK_STS_result result p).setFd F.PRT_CHK_STS_fail_step step p).setFd F.PRT_CHK_STS_busy 0 p

/-- The hand-over of a lane of the port is abandoned in steps 2 to 4 (R131). -/
def State.dropHandover (s : State) (p : Nat) : State :=
  let q := p / 4
  let c := s.quadCal q
  if c.lane / 2 = p ∧ (c.phase = .shadow ∨ c.phase = .hold) then ((s.abandonHandover q c).calEnd c.lane c.op 3).quadIdle q else s

/-- New threshold codes are in force from tick `t` on: the DACs settle (R52). -/
def State.settleFrom (s : State) (p t : Nat) (thr : Nat × Nat) : State :=
  let s1 := (s.setPort p { s.port p with settle := some (t + 125) }).setFd F.PRT_STS_thr_settle 1 p
  { s1 with thrs := Tab.set [] s1.thrs p ((t, thr.1 - thr.2) :: Tab.get [] s1.thrs p) }

/-- A comparator's filter and prescaler take a new window and divisor (R59, R69, R70). -/
def Comp.retune (c : Comp) (n0 w0 n1 w1 : Nat) : Comp :=
  let c1 := if winOf n0 w0 = winOf n1 w1 then c else c.refill (winOf n1 w1)
  if n0 = n1 then c1 else { c1 with count := 0 }

/-- The comparators meet new thresholds, hysteresis or mode at tick `t`: an output that this changes does so then, with codes that nothing
states (R52; assumption log 121). -/
def State.recompare (s : State) (p t : Nat) : State :=
  let x := s.port p
  match x.v with
  | some v =>
    let moves := fun (lower : Bool) => match x.set.decides lower v with | some b => (x.comp lower).level == some (! b) | none => false
    if s.portPowered p && (moves false || moves true) then
      let (f, s1) := s.free
      s1.setPort p (x.input true (1600 * t) ⟨0, v.1, v.2, f, f / 256, f / 65536⟩)
    else s
  | none => s

/-- A check ends with tick `e`, passed, failed or aborted: the OOS GAP record is sent, and the states restart as UNKNOWN. A reconnected input
inside the hysteresis band decides no level (R82, R620; assumption log 122). -/
def State.leaveChk (s : State) (p e result step : Nat) : State :=
  let x := s.port p
  match x.chk with
  | none => s
  | some c =>
    let y := (x.restart (4 * e)).power false
    ((s.setPort p { y.power (s.portPowered p) with chk := none }).oosGap p 2 c.start e).chkResult p result step

/-- A port's check no longer waits, aborted (R86, R99). -/
def State.dropChk (s : State) (p : Nat) : State :=
  if s.bit F.PRT_CHK_STS_pending p then (s.setFd F.PRT_CHK_STS_pending 0 p).setFd F.PRT_CHK_STS_result 3 p else s

/-- The port is disabled from tick `t` on: a hold ends, a check is aborted, a hand-over abandoned (R49, R77, R86, R131; assumption log 123). -/
def State.disablePort (s : State) (p t : Nat) : State :=
  let q := p / 4
  let s1 := (((s.dropHandover p).endHold p t).leaveChk p t 3 0).dropChk p
  let s2 := s1.setPort p ((s1.port p).restart (max (4 * t) (s1.port p).k))
  if (s.port p).chk.isSome then (s2.nextChk q).resumeHandover q else s2

/-- Settings come into force with tick `t`. -/
def State.takeSet (s : State) (p t : Nat) (n : PortSet) : State :=
  let x := s.port p
  let o := x.set
  let y := { x with set := n, next := none }
  let keep := o.en && n.en
  let tune := fun (lower : Bool) (c : Comp) => if keep then c.retune (o.pscN lower) (side lower o.win) (n.pscN lower) (side lower n.win) else c
  let s1 := s.setPort p { y with hi := tune false y.hi, lo := tune true y.lo }
  let s2 :=
    if o.en && ! n.en then s1.disablePort p t
    else if ! o.en && n.en then s1.setPort p { (s1.port p).restart (max (4 * t) x.k) with lastEdge := t }
    else if keep && decide (o.mode ≠ n.mode ∨ o.term ≠ n.term) then s1.startHold p t
    else s1
  (if o.thr = n.thr then s2 else s2.settleFrom p t n.thr).recompare p t

/-- A write of a setting: it comes into force at the next tick boundary. During a check, only enable and divisors do so; the others wait for its
end (R70, R77, R82). -/
def State.schedule (s : State) (p : Nat) : State :=
  let x := s.port p
  let a := s.asked p
  let n := if x.chk.isSome then { x.set with en := a.en, div := a.div } else a
  s.setPort p { x with next := if n = x.set then none else some (s.nextTick, n) }

/-! ### The port's time runs on -/

/-- Where the sampling of a port stops for the moment: at the beginning of a check or a hold, until its end is known. -/
def Port.stopAt (x : Port) (k : Nat) : Nat :=
  let a := match x.chk with | some c => min k (4 * c.start) | none => k
  match x.hold with | some h => min a (4 * h.1) | none => a

/-- Samples of a quiet port are taken all at once, up to sample `m`. -/
def Port.idle (x : Port) (m : Nat) : Port := { x with hi := x.hi.idle (m - x.k), lo := x.lo.idle (m - x.k), k := m }

/-- Samples pass that nobody takes, up to sample `m`. -/
def Port.pass (x : Port) (m : Nat) : Port := { x with hi := x.hi.absorb (400 * (m - 1)), lo := x.lo.absorb (400 * (m - 1)), k := m }

/-- Samples of port `p` on the way to sample `m`: one, or a stretch that changes nothing; none are left at `m`. -/
def State.samples (s : State) (p m : Nat) : Option State :=
  let x := s.port p
  if m ≤ x.k then none
  else if s.portLive p = false then some (s.setPort p (x.pass m))
  else
    let j := min m (min (x.hi.nextSeen m) (x.lo.nextSeen m))
    if x.hi.quiet && x.lo.quiet && decide (x.k < j) then some (s.setPort p (x.idle j)) else some (s.sampleOnce p)

/-- The next thing that happens to a port up to sample `k`: a setting comes into force at its boundary, or samples are taken. -/
def State.portStep (s : State) (p k : Nat) : Option State :=
  let x := s.port p
  let lim := x.stopAt k
  match x.next with
  | some (t, n) => if 4 * t ≤ k ∧ (4 * t ≤ x.k ∨ lim ≤ x.k) then some (s.takeSet p t n) else s.samples p (min lim (4 * t))
  | none => s.samples p lim

/-- A port runs on, up to sample `k`. -/
def State.runPort (p k : Nat) : Nat → State → State
  | 0, s => s
  | f + 1, s => match s.portStep p k with | some t => State.runPort p k f t | none => s

/-- A port is brought to the first instant of the current tick: each step of it takes a sample, a boundary, or a stretch of quiet. -/
def State.runTo (s : State) (p k : Nat) : State :=
  let s1 := s.setPort p ((s.port p).power (s.portPowered p))
  s1.runPort p k (k + 8)

/-- Whether time brings a port anything: a boundary, a raw transition to sample, a filter that has not come to rest, or a change of power. -/
def Port.waits (x : Port) (on : Bool) : Bool :=
  let f := fun (c : Comp) => ! c.pend.isEmpty || ! c.quiet || (if on then c.raw.isNone && x.v.isSome else c.raw.isSome)
  x.next.isSome || f x.hi || f x.lo

/-- Every port for which the tick boundary just reached brings something runs on (R49, R54). -/
def State.runPorts (s : State) : State :=
  s.ports.foldl (fun (t : State) e => if e.2.waits (s.portPowered e.1) then t.runTo e.1 (4 * s.time) else t) s

/-- CONFIRMED_TRANSITION: a port meets its input in the current tick, and the samples that the input names are taken. What the filter confirms at
them goes to lane, event path and wake logic (R54–R57, R62, R72). -/
def confirmedTransition (i : PortInput) (s : State) : State :=
  let p := i.port
  if 96 ≤ p then s
  else
    let s1 := s.runTo p (4 * s.time)
    let x := s1.port p
    let on := s1.portPowered p
    let y := i.segs.foldl (fun (y : Port) g => y.input on (1600 * s.time + g.ps % 1600) g) { x with seen := (s.time, x.hi.state, x.lo.state) }
    let z := if 4 * s.time < x.k ∧ x.seen.1 = s.time then { y with seen := x.seen } else y
    (s1.setPort p z).runTo p (4 * s.time + min 4 i.samples)

/-- STATE_ESTABLISHED (R67, R69, R620): a comparator that has held no level, and whose input decides none, has the level that the command names.
The samples collected so far had it too, and where they fill the window the state is established; it reports nothing. -/
def stateEstablished (p : Nat) (lower level : Bool) (s : State) : State :=
  if 96 ≤ p ∨ s.portPowered p = false then s
  else
    let s1 := s.runTo p (4 * s.time)
    let x := s1.port p
    let c := x.comp lower
    if c.level.isSome then s1
    else
      let c1 := ({ c with raw := some level }).idle (if s1.portLive p = true ∧ x.chk = none then x.k - c.since else 0)
      s1.setPort p (x.setComp lower (if c1.state.isNone then c1.establish (winOf (x.set.pscN lower) (side lower x.set.win)) else c1))

/-- HOLD_END (R49): due 625 ticks after the last change of mode or termination. -/
def holdEnd (p : Nat) (s : State) : State :=
  if 96 ≤ p then s
  else
    let s1 := s.runTo p (4 * s.time)
    match (s1.port p).hold with
    | some h => if h.2 ≤ s.time then (s1.endHold p h.2).runTo p (4 * s.time) else s1
    | none => s1

/-- THR_SETTLE_END (R52). -/
def thrSettleEnd (p : Nat) (s : State) : State :=
  match (s.port p).settle with
  | some e =>
    if p < 96 ∧ e ≤ s.time then (s.setPort p { s.port p with settle := none }).setFd F.PRT_STS_thr_settle 0 p else s
  | none => s

/-! ### Self-checks (R79–R87) -/

/-- Ticks of steps 1 to 7 (R79). -/
def chkLen (step : Nat) : Nat :=
  match step with
  | 1 => 625 | 2 => 689 | 3 => 689 | 4 => 689 | 5 => 4721 | 6 => 4721 | 7 => 625 | _ => 0

/-- Ticks before a step. -/
def chkBefore (step : Nat) : Nat := sumNat ((natsFrom 1 (step - 1)).map chkLen)

/-- The references, in nV. -/
def vrefLo : Int := 500000000
def vrefHi : Int := 3500000000

/-- What drives the legs P and N in a step; the pulse source drives steps 5 and 6, `high` its half, with the legs exchanged in step 6. A leg that is
not driven stands at ground. -/
def chkLegs (mode step : Nat) (high : Bool) : Int × Int :=
  let src := if high then vrefHi else vrefLo
  let other := if high then vrefLo else vrefHi
  match mode, step with
  | 0, 2 => (vrefLo, 0)
  | 0, 3 => (vrefHi, 0)
  | 0, 4 => (vrefLo, 0)
  | 0, _ => (src, 0)
  | _, 2 => (vrefLo, vrefHi)
  | _, 3 => (vrefHi, vrefLo)
  | _, 4 => (vrefLo, vrefLo)
  | _, 6 => (other, src)
  | _, _ => (src, other)

/-- Threshold codes of a check, upper and lower (R80). -/
def chkCodes (mode step : Nat) : Nat × Nat :=
  if mode = 1 then (0x400, 0x200) else if step = 4 then (0x500, 0x300) else (0x800, 0x600)

/-- The settings with which a check runs in a step: its own thresholds, and no prescaler; hysteresis, windows and mode stay (R80, R82). -/
def PortSet.checking (x : PortSet) (step : Nat) : PortSet := { x with thr := chkCodes x.mode step, div := (0, 0) }

/-- The level that a step of a check expects: what its references decide. -/
def PortSet.expects (x : PortSet) (step : Nat) : Nat :=
  let y := x.checking step
  levelCode (y.decides false (chkLegs y.mode step false)) (y.decides true (chkLegs y.mode step false))

/-- The number of entries before the first that is not `b`. -/
def goodRun (b : Nat) : List Nat → Nat
  | [] => 0
  | x :: t => if x = b then goodRun b t + 1 else 0

/-- Sum of delays. -/
def sumInt : List Int → Int
  | [] => 0
  | x :: t => x + sumInt t

/-- Exactly 64 transitions, each delay within D_cal ± 64 fine units (R81). -/
def delaysOk (dcal : Int) (ds : List Int) : Bool :=
  decide (ds.length = 64) && ds.all fun d => decide ((d - dcal).natAbs ≤ 64)

/-- Whether step 2, 3 or 4 passes: 64 ticks of the expected level. -/
def State.chkTie (s : State) (p step : Nat) (o : ChkObs) : Bool :=
  let l := nth [] o.levels (step - 2)
  decide (l.length = 64) && l.all fun c => c == (s.port p).set.expects step

/-- The first step that fails, 0 where none does (R79, R81). -/
def State.chkFail (s : State) (p : Nat) (o : ChkObs) : Nat :=
  let du := sInt 16 (s.fd F.TB_LANE_DCAL_dcal (s.timingLane (2 * p)))
  let dl := sInt 16 (s.fd F.TB_LANE_DCAL_dcal (s.timingLane (2 * p + 1)))
  let six := fun (d : List (List Int)) =>
    delaysOk du (nth [] d 0) && delaysOk du (nth [] d 1) && delaysOk dl (nth [] d 2) && delaysOk dl (nth [] d 3)
  let means := fun (k : Nat) => decide ((sumInt (nth [] o.d5 k) - sumInt (nth [] o.d6 (k + 1))).natAbs ≤ 7 * 64)
  if ! s.chkTie p 2 o then 2
  else if ! s.chkTie p 3 o then 3
  else if ! s.chkTie p 4 o then 4
  else if ! six o.d5 then 5
  else if ! (six o.d6 && means 0 && means 2) then 6
  else 0

/-- Ticks of a failing step up to and with its failure, where the check stops (R81). -/
def State.chkStop (s : State) (p step : Nat) (o : ChkObs) : Nat :=
  if step ≤ 4 then min (chkLen step) (626 + goodRun ((s.port p).set.expects step) (nth [] o.levels (step - 2)))
  else max 626 (min (chkLen step) o.stop)

/-- Ticks of a check that fails in a step, or that passes: steps, and RETURN (R79, R86). -/
def State.chkTicks (s : State) (p step : Nat) (o : ChkObs) : Nat :=
  if step = 0 then 12759 else chkBefore step + s.chkStop p step o + chkLen 7

/-- A check ends with tick `e`: stored settings come into force, and what waited goes on (R82, R84, R86). -/
def State.finishChk (s : State) (p e result step : Nat) : State :=
  let o := (s.port p).set
  let s1 := s.leaveChk p e result step
  let s2 := (s1.takeSet p e { s1.asked p with en := o.en, div := o.div }).schedule p
  ((s2.runTo p (4 * s.time)).nextChk (p / 4)).resumeHandover (p / 4)

/-- SELF_CHECK_END (R79, R81, R82, R86, R87): due when step 7 has ended. A failed check raises PORT_CHECK, and the port returns to service. -/
def selfCheckEnd (p : Nat) (o : ChkObs) (s : State) : State :=
  if 96 ≤ p then s
  else
    match (s.port p).chk with
    | none => s
    | some c =>
      match c.back with
      | some e => if e ≤ s.time then s.finishChk p e 3 0 else s
      | none =>
        let f := s.chkFail p o
        let e := c.start + s.chkTicks p f o
        if s.time < e then s
        else if f = 0 then s.finishChk p e 1 0
        else (s.finishChk p e 2 f).raise 0x061 (unitOf 3 p) f

/-- PRT_CHK_CTL.run (R83, R85). -/
def checkRun (p : Nat) (s : State) : State :=
  if 96 ≤ p then s
  else if s.bit F.PRT_CFG_en p = false ∨ s.bit F.PRT_CFG_class p = true ∨ s.fd F.PRT_CHK_CTL_mode p = 0 ∨
      (s.port p).chk.isSome = true ∨ s.bit F.PRT_CHK_STS_pending p = true then
    s.setFd F.PRT_CHK_STS_refused 1 p
  else s.chkDue p

/-- PRT_CHK_CTL.abort (R86, R99): a running check goes to its step 7 with the next tick; its result shows at once, and busy until step 7 ends
(assumption log 125). -/
def checkAbort (p : Nat) (s : State) : State :=
  if 96 ≤ p then s
  else
    match (s.port p).chk with
    | some c =>
      if c.back.isSome then s
      else (s.setPort p { s.port p with chk := some { c with back := some (min (c.start + 12759) (max s.nextTick c.start + chkLen 7)) } }).setFd F.PRT_CHK_STS_result 3 p
    | none => s.dropChk p

/-- A scheduled check falls due (R83): mode 2, idle for PRT_CHK_IDLE ticks, PRT_CHK_PERIOD since the last began. -/
def scheduledCheck (p : Nat) (s : State) : State :=
  let x := s.port p
  if p < 96 ∧ s.bit F.PRT_CFG_en p = true ∧ s.bit F.PRT_CFG_class p = false ∧ s.fd F.PRT_CHK_CTL_mode p = 2 ∧ x.chk = none ∧
      s.bit F.PRT_CHK_STS_pending p = false ∧ x.lastEdge + s.fd F.PRT_CHK_IDLE_ticks ≤ s.time ∧
      (x.everChk = false ∨ x.lastChk + msTicks (s.rg .PRT_CHK_PERIOD).toNat ≤ s.time) then
    s.chkDue p
  else s

/-! ### Register writes -/

/-- PRT_CFG_WRITE (R49, R76, R77, R82). -/
def prtCfgWrite (p : Nat) (v : Word) (s : State) : State :=
  if 96 ≤ p ∨ s.domOn (p / 4) = false then s
  else
    let en0 := s.fd F.PRT_CFG_en p
    let en := bitsOf v 0 1
    let c0 := s.fd F.PRT_CFG_class p
    let c := bitsOf v 1 1
    let t := bitsOf v 4 2
    let bad := decide (c ≠ c0) && decide (en0 + en ≠ 0)
    let s1 := if bad then s.setFd F.PRT_STS_cfg_err 1 p else s
    (s1.setRg .PRT_CFG (w32 (en + 2 * (if bad then c0 else c) + 4 * bitsOf v 2 1 + 16 * (if t = 3 then s.fd F.PRT_CFG_term p else t))) p).schedule p

/-- PRT_WIN_WRITE (R51, R52, R82). -/
def prtWinWrite (p : Nat) (v : Word) (s : State) : State :=
  if 96 ≤ p ∨ s.domOn (p / 4) = false then s
  else if bitsOf v 16 12 < bitsOf v 0 12 then s.setFd F.PRT_STS_win_err 1 p
  else ((s.setFd F.PRT_WIN_thr_lo (bitsOf v 0 12) p).setFd F.PRT_WIN_thr_hi (bitsOf v 16 12) p).schedule p

/-- PRT_HYST_WRITE (R53, R82). -/
def prtHystWrite (p : Nat) (v : Word) (s : State) : State :=
  if 96 ≤ p ∨ s.domOn (p / 4) = false then s
  else ((s.setFd F.PRT_HYST_hyst_hi (bitsOf v 0 7) p).setFd F.PRT_HYST_hyst_lo (bitsOf v 8 7) p).schedule p

/-- PRT_FILT_WRITE (R58, R59, R82): zero and even windows are reserved (R10). -/
def prtFiltWrite (p : Nat) (v : Word) (s : State) : State :=
  if 96 ≤ p ∨ s.domOn (p / 4) = false then s
  else
    let a := bitsOf v 0 6
    let b := bitsOf v 8 6
    let s1 := if a % 2 = 1 then s.setFd F.PRT_FILT_win_hi a p else s
    (if b % 2 = 1 then s1.setFd F.PRT_FILT_win_lo b p else s1).schedule p

/-- PRT_PSC_WRITE (R68, R70). -/
def prtPscWrite (p : Nat) (v : Word) (s : State) : State :=
  if 96 ≤ p ∨ s.domOn (p / 4) = false then s else (s.setRg .PRT_PSC v p).schedule p

/-! ### VTT (R48) -/

/-- The VTT source of quad q reaches its limit. -/
def vttOverload (q : Nat) (s : State) : State :=
  if q < 24 then (s.setFd F.PRT_VTT_ovld 1 q).raise 0x060 (unitOf 3 (4 * q)) q true else s

/-- The current returns within its limit (R48, R568). -/
def vttOverloadClear (q : Nat) (s : State) : State :=
  if q < 24 ∧ s.bit F.PRT_VTT_ovld q = true then (s.setFd F.PRT_VTT_ovld 0 q).dropLive (unitOf 3 (4 * q)) 0x060 else s

/-! ### Check words (R112) -/

/-- TSUS on the EDGE records of a packet (R112, R358). -/
def tsus (r : Rec) : Rec := if r.type = 1 then { r with w0 := setBits r.w0 2 1 1 } else r

/-- Lanes of a port island. -/
def islandLanes (i : Nat) : List Nat := if i < 24 then natsFrom (8 * i) 8 ++ [192 + i] else []

/-- A held packet meets a check word: TSUS on what was formed since the previous good check, where the copies differ. -/
def HeldPkt.checked (h : HeldPkt) (good : Bool) : HeldPkt :=
  { h with recs := if good || h.ok then h.recs else h.recs.map tsus, ok := true }

/-- The channel of a held packet. -/
def HeldPkt.chan (h : HeldPkt) : Nat := match h.recs with | r :: _ => r.chan | [] => 0

/-- What leaves an island by an instant, and what stays in its buffers; a channel's packets leave in order (R26, R127). -/
def leaveBy (ps : Nat) : List Nat → List HeldPkt → List HeldPkt × List HeldPkt
  | _, [] => ([], [])
  | stuck, h :: t =>
    if h.leave ≤ ps ∧ stuck.contains h.chan = false then let r := leaveBy ps stuck t; (h :: r.1, r.2)
    else let r := leaveBy ps (h.chan :: stuck) t; (r.1, h :: r.2)

/-- The lanes of an island whose buffers have room again report what they lost (R25). -/
def State.closeLosses (s : State) (i : Nat) : State := (islandLanes i).foldl (fun (t : State) l => t.closeLoss i l (1600 * s.time)) s

/-- The records that island `i` releases at a check word, with TSUS after a mismatch, and the state in which it holds the others. -/
def State.takeHeld (s : State) (i : Nat) (good : Bool) : State × List (List Rec) :=
  let s1 := s.closeLosses i
  let r := leaveBy (1600 * s.time) [] ((Tab.get [] s1.tb.held i).map fun h => h.checked good)
  (s1.setTb fun t => { t with held := Tab.set [] t.held i r.2 }, r.1.map fun h => h.recs)

/-- A check word mismatch (R112). -/
def State.timeMismatch (s : State) (i : Nat) : State :=
  let s1 := ((s.setFd F.TB_DIST_STS_mism 1).setFd F.TB_DIST_STS_island i).incFd F.TB_DIST_STS_count
  (s1.raise 0x001 0 i).assertOnce 302

/-- The island's cross-island queue (R330). -/
def islandQueue (i : Nat) : Nat := 1024 + i

/-- The reports of a Lorren link's occupied buffers have entered its cross-island queue: the buffers are ungranted (R396). -/
def State.freeBuffers (s : State) (l : Nat) : State :=
  (s.setFd F.LNK_CREDIT_ungranted (s.fd F.LNK_CREDIT_ungranted l + s.fd F.LNK_CREDIT_occupied l) l).setFd F.LNK_CREDIT_occupied 0 l

/-- TIME_CHECK_WORD (R112): islands 0 to 23 are the quads' port islands, 24 to 39 the Lorren receivers. The copy of now is compared and, where it
differs, reloaded; it then stands `upset` ticks from now until the next word: zero, but for a fault of its island. -/
def timeCheckWord (i : Nat) (upset : Int) (s : State) : State :=
  if 40 ≤ i then s
  else
    let good := s.copyOff i == 0
    let (s1, pk) := s.takeHeld i good
    let s2 := if good then s1 else s1.timeMismatch i
    let s3 := s2.setTb fun t => { t with copies := Tab.set 0 t.copies i upset }
    let s4 := if 24 ≤ i then s3.freeBuffers (i - 24) else s3
    pk.foldl (fun t rs => (t.pushPkt (islandQueue i) (0x20 + i) .rtr rs).1) s4

def execPrtCfgWrite (p : Nat) (value : Word) (s : State) : Host.Outcome State Fault Refusal := .next (prtCfgWrite p value s)
def execHoldEnd (p : Nat) (s : State) : Host.Outcome State Fault Refusal := .next (holdEnd p s)
def execPrtWinWrite (p : Nat) (value : Word) (s : State) : Host.Outcome State Fault Refusal := .next (prtWinWrite p value s)
def execThrSettleEnd (p : Nat) (s : State) : Host.Outcome State Fault Refusal := .next (thrSettleEnd p s)
def execPrtHystWrite (p : Nat) (value : Word) (s : State) : Host.Outcome State Fault Refusal := .next (prtHystWrite p value s)
def execPrtFiltWrite (p : Nat) (value : Word) (s : State) : Host.Outcome State Fault Refusal := .next (prtFiltWrite p value s)
def execPrtPscWrite (p : Nat) (value : Word) (s : State) : Host.Outcome State Fault Refusal := .next (prtPscWrite p value s)
def execConfirmedTransition (input : PortInput) (s : State) : Host.Outcome State Fault Refusal :=
  .next (confirmedTransition input s)
def execStateEstablished (p : Nat) (lower level : Bool) (s : State) : Host.Outcome State Fault Refusal :=
  .next (stateEstablished p lower level s)
def execVttOverload (q : Nat) (s : State) : Host.Outcome State Fault Refusal := .next (vttOverload q s)
def execVttOverloadClear (q : Nat) (s : State) : Host.Outcome State Fault Refusal := .next (vttOverloadClear q s)
def execCheckRun (p : Nat) (s : State) : Host.Outcome State Fault Refusal := .next (checkRun p s)
def execCheckAbort (p : Nat) (s : State) : Host.Outcome State Fault Refusal := .next (checkAbort p s)
def execScheduledCheck (p : Nat) (s : State) : Host.Outcome State Fault Refusal := .next (scheduledCheck p s)
def execSelfCheckEnd (p : Nat) (obs : ChkObs) (s : State) : Host.Outcome State Fault Refusal := .next (selfCheckEnd p obs s)
def execTimeCheckWord (island : Nat) (upset : Int) (s : State) : Host.Outcome State Fault Refusal :=
  .next (timeCheckWord island upset s)

end Sys2Proof.Machine
end

