-- ==== Sys2Proof/Machine/Tasks.lean ====
section
/-! DEFINITION. Task descriptors and their checks (R185–R187, R190), engines and contexts (R407–R413), the placement of a task, its
and subscriptions (R418, R423–R425). -/

namespace Sys2Proof.Machine

/-! ### Descriptors (R185) -/

/-- Bits of descriptor word `i`. -/
def dbits (d : List Word) (i lo n : Nat) : Nat := bitsOf (nth 0 d i) lo n
/-- The 64-bit value of words `i` and `i + 1`. -/
def dpair (d : List Word) (i : Nat) : Nat := pairNat (nth 0 d i) (nth 0 d (i + 1))

def dTask (d : List Word) : Nat := dbits d 0 0 12
def dFunc (d : List Word) : Nat := dbits d 0 12 5
def dEach (d : List Word) : Bool := dbits d 0 17 1 == 1
def dStat (d : List Word) : Bool := dbits d 0 18 1 == 1
def dHist (d : List Word) : Bool := dbits d 0 19 1 == 1
def dGsrc (d : List Word) : Nat := dbits d 0 20 4
def dCont (d : List Word) : Bool := dbits d 0 24 1 == 1
def dPsign (d : List Word) : Bool := dbits d 0 25 1 == 1
def dTfit (d : List Word) : Bool := dbits d 0 26 1 == 1
def dReref (d : List Word) : Bool := dbits d 0 27 1 == 1
def dChanA (d : List Word) : Nat := dbits d 1 0 13
def dCodesA (d : List Word) : Nat := dbits d 1 16 7
def dChanB (d : List Word) : Nat := dbits d 2 0 13
def dCodesB (d : List Word) : Nat := dbits d 2 16 7
def dArmChan (d : List Word) : Nat := dbits d 3 0 13
def dArmCodes (d : List Word) : Nat := dbits d 3 16 7
def dArmEn (d : List Word) : Bool := dbits d 3 23 1 == 1
def dStartChan (d : List Word) : Nat := dbits d 4 0 13
def dStartCodes (d : List Word) : Nat := dbits d 4 16 7
def dPip (d : List Word) : Nat := dbits d 4 24 4
def dStopChan (d : List Word) : Nat := dbits d 5 0 13
def dStopCodes (d : List Word) : Nat := dbits d 5 16 7
def dGlen (d : List Word) : Nat := dpair d 6 % 2 ^ 55
def dOrigin (d : List Word) : Nat := dpair d 8
def dParam (d : List Word) : Nat := dpair d 10
def dHOrigin (d : List Word) : Int := sInt 64 (dpair d 12)
def dHWidth (d : List Word) : Nat := (nth 0 d 14).toNat
def dNbins (d : List Word) : Nat := dbits d 15 0 11
def dOct (d : List Word) : Nat := dbits d 15 11 5
def dRpt (d : List Word) : Nat := dbits d 15 16 16

/-- Length of a TIME gate in fine units; glen 0 stands for 2^55 ticks (R185). -/
def dGateLen (d : List Word) : Nat := (if dGlen d = 0 then 2 ^ 55 else dGlen d) * 512

/-- Whether bit `c` of a code mask selects code `c`; code 7 is never selectable (R142). -/
def inMask (m c : Nat) : Bool := decide (c < 7) && natBit m c

/-- The direction mode of the slot of chan_a (R189). -/
def State.tlyDir (s : State) (d : List Word) : Nat := s.fd F.TLY_CFG_dir (slotOf (dChanA d))

/-- Whether the descriptor uses chan_b (R185). -/
def State.usesB (s : State) (d : List Word) : Bool :=
  dFunc d == 6 || dFunc d == 13 || (dFunc d == 17 && s.tlyDir d == 3)

/-- A list without repeats, in order of first occurrence. -/
def distinct : List Nat → List Nat
  | [] => []
  | x :: t => x :: (distinct t).filter (· != x)

/-- The distinct channels that a task names, in the order chan_a, chan_b, arm, start, stop (R187). -/
def State.namedChans (s : State) (d : List Word) : List Nat :=
  let b := if s.usesB d then [dChanB d] else []
  let e := if dGsrc d = 1 then
      (if dArmEn d then [dArmChan d] else []) ++ [dStartChan d] ++ (if dCont d then [] else [dStopChan d])
    else if dGsrc d = 2 then [0x60] else []
  distinct (dChanA d :: (b ++ e))

/-- A mask of one comparator (R170). -/
def oneComparator (m : Nat) : Bool := m == 0x03 || m == 0x0C || m == 0x30

/-- Whether a bit that R185 does not list is set. -/
def dReserved (d : List Word) : Bool :=
  decide (dbits d 0 28 4 ≠ 0) || decide (dbits d 1 13 3 ≠ 0) || decide (dbits d 1 23 9 ≠ 0) || decide (dbits d 2 13 3 ≠ 0) ||
  decide (dbits d 2 23 9 ≠ 0) || decide (dbits d 3 13 3 ≠ 0) || decide (dbits d 3 24 8 ≠ 0) || decide (dbits d 4 13 3 ≠ 0) ||
  decide (dbits d 4 23 1 ≠ 0) || decide (dbits d 4 28 4 ≠ 0) || decide (dbits d 5 13 3 ≠ 0) || decide (dbits d 5 23 9 ≠ 0) ||
  decide (2 ^ 55 ≤ dpair d 6)

/-- Channels that a descriptor may name for its function (R186, R190): true where status 2 applies. -/
def State.badChan (s : State) (d : List Word) (self : Option Nat) : Bool :=
  let f := dFunc d
  let a := dChanA d
  let bound := s.bit F.TLY_FLG_bound (slotOf a) && decide (self ≠ some (s.fd F.TLY_FLG_task (slotOf a)))
  ((s.namedChans d).any fun c => ! chanOk c) || (decide (9 ≤ f ∧ f ≤ 12) && ! isPortChan a) ||
  ((f == 6 || f == 13) && dCodesB d == 0) ||
  (f == 17 && (! (isPortChan a || isRemChan a) || bound || (s.tlyDir d == 3 && dChanB d == a)))

/-- Gates that R186 refuses. -/
def badGate (d : List Word) : Bool :=
  let g := dGsrc d
  decide (5 ≤ g) || (g == 0 && decide (dOrigin d % 512 ≠ 0)) ||
  (g == 1 && (if dCont d then decide (dStopChan d + dStopCodes d ≠ 0) else dStopCodes d == 0)) ||
  (dFunc d == 16 && g != 0) || ((dFunc d == 3 || dFunc d == 4) && g == 0 && decide (2 ^ 39 * 512 < dGateLen d))

/-- Parameters that R186 and R190 refuse. -/
def State.badParam (s : State) (d : List Word) : Bool :=
  let f := dFunc d
  let ca := dCodesA d
  let cb := dCodesB d
  let out := dbits d 0 17 3
  dReserved d || ((f == 5 || f == 7 || f == 8) && ! oneComparator ca) || (decide (9 ≤ f ∧ f ≤ 12) && ca != 0) ||
  (decide (6 ≤ f ∧ f ≤ 15) && out == 0) || ((decide (f ≤ 5) || f == 16 || f == 17) && out != 0) ||
  (dHist d && (decide (dNbins d < 2) || decide (1024 < dNbins d) || dHWidth d == 0)) ||
  (f == 16 && decide (24 < dOct d)) || (f == 15 && ! dTfit d && dParam d == 0) ||
  (f != 6 && f != 13 && f != 17 && decide (dChanB d + cb ≠ 0)) ||
  (f == 17 && (ca == 0 ||
    (match s.tlyDir d with
     | 2 => cb == 0 || decide (Nat.land ca cb ≠ 0) || dChanB d != 0
     | 3 => cb == 0
     | _ => decide (dChanB d + cb ≠ 0))))

/-- Whether a named subscription queue is refused (R186, R418); 0x7FF names none. -/
def State.badQueue (s : State) (q : Nat) : Bool :=
  q != 0x7FF && (decide (1024 ≤ q) || ! (s.fd F.QUE_Q_CFG_cons q == 0 || s.fd F.QUE_Q_CFG_cons q == 1))

/-- The checks of R186 up to BAD_PARAM, in its order; 0 where they pass. `self` is the task of a switch. -/
def State.checkDesc (s : State) (d : List Word) (named : List Nat) (self : Option Nat) : Nat :=
  let f := dFunc d
  if (18 ≤ f ∧ f ≤ 23) ∨ (24 ≤ f ∧ s.bit F.ENG_FUNC_valid f = false) then 1
  else if s.badChan d self then 2
  else if badGate d then 3
  else if s.badParam d = true ∨ (named.any fun q => s.badQueue q) = true then 4
  else 0

/-! ### Engines, tasks and contexts -/

/-- Update the engines. -/
def State.setEng (s : State) (f : Engines → Engines) : State := { s with eng := f s.eng }

/-- Task `t`, where placed. -/
def State.task (s : State) (t : Nat) : Option Task := Tab.get none s.eng.tasks t
def State.setTask (s : State) (t : Nat) (x : Option Task) : State :=
  s.setEng fun e => { e with tasks := Tab.set none e.tasks t x }
/-- Update a placed task. -/
def State.modTask (s : State) (t : Nat) (f : Task → Task) : State :=
  match s.task t with | some x => s.setTask t (some (f x)) | none => s

/-- Placed tasks, by number. -/
def State.placed (s : State) : List (Nat × Task) :=
  s.eng.tasks.filterMap fun e => match e.2 with | some t => some (e.1, t) | none => none

/-- Context `x` of engine `e`. -/
def State.ctx (s : State) (e x : Nat) : Ctx := Tab.get Ctx.init s.eng.ctxs (32 * e + x)
def State.setCtx (s : State) (e x : Nat) (c : Ctx) : State :=
  s.setEng fun g => { g with ctxs := Tab.set Ctx.init g.ctxs (32 * e + x) c }

/-- The number of engines (R407). -/
def nEngines : Nat := 208

/-- State of an engine (R408): 0 ACTIVE, 1 SPARE_IDLE, 2 LOADING, 3 MCHK, 4 RETIRED. -/
def State.engState (s : State) (e : Nat) : Nat := s.fd F.ENG_STS_state e

/-- Engines in a state; the spares of a cluster that is off by request are out of the pool (R581). -/
def State.engCount (s : State) (st : Nat) : Nat :=
  ((natsFrom 0 nEngines).filter fun e => s.engState e == st && ! (st == 1 && s.domReq.contains (28 + clusterOf e))).length

/-- The number of spares was `n0`: ENG_SPARE_LOW when fewer than four remain (R410, R568). -/
def State.sparesFrom (s : State) (n0 : Nat) : State :=
  let n1 := s.engCount 1
  if n1 < 4 ∧ 4 ≤ n0 then s.raise 0x002 0 n1 true
  else if n0 < 4 ∧ 4 ≤ n1 then s.dropLive 0 0x002 else s

/-- An engine changes state: its cluster's event source (R442). -/
def State.setEngState (s : State) (e st : Nat) : State :=
  if s.engState e = st then s
  else ((s.setFd F.ENG_STS_state st e).assertOnce (192 + clusterOf e)).sparesFrom (s.engCount 1)

/-- Frame bytes of a function (R412). -/
def State.frameOf (s : State) (f : Nat) : Nat := s.fd F.ENG_FUNC_frame f * 256
/-- Bins of a task with HIST output (R413). -/
def binsOf (d : List Word) : Nat := if dHist d then dNbins d else 0

/-- Tasks of an engine. -/
def State.tasksOn (s : State) (e : Nat) : List (Nat × Task) := s.placed.filter fun t => t.2.eng == e

/-- Frame bytes and bins held on an engine. -/
def State.frameUsed (s : State) (e : Nat) : Nat := sumNat ((s.tasksOn e).map fun t => s.frameOf (dFunc t.2.desc))
def State.binsUsed (s : State) (e : Nat) : Nat := sumNat ((s.tasksOn e).map fun t => binsOf t.2.desc)

/-- The lowest context of an engine that holds no task. -/
def State.freeCtx (s : State) (e : Nat) : Option Nat :=
  (natsFrom 0 32).find? fun x => ! ((s.tasksOn e).any fun t => t.2.ctx == x)

/-- Output queues that a task may write (R423), XQ0 to XQ47 being bound to other producers (R330): whatever the engine, or only
in cluster pidx. -/
def State.outqOk (s : State) (q e : Nat) : Bool :=
  decide (q < 1024) ||
  (decide (1072 ≤ q ∧ q < 1280) && (s.fd F.QUE_Q_CFG_prod q == 0 ||
    (s.fd F.QUE_Q_CFG_prod q == 1 && s.fd F.QUE_Q_CFG_pidx q == clusterOf e)))

/-- Engines other than `e` that hold a task which names one of the queues (R418). -/
def State.queuesElsewhere (s : State) (qs : List Nat) (e : Nat) (self : Nat) : Bool :=
  s.placed.any fun t => t.1 != self && t.2.eng != e && (t.2.subs.any fun u => qs.contains u.queue)

/-- Whether an engine qualifies for a task (R424). -/
def State.qualifies (s : State) (e : Nat) (d : List Word) (outq : Nat) (qs : List Nat) : Bool :=
  s.engState e == 0 && (s.freeCtx e).isSome && decide (s.frameUsed e + s.frameOf (dFunc d) ≤ 98304) &&
  decide (s.binsUsed e + binsOf d ≤ 1024) && s.outqOk outq e && ! s.queuesElsewhere qs e (dTask d)

/-- The engine that R424 chooses: most free frame bytes, then lowest number. -/
def State.chooseEngine (s : State) (d : List Word) (outq : Nat) (qs : List Nat) (except : Nat → Bool) : Option Nat :=
  (natsFrom 0 nEngines).foldl (fun (b : Option Nat) e =>
    if s.qualifies e d outq qs && ! except e then
      match b with
      | some e0 => if s.frameUsed e < s.frameUsed e0 then some e else b
      | none => some e
    else b) none

/-! ### Subscriptions (R27, R418) -/

/-- Task subscriptions of a channel. -/
def State.subCount (s : State) (c : Nat) : Nat :=
  sumNat (s.placed.map fun t => ((t.2.subs.filter fun u => u.chan == c).length))

/-- A free queue of ENG_QPOOL, the lowest, beside those in `used` (R418). -/
def State.poolQueue (s : State) (used : List Nat) : Option Nat :=
  let a := s.fd F.ENG_QPOOL_first
  let b := s.fd F.ENG_QPOOL_last
  (natsFrom a (b + 1 - a)).find? fun q =>
    ! used.contains q && ! (s.placed.any fun t => t.2.subs.any fun u => u.queue == q)

/-- Queues of the channels: named, or from the pool; none where the pool is empty. -/
def State.assignQueues (s : State) (since : Nat) : List Nat → List Nat → List Nat → Option (List Sub)
  | [], _, _ => some []
  | c :: cs, names, used =>
    let nm := match names with | n :: _ => n | [] => 0x7FF
    if nm = 0x7FF then
      match s.poolQueue used with
      | none => none
      | some q => (s.assignQueues since cs names.tail (q :: used)).map fun l => ⟨c, q, true, since⟩ :: l
    else (s.assignQueues since cs names.tail used).map fun l => ⟨c, nm, false, since⟩ :: l

/-- A subscription takes its queue (R418). -/
def State.bindQueue (s : State) (q e : Nat) : State :=
  ((s.setFd F.QUE_Q_CFG_en 1 q).setFd F.QUE_Q_CFG_cons 1 q).setFd F.QUE_Q_CFG_cidx (clusterOf e) q

/-- Subscriptions end: pool queues that no other task holds are freed (R418). -/
def State.freeSubs (s : State) (subs : List Sub) : State :=
  subs.foldl (fun t u =>
    if u.pool && ! (t.placed.any fun x => x.2.subs.any fun w => w.queue == u.queue) then t.setFd F.QUE_Q_CFG_en 0 u.queue else t) s

/-! ### The spill region (R453) -/

/-- The SPILL region: base and size in bytes, where there is one. -/
def State.spillRegion (s : State) : Option (Nat × Nat) :=
  match (natsFrom 0 256).find? (fun r => s.fd F.DRM_RG_CFG_kind r == 3) with
  | some r => some (2 ^ 21 * s.fd F.DRM_RG_BASE_base r, 2 ^ 21 * s.fd F.DRM_RG_SIZE_size r)
  | none => none

/-- Bytes of spill area of a task: the ring of R183 for ADEV, one unit for a program of the image (assumption log 21). -/
def State.spillNeed (s : State) (d : List Word) : Nat :=
  let n := if dFunc d = 16 then (2 ^ (dOct d + 1) + 1) * 8 else if s.bit F.ENG_FUNC_spill (dFunc d) then 1 else 0
  2 ^ 21 * ((2 ^ 21 - 1 + n) / 2 ^ 21)

/-- Lowest contiguous free area of `n` bytes in the SPILL region, in steps of 2 MiB. -/
def State.spillArea (s : State) (n : Nat) : Option (Nat × Nat) :=
  if n = 0 then some (0, 0) else
  match s.spillRegion with
  | none => none
  | some (b, z) =>
    let free := fun (a : Nat) => decide (a + n ≤ b + z) && s.placed.all fun t => decide (t.2.spill.1 + t.2.spill.2 ≤ a ∨ a + n ≤ t.2.spill.1 ∨ t.2.spill.2 = 0)
    let cands := b :: s.placed.map fun t => t.2.spill.1 + t.2.spill.2
    match cands.filter fun a => decide (b ≤ a) && free a with
    | [] => none
    | a :: r => some (r.foldl min a, n)

/-! ### Placement (R418, R424, R425) -/

/-- The gates of a task before its start. -/
def GateSt.init : GateSt :=
  { phase := .armed, start := 0, last := none, seq := 0, defs := [], bounds := [], run := false, orig := 0, start0 := 0, chain := true,
    nextX := 0 }

/-- A new context of a task: it begins at its entry microword with everything zero; a library function's context waits for
events (assumption log 20). -/
def Ctx.fresh (t : Nat) (d : List Word) : Ctx :=
  { Ctx.init with valid := true, task := t, pc := dFunc d, blocked := decide (dFunc d < 18) }

/-- Whether a task's gates or measurements involve a remote channel (R30). -/
def State.isRemoteTask (s : State) (d : List Word) : Bool := (s.namedChans d).any isRemChan

/-- The EPOCH record of a stream (R109). -/
def State.epochRec (s : State) : Rec := mkRecW 0x08 0 0 0 0 0 (s.nowTick / epochTicks % 65536)

/-- The streams of new subscriptions begin with an EPOCH record (R109). -/
def State.openStreams (s : State) (subs : List Sub) : State :=
  (distinct (subs.map fun u => u.queue)).foldl (fun (t : State) q => (t.pushPkt q prodRouter .rtr [t.epochRec]).1) s

/-- The subscription queues are bound to an engine's cluster. -/
def State.bindSubs (s : State) (subs : List Sub) (e : Nat) : State := subs.foldl (fun t u => t.bindQueue u.queue e) s

/-- The task takes its engine, context and queues; a tally slot is bound (R190). -/
def State.install (s : State) (d : List Word) (subs : List Sub) (outq e x startAt : Nat) (spill : Nat × Nat) : State :=
  let t := dTask d
  let tk : Task :=
    { desc := d, eng := e, ctx := x, subs := subs, outq := outq, started := false, startAt := startAt, gates := GateSt.init,
      bounds := [], port := [], gapPart := [], dropPart := [], pend := [], stopAt := none, ended := false, moving := false,
      spill := spill, meas := { Meas.init with desc := d } }
  let s1 := (((s.setTask t (some tk)).bindSubs subs e).setCtx e x (Ctx.fresh t d)).openStreams subs
  if dFunc d = 17 then
    (s1.setFd F.TLY_FLG_task t (slotOf (dChanA d))).setFd F.TLY_FLG_bound 1 (slotOf (dChanA d))
  else s1

/-- Place a task (R186, R418, R424, R425): the status, and the state where it is 0. `point` is the full time that the command
names, 0 for none; `avoid` an engine not to take. -/
def State.placeTask (s : State) (d : List Word) (named : List Nat) (outq point : Nat) (avoid : Option Nat) : Nat × State :=
  let chans := s.namedChans d
  let st := s.checkDesc d (named.take chans.length) none
  let t := dTask d
  if st ≠ 0 then (st, s)
  else if (s.task t).isSome then (7, s)
  else if chans.any fun c => decide (4 ≤ s.subCount c) then (5, s)
  else
    match s.assignQueues 0 chans named [], s.spillArea (s.spillNeed d) with
    | some subs, some sp =>
      match s.chooseEngine d outq (subs.map fun u => u.queue) (fun e => avoid == some e) with
      | some e =>
        match s.freeCtx e with
        | some x => (0, s.install d subs outq e x (max ((s.nowTick + 2) * 512) point) sp)
        | none => (6, s)
      | none => (6, s)
    | _, _ => (6, s)

end Sys2Proof.Machine
end

