-- ==== Sys2Proof/Machine/Moves.lean ====
section
/-! DEFINITION. Moves of tasks between engines while they are in progress, the hand-over buffer that the router fills (R436, R437), and how a task ends (R422, R426). -/

namespace Sys2Proof.Machine

/-! ### Moves in progress -/

/-- The move whose target is engine `e`, and the target of a move from engine `e`. -/
def State.moveTo (s : State) (e : Nat) : Option Move := Tab.get none s.eng.moves e
def State.setMove (s : State) (e : Nat) (m : Option Move) : State :=
  s.setEng fun g => { g with moves := Tab.set none g.moves e m }
def State.moveFrom (s : State) (e : Nat) : Option (Nat × Move) :=
  s.eng.moves.findSome? fun p => match p.2 with | some m => if m.src = e then some (p.1, m) else none | none => none

/-- A load in progress on an engine: why, and the tries made. -/
def State.load (s : State) (e : Nat) : Option (LoadWhy × Nat) := Tab.get none s.eng.loads e
def State.setLoad (s : State) (e : Nat) (l : Option (LoadWhy × Nat)) : State :=
  s.setEng fun g => { g with loads := Tab.set none g.loads e l }

/-- An engine starts to load its control store. -/
def State.startLoad (s : State) (e : Nat) (why : LoadWhy) : State := (s.setEngState e 2).setLoad e (some (why, 0))

/-- Records that a hand-over buffer holds (R437). -/
def Move.held (m : Move) : Nat := sumNat (m.buf.map fun b => b.2.2.length)

/-- ENG_HO_STS shows the move to `tgt`; where that has ended, another that runs. -/
def State.showMove (s : State) (tgt : Nat) : State :=
  let other := s.eng.moves.findSome? fun p => p.2.map fun m => (p.1, m)
  match ((s.moveTo tgt).map fun m => (tgt, m)).or other with
  | some (e, m) => s.setRg .ENG_HO_STS (w32 (m.step + 8 * b2n m.imm + 16 * m.src + 2 ^ 12 * e + 2 ^ 20 * sat 4095 m.held))
  | none => s.setRg .ENG_HO_STS 0

/-- An ENG_CMD ends: ENG_CMD_STS shows the outcome of the last one, and the clusters of the engines that it named assert their event sources
(R439, R442). -/
def State.engCmdEnd (s : State) (c : EngCmd) (result : Nat) : State :=
  let s1 := if c.num = s.eng.cmds then (s.setFd F.ENG_CMD_STS_busy 0).setFd F.ENG_CMD_STS_result result else s
  (distinct ((c.named.filter fun e => decide (e < nEngines)).map clusterOf)).foldl (fun t k => t.assertOnce (192 + k)) s1

/-- An ENG_CMD is taken. -/
def State.engCmdTaken (s : State) (op : Nat) : State :=
  ((((s.setFd F.ENG_CMD_STS_last_op op).setFd F.ENG_CMD_STS_busy 1).setFd F.ENG_CMD_STS_result 0).incFd F.ENG_CMD_STS_seq).setEng fun g =>
    { g with cmds := g.cmds + 1 }

/-- The last ENG_CMD taken, which names these engines. -/
def State.engCmd (s : State) (named : List Nat) : EngCmd := ⟨s.eng.cmds, named⟩

/-- A move of tasks ends: where ENG_CMD started it, with this result. -/
def State.moveEnd (s : State) (m : Move) (result : Nat) : State := match m.cmd with | some c => s.engCmdEnd c result | none => s

/-- Whether a task or an engine takes part in a move. -/
def State.inMove (s : State) (e : Nat) : Bool := (s.moveTo e).isSome || (s.moveFrom e).isSome
def State.taskInMove (s : State) (t : Nat) : Bool :=
  s.eng.moves.any fun p => match p.2 with | some m => m.tasks.contains t | none => false

/-- Contexts of the tasks are marked as in a move. -/
def State.markMoving (s : State) (ts : List Nat) (b : Bool) : State :=
  ts.foldl (fun st t =>
    match st.task t with
    | some k => (st.setTask t (some { k with moving := b })).setCtx k.eng k.ctx { st.ctx k.eng k.ctx with moving := b }
    | none => st) s

/-! ### Abandoning a planned move (R437) -/

/-- Automatic evacuations are retried after 1 ms, and after three abandoned tries raise ENG_MOVE. -/
def State.retryLater (s : State) (src tries : Nat) : State :=
  if 3 ≤ tries then (s.setEng fun g => { g with retries := Tab.set (0, 0) g.retries src (0, 0) }).raise 0x0C2 (unitOf 6 src) tries
  else s.setEng fun g => { g with retries := Tab.set (0, 0) g.retries src (tries, s.time + msTicks 1) }

/-- The planned move to `tgt` is abandoned; the old engine keeps its tasks. -/
def State.abandonMove (s : State) (tgt : Nat) : State :=
  match s.moveTo tgt with
  | none => s
  | some m =>
    let s1 := (s.markMoving m.tasks false).setMove tgt none
    let s2 := if m.spare then (s1.setLoad tgt none).setEngState tgt 1 else s1
    let s3 := s2.moveEnd m 4
    (if m.auto = 0 then s3 else s3.retryLater m.src m.auto).showMove tgt

/-- Entry to HALT or WATCH abandons every planned move (R437). -/
def State.abandonAll (s : State) : State :=
  s.eng.moves.foldl (fun st p => match p.2 with | some m => if m.imm then st else st.abandonMove p.1 | none => st) s

/-! ### End of a task (R422, R426) -/

/-- A task frees its context, frame, bins, subscriptions and queues, and unbinds its tally slot. -/
def State.freeTask (s : State) (t : Nat) : State :=
  match s.task t with
  | none => s
  | some k =>
    let s1 := ((s.setTask t none).setCtx k.eng k.ctx Ctx.init).freeSubs k.subs
    let s2 := s1.setFd F.ENG_CTX_drops 0 k.eng k.ctx
    let sl := slotOf (dChanA k.desc)
    if dFunc k.desc = 17 ∧ s2.fd F.TLY_FLG_task sl = t then (s2.setFd F.TLY_FLG_bound 0 sl).setFd F.TLY_FLG_task 0 sl else s2

/-- A planned hand-over that moves the task goes on without it when the task stops, and is abandoned where no other task is left (R437). -/
def State.dropMovesOf (s : State) (t : Nat) : State :=
  s.eng.moves.foldl (fun u e =>
    match e.2 with
    | some m =>
      if m.tasks.contains t && ! m.imm then
        let ts := m.tasks.filter (· != t)
        if ts.isEmpty then u.abandonMove e.1
        else (u.setMove e.1 (some { m with tasks := ts, buf := m.buf.filter fun b => b.1 != t })).showMove e.1
      else u
    | none => u) s

/-- A context is aborted (R422): its open packet is rewound, its task stops, and ENG_ABORT or ENG_DMEM is raised. -/
def State.abortCtx (s : State) (e x : Nat) (dmem : Bool) : State :=
  let c := s.ctx e x
  match s.task c.task with
  | none => s.setCtx e x Ctx.init
  | some k =>
    let s1 := if c.opn then s.rewindQ k.outq (prodTask c.task) else s
    let s2 := (s1.dropMovesOf c.task).freeTask c.task
    let s3 := if dmem then s2 else s2.setEng fun g => { g with aborted := Tab.set none g.aborted c.task (some k) }
    (s3.raise (if dmem then 0x0E1 else 0x0E0) (unitOf 7 c.task) e).assertOnce (192 + clusterOf e)

/-! ### The router copies records of a shadowed task (R436) -/

/-- A packet of a task's channel that the router delivers is copied to the hand-over buffer; an overflow abandons the move. -/
def State.shadowCopy (s : State) (t time : Nat) (rs : List Rec) : State :=
  s.eng.moves.foldl (fun st p =>
    match p.2 with
    | some m =>
      if ! m.imm && m.step == 3 && m.tasks.contains t && decide (m.th ≤ time) then
        if 4096 < m.held + rs.length then (st.abandonMove p.1).raise 0x0E2 (unitOf 7 t) p.1
        else (st.setMove p.1 (some { m with buf := m.buf ++ [(t, time, rs)] })).showMove p.1
      else st
    | none => st) s

/-- The point T_h from which a task that a planned hand-over shadows belongs to the target (R204, R436). -/
def State.heldFrom (s : State) (t : Nat) : Option Nat :=
  s.eng.moves.findSome? fun p =>
    match p.2 with
    | some m => if ! m.imm && m.step == 3 && m.tasks.contains t then some m.th else none
    | none => none

end Sys2Proof.Machine
end

