-- ==== Sys2Proof/Machine/Measure.lean ====
section
/-! DEFINITION. What the library functions 0 to 17 compute from the edges of their gates (R139–R207): the working state at each
edge, loss and boundary, and the result packets. -/

namespace Sys2Proof.Machine

/-- An edge, or `lost` edges of one code, as a function takes it: roles 1 A, 2 B, 4 cancel; `xfl` the xflags of its record. -/
structure MEv where
  time : Nat
  code : Nat
  chan : Nat
  lower : Bool
  roles : Nat
  late : Bool
  lost : Nat
  xfl : Nat
deriving DecidableEq, Repr

/-- A measurand: its value, none where it is rejected (R171), its completing edge, the start of its span, and its xflags. -/
structure Mv where
  val : Option Int
  time : Nat
  since : Nat
  xfl : Nat
deriving DecidableEq, Repr

/-- Rising codes (R357). -/
def isRise (c : Nat) : Bool := c == 0 || c == 2 || c == 4

/-- Roles of an edge in the pairing of its function: 1 A, 2 B, 4 cancel (R172, R173). -/
def State.rolesIn (s : State) (d : List Word) (chan code : Nat) : Nat :=
  let a := chan == dChanA d
  let f := dFunc d
  if f = 9 ∨ f = 11 then (if a then (if code = 2 then 1 else if code = 0 then 2 else if code = 3 then 4 else 0) else 0)
  else if f = 10 ∨ f = 12 then (if a then (if code = 1 then 1 else if code = 3 then 2 else if code = 0 then 4 else 0) else 0)
  else
    let selA := a && inMask (dCodesA d) code
    if f = 7 then (if selA then (if isRise code then 1 else 2) else 0)
    else if f = 8 then (if selA then (if isRise code then 2 else 1) else 0)
    else if f = 14 then b2n selA * 3
    else b2n selA + 2 * b2n (s.usesB d && chan == dChanB d && inMask (dCodesB d) code)

def MEv.isA (e : MEv) : Bool := natBit e.roles 0
def MEv.isB (e : MEv) : Bool := natBit e.roles 1
def MEv.cancels (e : MEv) : Bool := natBit e.roles 2

/-- Whether an OOS span of one of the channels overlaps the closed interval [a, b] (R157, R171). -/
def Meas.oosIn (m : Meas) (chans : List Nat) (a b : Nat) : Bool :=
  m.oos.any fun o => chans.contains o.1 && decide (o.2.1 ≤ b) && decide (a < o.2.2)

/-- max_span of a pairing function (R185). -/
def dMaxSpan (d : List Word) : Nat := if dParam d = 0 then 2 ^ 39 - 1 else dParam d

/-- A channel paired with itself: no earlier edge rejects nothing (R172, R175). -/
def selfPaired (d : List Word) : Bool :=
  dFunc d == 14 || (dFunc d == 6 && dChanA d == dChanB d && dCodesA d == dCodesB d)

/-- Threshold difference of a port in force at a full time, and whether it changed within (a, b] (R50, R171, R174). -/
def State.thrDelta (s : State) (p t : Nat) : Nat :=
  match (Tab.get [] s.thrs p).find? (fun c => decide (s.fuOf c.1 ≤ t)) with | some c => c.2 | none => 0
def State.thrMoved (s : State) (p a b : Nat) : Bool :=
  (Tab.get [] s.thrs p).any fun c => decide (a < s.fuOf c.1 ∧ s.fuOf c.1 ≤ b)

/-- Channels that the function pairs. -/
def State.pairChans (s : State) (d : List Word) : List Nat := if s.usesB d then [dChanA d, dChanB d] else [dChanA d]

/-! ### Pairing (R171–R175) -/

/-- Whether a loss lies at or after the pending edge and not after `t`. -/
def PendA.lostBy (a : PendA) (t : Nat) : Bool := match a.lost with | some l => decide (l ≤ t) | none => false

/-- The value of a pair, none where it is rejected. -/
def State.pairValue (s : State) (m : Meas) (a : PendA) (e : MEv) : Option Int :=
  let d := m.desc
  let x := e.time - a.time
  let slew := dFunc d == 11 || dFunc d == 12
  if dMaxSpan d < x ∨ a.lostBy e.time = true ∨ m.oosIn (s.pairChans d) a.time e.time = true then none
  else if slew then
    if s.thrMoved (dChanA d) a.time e.time = true ∨ x = 0 ∨ natBit (Nat.lor a.xfl e.xfl) 1 = true then none
    else some (rdiv ((s.thrDelta (dChanA d) e.time : Int) * 625000) x)
  else some (x : Int)

/-- A rejected measurand at an edge. -/
def Mv.rejected (e : MEv) : Mv := ⟨none, e.time, e.time, 0⟩

/-- One edge of a pairing function: the B role first, then cancelling, then the A role (R143, R171–R173). -/
def State.feedPair (s : State) (m : Meas) (e : MEv) : Meas × List Mv :=
  let d := m.desc
  let (m1, o1) : Meas × List Mv :=
    if e.isB then
      match m.pa with
      | some a => ({ m with pa := none }, [⟨s.pairValue m a e, e.time, a.time, Nat.lor a.xfl e.xfl⟩])
      | none => (m, if selfPaired d then [] else [Mv.rejected e])
    else (m, [])
  let (m2, o2) : Meas × List Mv :=
    if e.cancels && m1.pa.isSome then ({ m1 with pa := none }, [Mv.rejected e]) else (m1, [])
  if e.isA then
    ({ m2 with pa := some ⟨e.time, e.xfl, none, e.code⟩ }, o1 ++ o2 ++ (if m2.pa.isSome then [Mv.rejected e] else []))
  else (m2, o1 ++ o2)

/-- PHASE (R176): the cycle that an A edge ends takes its first B edge below that edge; a B edge at the A edge's own time belongs to the cycle
that begins there, whichever code comes first. -/
def State.feedPhase (s : State) (m : Meas) (e : MEv) : Meas × List Mv :=
  let d := m.desc
  let (m1, o) : Meas × List Mv :=
    if e.isA then
      let next := m.pbLast.filter fun b => b.1 == e.time
      let m' := { m with pa := some ⟨e.time, e.xfl, none, e.code⟩, pb := next, pbLast := next }
      match m.pa with
      | none => (m', [])
      | some a =>
        let c := e.time - a.time
        let first := m.pb.filter fun b => decide (b.1 < e.time)
        let v : Option Int :=
          match first with
          | none => none
          | some b =>
            if a.lostBy e.time = true ∨ dMaxSpan d < c ∨ m.oosIn (s.pairChans d) a.time e.time = true then none
            else
              let p0 := rdiv ((b.1 - a.time : Nat) * 2 ^ 32) c
              let p := if p0 = 2 ^ 32 then 0 else p0
              some (if dPsign d = true ∧ 2 ^ 31 ≤ p then p - 2 ^ 32 else p)
        (m', [⟨v, e.time, a.time, Nat.lor (Nat.lor a.xfl e.xfl) (match first with | some b => b.2 | none => 0)⟩])
    else (m, [])
  if e.isB then
    ({ m1 with pb := match m1.pb with | none => some (e.time, e.xfl) | x => x, pbLast := some (e.time, e.xfl) }, o)
  else (m1, o)

/-- TIE with a programmed period (R177): the edges used are t_0 and the edge itself. -/
def feedTie (m : Meas) (e : MEv) : Meas × List Mv :=
  if ! e.isA then (m, [])
  else
    let d := m.desc
    match m.t0 with
    | none => ({ m with t0 := some e.time, t0X := e.xfl, k := 0, tPrev := some e.time }, [])
    | some t0 =>
      let k := m.k + 1
      let pv := match m.tPrev with | some p => p | none => t0
      let m1 := { m with k := k, tPrev := some e.time }
      if m.oosIn [dChanA d] pv e.time then
        ({ m1 with t0 := some e.time, t0X := e.xfl, k := 0 }, [⟨none, e.time, pv, e.xfl⟩])
      else
        (m1, [⟨some (rdiv ((e.time - t0 : Nat) * 2 ^ 32 - (k * dParam d : Nat)) (2 ^ 32)), e.time, pv, Nat.lor m.t0X e.xfl⟩])

/-! ### Frequency, period, duty (R167–R170) -/

/-- A timed edge of a reciprocal function; a reference edge from the gate before is an edge used (R155, R167). -/
def feedRecip (m : Meas) (e : MEv) : Meas :=
  match m.tref with
  | none => { m with tref := some e.time, tlast := some e.time, pend := 0 }
  | some _ => { m with nSeg := m.nSeg + m.pend + 1, pend := 0, tlast := some e.time, xfl := Nat.lor m.xfl m.trefX }

/-- A timed edge enters the sums of a fit (R168). -/
def Regr.add (r : Regr) (t : Nat) : Regr :=
  match r.first with
  | none => { r with first := some t, lastT := t, idx := 0, n := 1 }
  | some f =>
    let i := r.idx + 1
    let x : Int := (t - f : Nat)
    { r with lastT := t, idx := i, n := r.n + 1, si := r.si + i, st := r.st + x, sit := r.sit + i * x, sii := r.sii + i * i }

/-- A timed edge of a regression. -/
def feedReg (m : Meas) (e : MEv) : Meas := { m with regr := m.regr.add e.time, nSeg := m.nSeg + m.pend + 1, pend := 0 }

/-- Whether a timed edge would pass a limit of R169 or R177: the gate is cut there (R160). -/
def Meas.atLimit (m : Meas) (e : MEv) : Bool :=
  let f := dFunc m.desc
  if f = 3 ∨ f = 4 then
    match m.regr.first with
    | some t => decide (2 ^ 24 ≤ m.regr.n) || decide (2 ^ 24 ≤ m.regr.idx + 1) || decide (2 ^ 48 ≤ e.time - t)
    | none => false
  else if f = 15 ∧ dTfit m.desc = true then decide (8192 ≤ m.fit.length)
  else false

/-- A timed edge of DUTY (R170); falling edges are used where a rising edge follows them (R155). -/
def feedDuty (m : Meas) (e : MEv) : Meas :=
  let u := m.duty
  if isRise e.code then
    match u.first with
    | none =>
      { m with duty := { u with first := some e.time, rise := e.time, fall := none, k := 1, pend := 0, pendX := 0 }, nSeg := 1, pend := 0,
               xfl := Nat.lor m.xfl e.xfl }
    | some _ =>
      let u1 := match u.fall with
        | some f => { u with sum := u.sum + (f - u.rise), bad := u.bad || decide (u.pend ≠ 0) }
        | none => { u with bad := true }
      { m with duty := { u1 with rise := e.time, fall := none, k := u.k + 1, pend := 0, pendX := 0 }, nSeg := m.nSeg + m.pend + 1, pend := 0,
               xfl := Nat.lor (Nat.lor m.xfl u.pendX) e.xfl }
  else if u.first.isSome then
    { m with duty := { u with fall := match u.fall with | none => some e.time | x => x, pendX := Nat.lor u.pendX e.xfl }, pend := m.pend + 1 }
  else m

/-! ### Losses -/

/-- Lost edges of one code in a gate (R156): counts, indices and the spans that they touch. -/
def Meas.lose (m : Meas) (e : MEv) : Meas :=
  let d := m.desc
  let m1 : Meas := if e.isA || e.isB then { m with n := m.n + e.lost, lost := m.lost + e.lost } else m
  let f := dFunc d
  if e.late then (if e.isA then { m1 with lateN := m1.lateN + e.lost } else m1)
  else if ! e.isA then m1
  else if f = 1 ∨ f = 2 ∨ f = 16 then { m1 with pend := m1.pend + e.lost }
  else if f = 3 ∨ f = 4 then
    if m.regr.first.isSome then { m1 with regr := { m1.regr with idx := m1.regr.idx + e.lost }, pend := m1.pend + e.lost } else m1
  else if f = 5 then
    if m.duty.first.isSome then { m1 with duty := { m1.duty with pend := m1.duty.pend + e.lost }, pend := m1.pend + e.lost } else m1
  else if f = 15 then
    if dTfit d then
      (if m.regr.first.isSome then { m1 with regr := { m1.regr with idx := m1.regr.idx + e.lost } } else m1)
    else (if m.t0.isSome then { m1 with k := m1.k + e.lost } else m1)
  else m1

/-- A loss at `t` on a channel that a pending pair uses lies in the pair's span where it does not precede the pending edge (R171, R176). -/
def Meas.touch (m : Meas) (used : Bool) (t : Nat) : Meas :=
  match m.pa with
  | some a =>
    if used = true ∧ a.time ≤ t then { m with pa := some { a with lost := some (match a.lost with | some l => min l t | none => t) } } else m
  | none => m

/-! ### Tally edges (R189–R194, R201) -/

/-- Sign of an edge of chan_a, 0 where it is not counted (R189). -/
def signOf (dir : Nat) (d : List Word) (state : Int) (code : Nat) : Int :=
  let a := inMask (dCodesA d) code
  match dir with
  | 0 => if a then 1 else 0
  | 1 => if a then -1 else 0
  | 2 => if a then 1 else if inMask (dCodesB d) code then -1 else 0
  | _ => if a then state else 0

/-- Signed 64-bit numbers that stick (R193). -/
def stick (x : Int) : Int := max (-(2 ^ 63)) (min (2 ^ 63 - 1) x)

/-- Whether a tally takes an edge: one that it counts, or one that sets the direction state (R189, R192). -/
def State.tallyTakes (s : State) (m : Meas) (e : MEv) : Bool :=
  let d := m.desc
  let dir := s.tlyDir d
  (e.chan == dChanA d && signOf dir d 1 e.code != 0) || (dir == 3 && e.chan == dChanB d && inMask (dCodesB d) e.code)

/-- An edge, or lost edges of one code, of a tally (R189–R194, R201). A LATE edge of chan_b sets the direction state unless a later one of that
channel has. -/
def State.feedTally (s : State) (m : Meas) (e : MEv) : Meas :=
  let d := m.desc
  let y := m.tly
  let dir := s.tlyDir d
  let k := if e.lost = 0 then 1 else e.lost
  let onA := e.chan == dChanA d
  let sg := if onA then signOf dir d y.dir e.code else 0
  let ln := b2n e.lower
  let y1 : TallySt := if onA then { y with laneCnt := Tab.set 0 y.laneCnt ln (Tab.get 0 y.laneCnt ln + k) } else y
  let y2 : TallySt :=
    if sg = 0 then y1
    else
      let n := stick (y1.nk + sg * k)
      let t := { y1 with nk := n, satd := y1.satd || decide (n ≠ y1.nk + sg * k), pairInit := y1.pairInit || (dir == 3 && y1.dirInit) }
      if e.lost = 0 ∧ e.late = false then { t with prev := t.last, last := some (e.time, sg) } else t
  let y3 : TallySt :=
    if dir == 3 && e.chan == dChanB d && inMask (dCodesB d) e.code && decide (e.code < 6) && decide (y2.dirT ≤ e.time) then
      let v : Int := if isRise e.code then 1 else -1
      { y2 with dir := v, dirInit := false, dirT := e.time, dirMoved := y2.dirMoved || decide (v ≠ y2.dir) }
    else y2
  if s.tallyTakes m e then { m with tly := y3, lost := m.lost + e.lost, xfl := Nat.lor m.xfl e.xfl } else { m with tly := y3 }

/-! ### One event of an open gate -/

/-- What the next gate's t_ref needs (R167): the last timed edge that codes_a selects, and the selected edges lost since. -/
def Meas.noteSel (m : Meas) (e : MEv) : Meas :=
  if e.late = true ∨ e.chan ≠ dChanA m.desc ∨ inMask (dCodesA m.desc) e.code = false then m
  else if e.lost = 0 then { m with lastSel := some (e.time, e.xfl), sinceLost := 0 }
  else { m with sinceLost := m.sinceLost + e.lost }

/-- The function takes a LATE edge (R154). -/
def Meas.noteLate (m : Meas) (took : Bool) : Meas := if took then { m with flags := Nat.lor m.flags 1 } else m

/-- A timed edge, a LATE edge or lost edges of one code, in an open gate: the working state and the measurands (R144, R156). -/
def State.feed (s : State) (m : Meas) (e : MEv) : Meas × List Mv :=
  let d := m.desc
  let f := dFunc d
  let m0 := (m.noteSel e).noteLate (e.late && (if f = 17 then s.tallyTakes m e else e.roles != 0))
  if f = 17 then (s.feedTally m0 e, [])
  else if e.lost ≠ 0 then (m0.lose e, [])
  else if e.roles = 0 then (m0, [])
  else if e.late then
    ({ m0 with n := m0.n + 1, lateN := m0.lateN + b2n e.isA, xfl := if f < 6 ∨ f = 16 then Nat.lor m0.xfl e.xfl else m0.xfl }, [])
  else
    let m1 : Meas := { m0 with n := m0.n + 1, xfl := if f < 5 ∨ f = 16 then Nat.lor m0.xfl e.xfl else m0.xfl }
    match f with
    | 1 => (feedRecip m1 e, [])
    | 2 => (feedRecip m1 e, [])
    | 3 => (feedReg m1 e, [])
    | 4 => (feedReg m1 e, [])
    | 5 => (feedDuty m1 e, [])
    | 13 => s.feedPhase m1 e
    | 15 =>
      if dTfit d then
        let r := m1.regr.add e.time
        ({ m1 with regr := r, fit := m1.fit ++ [(r.idx, e.time, e.xfl)] }, [])
      else feedTie m1 e
    | 16 => (feedRecip m1 e, [])
    | 0 => (m1, [])
    | _ => s.feedPair m1 e

/-! ### Statistics (R178–R180) -/

/-- Whether a measurand may enter statistics (R178). -/
def inRange (x : Int) : Bool := decide (x.natAbs ≤ 2 ^ 39 - 1)

/-- Welford's step and the histogram (R179, R180); `b` bins from `o` of width `w`, none where b is 0. -/
def Stat.add (t : Stat) (x : Int) (o : Int) (w b : Nat) : Stat :=
  let n := t.n + 1
  let d0 := x * 2 ^ 64 - t.acc0
  let a0 := t.acc0 + rdiv d0 n
  let d1 := x * 2 ^ 64 - a0
  let a1 := t.acc1 + (d0 * d1 + 2 ^ 111) / 2 ^ 112
  let i := if w = 0 then 0 else (x - o) / (w : Int)
  let t1 : Stat := { t with n := n, acc0 := a0, acc1 := a1, mn := if n = 1 then x else min t.mn x, mx := if n = 1 then x else max t.mx x }
  if b = 0 then t1
  else if i < 0 then { t1 with below := t.below + 1 }
  else if (b : Int) ≤ i then { t1 with above := t.above + 1 }
  else { t1 with bins := Tab.set 0 t.bins i.toNat (Tab.get 0 t.bins i.toNat + 1) }

/-- A bin or count as the result shows it: it sticks at its maximum (R161). -/
def stuck32 (n : Nat) : Nat := sat (2 ^ 32 - 1) n

/-! ### Packets (R162–R165) -/

/-- W3 of a head record: task, function, gate sequence. -/
def headW3 (d : List Word) (seq : Nat) : Nat := dTask d + dFunc d * 2 ^ 12 + seq % 2 ^ 15 * 2 ^ 17

/-- FLAGS with XF set where xflags is not zero (R154). -/
def withXf (fl xfl : Nat) : Nat := Nat.lor fl (if xfl = 0 then 0 else 128)

/-- The lost count and xflags of a CODE 2 record. -/
def lostW3 (xfl lost : Nat) : Nat := xfl % 128 + 256 * sat (2 ^ 24 - 1) lost

/-- A Pip unit's inputs, in order of time, then edge code, then serial number; equal ones in order of arrival (R305). -/
def pitemInsert (e : PItem) : List PItem → List PItem
  | [] => [e]
  | x :: t =>
    if e.time < x.time ∨ (e.time = x.time ∧ (e.order < x.order ∨ (e.order = x.order ∧ e.serial < x.serial))) then e :: x :: t
    else x :: pitemInsert e t

/-- Whether a configuration uses a condition of one of the kinds with a selection. -/
def PipCfg.names (c : PipCfg) (kinds : List Nat) (sel : Nat) : Bool :=
  ((natsFrom 0 4).zip c.conds).any fun e => natBit c.use e.1 && kinds.contains e.2.kind && e.2.sel == sel

/-- Whether a unit, running or about to, uses such a condition. -/
def Pip.names (u : Pip) (kinds : List Nat) (sel : Nat) : Bool :=
  (match u.cfg with | some c => c.names kinds sel | none => false) ||
    u.cmds.any fun x => match x.cfg with | some c => c.names kinds sel | none => false

/-- Whether an input is a LATE record (R33). -/
def PWhat.isLate : PWhat → Bool
  | .edge _ _ fl => natBit fl 0
  | .gap _ fl _ => natBit fl 4
  | _ => false

/-- A unit takes an input; the tick of one that comes too late is never judged. A LATE record gives no event, and tells the next tick what it has to
tell (R285). -/
def Pip.take (u : Pip) (e : PItem) : Pip :=
  if u.cfg.isSome = true ∧ e.time / 512 < u.j then
    (if e.what.isLate then { u with items := pitemInsert { e with time := u.j * 512 } u.items } else u)
  else { u with items := pitemInsert e u.items }

/-- Every unit that uses such a condition takes the input. -/
def State.pipFeed (s : State) (kinds : List Nat) (sel : Nat) (e : PItem) : State :=
  { s with trg := { s.trg with units := s.trg.units.map fun u => if u.2.names kinds sel then (u.1, u.2.take e) else u } }

/-- An EACH or GATE_RESULT packet of functions 1 to 15 reaches the RESULT conditions, unless it carries NODATA or REJ (R283, R284). -/
def State.resultTap (s : State) (t : Nat) (rs : List Rec) : State :=
  match rs with
  | [] => s
  | h :: _ =>
    let func := natBits h.w3.toNat 12 5
    match rs.find? fun r => r.code == 2 with
    | some v =>
      if h.type = 0x02 ∧ 1 ≤ func ∧ func ≤ 15 ∧ natBit h.flags 6 = false ∧ natBit v.w3.toNat 3 = false then
        s.pipFeed [3] t ⟨s.fullTime h.stampOf, 9, 0, .result t func v.stampOf h.chan⟩
      else s
    | none => s

/-- A task's packet enters its output queue, and reaches the Pip units. -/
def State.taskOut (s : State) (k : Task) (t : Nat) (rs : List Rec) : State :=
  ((s.pushPkt k.outq (prodTask t) .eng rs).1).resultTap t rs

/-- An EACH packet (R163). -/
def State.eachPkt (s : State) (k : Task) (t : Nat) (m : Meas) (v : Mv) (x : Int) (stampT : Nat) : State :=
  let d := m.desc
  let fl := withXf (if s.inHoldover (v.since / 512) (v.time / 512 + 1) then 2 else 0) v.xfl
  s.taskOut k t [mkRec 0x02 (dChanA d) 0 fl (stamp stampT) (headW3 d m.seq),
    mkRec 0x02 (dChanA d) 2 0 (uNat 64 x) (lostW3 v.xfl 0)]

/-- A measurand reaches the outputs (R141, R163, R171, R178). -/
def State.takeMv (s : State) (k : Task) (t : Nat) (m : Meas) (v : Mv) (stampT : Nat) : State × Meas :=
  let d := m.desc
  match v.val with
  | none =>
    let oo := if m.oosIn (s.pairChans d) v.since v.time then 4 else 0
    (s, { m with stat := { m.stat with rej := m.stat.rej + 1 }, xfl := Nat.lor m.xfl 8, flags := Nat.lor m.flags oo })
  | some x =>
    let s1 := if dEach d then s.eachPkt k t m v x stampT else s
    if inRange x then
      (s1, { m with stat := m.stat.add x (dHOrigin d) (dHWidth d) (binsOf d), xfl := Nat.lor m.xfl v.xfl })
    else (s1, { m with stat := { m.stat with rej := m.stat.rej + 1 }, xfl := Nat.lor m.xfl (Nat.lor v.xfl 4) })

/-- The GATE_RESULT packet of a gate function (R162). -/
def gatePkt (m : Meas) (e fl xfl n value : Nat) : List Rec :=
  let d := m.desc
  [mkRec 0x02 (dChanA d) 0 (withXf fl xfl) (stamp e) (headW3 d m.seq), mkRec 0x02 (dChanA d) 1 0 (stamp m.start) (stuck32 n),
   mkRec 0x02 (dChanA d) 2 0 value (lostW3 xfl m.lost)]

/-- The STAT packet (R164). -/
def statPkt (m : Meas) (e fl xfl : Nat) : List Rec :=
  let d := m.desc
  let t := m.stat
  let a := dChanA d
  let mean := if t.n = 0 then 0 else f64OfInt t.acc0 (2 ^ 64)
  let var := if t.n < 2 then 0 else f64OfInt t.acc1 (2 ^ 16 * (t.n - 1))
  let fl := Nat.lor fl (if t.n = 0 then 64 else 0)
  [mkRec 0x0C a 0 (withXf fl xfl) (stamp e) (headW3 d m.seq), mkRec 0x0C a 1 0 (stamp m.start) t.n,
   mkRec 0x0C a 2 0 (uNat 64 t.mn) (lostW3 xfl m.lost), mkRec 0x0C a 3 0 (uNat 64 t.mx) (stuck32 t.rej),
   mkRec 0x0C a 4 0 mean 0, mkRec 0x0C a 5 0 var 0]

/-- The HIST packet (R165). -/
def histPkt (m : Meas) (e fl xfl : Nat) : List Rec :=
  let d := m.desc
  let t := m.stat
  let a := dChanA d
  let b := binsOf d
  let bin := fun (i : Nat) => if i < b then stuck32 (Tab.get 0 t.bins i) else 0
  let full := decide (2 ^ 32 - 1 ≤ t.below) || decide (2 ^ 32 - 1 ≤ t.above) || t.bins.any fun x => decide (2 ^ 32 - 1 ≤ x.2)
  let fl := Nat.lor (Nat.lor fl (if t.n = 0 then 64 else 0)) (if full then 32 else 0)
  [mkRec 0x0D a 0 (withXf fl xfl) (stamp e) (headW3 d m.seq), mkRec 0x0D a 1 0 (stamp m.start) t.n,
   mkRecW 0x0D a 2 0 (stuck32 t.below) (stuck32 t.above) (lostW3 xfl m.lost)] ++
  (natsFrom 0 ((b + 2) / 3)).map fun i => mkRecW 0x0D a 3 0 (bin (3 * i)) (bin (3 * i + 1)) (bin (3 * i + 2))

/-! ### Values of gate functions (R166–R170) -/

/-- Fine units in 1 s (R166). -/
def fuPerSecond : Nat := 320000000000

/-- The reciprocal result as numerator and denominator of f in Hz, where the gate yields one (R167). -/
def Meas.recipRat (m : Meas) : Option (Nat × Nat) :=
  match m.tref, m.tlast with
  | some a, some b => if a < b ∧ 0 < m.nSeg + m.lateN then some ((m.nSeg + m.lateN) * fuPerSecond, b - a) else none
  | _, _ => none

/-- The span used by a gate function (R157). -/
def Meas.spanUsed (m : Meas) (e : Nat) : Option (Nat × Nat) :=
  match dFunc m.desc with
  | 0 => some (m.start, e - 1)
  | 3 => m.regr.first.map fun a => (a, m.regr.lastT)
  | 4 => m.regr.first.map fun a => (a, m.regr.lastT)
  | 5 => m.duty.first.map fun a => (a, m.duty.rise)
  | _ => match m.tref, m.tlast with | some a, some b => some (a, b) | _, _ => none

/-- The value of a gate function as a positive rational with its format, none for NODATA: FREQ and PERIOD functions and DUTY. -/
def Meas.gateRat (m : Meas) : Option (Nat × Nat) :=
  let f := dFunc m.desc
  if f = 5 then
    match m.duty.first with
    | some a => if m.duty.k < 2 ∨ m.duty.bad = true ∨ m.duty.rise ≤ a then none else some (m.duty.sum, m.duty.rise - a)
    | none => none
  else
    let q : Option (Nat × Nat) :=
      if f = 1 ∨ f = 2 ∨ f = 16 then m.recipRat
      else
        let r := m.regr
        let num := r.n * r.sit - r.si * r.st
        let den := r.n * r.sii - r.si * r.si
        if r.n < 2 ∨ num ≤ 0 then none else some ((fuPerSecond * den).toNat, num.toNat)
    if f = 2 ∨ f = 4 then q.map fun x => (x.2, x.1) else q

/-- n of a gate function's result (R162, R167). -/
def Meas.gateN (m : Meas) : Nat :=
  let f := dFunc m.desc
  if f = 0 then m.n else m.nSeg + m.lateN

/-- Flags that a closing gate carries whatever its function (R107, R154). -/
def State.gateFlags (s : State) (m : Meas) (e fl : Nat) : Nat :=
  let hold := if s.inHoldover (m.start / 512) ((e + 511) / 512) then 2 else 0
  let oo := if m.oos.any fun o => decide (o.2.1 < e) && decide (m.start < o.2.2) then 4 else 0
  Nat.lor (Nat.lor (Nat.lor m.flags fl) hold) oo

/-- The result of functions 0 to 5 (R152, R157, R162). -/
def State.closeGateFn (s : State) (k : Task) (t : Nat) (m : Meas) (e fl xfl : Nat) : State :=
  let d := m.desc
  let oo := match m.spanUsed e with | some (a, b) => m.oosIn [dChanA d] a b | none => false
  if dFunc d = 0 then
    let v := if oo then 0 else sat (2 ^ 64 - 1) m.n
    let f2 := if oo then 64 else if 2 ^ 64 - 1 ≤ m.n then 32 else 0
    s.taskOut k t (gatePkt m e (Nat.lor fl f2) xfl m.n v)
  else
    match oo, m.gateRat with
    | false, some (a, b) =>
      let (f, s1) := s.free
      s1.taskOut k t (gatePkt m e fl xfl m.gateN (f64Near1 f a b))
    | _, _ => s.taskOut k t (gatePkt m e (Nat.lor fl (if oo then 68 else 64)) xfl m.gateN 0)

/-- The measurands of a fitted TIE gate (R177). -/
def fitMvs (m : Meas) (e : Nat) : List Mv :=
  let r := m.regr
  let den := r.n * r.sii - r.si * r.si
  let num := r.n * r.sit - r.si * r.st
  match r.first with
  | none => []
  | some f =>
    if r.n < 2 ∨ den ≤ 0 then []
    else
      let bad := m.oosIn [dChanA m.desc] f r.lastT
      m.fit.map fun x =>
        let v := rdiv (((x.2.1 - f : Nat) * den - num * (x.1 : Nat)) * r.n - (r.st * den - num * r.si)) (den * r.n).toNat
        ⟨if bad then none else some v, e, f, x.2.2⟩

/-- The results of a measurand function (R152, R153). -/
def State.closeMeasurand (s : State) (k : Task) (t : Nat) (m : Meas) (e fl xfl : Nat) : State :=
  let d := m.desc
  let mvs := if dFunc d = 15 ∧ dTfit d = true then fitMvs m e else []
  let (s1, m1) := mvs.foldl (fun (a : State × Meas) v => a.1.takeMv k t a.2 v e) (s, { m with flags := fl, xfl := xfl })
  let s2 := if dStat d then s1.taskOut k t (statPkt m1 e m1.flags m1.xfl) else s1
  if dHist d then s2.taskOut k t (histPkt m1 e m1.flags m1.xfl) else s2

/-! ### Overlapping Allan deviation (R181–R184) -/

/-- A finite binary64 value as an integer in units of 2^−1074. -/
def f64Fix (p : Nat) : Int := f64Mant p * (2 ^ (f64Exp p + 1074).toNat : Nat)

/-- Cumulative sums u_0, u_1, … of y values given oldest first (R181). -/
def cumSums (u : Int) : List Int → List Int
  | [] => [u]
  | y :: t => u :: cumSums (u + y) t

/-- Σ (u_{i+2m} − 2·u_{i+m} + u_i)² over the list that starts at u_i, at u_{i+m} and at u_{i+2m}. -/
def sumSq : List Int → List Int → List Int → Int
  | a :: as, b :: bs, c :: cs => (c - 2 * b + a) * (c - 2 * b + a) + sumSq as bs cs
  | _, _, _ => 0

/-- The record of octave j (R182, R184). -/
def State.octave (s : State) (a j : Nat) (u : List Int) (big : Nat) : State × Rec :=
  let m := 2 ^ j
  let terms := big + 1 - 2 * m
  let q := sumSq u (u.drop m) (u.drop (2 * m))
  let (f, s1) := s.free
  (s1, mkRec 0x02 a 3 0 (f64SqrtNear f q.toNat (2 * m * m * terms * 2 ^ 2148)) (j + 32 * sat (2 ^ 27 - 1) terms))

/-- Octave records for j, j + 1, … while M ≥ 2m. -/
def State.octaves (s : State) (a : Nat) (u : List Int) (big : Nat) : Nat → Nat → State × List Rec
  | _, 0 => (s, [])
  | j, n + 1 =>
    if big < 2 * 2 ^ j then (s, [])
    else
      let (s1, r) := s.octave a j u big
      let (s2, rs) := s1.octaves a u big (j + 1) n
      (s2, r :: rs)

/-- The packet of a run (R184). -/
def State.adevPkt (s : State) (k : Task) (t : Nat) (m : Meas) : State :=
  let d := m.desc
  let r := m.adev
  let a := dChanA d
  let big := r.u.length
  if big = 0 then s
  else
    let (s1, os) := s.octaves a (cumSums 0 (r.u.reverse.map f64Fix)) big 0 (dOct d + 1)
    s1.taskOut k t ([mkRec 0x02 a 0 (withXf r.flags r.xfl) (stamp r.stop) (headW3 d r.seq), mkRec 0x02 a 1 0 (stamp r.start) big,
      mkRec 0x02 a 2 0 r.fnom (lostW3 r.xfl r.lost)] ++ os)

/-- y of a gate: (f − f_nom)/f_nom, as binary64 (R181). -/
def yOf (f nom : Nat) : Nat :=
  let n := f64Fix f - f64Fix nom
  let d := f64Fix nom
  f64OfInt (if d < 0 then -n else n) d.natAbs

/-- The run ends: its packet is formed (R183, R184). -/
def State.endRun (s : State) (k : Task) (t : Nat) (m : Meas) : State × Meas := (s.adevPkt k t m, { m with adev := RunSt.init })

/-- A binary64 value within one unit in the last place of a number given in units of 2^−1074; which one, `free` chooses where the number has no
binary64 of its own. -/
def f64NearFix (free : Nat) (x : Int) : Nat :=
  let p := f64OfInt x (2 ^ 1074)
  let c := p + free % 3 - 1
  if f64Fin p = true ∧ f64Fix p ≠ x ∧ f64Fin c = true ∧ f64Neg c = f64Neg p ∧ (f64Fix c - x).natAbs ≤ pow2 (f64Exp p + 1074) then c else p

/-- Entry k of a task's ring of u values takes a value (R183). -/
def State.putU (s : State) (k : Task) (d : List Word) (i : Nat) (x : Int) : State :=
  let (f, s1) := s.free
  { s1 with dram := Memory.writeN 0 s1.dram (k.spill.1 + 8 * (i % (2 ^ (dOct d + 1) + 1))) (leBytes 8 (f64NearFix f x)) }

/-- A gate of ADEV closes (R181–R184). -/
def State.closeAdev (s : State) (k : Task) (t : Nat) (m : Meas) (e fl xfl : Nat) : State × Meas :=
  let d := m.desc
  let oo := match m.spanUsed e with | some (a, b) => m.oosIn [dChanA d] a b | none => false
  let full := decide (e = m.start + dGateLen d)
  let (s1, m1) := if ! m.contig then s.endRun k t m else (s, m)
  match (if oo || ! full then none else m.gateRat) with
  | none => s1.endRun k t m1
  | some (n, q) =>
    let (fr, s2) := s1.free
    let f := f64Near1 fr n q
    let r := m1.adev
    let nom := if r.u.isEmpty then (if dParam d = 0 then f else dParam d) else r.fnom
    let (fy, s3) := s2.free
    let y := if f64Fin nom = true ∧ f64Mant nom ≠ 0 then yOf f nom else fy
    let s4 := (if r.u.isEmpty then s3.putU k d 0 0 else s3).putU k d (r.u.length + 1) (r.sum + f64Fix y)
    let r1 : RunSt :=
      { u := y :: r.u, sum := r.sum + f64Fix y, fnom := nom, start := if r.u.isEmpty then m.start else r.start, stop := e, seq := m.seq,
        flags := Nat.lor r.flags fl, xfl := Nat.lor r.xfl xfl, lost := r.lost + m.lost }
    let m2 := { m1 with adev := r1 }
    if dRpt d ≠ 0 ∧ r1.u.length % dRpt d = 0 then (s4.adevPkt k t m2, m2) else (s4, m2)

/-! ### Tally gates (R193–R203) -/

/-- Marker counts by lane: a port's two 16-bit counts, or a remote channel's 32-bit count (R200). -/
def markLane (a w3 ln : Nat) : Nat := if isPortChan a then natBits w3 (16 * ln) 16 else w3
def markMod (a : Nat) : Nat := if isPortChan a then 2 ^ 16 else 2 ^ 32
def lanesOf (a : Nat) : List Nat := if isPortChan a then [0, 1] else [0]

/-- Codes of a lane: rising and falling. -/
def laneCodes (a ln : Nat) : Nat × Nat := if isPortChan a then (2 * ln, 2 * ln + 1) else (4, 5)

/-- Key of a lane's last transition in `Meas.dirs`; above 2^14, the remote codes seen of a channel (1 rising, 2 falling). -/
def dirKey (chan : Nat) (lower : Bool) : Nat := 2 * chan + b2n lower
def kindKey (chan : Nat) : Nat := 2 ^ 14 + chan

/-- Direction of a lane before `n` lost transitions, counted backwards from the first one after them: 1 rose, 2 fell, 0 none (R156). -/
def beforeLost (n next : Nat) : Nat := if next = 0 then 0 else if n % 2 = 1 then next else 3 - next

/-- Rising and falling edges among L lost after a transition: 1 it rose, otherwise it fell or is unknown (R156). -/
def splitLost (after n : Nat) : Nat × Nat := if after = 1 then (n / 2, n - n / 2) else (n - n / 2, n / 2)

/-- Whether the lane is prescaled: its edges are code 6 (R68). -/
def State.lanePsc (s : State) (chan ln : Nat) : Bool := isPortChan chan && decide (2 ≤ (s.port chan).set.pscN (ln == 1))

/-- The codes of n edges of a lane with their numbers (R156). The kinds that a remote channel reports are those seen and those that its board is
made for (assumption log 130). -/
def State.splitLane (s : State) (m : Meas) (chan ln after n : Nat) : List (Nat × Nat) :=
  let c := laneCodes chan ln
  let kinds := Nat.lor (Tab.get 0 m.dirs (kindKey chan)) (Config.remoteKinds chan % 3 + 1)
  if s.lanePsc chan ln then [(6, n)]
  else if isRemChan chan && kinds == 1 then [(4, n)]
  else if isRemChan chan && kinds == 2 then [(5, n)]
  else let p := splitLost after n; [(c.1, p.1), (c.2, p.2)]

/-- The signed sum of n edges of a lane. -/
def State.signedSplit (s : State) (m : Meas) (ln after n : Nat) (state : Int) : Int :=
  let d := m.desc
  (s.splitLane m (dChanA d) ln after n).foldl (fun x c => x + signOf (s.tlyDir d) d state c.1 * c.2) 0

/-- The audit of one lane at the closing marker (R201, R202). Edges that it adds under the initial direction state set PAIR_INIT (R192), and a
count that sticks sets COUNT_SAT (R193). -/
def State.auditLane (s : State) (t : Nat) (m : Meas) (before after ln : Nat) : State × Meas :=
  let d := m.desc
  let a := dChanA d
  let sl := slotOf a
  let md := markMod a
  let x := (markLane a after ln + 2 * md - markLane a before ln - Tab.get 0 m.tly.laneCnt ln % md) % md
  if x = 0 then (s, m)
  else if x < md / 2 ∧ ¬ (s.tlyDir d = 3 ∧ m.tly.dirMoved = true) then
    let aft := Tab.get 0 m.dirs (dirKey a (ln == 1))
    let add := s.signedSplit m ln aft x m.tly.dir
    let n := stick (m.tly.nk + add)
    let s1 := (s.incFd F.TLY_AUD_fixed sl).addSat F.TLY_AUDIT_CNT 1
    let under := s.tlyDir d == 3 && m.tly.dirInit && (s.splitLane m a ln aft x).any fun c => inMask (dCodesA d) c.1 && c.2 != 0
    (s1, { m with tly := { m.tly with nk := n, audited := true, satd := m.tly.satd || decide (n ≠ m.tly.nk + add),
                                      pairInit := m.tly.pairInit || under } })
  else
    let s1 := (s.latchSlots [sl] .audit).incFd F.TLY_AUD_unfixed sl
    (s1.raise 0x0E4 (unitOf 7 t) sl, m)

/-- The audit at a gate's closing marker: its state, and whether it corrected (R200–R202, R421). The counts restart, unless the
marker was lost, in which case the next gate is audited with this one. -/
def State.auditGate (s : State) (t : Nat) (m : Meas) (now : Tab (Option Nat)) : State × Meas × Bool :=
  let y := m.tly
  let subA := dChanA m.desc
  let before := Tab.get none y.marks subA
  match before, Tab.get none now subA with
  | some b, some w =>
    let m0 := { m with tly := { y with audited := false } }
    let (s1, m1) :=
      if s.bit F.TLY_CTL_audit_en then
        (lanesOf (dChanA m.desc)).foldl (fun (p : State × Meas) ln => p.1.auditLane t p.2 b w ln) (s, m0)
      else (s, m0)
    (s1, { m1 with tly := { m1.tly with laneCnt := [], marks := now } }, m1.tly.audited)
  | none, some _ => (s, { m with tly := { y with laneCnt := [], marks := now } }, false)
  | _, none => (s, m, false)

/-- Bridged edges of a tally's first gate after a cut (R203) or after boot (R216). -/
def State.bridgeTally (s : State) (m : Meas) : State × Meas :=
  let d := m.desc
  let y := m.tly
  if ! y.due then (s, m)
  else
    let bMoved := decide (Tab.get 0 y.carry 2 ≠ 0)
    let st : Int := if s.tlyDir d = 3 ∧ bMoved = true then (if s.bit F.TLY_CFG_dir0 (slotOf (dChanA d)) then -1 else 1) else y.cutDir
    let aft := fun (ln : Nat) => if Tab.get 0 y.cut ln = 0 then Tab.get 0 y.firsts ln else Tab.get 0 y.cut ln
    let n := (lanesOf (dChanA d)).foldl (fun (x : Int) ln => x + s.signedSplit m ln (aft ln) (Tab.get 0 y.carry ln) st) 0
    let some0 := (lanesOf (dChanA d)).any fun ln => decide (Tab.get 0 y.carry ln ≠ 0)
    let guess := (lanesOf (dChanA d)).any fun ln =>
      decide (Tab.get 0 y.carry ln % 2 = 1) && decide (aft ln = 0) &&
      decide (s.signedSplit m ln 0 1 st ≠ s.signedSplit m ln 1 1 st)
    let s1 := if (s.tlyDir d == 3 && bMoved) || guess then s.latchSlots [slotOf (dChanA d)] .bridge else s
    (s1, { m with tly := { y with due := false, carry := [], bridged := n, bridge := some0 } })

/-- The fraction of R196 in units of 2^−31, and its tflags. -/
def tallyFrac (y : TallySt) (e : Nat) : Int × Nat :=
  match y.last, y.prev with
  | some l, some p =>
    if l.2 ≠ p.2 ∨ l.1 = p.1 then (0, 16)
    else
      let v := rdiv ((e - l.1 : Nat) * 2 ^ 31) (l.1 - p.1)
      if 0x7FFFFFFF < v then (l.2 * 0x7FFFFFFF, 32) else (l.2 * v, 0)
  | _, _ => (0, 16)

/-- The TALLY packet of a gate and the slot's registers (R193, R196–R199). -/
def State.closeTally (s : State) (k : Task) (t : Nat) (m : Meas) (e fl xfl : Nat) (aud : Bool) : State × Meas :=
  let d := m.desc
  let a := dChanA d
  let sl := slotOf a
  let (s0, m0) := s.bridgeTally m
  let y := m0.tly
  let raw := s0.nTotal sl + y.nk + y.bridged
  let tot := stick raw
  let satd := y.satd || decide (tot ≠ raw) || decide (tot = 2 ^ 63 - 1) || decide (tot = -(2 ^ 63))
  let (f, ff) := tallyFrac y e
  let q := s0.quantum sl
  let num : Int := (q : Int) * (y.nk * 2 ^ 31 + f - y.fPrev)
  let ch := f64OfInt num (2 ^ 31 * 10 ^ 18)
  let tf := b2n (s0.bit F.TLY_FLG_inexact sl) + 2 * b2n y.chain + 4 * b2n aud + 8 * b2n y.bridge + ff + 64 * b2n y.pairInit
  let br := max (-(2 ^ 31)) (min (2 ^ 31 - 1) y.bridged)
  let fl1 := withXf (Nat.lor fl (if satd then 32 else 0)) xfl
  let s1 := s0.taskOut k t
    [mkRec 0x0B a 0 fl1 (stamp e) (headW3 d m.seq), mkRec 0x0B a 1 tf (stamp m.start) (uNat 32 f),
     mkRec 0x0B a 2 tf (uNat 64 y.nk) (lostW3 xfl m.lost), mkRec 0x0B a 3 tf (uNat 64 tot) (uNat 32 br),
     mkRec 0x0B a 4 tf ch (uNat 32 y.fPrev)]
  let s2 := ((s1.setNTotal sl tot).setRg .TLY_FRAC (w32 (uNat 32 f)) sl).setFd F.TLY_FLG_tflags tf sl
  let s3 := if satd then s2.raise 0x005 0 (0x8000 + sl) else s2
  (s3, { m0 with tly := { y with nk := 0, fPrev := f, chain := false, bridged := 0, bridge := false, pairInit := false,
                                 dirMoved := false, satd := false } })

/-! ### A gate opens and closes -/

/-- A gate opens (R147, R148, R167, R171, R177, R179). -/
def State.openGate (s : State) (m : Meas) (e nextX : Nat) (chain : Bool) : Meas :=
  let contig := m.lastEnd == some e
  let f := dFunc m.desc
  let keep := contig && ! chain
  let t0 := if contig = true ∧ ¬ (f = 15 ∧ dReref m.desc = true) then m.t0 else none
  let y : TallySt :=
    if chain || ! contig || m.tly.chain then
      { m.tly with last := none, prev := none, fPrev := 0, chain := true, dirInit := true, dirT := 0, dirMoved := false, pairInit := false,
                   nk := 0,
                   dir := if s.bit F.TLY_CFG_dir0 (slotOf (dChanA m.desc)) then -1 else 1 }
    else m.tly
  { m with isOpen := true, start := e, contig := contig, flags := 0, xfl := nextX, lost := 0, n := 0, satd := false,
           tref := if keep then m.tref else none, trefX := if keep then m.trefX else 0, lastSel := none, sinceLost := 0, tlast := none, nSeg := 0,
           pend := if keep ∧ m.tref.isSome = true ∧ (f = 1 ∨ f = 2 ∨ f = 16) then m.pend else 0, lateN := 0, regr := Regr.init,
           duty := DutySt.init, pa := if contig then m.pa else none, pb := if contig then m.pb else none,
           pbLast := if contig then m.pbLast else none, t0 := t0,
           fit := [], stat := Stat.init, tly := y }

/-- A gate closes: its results, in the order of R153, and the working state between gates. `now` holds the marker counts of the
boundary by channel. -/
def State.closeGate (s : State) (k : Task) (t : Nat) (m : Meas) (e fl xfl : Nat) (now : Tab (Option Nat)) : State × Meas :=
  let f := dFunc m.desc
  let (sa, ma, aud) := if f = 17 then s.auditGate t m now else (s, m, false)
  let fl1 := sa.gateFlags ma e fl
  let xf1 := Nat.lor ma.xfl xfl
  let (s1, m1) : State × Meas :=
    if f < 6 then (sa.closeGateFn k t ma e fl1 xf1, ma)
    else if f = 16 then sa.closeAdev k t ma e fl1 xf1
    else if f = 17 then sa.closeTally k t ma e fl1 xf1 aud
    else (sa.closeMeasurand k t ma e fl1 xf1, ma)
  let far := fun (o : Option Nat) => match o with | some a => min a m1.start | none => m1.start
  let keepFrom := min (far (m1.pa.map fun a => a.time)) (far m1.tPrev)
  (s1, { m1 with isOpen := false, lastEnd := some e, seq := (m1.seq + 1) % 2 ^ 15, tref := m1.lastSel.map fun x => x.1,
                 trefX := (match m1.lastSel with | some x => x.2 | none => 0), pend := m1.sinceLost,
                 oos := m1.oos.filter fun o => decide (keepFrom < o.2.2) })

end Sys2Proof.Machine
end

