-- ==== Sys2Proof/Machine/Gates.lean ====
section
/-! DEFINITION. Gates and the path from the router to a function (R30, R31, R142–R160, R418–R421, R426): boundaries, markers and gate
notices, the event input port, and the release of the next record in task order. -/

namespace Sys2Proof.Machine

/-! ### Horizons (R30) -/

/-- The horizon of a task as a full time: that of its channels, held back by its Pip unit while that unit runs. -/
def State.taskHor (s : State) (d : List Word) : Nat :=
  let h := (if s.isRemoteTask d then s.hR else s.hD) * 512
  if dGsrc d = 3 ∧ s.fd F.TRG_STS_state (dPip d) = 1 then min h (s.fullTime (s.pair .TRG_J_LO .TRG_J_HI (dPip d))) else h

/-! ### Hardware counts in markers (R200) -/

/-- Events that a counter has counted with times at or above a boundary. -/
def State.countedFrom (s : State) (key t : Nat) : Nat :=
  sumNat (((Tab.get [] s.eng.counted key).filter fun c => decide (t ≤ c.1)).map fun c => c.2)

/-- W3 of a boundary marker of a channel. -/
def State.markW3 (s : State) (c t : Nat) : Nat :=
  if isPortChan c then
    let u := s.pair .PRT_CNTU_LO .PRT_CNTU_HI c - s.countedFrom (2 * c) t
    let l := s.pair .PRT_CNTL_LO .PRT_CNTL_HI c - s.countedFrom (2 * c + 1) t
    u % 2 ^ 16 + l % 2 ^ 16 * 2 ^ 16
  else if isSvcChan c then (s.pair .TB_SVC_CNT_LO .TB_SVC_CNT_HI (c - 0x60) - s.countedFrom (192 + (c - 0x60)) t) % 2 ^ 32
  else (s.pair .LNK_CNT_LO .LNK_CNT_HI (chanLink c) (chanIdx c) - s.countedFrom (0x1000 + (c - 0x100)) t) % 2 ^ 32

/-! ### The next gate event (R145–R151, R158–R160) -/

/-- A gate event: what happens at `time`, and the gates after it. -/
structure GStep where
  time : Nat
  closes : Bool
  opens : Bool
  flags : Nat
  xfl : Nat
  nextX : Nat
  gates : GateSt
  desc : List Word
  tag : Nat
  stop : Bool
  bridge : Bool
  tly : Option (Nat × Nat)
deriving DecidableEq, Repr

/-- The gates after an event that closes and opens as said at time `t`. -/
def GateSt.after (g : GateSt) (d : List Word) (t : Nat) (closes opens : Bool) : GateSt :=
  let ph : GatePhase := if opens then .opened else if dGsrc d = 1 ∧ dArmEn d = true then .idle else .armed
  { g with phase := ph, start := if opens then t else g.start, last := if closes then some t else g.last,
           seq := if closes then (g.seq + 1) % 2 ^ 15 else g.seq, defs := g.defs.filter fun e => decide (t < e.1),
           bounds := g.bounds.filter fun b => decide (t < b), chain := g.chain && ! opens }

/-- A plain boundary of a contiguous source at `t`. -/
def plainStep (d : List Word) (g : GateSt) (t : Nat) : GStep :=
  { time := t, closes := g.phase == .opened, opens := true, flags := 0, xfl := 0, nextX := g.nextX,
    gates := { g.after d t (g.phase == .opened) true with nextX := 0 }, desc := [], tag := 0, stop := false, bridge := false, tly := none }

/-- First boundary of a TIME grid at or after `t` (R145). -/
def gridFrom (orig len t : Nat) : Nat :=
  let r : Int := ((t : Int) - (orig : Int)) % (len : Int)
  if r = 0 then t else t + len - r.toNat

/-- One instant of an EDGE task: stop, then arm, then start edges (R150, R151). -/
def edgeStep (d : List Word) (g : GateSt) (t m : Nat) : GStep :=
  let base : GatePhase := if dArmEn d then .idle else .armed
  let later := decide (g.start < t)
  let stop := natBit m 0
  let arm := natBit m 1
  let start := natBit m 2
  let closes := g.phase == .opened && later && (if dCont d then start else stop)
  let p1 := if closes then (if dCont d then .armed else base) else g.phase
  let p2 := if p1 == .idle && arm then .armed else p1
  let opens := p2 == .armed && start
  let g1 := g.after d t closes opens
  { time := t, closes := closes, opens := opens, flags := 0, xfl := 0, nextX := g.nextX,
    gates := { g1 with phase := if opens then .opened else p2, nextX := if opens then 0 else g.nextX }, desc := [], tag := 0,
    stop := false, bridge := false, tly := none }

/-- What an edge, named as 8 × CHAN + code, is to a task of gate source EDGE (R150): 1 stop, 2 arm, 4 start, summed. -/
def defMask (d : List Word) (x : Nat) : Nat :=
  let sel := fun (ch codes : Nat) => ch == x / 8 && inMask codes (x % 8)
  b2n (! dCont d && sel (dStopChan d) (dStopCodes d)) + 2 * b2n (dArmEn d && sel (dArmChan d) (dArmCodes d)) +
    4 * b2n (sel (dStartChan d) (dStartCodes d))

/-- Whether an edge is a SYNC boundary of a task (R145). -/
def isSync (d : List Word) (x : Nat) : Bool := x / 8 == 0x60 && inMask (dStartCodes d) (x % 8)

/-- The mask of all gate-defining edges at one time. -/
def maskAt (d : List Word) (defs : List (Nat × Nat)) (t : Nat) : Nat :=
  defs.foldl (fun m e => if e.1 = t then Nat.lor m (defMask d e.2) else m) 0

/-- The cut of an EDGE gate at start + glen (R150, R160); edges at that time come after it. -/
def glenCut (d : List Word) (g : GateSt) (t : Nat) : GStep :=
  { time := t, closes := true, opens := false, flags := 16, xfl := 0, nextX := 0,
    gates := { g.after d t true false with defs := g.defs.filter fun e => decide (t ≤ e.1) }, desc := [], tag := 0, stop := false,
    bridge := false, tly := none }

/-- The next event of an EDGE task that its horizon `h` shows (R30, R148, R150): edges before the start point and edges that cause nothing are
passed over. At the horizon itself a gate closes, and what else its time brings waits until the horizon has passed it. -/
def edgeNext (d : List Word) (h : Nat) : Nat → GateSt → Option GStep
  | 0, _ => none
  | n + 1, g =>
    let lim := g.start + dGlen d * 512
    let cut := g.phase == .opened && decide (dGlen d ≠ 0 ∧ lim ≤ h)
    match g.defs with
    | [] => if cut then some (glenCut d g lim) else none
    | e :: rest =>
      let x := edgeStep d g e.1 (maskAt d g.defs e.1)
      if e.1 < g.start0 then edgeNext d h n { g with defs := rest }
      else if cut = true ∧ (lim < e.1 ∨ (lim = e.1 ∧ x.closes = false)) then some (glenCut d g lim)
      else if h < e.1 then none
      else if h = e.1 then
        (if ! x.closes then none
         else if dCont d then some x
         else some { x with opens := false,
                            gates := { g.after d h true false with defs := g.defs.filter fun b => decide (h ≤ b.1) } })
      else if x.closes || x.opens then some x
      else edgeNext d h n x.gates

/-- The next boundary of a task by its gate source, where the horizon `h` has reached it (R30, R145, R150). -/
def naturalStep (d : List Word) (g : GateSt) (h : Nat) : Option GStep :=
  let from0 := if g.phase == .opened then g.start + 1 else g.start0
  let plain := fun (t : Nat) => if t ≤ h then some (plainStep d g t) else none
  match dGsrc d with
  | 0 => plain (gridFrom g.orig (dGateLen d) from0)
  | 1 => edgeNext d h (g.defs.length + 1) g
  | 2 => (((g.defs.filter fun e => isSync d e.2).map fun e => e.1).find? fun t => decide (from0 ≤ t)).bind plain
  | _ => (g.bounds.find? fun t => decide (from0 ≤ t)).bind plain

/-- A descriptor switch at `t` (R159): at one of the task's own boundaries, or as a cut. `orig` is a boundary of the new TIME grid. -/
def switchStep (g : GateSt) (p : Pend) (orig t : Nat) (own : Option GStep) : GStep :=
  let opens := dGsrc p.desc != 1
  let was := g.phase == .opened
  let keep := g.defs.filter fun e => decide (t ≤ e.1)
  let g1 := { g.after p.desc t was opens with orig := orig, defs := keep }
  match own with
  | some x =>
    { x with opens := opens, xfl := if x.closes then 32 else 0, gates := { x.gates.after p.desc t false opens with orig := orig, nextX := 0, defs := keep },
             desc := p.desc, tag := p.tag, tly := p.tly }
  | none =>
    { time := t, closes := was, opens := opens, flags := 16, xfl := 32, nextX := Nat.lor g.nextX 32, gates := { g1 with nextX := 0 },
      desc := p.desc, tag := p.tag, stop := false, bridge := false, tly := p.tly }

/-- The cut of a final checkpoint (R158, R212): the gate that ends at or before it closes as usual. A bridge is due where a gate is open at the
cut, or would begin there (R203). -/
def cutStep (d : List Word) (g : GateSt) (t xfl nextX : Nat) (bridge : Bool) (own : Option GStep) : GStep :=
  let g1 := { g.after d t (g.phase == .opened) false with run := false, chain := true, nextX := nextX, phase := .armed }
  match own with
  | some x => { x with opens := false, bridge := bridge && x.opens,
                       gates := { x.gates with run := false, chain := true, nextX := nextX, phase := .armed } }
  | none =>
    { time := t, closes := g.phase == .opened, opens := false, flags := 16, xfl := xfl, nextX := 0, gates := g1, desc := [], tag := 0,
      stop := false, bridge := bridge && g.phase == .opened, tly := none }

/-- A stop at `t` (R426). -/
def stopStep (d : List Word) (g : GateSt) (t : Nat) (own : Option GStep) : GStep :=
  match own with
  | some x => { x with opens := false, stop := true, gates := { x.gates with run := false } }
  | none =>
    { time := t, closes := g.phase == .opened, opens := false, flags := 16, xfl := 0, nextX := 0,
      gates := { g.after d t (g.phase == .opened) false with run := false }, desc := [], tag := 0, stop := true, bridge := false, tly := none }

/-- The cut that applies to a task: full time, xflags of the gates cut, xflags of the first gate after, and whether tallies
bridge from it. Under a power-fail warning only TALLY tasks close (R212), and nothing is bridged (R45). -/
def State.cutOf (s : State) (d : List Word) : Option (Nat × Nat × Nat × Bool) :=
  match s.dev.cut with
  | none => none
  | some c =>
    match s.dev.trans with
    | .toWatch => some (c * 512, 64, 64, true)
    | .toHalt _ => some (c * 512, 16, 0, true)
    | .powerFail => if dFunc d = 17 then some (c * 512, 16, 0, false) else none
    | .reset => some (c * 512, 0, 0, false)
    | _ => none

/-- The switch that concerns a task next: one that names the gate now ending, or else the earliest that names a time. -/
def nextSwitch (k : Task) (nat : Option GStep) : Option (Nat × Pend) :=
  let byGate := match nat with
    | some x => (k.pend.find? fun (p : Pend) => p.atGate == some k.gates.seq && x.closes).map fun p => (x.time, p)
    | none => none
  match byGate with
  | some r => some r
  | none =>
    (k.pend.filter fun (p : Pend) => p.atGate.isNone).foldl (fun (b : Option (Nat × Pend)) (p : Pend) =>
      match b with
      | some q => if p.time < q.1 then some (p.time, p) else b
      | none => some (p.time, p)) none

/-- The earlier of two events, the first where they coincide. -/
def earlier (a b : Option (Nat × (Option GStep → GStep))) : Option (Nat × (Option GStep → GStep)) :=
  match a, b with
  | some x, some y => if y.1 < x.1 then b else a
  | some _, none => a
  | none, _ => b

/-- The next gate event of a task that its horizon has reached: a stop, a cut, a switch, or a boundary of its gates. -/
def State.nextStep (s : State) (k : Task) : Option GStep :=
  let g := k.gates
  let d := k.desc
  if ! (k.started && g.run) then none
  else
    let h := s.taskHor d
    let nat := naturalStep d g h
    let a := k.stopAt.map fun t => (t, stopStep d g t)
    let b := (s.cutOf d).map fun c => (c.1, cutStep d g c.1 c.2.1 c.2.2.1 c.2.2.2)
    let c := (nextSwitch k nat).map fun p => (p.1, if p.2.desc.isEmpty then stopStep d g p.1 else switchStep g p.2 (s.fullTime (dOrigin p.2.desc)) p.1)
    match earlier a (earlier b c), nat with
    | some e, some x => if x.time < e.1 then some x else if x.time = e.1 then some (e.2 (some x)) else if e.1 ≤ h then some (e.2 none) else none
    | some e, none => if e.1 ≤ h then some (e.2 none) else none
    | none, _ => nat

/-! ### Markers and notices (R31, R200, R359, R421) -/

/-- Key of an entry of the event input port within one time (R143). -/
def PortRec.key (r : PortRec) : Nat × Nat × Nat :=
  match r.recs with
  | x :: _ => (r.rank, (if x.type = 1 then x.code else 8), x.w3.toNat)
  | [] => (r.rank, 9, 0)

/-- Task order (R143). -/
def PortRec.before (a b : PortRec) : Bool :=
  if a.time ≠ b.time then decide (a.time < b.time)
  else if a.key.1 ≠ b.key.1 then decide (a.key.1 < b.key.1)
  else if a.key.2.1 ≠ b.key.2.1 then decide (a.key.2.1 < b.key.2.1)
  else decide (a.key.2.2 < b.key.2.2)

/-- Insert in task order; LATE entries keep their places. -/
def portInsert (r : PortRec) : List PortRec → List PortRec
  | [] => [r]
  | x :: t => if ! x.late && r.before x then r :: x :: t else x :: portInsert r t

/-- A LATE entry that arrived after a boundary which its own subscription has marked, and another not yet, waits for that boundary: it counts in
the gate open at its arrival (R33, R144). -/
def Task.lateWaits (k : Task) (p : PortRec) : Bool :=
  p.late && k.bounds.any fun b => ! b.marks.isEmpty && ! b.marks.contains p.sub

/-- The entries in front that wait so, the first that does not, and the rest. -/
def Task.splitPort (k : Task) : List PortRec → List PortRec × Option PortRec × List PortRec
  | [] => ([], none, [])
  | p :: t =>
    if k.lateWaits p then let x := k.splitPort t; (p :: x.1, x.2.1, x.2.2)
    else ([], some p, t)

/-- Insert a LATE entry: after the markers of its own subscription and earlier LATE entries (R33, R419). -/
def lateInsert (r : PortRec) : List PortRec → List PortRec
  | [] => [r]
  | x :: t =>
    if (x :: t).any fun y => y.late || (y.rank == 0 && y.sub == r.sub) then x :: lateInsert r t else r :: x :: t

/-- An entry reaches the event input port. -/
def Task.take (k : Task) (r : PortRec) : Task := { k with port := if r.late then lateInsert r k.port else portInsert r k.port }

/-- The record of a marker. -/
def State.marker (s : State) (c t : Nat) (start : Bool) : Rec :=
  mkRec 0x01 c 7 (if start then 16 else 0) (stamp t) (s.markW3 c t)

/-- Whether a packet in a queue is of a channel and lies at or above a boundary; LATE records and markers never do. -/
def State.aboveMark (s : State) (c t : Nat) (p : QPkt) : Bool :=
  match p.recs, p.recs.getLast? with
  | h :: _, some e =>
    h.chan == c && ((h.type == 0x01 && h.code != 7 && ! natBit h.flags 0) || (h.type == 0x07 && ! natBit h.flags 4)) &&
      decide (t ≤ s.fullTime e.stampOf)
  | _, _ => false

/-- The marker that ends a queue goes before the channel's records at or above the boundary, and those below it go before the marker (R31). -/
def State.placeMark (s : State) (q c t : Nat) : State :=
  let u := s.queue q
  match u.pkts.getLast? with
  | none => s
  | some m =>
    let l := u.pkts.dropLast
    let low := l.takeWhile fun p => ! s.aboveMark c t p
    let rest := l.dropWhile fun p => ! s.aboveMark c t p
    let mine := fun (p : QPkt) => (match p.recs with | h :: _ => h.chan == c | [] => false) && ! s.aboveMark c t p
    s.setQueue q { u with pkts := low ++ rest.filter mine ++ m :: rest.filter fun p => ! mine p }

/-- The router delivers a boundary: a marker to each subscription queue, in its place, and a gate notice, from which the port forms a marker
that its queue dropped. A marker at or above T_h of a hand-over goes to the hand-over buffer too (R436). -/
def State.deliverMarks (s : State) (t time : Nat) (start : Bool) (subs : List Sub) : State :=
  subs.foldl (fun st u =>
    let r := st.marker u.chan time start
    let n := (st.queue u.queue).pkts.length
    let (st1, dropped) := st.pushPkt u.queue prodRouter .rtr [r]
    let st2 := if dropped then st1.modTask t fun k => k.take ⟨time, 0, u.chan, false, [{ r with w3 := 0 }], 0, true⟩
      else if (st1.queue u.queue).pkts.length = n + 1 then st1.placeMark u.queue u.chan time else st1
    st2.shadowCopy t time [r]) s

/-- Whether a gate event begins a tally's chain (R195): the first gate and the first after a cut, a gate that does not begin where the last one
ended, and a switch that changes the slot, its settings or the codes. -/
def Task.beginsChain (k : Task) (g : GStep) : Bool :=
  let d := if g.desc.isEmpty then k.desc else g.desc
  g.opens && dFunc d == 17 &&
    (k.gates.chain || ! (g.closes || k.gates.last == some g.time) ||
      (! g.desc.isEmpty && (g.tly.isSome || dFunc k.desc != 17 || dChanA k.desc != dChanA d || dCodesA k.desc != dCodesA d ||
        dCodesB k.desc != dCodesB d)))

/-- A gate event takes effect at the router: closing markers to the subscriptions that were there before, and at the start of a tally's chain a
START marker to each (R31, R200). -/
def State.applyStep (s : State) (t : Nat) (k : Task) (g : GStep) : State :=
  let start := k.beginsChain g
  let ends := if g.closes || g.stop then k.subs.filter fun u => decide (u.since < g.time) || u.since == 0 else []
  let begins := if start then k.subs.filter fun u => decide (u.since ≤ g.time) else []
  let b : Bound :=
    { time := g.time, closes := g.closes, opens := g.opens, flags := g.flags, xfl := g.xfl, nextX := g.nextX,
      chain := (g.opens && k.gates.chain) || start, desc := g.desc, tag := g.tag, stop := g.stop, bridge := g.bridge, tly := g.tly,
      marks := distinct ((ends ++ begins).map fun u => u.chan), got := [] }
  let k1 := { k with gates := g.gates, bounds := k.bounds ++ [b],
                     desc := if g.desc.isEmpty then k.desc else g.desc,
                     pend := if g.stop then [] else if g.desc.isEmpty then k.pend else k.pend.filter fun p => p.desc != g.desc || p.tag != g.tag,
                     stopAt := if g.stop then none else k.stopAt }
  ((s.setTask t (some k1)).deliverMarks t g.time false ends).deliverMarks t g.time true begins

/-- Gate events with times up to `lim`, at most `n` of them; `stopAt` ends at the first that satisfies it. -/
def State.runSteps (t lim : Nat) (stopAt : GStep → Bool) : Nat → State → State
  | 0, s => s
  | n + 1, s =>
    match s.task t with
    | none => s
    | some k =>
      match s.nextStep k with
      | some g =>
        if lim < g.time then s
        else
          let s1 := s.applyStep t k g
          if stopAt g then s1 else State.runSteps t lim stopAt n s1
      | none => s

/-! ### The event input port takes records (R418–R420) -/

/-- Whether a task subscribes to a channel through a queue. -/
def Task.subOf (k : Task) (q c : Nat) : Bool := k.subs.any fun u => u.queue == q && u.chan == c

/-- Rank of a channel among equal times (R143). -/
def State.rankOf (s : State) (d : List Word) (c : Nat) : Nat :=
  if c = dChanA d then 1 else if s.usesB d = true ∧ c = dChanB d then 2 else 3

/-- Place of a GAP packet: an OOS span at its start, lost edges at the last of them (R156, R157). -/
def gapPlace (h e : Rec) : Nat := if natBit h.flags 0 then h.stampOf else e.stampOf

/-- Full time at which the epoch of an EPOCH record begins. -/
def State.epochStart (s : State) (r : Rec) : Nat :=
  let e := s.now / 2 ^ 64
  let n := 2 ^ 16 * (e / 2 ^ 16) + r.w3.toNat % 2 ^ 16
  2 ^ 64 * (if e < n then n - 2 ^ 16 else n)

/-- A popped record reaches one task of the engine. An EPOCH record is released in its place to a program (R419); a library function
works with full times and needs none. -/
def State.takeRec (s : State) (k : Task) (q : Nat) (r : Rec) : Task :=
  if r.type = 0x09 ∨ r.type = 0x0A then
    if k.subs.any fun u => u.queue == q then
      { k with dropPart := Tab.set 0 k.dropPart q (Tab.get 0 k.dropPart q + r.w1.toNat + r.w2.toNat) }
    else k
  else if r.type = 0x08 then
    if dFunc k.desc < 18 then k
    else
      match k.subs.find? fun u => u.queue == q with
      | some u => k.take ⟨s.epochStart r, 1, u.chan, false, [r], 0, false⟩
      | none => k
  else if r.type = 0x07 ∧ r.code = 0 then { k with gapPart := (q, r) :: k.gapPart.filter fun g => g.1 != q }
  else
    let chan := r.chan
    if ! k.subOf q chan then k
    else
      let drops := Tab.get 0 k.dropPart q
      let k0 := { k with dropPart := Tab.set 0 k.dropPart q 0 }
      if r.type = 0x07 then
        match k.gapPart.find? (fun g => g.1 == q) with
        | some (_, h) =>
          let t0 := s.fullTime (gapPlace h r)
          { k0 with gapPart := k.gapPart.filter fun g => g.1 != q }.take
            ⟨t0, s.rankOf k.meas.desc chan, chan, natBit h.flags 4, [h, r], drops, false⟩
        | none => k0
      else
        let t0 := s.fullTime r.stampOf
        if r.type = 0x01 ∧ r.code = 7 then
          if k.bounds.any fun b => b.time == t0 && b.marks.contains chan then k0.take ⟨t0, 0, chan, false, [r], drops, false⟩ else k0
        else k0.take ⟨t0, s.rankOf k.meas.desc chan, chan, natBit r.flags 0, [r], drops, false⟩

/-- A record popped from a subscription queue reaches every task that names the queue; the drops of a marker are counted in
ENG_CTXx.drops (R420). -/
def State.portTake (s : State) (q : Nat) (r : Rec) : State :=
  s.placed.foldl (fun st e =>
    if e.2.subs.any fun u => u.queue == q then
      let st1 := if r.type = 0x09 ∨ r.type = 0x0A then
        st.addSat F.ENG_CTX_drops (r.w1.toNat + r.w2.toNat) e.2.eng e.2.ctx else st
      match st1.task e.1 with
      | some k => st1.setTask e.1 (some (st1.takeRec k q r))
      | none => st1
    else st) s

/-- Pop a subscription queue empty, at most `n` records. -/
def State.drainQ (q : Nat) : Nat → State → State
  | 0, s => s
  | n + 1, s =>
    let (s1, p) := s.popOnce q
    if p.valid then State.drainQ q n (s1.portTake q p.record) else s

/-- The port of a task takes what its subscription queues hold. -/
def State.drainTask (s : State) (t : Nat) : State :=
  match s.task t with
  | none => s
  | some k => k.subs.foldl (fun st u => State.drainQ u.queue 70 st) s

/-! ### A library function takes an event -/

/-- A gate cut at an edge (R160): the next gate begins there, and an EDGE gate's maximum length counts from there. -/
def State.cutNative (s : State) (t : Nat) (m : Meas) (time : Nat) : State × Meas :=
  match s.task t with
  | none => (s, m)
  | some k =>
    let (s1, m1) := s.closeGate k t m time 16 0 []
    let s2 := s1.modTask t fun k => { k with gates := { k.gates with
      seq := (k.gates.seq + 1) % 2 ^ 15,
      start := if dGsrc k.desc = 1 ∧ (k.bounds.any fun b => b.closes) = false then max time k.gates.start else k.gates.start } }
    (s2, s2.openGate m1 time 0 false)

/-- One edge or loss in an open gate, with the cuts of R160. -/
def State.takeEv (s : State) (t : Nat) (m : Meas) (e : MEv) : State × Meas :=
  match s.task t with
  | none => (s, m)
  | some k =>
    let timed := e.lost == 0 && ! e.late && e.isA
    let (s0, m0) := if timed && m.atLimit e then s.cutNative t m e.time else (s, m)
    let (m1, vs) := s0.feed m0 e
    let acc := vs.any fun v => match v.val with | some x => inRange x | none => false
    let (s2, m2, vs2) :=
      if acc && decide (2 ^ 32 - 1 ≤ m0.stat.n) then
        let (a, b) := s0.cutNative t m0 e.time
        let (b1, w) := a.feed b e
        (a, b1, w)
      else (s0, m1, vs)
    vs2.foldl (fun (p : State × Meas) v => p.1.takeMv k t p.2 v v.time) (s2, m2)

/-- xflags of an EDGE record: TSUS, THR (R155, R358). -/
def edgeXfl (r : Rec) : Nat := b2n (natBit r.flags 2) + 2 * b2n (natBit r.flags 1)

/-- Whether an EDGE record comes from a lower lane. -/
def recLower (r : Rec) : Bool := r.code == 2 || r.code == 3 || (r.code == 6 && natBit r.flags 3)

/-- The last recorded transition of a lane, and the kinds that a remote channel has shown (R156). -/
def Meas.noteDir (m : Meas) (c code : Nat) (lower : Bool) : Meas :=
  let v := if isRise code then 1 else 2
  let d1 := Tab.set 0 m.dirs (dirKey c lower) v
  { m with dirs := if isRemChan c then Tab.set 0 d1 (kindKey c) (Nat.lor (Tab.get 0 d1 (kindKey c)) v) else d1 }

/-- The first transition of each lane of a tally's chan_a since the cut or the placement (R156, R216). -/
def Meas.noteFirst (m : Meas) (c code : Nat) (lower : Bool) : Meas :=
  if c = dChanA m.desc ∧ Tab.get 0 m.tly.firsts (b2n lower) = 0 then
    { m with tly := { m.tly with firsts := Tab.set 0 m.tly.firsts (b2n lower) (if isRise code then 1 else 2) } }
  else m

/-- An EDGE record. -/
def State.procEdge (s : State) (t : Nat) (m : Meas) (p : PortRec) (r : Rec) : State × Meas :=
  let c := r.chan
  let e : MEv := ⟨p.time, r.code, c, recLower r, s.rolesIn m.desc c r.code, p.late, 0, edgeXfl r⟩
  let (s1, m1) := if m.isOpen then s.takeEv t m e else (s, m)
  if 5 < r.code then (s1, m1)
  else
    let m2 := m1.noteDir c r.code (recLower r)
    (s1, if p.late then m2 else m2.noteFirst c r.code (recLower r))

/-- A loss touches the pairs and sets GAP in the gate that it falls in, on a channel that the descriptor names (R154, R171). -/
def State.touchGate (s : State) (m : Meas) (p : PortRec) (c : Nat) : Meas :=
  if m.isOpen then
    let m1 := m.touch ((s.pairChans m.desc).contains c) p.time
    if (s.namedChans m.desc).contains c then { m1 with flags := Nat.lor m1.flags 8 } else m1
  else m

/-- The lost edges of a GAP packet count by their codes (R156): `parts` in order of time. -/
def State.countLoss (s : State) (t : Nat) (m : Meas) (p : PortRec) (h : Rec) (parts : List (Nat × Nat)) : State × Meas :=
  (parts.filter fun x => x.2 ≠ 0).foldl (fun (a : State × Meas) x =>
    if a.2.isOpen then
      a.1.takeEv t a.2 ⟨p.time, x.1, h.chan, natBit h.flags 2, s.rolesIn m.desc h.chan x.1, p.late, x.2, 0⟩
    else a) (s, m)

/-- Lost edges of a GAP packet, given the last transition of their lane (R156): `after` 1 rose, 2 fell, 0 unknown. -/
def State.procLoss (s : State) (t : Nat) (m : Meas) (p : PortRec) (h : Rec) (after : Nat) : State × Meas :=
  let c := h.chan
  let lower := natBit h.flags 2
  let n := h.w3.toNat
  let parts := if natBit h.flags 3 then [(6, n)] else s.splitLane m c (b2n lower) after n
  let lastRose := if after = 1 then n % 2 == 0 else n % 2 == 1
  let (s1, m1) := s.countLoss t m p h (if lastRose then parts.reverse else parts)
  if natBit h.flags 3 then (s1, m1)
  else (s1, { m1 with dirs := Tab.set 0 m1.dirs (dirKey c lower) (if lastRose then 1 else 2) })

/-- Direction of a lane before `n` lost transitions, by its first recorded one among waiting entries; losses between add to them
(R156): 1 rising, 2 falling, 0 none. -/
def firstDir (c : Nat) (lower : Bool) : Nat → List (PortRec × Nat) → Nat
  | _, [] => 0
  | n, (p, _) :: t =>
    match p.recs with
    | [r] => if r.chan == c && decide (r.code < 6) && recLower r == lower then beforeLost n (if isRise r.code then 1 else 2)
             else firstDir c lower n t
    | h :: _ => firstDir c lower (if h.chan == c && ! natBit h.flags 0 && natBit h.flags 2 == lower then n + h.w3.toNat else n) t
    | [] => firstDir c lower n t

/-- Whether the codes of a lane's lost edges make no difference to the function: both play the same roles. -/
def State.codesAlike (s : State) (d : List Word) (c ln : Nat) : Bool :=
  dFunc d != 17 && s.rolesIn d c (laneCodes c ln).1 == s.rolesIn d c (laneCodes c ln).2 &&
    (c != dChanA d || inMask (dCodesA d) (laneCodes c ln).1 == inMask (dCodesA d) (laneCodes c ln).2)

/-- Take waiting events in order. A loss whose codes are not decided yet waits, unless `final` (R156). It holds back what comes after it only
where the codes may change that: a pairing function sees the loss at once, goes on, and counts it later (R153); `held` are the losses passed
over so. -/
def State.procQ (t : Nat) (final : Bool) : Nat → List (PortRec × Nat) → State → Meas → State × Meas
  | 0, held, s, m => (s, { m with evq := held ++ m.evq })
  | n + 1, held, s, m =>
    match m.evq with
    | [] => (s, { m with evq := held })
    | (p, x) :: rest =>
      let m1 := { m with evq := rest }
      match p.recs with
      | [r] =>
        let (s1, m2) := if r.type = 0x01 then s.procEdge t m1 p r else (s, m1)
        State.procQ t final n held s1 m2
      | [h, e] =>
        let c := h.chan
        let ln := b2n (natBit h.flags 2)
        if natBit h.flags 0 then
          State.procQ t final n held s { m1 with oos := m1.oos ++ [(c, s.fullTime h.stampOf, s.fullTime e.stampOf)] }
        else if h.w3 = 0 then State.procQ t final n held s m1
        else
          let known := Tab.get 0 m.dirs (dirKey c (natBit h.flags 2))
          let m2 := if x = 1 then m1 else s.touchGate m1 p c
          if known ≠ 0 ∨ natBit h.flags 3 = true then
            let (s3, m3) := s.procLoss t m2 p h known
            State.procQ t final n held s3 m3
          else if s.codesAlike m.desc c ln then
            let (s3, m3) := s.countLoss t m2 p h [((laneCodes c ln).1, h.w3.toNat)]
            State.procQ t final n held s3 m3
          else
            let f := firstDir c (natBit h.flags 2) h.w3.toNat rest
            if f ≠ 0 ∨ final = true then
              let (s3, m3) := s.procLoss t m2 p h f
              State.procQ t final n held s3 m3
            else if 6 ≤ dFunc m.desc ∧ dFunc m.desc ≤ 14 then State.procQ t final n (held ++ [(p, 1)]) s m2
            else (s, { m with evq := held ++ (p, x) :: rest })
      | _ => State.procQ t final n held s m1

/-- A switch's SWITCH packet in the task's output queue (R366), in the class of system records (R338). -/
def State.switchPkt (s : State) (k : Task) (t time tag : Nat) (d : List Word) : State :=
  (s.pushPkt k.outq prodSys .sys [mkRec 0x11 (dChanA d) 0 0 (stamp time) (0 + 16 * (t % 8192)), mkRecW 0x11 (dChanA d) 1 0 0 0 (tag % 65536)]).1

/-- Whether a descriptor keeps the function, the channels and the codes of another. -/
def sameWork (d e : List Word) : Bool :=
  dFunc d == dFunc e && dChanA d == dChanA e && dCodesA d == dCodesA e && dChanB d == dChanB e && dCodesB d == dCodesB e

/-- The working state under a new descriptor (R159, R195): kept where the channel, codes and function stay. The last timed selected edge stays a
reference where chan_a and codes_a do (R167). -/
def Meas.switch (m : Meas) (d : List Word) : Meas :=
  if sameWork m.desc d then { m with desc := d }
  else
    let sel := dChanA m.desc == dChanA d && dCodesA m.desc == dCodesA d
    { Meas.init with desc := d, seq := m.seq, lastEnd := m.lastEnd, oos := m.oos, evq := m.evq, dirs := m.dirs,
                     tref := if sel then m.tref else none, trefX := if sel then m.trefX else 0, pend := if sel then m.pend else 0,
                     tly := if dFunc d = 17 ∧ dFunc m.desc = 17 ∧ dChanA m.desc = dChanA d then
                         { m.tly with chain := m.tly.chain || dCodesA m.desc != dCodesA d || dCodesB m.desc != dCodesB d }
                       else TallySt.init }

/-- Subscriptions that neither the descriptor nor a switch still to come names are removed (R159, R187); a tally slot is unbound and bound
anew. -/
def State.rebindTask (s : State) (t : Nat) (old d : List Word) : State :=
  match s.task t with
  | none => s
  | some k =>
    let later := (k.pend.map fun p => p.desc) ++ (k.bounds.map fun b => b.desc)
    let named := s.namedChans d ++ (later.filter fun x => ! x.isEmpty).flatMap s.namedChans
    let gone := k.subs.filter fun u => ! named.contains u.chan
    let s1 := (s.setTask t (some { k with subs := k.subs.filter fun u => named.contains u.chan })).freeSubs gone
    let so := slotOf (dChanA old)
    let sn := slotOf (dChanA d)
    let s2 := if dFunc old = 17 then (s1.setFd F.TLY_FLG_bound 0 so).setFd F.TLY_FLG_task 0 so else s1
    if dFunc d = 17 then (s2.setFd F.TLY_FLG_task t sn).setFd F.TLY_FLG_bound 1 sn else s2

/-- A switch that changes the settings of the bound slot does so at its boundary (R191). -/
def State.retally (s : State) (d : List Word) (tly : Option (Nat × Nat)) : State :=
  match tly with
  | some (c, q) =>
    if dFunc d = 17 then (s.setRg .TLY_CFG (w32 (c % 8)) (slotOf (dChanA d))).setPair .TLY_Q_LO .TLY_Q_HI q (slotOf (dChanA d)) else s
  | none => s

/-- The start marker of a chain gives a tally its marker counts, and the bridged counts where a bridge is due (R200, R203). -/
def TallySt.startMark (y : TallySt) (a : Nat) (chanB : Option Nat) (got : Tab (Option Nat)) : TallySt :=
  let y1 : TallySt :=
    match y.due, Tab.get none y.marks a, Tab.get none got a with
    | true, some b, some w =>
      let md := markMod a
      let c := (lanesOf a).foldl (fun (tb : Tab Nat) ln => Tab.set 0 tb ln ((markLane a w ln + md - markLane a b ln % md) % md)) []
      let moved := match chanB with
        | some i => Tab.get none y.marks i != Tab.get none got i
        | none => false
      { y with carry := Tab.set 0 c 2 (b2n moved) }
    | _, _, _ => y
  { y1 with marks := got, laneCnt := [] }

/-- Bridged edges of a channel's lane (0 upper, 1 lower) that boot recovered (R216). -/
def State.bootCount (s : State) (c ln : Nat) : Nat :=
  if isPortChan c then Tab.get 0 s.ldg.bootLane (2 * c + ln) else if isRemChan c ∧ ln = 0 then Tab.get 0 s.ldg.bootRem (c - 0x100) else 0

/-- The first gate of a tally's first chain after boot takes the bridged edges that boot recovered, with the direction state dir0 (R216). -/
def State.bootCarry (s : State) (d : List Word) (y : TallySt) : State × TallySt :=
  let sl := slotOf (dChanA d)
  if dFunc d ≠ 17 ∨ s.ldg.bootDone.contains sl = true then (s, y)
  else
    let add := fun (tb : Tab Nat) (ln : Nat) => Tab.set 0 tb ln (Tab.get 0 tb ln + s.bootCount (dChanA d) ln)
    let c := (lanesOf (dChanA d)).foldl add y.carry
    let moved := s.usesB d && (lanesOf (dChanB d)).any fun ln => s.bootCount (dChanB d) ln != 0
    let dir : Int := if y.due then y.cutDir else if s.bit F.TLY_CFG_dir0 sl then -1 else 1
    ({ s with ldg := { s.ldg with bootDone := s.ldg.bootDone ++ [sl] } },
      { y with due := true, carry := if moved then Tab.set 0 c 2 1 else c, cutDir := dir, cut := if y.due then y.cut else [] })

/-- Index of the subscription of a channel, as a program sees it (R420). -/
def Task.subIdx (k : Task) (c : Nat) : Nat := (k.subs.takeWhile fun u => u.chan != c).length

/-- Last transitions of the lanes of a channel. -/
def lastDirs (m : Meas) (a : Nat) : Tab Nat :=
  (lanesOf a).foldl (fun (tb : Tab Nat) ln => Tab.set 0 tb ln (Tab.get 0 m.dirs (dirKey a (ln == 1)))) []

/-- A tally's gate was cut: what a bridge will need is kept (R203). -/
def Meas.holdBridge (m : Meas) : Meas :=
  { m with tly := { m.tly with due := true, cutDir := m.tly.dir, cut := lastDirs m (dChanA m.desc), firsts := [] } }

/-- A switch takes effect in the function (R159, R191): a run of ADEV on other edges ends with its packet (R184). -/
def State.takeSwitch (s : State) (k : Task) (t : Nat) (b : Bound) (m : Meas) : State × Meas :=
  if b.desc.isEmpty then (s, m)
  else
    let (s1, m1) := if dFunc m.desc = 16 ∧ sameWork m.desc b.desc = false then s.endRun k t m else (s, m)
    let m2 := m1.switch b.desc
    (((s1.switchPkt k t b.time b.tag b.desc).rebindTask t m.desc b.desc).retally b.desc b.tly,
      if b.tly.isSome then { m2 with tly := { m2.tly with chain := true } } else m2)

/-- A boundary takes effect in the function (R152, R158, R159, R203, R426). -/
def State.applyBound (s : State) (t : Nat) (b : Bound) : State :=
  match s.task t with
  | none => s
  | some k =>
    let m := k.meas
    let native := decide (dFunc m.desc < 18)
    let (s1, m1) : State × Meas :=
      if ! native then (s, { m with seq := if b.closes then (m.seq + 1) % 2 ^ 15 else m.seq })
      else
        let (sa, ma) := State.procQ t true (m.evq.length + 1) [] s m
        if b.closes && ma.isOpen then sa.closeGate k t ma b.time b.flags b.xfl b.got else (sa, ma)
    let m2 : Meas := if b.bridge ∧ dFunc m1.desc = 17 then m1.holdBridge else m1
    let (s3, m3) := s1.takeSwitch k t b m2
    let (s4, m4) : State × Meas :=
      if b.opens && decide (dFunc m3.desc < 18) then
        let (sc, y) : State × TallySt :=
          if b.chain || (dFunc m3.desc == 17 && m3.tly.chain) then
            s3.bootCarry m3.desc (m3.tly.startMark (dChanA m3.desc) (if s3.usesB m3.desc then some (dChanB m3.desc) else none) b.got)
          else (s3, m3.tly)
        (sc, sc.openGate { m3 with tly := y } b.time b.nextX b.chain)
      else (s3, m3)
    let s5 := s4.modTask t fun k => { k with meas := m4 }
    if b.stop then
      if native then
        let s6 := if dFunc m4.desc = 16 then (s5.endRun k t m4).1 else s5
        (s6.dropMovesOf t).freeTask t
      else s5.modTask t fun k => { k with ended := true }
    else s5

/-- Boundaries at the head that wait for no marker take effect, up to time `lim`. -/
def State.takeBounds (t lim : Nat) : Nat → State → State
  | 0, s => s
  | n + 1, s =>
    match s.task t with
    | none => s
    | some k =>
      match k.bounds with
      | b :: rest =>
        if b.marks.isEmpty && decide (b.time ≤ lim) then
          State.takeBounds t lim n ((s.setTask t (some { k with bounds := rest })).applyBound t b)
        else s
      | [] => s

/-- A marker is released: its subscription's count is known, and a boundary whose markers are all released takes effect (R31). -/
def State.releaseMark (s : State) (t : Nat) (p : PortRec) : State :=
  match s.task t with
  | none => s
  | some k =>
    let w : Option Nat := match p.recs with | r :: _ => if p.formed then none else some r.w3.toNat | [] => none
    let upd := fun (b : Bound) =>
      if b.time = p.time then { b with marks := b.marks.filter (· != p.sub), got := Tab.set none b.got p.sub w } else b
    let s1 := s.setTask t (some { k with bounds := k.bounds.map upd })
    State.takeBounds t p.time (k.bounds.length + 1) s1

/-! ### EVENT_RELEASE (R419, R420) -/

/-- Whether an entry may be released: nothing that precedes it can still arrive (R143, R419). -/
def PortRec.ready (p : PortRec) (h : Nat) : Bool := p.late || (if p.rank = 0 then decide (p.time ≤ h) else decide (p.time < h))

/-- The port of a task takes its queues' records and the gate events up to its first entry; then that entry, if it may be
released. From T_h of a hand-over on, nothing but LATE entries is (R204, R436). -/
def State.nextEntry (s : State) (t : Nat) : State × Option PortRec :=
  let s1 := s.drainTask t
  match s1.task t with
  | none => (s1, none)
  | some k =>
    let lim := match (k.splitPort k.port).2.1 with | some p => if p.late then 0 else p.time | none => 0
    let s2 := (State.runSteps t lim (fun _ => false) (k.gates.defs.length + k.port.length + 4) s1).drainTask t
    match s2.task t with
    | none => (s2, none)
    | some k2 =>
      match k2.splitPort k2.port with
      | (pre, some p, rest) =>
        let held := match s2.heldFrom t with | some th => ! p.late && decide (th ≤ p.time) | none => false
        if p.ready (s2.taskHor k2.desc) && ! held then (s2.setTask t (some { k2 with port := pre ++ rest }), some p) else (s2, none)
      | _ => (s2, none)

/-- Role bits of a released record (R420). -/
def State.roleBits (s : State) (d : List Word) (p : PortRec) (r : Rec) : Nat :=
  let c := r.chan
  let x := r.code
  if r.type ≠ 0x01 then 128 * b2n (decide (p.drops ≠ 0))
  else if x = 7 then 32 + 64 * b2n p.formed + 128 * b2n (decide (p.drops ≠ 0))
  else
    b2n (c == dChanA d && inMask (dCodesA d) x) + 2 * b2n (s.usesB d && c == dChanB d && inMask (dCodesB d) x) +
    4 * b2n (dGsrc d == 1 && dArmEn d && c == dArmChan d && inMask (dArmCodes d) x) +
    8 * b2n ((dGsrc d == 1 && c == dStartChan d || dGsrc d == 2 && c == 0x60) && inMask (dStartCodes d) x) +
    16 * b2n (dGsrc d == 1 && ! dCont d && c == dStopChan d && inMask (dStopCodes d) x) + 128 * b2n (decide (p.drops ≠ 0))

/-- The event registers of a context are loaded, and it is no longer blocked (R420). -/
def Ctx.load (c : Ctx) (r : Rec) (roles sub drops : Nat) (rest : List (Rec × Nat × Nat)) : Ctx :=
  { c with ev := some ⟨r, roles, sub, drops⟩, rest := rest, blocked := false,
           fl := { c.fl with ev := true, mark := natBit roles 5, sel := decide (roles % 32 ≠ 0) } }

/-- A native function takes a released entry. -/
def State.releaseNative (s : State) (t : Nat) (p : PortRec) : State :=
  if p.rank = 0 then s.releaseMark t p
  else
    let s1 := if p.late then s else State.takeBounds t p.time 8 s
    match s1.task t with
    | none => s1
    | some k =>
      let m := { k.meas with evq := k.meas.evq ++ [(p, 0)] }
      let (s2, m2) := State.procQ t false (m.evq.length + 1) [] s1 m
      s2.modTask t fun k => { k with meas := m2 }

/-- A program's context takes a released entry, or learns that its task must stop (R420, R426). -/
def State.releaseProgram (s : State) (e x t : Nat) : State :=
  let c := s.ctx e x
  match c.rest with
  | (r, roles, sub) :: rest => s.setCtx e x (c.load r roles sub 0 rest)
  | [] =>
    let (s1, o) := s.nextEntry t
    match s1.task t with
    | none => s1
    | some k =>
      match o with
      | some p =>
        match p.recs with
        | r :: more =>
          let s2 := if p.rank = 0 then s1.releaseMark t p else if p.late then s1 else State.takeBounds t p.time 8 s1
          s2.setCtx e x (c.load r (s.roleBits k.desc p r) (k.subIdx p.sub) p.drops (more.map fun y => (y, 0, k.subIdx p.sub)))
        | [] => s1
      | none =>
        if k.ended then
          s1.setCtx e x { c with blocked := false, fl := { c.fl with ev := false, mark := false, sel := false },
                                 stopSeen := some s.time }
        else s1

/-- EVENT_RELEASE. -/
def eventRelease (e x : Nat) (s : State) : State :=
  let c := s.ctx e x
  if ! (c.valid && c.blocked) || c.moving || s.engState e != 0 then s
  else
    match s.task c.task with
    | none => s
    | some k =>
      if k.started = false ∨ s.dev.st ≠ .run ∨ (s.dev.shed = true ∧ dFunc k.meas.desc ≠ 17) then s
      else if dFunc k.meas.desc < 18 then
        match s.nextEntry c.task with
        | (s1, some p) => s1.releaseNative c.task p
        | (s1, none) => s1
      else s.releaseProgram e x c.task

/-! ### Gate commands and events -/

/-- GATE_CLOSE (R30, R31): the next gate end that the task's horizon has reached. -/
def gateClose (t : Nat) (s : State) : State :=
  match s.task t with
  | none => s
  | some k => State.runSteps t (2 ^ 64 + s.now) (fun g => g.closes) (k.gates.defs.length + 4) s

/-- The first pending descriptor switch of a list takes the tally settings that come with it (R191). -/
def setTly (x : Nat × Nat) : List Pend → List Pend
  | [] => []
  | p :: t => if p.desc.isEmpty then p :: setTly x t else { p with tly := some x } :: t

/-- SWITCH_TAKE_EFFECT (R159): gate events up to the switch. `tly` are the TLY_CFG and TLY_Q that a tally's switch changes, where it does (R191;
assumption log 71). -/
def switchTakeEffect (t : Nat) (tly : Option (Nat × Nat)) (s : State) : State :=
  match s.task t with
  | none => s
  | some k => if k.pend.isEmpty then s
    else
      let s1 := match tly with | some x => s.setTask t (some { k with pend := setTly x k.pend }) | none => s
      State.runSteps t (2 ^ 64 + s.now) (fun g => ! g.desc.isEmpty) (k.gates.defs.length + 64) s1

/-- The gates of a task begin at `t` (R148, R150). -/
def GateSt.begin (g : GateSt) (d : List Word) (t orig : Nat) : GateSt :=
  { g with phase := if dGsrc d = 1 ∧ dArmEn d = true then .idle else .armed, run := true, start0 := t, orig := orig,
           defs := g.defs.filter fun e => decide (t ≤ e.1), bounds := g.bounds.filter fun b => decide (t ≤ b) }

/-- TASK_START_POINT (R425): the context begins, and the output stream opens with an EPOCH record (assumption log 22). -/
def taskStartPoint (t : Nat) (s : State) : State :=
  match s.task t with
  | none => s
  | some k =>
    if k.started = true ∨ s.now < k.startAt then s
    else
      let k1 := { k with started := true, gates := k.gates.begin k.desc k.startAt (s.fullTime (dOrigin k.desc)) }
      ((s.setTask t (some k1)).pushPkt k1.outq prodRouter .rtr [s.epochRec]).1

/-- Whether every TALLY task has closed its gate and taken its boundaries (R212). -/
def State.talliesClosed (s : State) : Bool :=
  s.placed.all fun e => dFunc e.2.desc != 17 || (! e.2.gates.run && e.2.bounds.isEmpty && ! e.2.meas.isOpen)

def execEventRelease (eng x : Nat) (s : State) : Host.Outcome State Fault Refusal := .next (eventRelease eng x s)
def execGateClose (task : Nat) (s : State) : Host.Outcome State Fault Refusal := .next (gateClose task s)
def execSwitchTakeEffect (point : SwitchPoint) (s : State) : Host.Outcome State Fault Refusal :=
  .next (switchTakeEffect point.task point.tly s)
def execTaskStartPoint (task : Nat) (s : State) : Host.Outcome State Fault Refusal := .next (taskStartPoint task s)

end Sys2Proof.Machine
end

