-- ==== Sys2Proof/Machine/Decim.lean ====
section
/-! DEFINITION. Signal reconstruction and decimation (R234–R241, R251–R278): the resampler, the chain of stages, settling, output
instants, coefficient banks and cross-fade, SAMPLE packets, and the commands of a context. -/

namespace Sys2Proof.Machine

/-! ### Contexts and configurations -/

/-- One grid interval in fine units. -/
def gridFu : Nat := 32768

/-- First grid boundary at or after a full time: grid boundaries are the multiples of 64 ticks (assumption log 29). -/
def gridCeil (t : Nat) : Nat := (t + gridFu - 1) / gridFu * gridFu

/-- Context `n`. -/
def State.dctx (s : State) (n : Nat) : DecCtx := Tab.get DecCtx.init s.dec.ctxs n
def State.setDec (s : State) (f : Decim → Decim) : State := { s with dec := f s.dec }
def State.setDctx (s : State) (n : Nat) (c : DecCtx) : State :=
  s.setDec fun d => { d with ctxs := Tab.set DecCtx.init d.ctxs n c }

/-- Decimation bank of a context (R234). -/
def decBank (n : Nat) : Nat := n / 1152

/-- The staged copy (R276, R281). -/
def State.staged (s : State) (n : Nat) : DecCfg :=
  { src := s.fd F.DEC_CTX_SRC_src n, kind := s.fd F.DEC_CTX_SRC_kind n, pos := s.fd F.DEC_CTX_SRC_codes_pos n,
    neg := s.fd F.DEC_CTX_SRC_codes_neg n, preset := s.fd F.DEC_CTX_CFG_preset n, fmt := s.bit F.DEC_CTX_CFG_fmt n,
    hb2 := s.bit F.DEC_CTX_CFG_hb2_en n, dcb := s.bit F.DEC_CTX_CFG_dcb_en n, frz := s.bit F.DEC_CTX_CFG_dcb_frz n,
    seed := s.bit F.DEC_CTX_CFG_dcb_seed n, k := s.fd F.DEC_CTX_CFG_dcb_k n, pkt := s.fd F.DEC_CTX_CFG_pkt n,
    p := s.fd F.DEC_CTX_CIC_p n, order := s.fd F.DEC_CTX_CIC_order n, r := s.fd F.DEC_CTX_CIC_r n,
    sh := [s.fd F.DEC_CTX_SHIFT_A_s1 n, s.fd F.DEC_CTX_SHIFT_A_s2 n, s.fd F.DEC_CTX_SHIFT_A_s3 n, s.fd F.DEC_CTX_SHIFT_A_s4 n,
           s.fd F.DEC_CTX_SHIFT_B_s5 n, s.fd F.DEC_CTX_SHIFT_B_s6 n],
    phase := s.fd F.DEC_CTX_PHASE_phase n, bank := s.fd F.DEC_CTX_COEF_bank n, outq := s.fd F.DEC_CTX_OUTQ_queue n }

/-- A preset's values (R263): p, K, R, halfband 2, FIR bank, s2, s5, and s6 for int32. -/
def presetOf : Nat → Option (Nat × Nat × Nat × Bool × Nat × Nat × Nat)
  | 1 => some (0, 4, 8, false, 60, 4, 0)
  | 2 => some (2, 4, 32, true, 61, 14, 23)
  | 3 => some (5, 4, 32, true, 62, 17, 23)
  | 4 => some (6, 5, 1024, true, 63, 48, 23)
  | _ => none

/-- A write of DEC_CTX_CFG.preset loads the preset into the staging registers (R263). -/
def State.loadPreset (s : State) (n : Nat) : State :=
  match presetOf (s.fd F.DEC_CTX_CFG_preset n) with
  | none => s
  | some (p, k, r, hb, bank, s2, s5) =>
    let s1 := (((s.setFd F.DEC_CTX_CIC_p p n).setFd F.DEC_CTX_CIC_order k n).setFd F.DEC_CTX_CIC_r r n).setFd F.DEC_CTX_CFG_hb2_en (b2n hb) n
    let s2' := (((s1.setFd F.DEC_CTX_COEF_bank (decBank n * 64 + bank) n).setFd F.DEC_CTX_SHIFT_A_s1 0 n).setFd F.DEC_CTX_SHIFT_A_s2 s2 n)
    let s3 := (s2'.setFd F.DEC_CTX_SHIFT_A_s3 0 n).setFd F.DEC_CTX_SHIFT_A_s4 23 n
    (s3.setFd F.DEC_CTX_SHIFT_B_s5 s5 n).setFd F.DEC_CTX_SHIFT_B_s6 (if s.bit F.DEC_CTX_CFG_fmt n then 55 else 31) n

/-- Shift `i` of a configuration. -/
def DecCfg.shift (c : DecCfg) (i : Nat) : Nat := nth 0 c.sh i

/-- Whether a context runs: the device in RUN, its bank's domain on, and nothing shed (R221, R250, R580). -/
def State.decLive (s : State) (n : Nat) : Bool := s.dev.st == .run && s.domOn (54 + decBank n) && ! s.dev.shed

/-! ### Coefficient banks (R268) -/

/-- Taps and D_f of the preset banks (R263). -/
def presetBank (l : Nat) : Nat × Nat := nth (0, 0) [(64, 4), (64, 2), (128, 2), (128, 4)] (l - 60)

/-- Whether a bank is a preset bank. -/
def isPresetBank (b : Nat) : Bool := decide (60 ≤ b % 64)

/-- Whether the maker's coefficients of a preset bank are what the manual says of them: half of the symmetric bank sums to half of 2^23. -/
def presetFits (b : Nat) : Bool :=
  (natsFrom 0 ((presetBank b).1 / 2)).foldl (fun (t : Int) j => t + (Config.presetCoef b j).toInt) 0 == 2 ^ 22

/-- A coefficient of a preset bank: symmetric, with sum 2^23 (R263). The maker's values are free among those that fit; in place of values that do
not fit stand two taps of 2^22 (assumption log 28). -/
def presetCoefAt (b i : Nat) : BitVec 24 :=
  let n := (presetBank (b % 64)).1
  let j := min i (n - 1 - i)
  if n ≤ i then 0
  else if presetFits (b % 64) then Config.presetCoef (b % 64) j
  else if j = n / 2 - 1 then 2 ^ 22 else 0

/-- Coefficient `i` of bank `b`. -/
def State.coef (s : State) (b i : Nat) : BitVec 24 :=
  if isPresetBank b then presetCoefAt b i else Tab.get 0 s.dec.coefs (256 * b + i)

/-- The header word of a bank (R280). -/
def State.coefHdr (s : State) (b : Nat) : Word :=
  if isPresetBank b then let p := presetBank (b % 64); w32 (p.1 + p.2 * 2 ^ 16 + 2 ^ 31) else Tab.get 0 s.dec.hdrs b

/-- N, D_f and validity of a bank. -/
def State.bankN (s : State) (b : Nat) : Nat := bitsOf (s.coefHdr b) 0 9
def State.bankDf (s : State) (b : Nat) : Nat := bitsOf (s.coefHdr b) 16 5
def State.bankValid (s : State) (b : Nat) : Bool := natBit (s.coefHdr b).toNat 31

/-- Whether a context holds a bank as current, fade target or waiting request. -/
def State.bankBusy (s : State) (b : Nat) : Bool :=
  s.dec.ctxs.any fun e =>
    e.2.st != 0 && (e.2.cur == b || (match e.2.fade with | some f => f.bank == b | none => false) ||
      (match e.2.req with | some r => r.bank == b | none => false))

/-- An error bit of DEC_COEF_STS (R278). -/
def State.coefErr (s : State) (f : Fld) (b : Nat) : State := (s.setFd f 1).assertOnce (254 + b / 64)

/-- Whether a write to a bank is refused, with its error bit. -/
def State.coefGuard (s : State) (b : Nat) (write : State → State) : State :=
  if isPresetBank b then s.coefErr F.DEC_COEF_STS_ro_err b
  else if s.bankBusy b then s.coefErr F.DEC_COEF_STS_busy_err b
  else write s

/-- An access to DEC_COEF_DATA: a write stores, a read returns, and the index counts on (R268, R279). -/
def decCoefDataAccess (write : Option Word) (s : State) : State :=
  let b := s.fd F.DEC_COEF_ADDR_bank
  let i := s.fd F.DEC_COEF_ADDR_index
  let s1 := match write with
    | some w => s.coefGuard b fun t => t.setDec fun d => { d with coefs := Tab.set 0 d.coefs (256 * b + i) (BitVec.ofNat 24 w.toNat) }
    | none => s
  s1.incFd F.DEC_COEF_ADDR_index

/-- A write to DEC_COEF_HDR: reserved values leave their field as it was (R10); the header is valid once both hold. -/
def decCoefHdrWrite (w : Word) (s : State) : State :=
  let b := s.fd F.DEC_COEF_ADDR_bank
  s.coefGuard b fun t =>
    let old := t.coefHdr b
    let n := if 1 ≤ bitsOf w 0 9 ∧ bitsOf w 0 9 ≤ 256 then bitsOf w 0 9 else bitsOf old 0 9
    let f := if 1 ≤ bitsOf w 16 5 ∧ bitsOf w 16 5 ≤ 16 then bitsOf w 16 5 else bitsOf old 16 5
    let v := if 1 ≤ n ∧ 1 ≤ f then 2 ^ 31 else 0
    t.setDec fun d => { d with hdrs := Tab.set 0 d.hdrs b (w32 (n + f * 2 ^ 16 + v)) }

/-! ### Figures of a chain (R251, R254, R261, R267) -/

def DecCfg.pN (c : DecCfg) : Nat := 2 ^ c.p
/-- h of R251. -/
def DecCfg.h (c : DecCfg) : Nat := if c.hb2 then 2 else 1
/-- Grid intervals of one FIR input. -/
def DecCfg.firIn (c : DecCfg) : Nat := 2 * c.pN * c.r * c.h
/-- D with a bank's D_f. -/
def DecCfg.total (c : DecCfg) (df : Nat) : Nat := c.firIn * df
/-- L with a bank's N (R261). -/
def DecCfg.span (c : DecCfg) (n : Nat) : Nat :=
  1 + (c.pN - 1) + c.pN * c.order * (c.r - 1) + 42 * c.pN * c.r + (c.h - 1) * 84 * c.pN * c.r + (n - 1) * c.firIn

/-- Smallest n with 2^n at or above a number. -/
def clog2 (x : Nat) : Nat := if x ≤ 1 then 0 else Nat.log2 (x - 1) + 1

/-- R254. -/
def DecCfg.growthOk (c : DecCfg) : Bool :=
  decide ((if c.kind = 1 then 32 else 25) + c.p + clog2 (c.r ^ c.order) ≤ 96 + c.shift 0)

/-- The phase delay in fine units (R267). -/
def DecCfg.delay (c : DecCfg) (d : Nat) : Nat :=
  if c.kind = 1 then c.phase * d * 512 else (2 * c.phase * d + 64) / 128 * gridFu

/-- Input cost (R236). -/
def DecCfg.cost (c : DecCfg) : Nat := 1024 / c.pN

/-- The channel of a context's records (R274). -/
def DecCfg.chan (c : DecCfg) : Nat := if c.kind = 1 then c.src else 12 * c.src

/-- D and L of a running context. -/
def State.decD (s : State) (c : DecCtx) : Nat := c.cfg.total (s.bankDf c.cur)
def State.decL (s : State) (c : DecCtx) : Nat := c.cfg.span (s.bankN c.cur)

/-- Contexts of a bank in ARMED or RUN, and their cost (R236, R280). -/
def State.bankCtxs (s : State) (b : Nat) : List (Nat × DecCtx) := s.dec.ctxs.filter fun e => decBank e.1 == b && e.2.st != 0
def State.bankCost (s : State) (b : Nat) : Nat := sumNat ((s.bankCtxs b).map fun e => e.2.cfg.cost)

/-- What a context may come to cost: the dearer of its configuration and of one that waits for its APPLY (assumption log 131). -/
def DecCtx.load (c : DecCtx) : Nat := match c.apply with | some a => max c.cfg.cost a.cfg.cost | none => c.cfg.cost

/-- The cost that a START or APPLY of context `except` finds taken (R236). -/
def State.bankLoad (s : State) (b except : Nat) : Nat :=
  sumNat (((s.bankCtxs b).filter fun e => e.1 != except).map fun e => e.2.load)

/-- ⌈L/D⌉ (R261). -/
def State.decSmax (s : State) (c : DecCtx) : Nat := if s.decD c = 0 then 0 else (s.decL c + s.decD c - 1) / s.decD c

/-- Grid point `i` of a context (R237). -/
def DecCtx.gridPt (c : DecCtx) (i : Nat) : Nat := c.anchor + i * gridFu + c.del % gridFu

/-- Instant of the next output (R265). -/
def State.nextInstant (s : State) (c : DecCtx) : Nat := c.anchor + (c.m + 1) * s.decD c * gridFu + c.del

/-- Whether the grid intervals taken reach the next output's instant. -/
def State.outputDue (s : State) (c : DecCtx) : Bool :=
  c.st == 2 && decide (0 < s.decD c) && decide ((c.m + 1) * s.decD c + c.del / gridFu ≤ c.i)

/-! ### The resampler (R237–R240) -/

/-- Sign of a code. -/
def DecCfg.sign (c : DecCfg) (code : Nat) : Int := if inMask c.pos code then 1 else if inMask c.neg code then -1 else 0

/-- An edge enters its place in time order. -/
def redgeInsert (e : REdge) : List REdge → List REdge
  | [] => [e]
  | x :: t => if e.time < x.time then e :: x :: t else x :: redgeInsert e t

/-- Direction of the lane before `n` lost transitions, by its first one among later edges, LATE ones too; losses between add to them (R156): 1 rose,
2 fell, 0 none. -/
def firstRise (lower : Bool) : Nat → List REdge → Nat
  | _, [] => 0
  | n, e :: t =>
    if e.lost = 0 ∧ e.code < 6 ∧ e.lower = lower then beforeLost n (if isRise e.code then 1 else 2)
    else firstRise lower (if e.lower = lower then n + e.lost else n) t

/-- Output flags last until a time: bit `b` until `u`, for a filter of one tap; a longer one carries it longer (R261). -/
def DecCtx.mark (c : DecCtx) (b u : Nat) : DecCtx := { c with marks := Tab.set 0 c.marks b (max u (Tab.get 0 c.marks b)) }

/-- Until when outputs of a filter of one tap read the grid interval that starts at `g`. -/
def DecCtx.reach (c : DecCtx) (g : Nat) : Nat := g + c.cfg.span 1 * gridFu

/-- Last direction of the lane: 1 rose, 2 fell, 0 none. -/
def DecCtx.dir (c : DecCtx) (lower : Bool) : Nat := (Tab.get (0, 0) c.dirs (b2n lower)).1

/-- A transition of a lane sets its direction, unless a later one has. -/
def DecCtx.noteDir (c : DecCtx) (lower : Bool) (time dir : Nat) : DecCtx :=
  if time < (Tab.get (0, 0) c.dirs (b2n lower)).2 then c else { c with dirs := Tab.set (0, 0) c.dirs (b2n lower) (dir, time) }

/-- Lost edges count in N (R156, R240). -/
def State.takeLost (s : State) (c : DecCtx) (e : REdge) (later : List REdge) : DecCtx :=
  let known := c.dir e.lower
  let after := if known ≠ 0 then known else firstRise e.lower e.lost later
  let parts := if e.code = 6 then [(6, e.lost)] else
    s.splitLane { Meas.init with dirs := Tab.set 0 [] (kindKey c.cfg.src) c.kinds } c.cfg.src (b2n e.lower) after e.lost
  let rose := if after = 1 then e.lost % 2 == 0 else e.lost % 2 == 1
  let c1 := { c with n := parts.foldl (fun (x : Int) q => x + c.cfg.sign q.1 * q.2) c.n }
  if e.code = 6 then c1 else c1.noteDir e.lower e.time (if rose then 1 else 2)

/-- One edge, or one loss, counts in N (R238, R240). `until_` is how long an interval now taken reaches. -/
def State.takeREdge (s : State) (until_ : Nat) (c : DecCtx) (e : REdge) (later : List REdge) : DecCtx :=
  let c1 := if e.late then c.mark 0 until_ else c
  let c2 := if e.tsus then c1.mark 7 until_ else c1
  if e.lost ≠ 0 then s.takeLost (c2.mark 3 until_) e later
  else
    let way := if isRise e.code then 1 else 2
    let c3 := if e.code < 6 then { c2.noteDir e.lower e.time way with kinds := Nat.lor c2.kinds way } else c2
    let sg := c.cfg.sign e.code
    if sg = 0 then c3
    else if e.late then { c3 with n := c3.n + sg }
    else { c3 with n := c3.n + sg, prev := c3.last, last := some (e.time, sg) }

/-- Of the edges that wait, those below a grid point count, LATE ones whatever their time (R240); those from before the chain's start are
discarded; the others wait on. -/
def State.takeFrom (s : State) (g until_ : Nat) : List REdge → DecCtx → DecCtx
  | [], c => c
  | e :: t, c =>
    if e.late = false ∧ g ≤ e.time then
      let c1 := State.takeFrom s g until_ t c
      { c1 with edges := e :: c1.edges }
    else State.takeFrom s g until_ t (if e.late = false ∧ e.time < c.chainFrom then c else s.takeREdge until_ c e t)

/-- Edges below a grid point count. -/
def State.takeUpTo (s : State) (g until_ : Nat) (c : DecCtx) : DecCtx := s.takeFrom g until_ c.edges { c with edges := [] }

/-- C(g) (R238). -/
def DecCtx.countAt (c : DecCtx) (g : Nat) : Int :=
  let f : Int :=
    match c.last, c.prev with
    | some (tl, sl), some (tp, sp) =>
      if sl ≠ sp ∨ tl = tp then 0
      else sl * min (rdiv (((g - tl) * 2 ^ 24 : Nat) : Int) (tl - tp)) (2 ^ 24 - 1)
    | _, _ => 0
  c.n * 2 ^ 24 + f

/-- The count function has no chain: the next grid point starts one. -/
def DecCtx.noCount (c : DecCtx) : DecCtx := { c with n := 0, last := none, prev := none, cPrev := none, excess := 0 }

/-- Whether a grid point lies in a STEP span, or before the chain's start. -/
def DecCtx.noChain (c : DecCtx) (g : Nat) : Bool :=
  decide (g < c.chainFrom) || c.spans.any fun w => w.cause == 1 && decide (w.start < g) && (match w.stop with | none => true | some e => decide (g ≤ e))

/-- C at the last grid point: evaluated where a chain has just started. -/
def State.chainStart (s : State) (c : DecCtx) : DecCtx :=
  match c.cPrev with
  | some _ => c
  | none =>
    let g := c.gridPt c.i
    let c1 := s.takeUpTo g (c.reach g) c
    { c1 with cPrev := some (c1.countAt g) }

/-- Edges up to the next grid point count; those from the grid boundary on are kept, with the directions there: an APPLY at the boundary starts its
count with them (R238, R265). -/
def State.takeInterval (s : State) (c : DecCtx) : DecCtx :=
  let u := c.reach (c.gridPt c.i)
  let g := c.gridPt (c.i + 1)
  let c1 := s.takeUpTo (c.anchor + (c.i + 1) * gridFu) u c
  { s.takeUpTo g u c1 with back := some (c1.edges.filter fun e => e.time < g, c1.dirs) }

/-- The resampler's sample for the next grid interval (R239): the value held at the limits, the excess carried. -/
def State.resample (s : State) (c : DecCtx) : DecCtx × Int :=
  let g := c.gridPt (c.i + 1)
  let c1 := s.takeInterval (s.chainStart c)
  if c1.noChain g then (c1.noCount, 0)
  else
    let v := c1.countAt g
    let x := v - c1.cPrev.getD 0 + c1.excess
    let y := max (-(2 ^ 31)) (min (2 ^ 31 - 1) x)
    let c2 := { c1 with cPrev := some v, excess := x - y }
    (if x = y then c2 else c2.mark 4 (c.reach (c.gridPt c.i)), y)

/-! ### The chain (R251–R259) -/

/-- The halfband's coefficients h_0 to h_21 (R256). -/
def hbCoef : List Int :=
  [297, 0, -2244, 0, 7640, 0, -19438, 0, 41832, 0, -80646, 0, 144521, 0, -248890, 0, 430748, 0, -824335, 0, 2647610, 4194418]

/-- h_i for i from 0 to 42. -/
def hbAt (i : Nat) : Int := nth 0 hbCoef (min i (42 - i))

/-- Wrap to 96 bits (R253). -/
def wrap96 (x : Int) : Int := sInt 96 (uNat 96 x)

/-- A shift that rounds half upward (R259). -/
def shiftUp (x : Int) (s : Nat) : Int := if s = 0 then x else (x + 2 ^ (s - 1)) / ((2 ^ s : Nat) : Int)

/-- Hold a value in `w` bits. -/
def holdBits (w : Nat) (x : Int) : Int := max (-(2 ^ (w - 1))) (min (2 ^ (w - 1) - 1) x)

/-- Integrators in a row: each adds what the one before it now holds. -/
def integrate (x : Int) : List Int → List Int
  | [] => []
  | a :: t => let y := wrap96 (a + x); y :: integrate y t

/-- Last element of a list, or a default. -/
def lastOr (d : Int) : List Int → Int
  | [] => d
  | x :: t => lastOr x t

/-- Combs in a row: their output, and the values they keep. -/
def combs (x : Int) : List Int → List Int × Int
  | [] => ([], x)
  | a :: t => let (l, y) := combs (wrap96 (x - a)) t; (x :: l, y)

/-- Sum of products of two lists. -/
def dot : List Int → List Int → Int
  | a :: s, b :: t => a * b + dot s t
  | _, _ => 0

/-- The halfband's output on a delay line, newest first. -/
def hbOut (d : List Int) : Int := dot ((natsFrom 0 43).map hbAt) d

/-- A value after a stage's shift, held; a value held sets SAT on the outputs that it reaches, `rem` grid intervals on with a filter of one tap. -/
def DecCtx.stage (c : DecCtx) (w sh : Nat) (x : Int) (rem : Nat) : DecCtx × Int :=
  let y := shiftUp x sh
  let z := holdBits w y
  (if y = z then c else c.mark 4 (c.gridPt (c.i + 1) + rem * gridFu), z)

/-- Whether the interval now taken ends a block of `k` intervals, counted so that outputs end blocks. -/
def DecCtx.ends (c : DecCtx) (d k : Nat) : Bool := (c.i + 1 + d - (c.del / gridFu) % (max d 1)) % k == 0

/-- DC block (R255): output and new estimate. -/
def DecCtx.dcBlock (c : DecCtx) (x : Int) : DecCtx × Int :=
  if c.cfg.dcb then
    let y := x - (c.est + 2 ^ 23) / (2 ^ 24 : Nat)
    let e := if c.cfg.frz || c.supp.isSome then c.est else c.est + y * (2 ^ (24 - c.cfg.k) : Nat)
    ({ c with est := e, dcbIn := x }, y)
  else ({ c with dcbIn := x }, x)

/-- Stages 4 to 6 take one value of the DC block's rate. -/
def DecCtx.halfbands (c : DecCtx) (d : Nat) (x : Int) : DecCtx :=
  let pr := c.cfg.pN * c.cfg.r
  let c1 := { c with d1 := (x :: c.d1).take 43 }
  if c1.ends d (2 * pr) then
    let (c2, y) := c1.stage 40 (c.cfg.shift 3) (hbOut c1.d1) ((c.cfg.h - 1) * 84 * pr)
    if c.cfg.hb2 then
      let c3 := { c2 with d2 := (y :: c2.d2).take 43 }
      if c3.ends d (4 * pr) then
        let (c4, z) := c3.stage 40 (c.cfg.shift 4) (hbOut c3.d2) 0
        { c4 with d3 := (z :: c4.d3).take 256 }
      else c3
    else { c2 with d3 := (y :: c2.d3).take 256 }
  else c1

/-- Registers of the CIC, as many as its order. -/
def padInt (k : Nat) (l : List Int) : List Int := (l ++ (natsFrom 0 k).map fun _ => (0 : Int)).take k

/-- One grid interval's value runs through the chain up to the FIR's delay line. -/
def DecCtx.feed (c : DecCtx) (d : Nat) (x : Int) : DecCtx :=
  let f := c.cfg
  let rem2 := 42 * f.pN * f.r + (f.h - 1) * 84 * f.pN * f.r
  let u := c.pre + x
  let step := fun (q : DecCtx) => { q with i := q.i + 1 }
  if ! c.ends d f.pN then step { c with pre := u }
  else
    let (c1, v) := { c with pre := 0 }.stage 48 (f.shift 0) u (rem2 + f.pN * f.order * (f.r - 1))
    let ig := integrate v (padInt f.order c1.integ)
    let c2 := { c1 with integ := ig }
    if ! c2.ends d (f.pN * f.r) then step c2
    else
      let (cb, y) := combs (lastOr v ig) (padInt f.order c2.comb)
      let (c3, y2) := { c2 with comb := cb }.stage 40 (f.shift 1) y rem2
      let (c4, y3) := c3.dcBlock y2
      let (c5, y4) := c4.stage 40 (f.shift 2) y3 rem2
      step (c5.halfbands d y4)

/-- The FIR's accumulator with a bank (R257). -/
def State.fir (s : State) (b : Nat) (w : List Int) : Int := dot ((natsFrom 0 (s.bankN b)).map fun i => (s.coef b i).toInt) w

/-- binary32 pattern of a signed rational, to nearest, ties to even (R258). -/
def f32OfRat (neg : Bool) (n d : Nat) : Nat :=
  let sg := if neg then 2 ^ 31 else 0
  if n = 0 then sg
  else
    let e0 : Int := (Nat.log2 n : Int) - (Nat.log2 d : Int) - 23
    let e1 : Int := if (n * pow2 (-e0)) / (d * pow2 e0) < 2 ^ 23 then e0 - 1 else e0
    let e : Int := max e1 (-149)
    let q0 := roundQ n d e
    let q := if q0 = 2 ^ 24 then 2 ^ 23 else q0
    let e' := if q0 = 2 ^ 24 then e + 1 else e
    if q < 2 ^ 23 then sg + q
    else if 104 < e' then sg + 0xFF * 2 ^ 23
    else sg + (e' + 150).toNat * 2 ^ 23 + (q - 2 ^ 23)

/-- The output stage (R258, R259): the sample's word, and whether it met the limit. -/
def DecCfg.output (f : DecCfg) (a : Int) : Word × Bool :=
  if f.fmt then (w32 (f32OfRat (decide (a < 0)) a.natAbs (2 ^ f.shift 5)), false)
  else
    let y := shiftUp a (f.shift 5)
    let z := holdBits 32 y
    (BitVec.ofInt 32 z, decide (y ≠ z))

/-! ### SAMPLE packets and records in the stream (R262, R274, R275, R366) -/

/-- Samples three to a record. -/
def sampleRecs (chan : Nat) : List Word → List Rec
  | [] => []
  | [a] => [⟨recW0 0x03 chan 2 0, a, 0, 0⟩]
  | [a, b] => [⟨recW0 0x03 chan 2 0, a, b, 0⟩]
  | a :: b :: c :: t => ⟨recW0 0x03 chan 2 0, a, b, c⟩ :: sampleRecs chan t

/-- Push records of context `n` to its output queue. -/
def State.decOut (s : State) (n : Nat) (c : DecCtx) (rs : List Rec) : State := (s.pushPkt c.cfg.outq (prodDec n) .unit rs).1

/-- Close the open SAMPLE packet. -/
def State.closeSamples (s : State) (n : Nat) (c : DecCtx) : State × DecCtx :=
  match c.pkt with
  | none => (s, c)
  | some p =>
    let f := c.cfg
    let w3 := if f.kind = 2 then s.fd F.MADC_TAP_tap f.src + 64 * f.src + 512 else 0
    let rs := mkRec 0x03 f.chan 0 p.flags (stamp p.head) p.seq ::
      mkRecW 0x03 f.chan 1 0 (n + 2 ^ 16 * p.data.length + 2 ^ 24 * b2n f.fmt) (s.decD c) w3 :: sampleRecs f.chan p.data
    (s.decOut n c rs, { c with pkt := none })

/-- A sample joins the open packet, or opens one (R275). -/
def State.addSample (s : State) (n : Nat) (c : DecCtx) (t flags : Nat) (w : Word) : State × DecCtx :=
  let differ := match c.pkt with | some p => p.flags != flags | none => false
  let (s1, c1) := if differ then s.closeSamples n c else (s, c)
  let p := match c1.pkt with
    | some p => { p with data := p.data ++ [w] }
    | none => { head := t, seq := c1.seq, flags := flags, formed := s.time, data := [w] }
  let c2 := { c1 with pkt := some p }
  if c2.cfg.pkt ≤ p.data.length then s1.closeSamples n c2 else (s1, c2)

/-- A SETTLE record ends a suppression in the stream (R262). -/
def State.settleRec (s : State) (n : Nat) (c : DecCtx) : State × DecCtx :=
  match c.supp with
  | none => (s, c)
  | some u =>
    match u.first with
    | none => (s, { c with supp := none })
    | some t =>
      let s1 := s.decOut n c [mkRec 0x10 c.cfg.chan 0 u.causes (stamp t) (sat (2 ^ 32 - 1) u.count)]
      (s1.setFd F.DEC_CTX_SETTLE_last (sat 65535 u.count) n, { c with supp := none })

/-- A SWITCH packet of kind 1 or 2 in the stream (R366), in the class of system records (R338). -/
def State.decSwitch (s : State) (n : Nat) (c : DecCtx) (t kind old new tag : Nat) : State × DecCtx :=
  let (s1, c1) := s.closeSamples n c
  ((s1.pushPkt c1.cfg.outq prodSys .sys [mkRec 0x11 c.cfg.chan 0 0 (stamp t) (kind + 16 * n), mkRecW 0x11 c.cfg.chan 1 0 old new (tag % 65536)]).1, c1)

/-! ### Settling (R260–R262) -/

/-- Grid intervals of a MUX or SPARE span (R245, R249). -/
def muxLen : Nat := 1954

/-- A suppression begins, or takes in a further cause; the open packet closes (R275). -/
def State.beginSupp (s : State) (n : Nat) (c : DecCtx) (cause : Nat) : State × DecCtx :=
  let (s1, c1) := s.closeSamples n c
  let u := match c1.supp with
    | some u => { u with causes := Nat.lor u.causes (2 ^ cause) }
    | none => { causes := 2 ^ cause, first := none, count := 0 }
  (s1, { c1 with supp := some u })

/-- Spans that the interval ending at `g` reaches begin their suppression. -/
def State.reachSpans (s : State) (n g : Nat) (c : DecCtx) : State × DecCtx :=
  let now := c.spans.filter fun w => ! w.seen && decide (w.start < g)
  let c1 := { c with spans := c.spans.map fun w => if w.start < g then { w with seen := true } else w }
  now.foldl (fun (p : State × DecCtx) w => p.1.beginSupp n p.2 w.cause) (s, c1)

/-- Whether the window of the output at `t` overlaps a span. -/
def DSpan.covers (w : DSpan) (t len : Nat) : Bool :=
  decide (w.start < t) && (match w.stop with | none => true | some e => decide (t < e + len))

/-- Add a span. -/
def DecCtx.addSpan (c : DecCtx) (cause a : Nat) (e : Option Nat) : DecCtx := { c with spans := c.spans ++ [⟨cause, a, e, false⟩] }

/-- A span of the source ends at `e`, if it has an end: one that is over when an ARMED context starts touches none of its outputs. -/
def DecCtx.touched (c : DecCtx) (e : Option Nat) : Bool :=
  c.st == 2 || (c.st == 1 && (match e with | some z => decide (c.anchor < z) | none => true))

/-- A settling event reaches every context of a source, in ARMED or RUN. -/
def State.settleSource (s : State) (kind src cause a : Nat) (e : Option Nat) : State :=
  s.dec.ctxs.foldl (fun (t : State) x =>
    if x.2.touched e = true ∧ x.2.cfg.kind = kind ∧ x.2.cfg.src = src then t.setDctx x.1 ((t.dctx x.1).addSpan cause a e) else t) s

/-- The MUX or SPARE span of a configuration's converter that still lasts at `t`. -/
def State.muxSpan (s : State) (f : DecCfg) (t : Nat) : List DSpan :=
  let w := Tab.get (0, 0) s.dec.muxEnd f.src
  if f.kind = 2 ∧ t < w.1 then [⟨w.2, w.1 - muxLen * gridFu, some w.1, false⟩] else []

/-! ### Cross-fade (R269–R273) -/

/-- An unfaded switch to a bank of another D_f re-anchors the instants at the grid boundary now reached, with the phase delay of the new D (R265,
R267). Where that moves the ends of the chain's blocks, outputs that reach back over it are open (assumption log 75). -/
def State.reanchor (s : State) (c : DecCtx) (bank : Nat) : DecCtx :=
  let t := c.anchor + c.i * gridFu
  let del := c.cfg.delay (c.cfg.total (s.bankDf bank))
  { c with anchor := t, del := del, i := 0, m := 0,
           openTo := if (del / gridFu) % max 1 c.cfg.firIn = 0 then c.openTo else max c.openTo (t + c.cfg.span 256 * gridFu) }

/-- A request that is due at the next output begins: unfaded during a suppression; nothing where it names the bank that is
current. -/
def State.beginReq (s : State) (n : Nat) (c : DecCtx) (r : FadeReq) : State × DecCtx :=
  let t := s.nextInstant c
  let c0 := { c with req := none }
  if r.bank = c.cur then (s, c0)
  else if r.code = 0 ∨ c.supp.isSome = true then
    let df := s.bankDf r.bank
    let c1 := if df = s.bankDf c.cur then c0 else s.reanchor c0 r.bank
    let (s1, c2) := s.decSwitch n c0 t 2 c.cur r.bank r.tag
    let cnt := if df = 0 then 0 else (s.bankN r.bank - 1 + df - 1) / df
    let c3 := { c1 with pkt := c2.pkt, cur := r.bank, coefSup := cnt }
    if cnt = 0 then (s1, c3) else s1.beginSupp n c3 4
  else
    let (s1, c2) := s.decSwitch n c0 t 2 c.cur r.bank r.tag
    (s1, { c2 with fade := some ⟨r.bank, r.code + 1, 0⟩ })

/-- Whether the request in the slot begins at the next output. -/
def State.reqDue (s : State) (c : DecCtx) : Option FadeReq :=
  match c.req, c.fade with
  | some r, none =>
    if r.point ≤ s.nextInstant c ∧ (match c.apply with | some a => decide (c.anchor + c.i * gridFu < a.point) | none => true) = true then some r else none
  | _, _ => none

/-! ### Outputs (R257, R258, R261, R265, R266, R270) -/

/-- The accumulator of the next output, and the context with its fade one output on. -/
def State.accum (s : State) (c : DecCtx) : DecCtx × Int × Bool :=
  let a := s.fir c.cur c.d3
  match c.fade with
  | none => (c, a, false)
  | some f =>
    let b := s.fir f.bank c.d3
    let len := 2 ^ f.log
    let v := a + ((b - a) * (f.j + 1) + (len / 2 : Nat)) / (len : Int)
    (if f.j + 1 = len then { c with fade := none, cur := f.bank } else { c with fade := some { f with j := f.j + 1 } }, v, true)

/-- Taps of the filters that form the next output: the longer one of a fade, whose last output is the new filter alone (R270). -/
def State.outN (s : State) (c : DecCtx) : Nat :=
  match c.fade with
  | none => s.bankN c.cur
  | some f => if f.j + 1 = 2 ^ f.log then s.bankN f.bank else max (s.bankN c.cur) (s.bankN f.bank)

/-- The next output's window in fine units (R261). -/
def State.outLen (s : State) (c : DecCtx) : Nat := c.cfg.span (s.outN c) * gridFu

/-- Whether the output at `t` of a filter of `n` taps carries bit `b` of FLAGS. -/
def DecCtx.marked (c : DecCtx) (n t b : Nat) : Bool :=
  let u := Tab.get 0 c.marks b
  decide (0 < u) && decide (t ≤ u + (n - 1) * c.cfg.firIn * gridFu)

/-- Flags of the output at `t` (R274). -/
def State.sampleFlags (s : State) (c : DecCtx) (t : Nat) (fading : Bool) : Nat :=
  let len := s.outLen c
  let m := fun (b : Nat) => 2 ^ b * b2n (c.marked (s.outN c) t b)
  m 0 + 2 * b2n (s.inHoldover ((t - len) / 512) ((t + 511) / 512)) + 4 * b2n c.cfg.frz + m 3 + m 4 + 32 * b2n fading + m 6 + m 7

/-- The next output is suppressed. -/
def DecCtx.suppress (c : DecCtx) (t : Nat) : DecCtx :=
  let u := match c.supp with
    | some u => u
    | none => { causes := 0, first := none, count := 0 }
  { c with supp := some { u with first := some (u.first.getD t), count := u.count + 1 }, coefSup := c.coefSup - 1 }

/-- An output is suppressed; where no suppression runs, the spans in the window begin one: a fade to a longer bank reaches back over them. -/
def State.suppressNow (s : State) (n : Nat) (c : DecCtx) (t len : Nat) : State × DecCtx :=
  let (s1, c1) := if c.supp.isSome then (s, c)
    else (c.spans.filter fun w => w.covers t len).foldl (fun (p : State × DecCtx) w => p.1.beginSupp n p.2 w.cause) (s, c)
  (s1, c1.suppress t)

/-- A span is kept while an output of the longest filter may yet reach back over it. -/
def DecCtx.keepSpans (c : DecCtx) (t : Nat) : DecCtx :=
  { c with spans := c.spans.filter fun w => w.covers (t + 1) (c.cfg.span 256 * gridFu) || ! w.seen }

/-- The accumulator's value, free while outputs are open (assumption log 75). -/
def State.outValue (s : State) (c : DecCtx) (t : Nat) (a : Int) : State × Int :=
  if t < c.openTo then let (f, s1) := s.free; (s1, sInt 80 f) else (s, a)

/-- The next output instant: the sample is delivered, or suppressed (R261, R265, R266, R275). -/
def State.output (s : State) (n : Nat) : State :=
  let c0 := s.dctx n
  let (s1, c1) := match s.reqDue c0 with | some r => s.beginReq n c0 r | none => (s, c0)
  if ! s1.outputDue c1 then s1.setDctx n c1
  else
    let t := s1.nextInstant c1
    let len := s1.outLen c1
    let (c2, a, fading) := s1.accum c1
    let next := fun (x : DecCtx) => { x with m := x.m + 1, seq := (x.seq + 1) % 2 ^ 32 }
    if decide (0 < c1.coefSup) || c1.spans.any (fun w => w.covers t len) then
      let (s2, c3) := s1.suppressNow n c2 t len
      s2.setDctx n (next c3)
    else
      let c3 := if c2.supp.isSome && c2.cfg.seed then { c2 with est := c2.dcbIn * (2 ^ 24 : Nat) } else c2
      let (s2, c4) := s1.settleRec n (c3.keepSpans t)
      let (s3, v) := s2.outValue c4 t a
      let (w, held) := c4.cfg.output v
      let fl := Nat.lor (s1.sampleFlags c1 t fading) (16 * b2n held)
      let (s4, c5) := s3.addSample n c4 t fl w
      (if natBit fl 4 then s4.addSat F.DEC_CTX_CNT_sat 1 n else s4).setDctx n (next c5)

/-! ### Grid intervals -/

/-- Record a result and assert the bank's event (R277, R278). -/
def State.decResult (s : State) (n r : Nat) : State := (s.setFd F.DEC_CTX_STS_result r n).assertOnce (254 + decBank n)

/-- Outcome of a command: its result, and one more command. -/
def State.decDone (s : State) (n r : Nat) : State := (s.decResult n r).incFd F.DEC_CTX_STS_seq n

/-- A stop takes effect: the packet closes, a suppression in progress is reported, the context is IDLE (R262, R273, R276). -/
def State.decFinish (s : State) (n : Nat) (c : DecCtx) : State :=
  let (s1, c1) := s.closeSamples n c
  let (s2, _) := s1.settleRec n c1
  (s2.setDctx n DecCtx.init).assertOnce (254 + decBank n)

/-- The chain's state before a start or an APPLY: zero. What has come of the same source since the boundary is kept. -/
def DecCtx.fresh (c : DecCtx) (cfg : DecCfg) (t df : Nat) : DecCtx :=
  let z := { DecCtx.init with st := c.st, cfg := cfg, anchor := t, del := cfg.delay (cfg.total df), seq := c.seq, chainFrom := t, cur := cfg.bank,
                              supp := c.supp, req := c.req, stopAt := c.stopAt }
  if cfg.kind = c.cfg.kind ∧ cfg.src = c.cfg.src then
    let (es, ds) := match c.back with | some (es, ds) => (es ++ c.edges, ds) | none => (c.edges, c.dirs)
    { z with chainFrom := max t c.chainFrom, edges := es, dirs := ds, kinds := c.kinds, conv := c.conv, spans := c.spans }
  else z

/-- A waiting request is checked against the bank that an APPLY made current (R269, R273). -/
def State.recheck (s : State) (n : Nat) (c : DecCtx) : State × DecCtx :=
  match c.req with
  | some r => if r.code ≠ 0 ∧ s.bankDf r.bank ≠ s.bankDf c.cur then (s.decResult n 7, { c with req := none }) else (s, c)
  | none => (s, c)

/-- An APPLY takes effect at a grid boundary (R260, R265, R276). -/
def State.applyNow (s : State) (n : Nat) (c : DecCtx) (a : DecApply) : State :=
  let t := c.anchor + c.i * gridFu
  let (s1, c1) := s.decSwitch n c t 1 c.cfg.preset a.cfg.preset a.tag
  let c2 := (c1.fresh a.cfg t (s.bankDf a.cfg.bank)).addSpan 3 t (some t)
  let c2 := if a.cfg.kind = c.cfg.kind ∧ a.cfg.src = c.cfg.src then c2 else { c2 with spans := c2.spans ++ s.muxSpan a.cfg t }
  let (s2, c3) := s1.beginSupp n c2 3
  let (s3, c4) := s2.recheck n { c3 with spans := c3.spans.map fun w => if w.cause = 3 then { w with seen := true } else w }
  s3.setDctx n c4

/-- A waiting APPLY takes effect at boundary `b`, unless a fade runs (R273). -/
def State.tryApply (s : State) (n : Nat) (c : DecCtx) (b : Nat) : State × Bool :=
  match c.apply, c.fade with
  | some a, none => if a.point ≤ b then (s.applyNow n c a, true) else (s, true)
  | _, _ => (s, true)

/-- Outputs, a stop and an APPLY that are due before the next grid interval; whether the interval may then be taken. -/
def State.beforeGrid (s : State) (n : Nat) : State × Bool :=
  let s1 := if s.outputDue (s.dctx n) then s.output n else s
  let c := s1.dctx n
  let b := c.anchor + c.i * gridFu
  if c.st ≠ 2 ∨ s1.outputDue c = true then (s1, false)
  else
    match c.stopAt with
    | some t => if t ≤ b then (s1.decFinish n c, false) else s1.tryApply n c b
    | none => s1.tryApply n c b

/-- An out-of-service span of the source that has not ended (R49, R82, R124). -/
def State.oosNow (s : State) (chan : Nat) : Option Nat :=
  if isPortChan chan then
    let x := Tab.get Port.init s.ports chan
    match x.hold, x.chk with
    | some h, _ => some (s.fuOf h.1)
    | none, some c => some (s.fuOf c.start)
    | none, none => none
  else if isSvcChan chan then
    let a := Tab.get 0 s.tb.svcCal (216 + (chan - 0x60))
    if a = 0 then none else some (s.fuOf a)
  else none

/-- A span that has begun is known to its context before it ends. -/
def State.openOos (s : State) (c : DecCtx) : DecCtx :=
  match s.oosNow c.cfg.src with
  | some a => if c.spans.any fun w => w.cause == 1 && w.stop.isNone then c else c.addSpan 1 a none
  | none => c

/-- GRID_POINT_EVAL (R237–R240): the horizon has passed the next grid point of an edge context. -/
def gridPointEval (n : Nat) (s : State) : State :=
  let c0 := s.dctx n
  if c0.st = 2 ∧ c0.cfg.kind = 1 ∧ s.decLive n = true then
    let (s1, go) := s.beforeGrid n
    let c := s1.dctx n
    let g1 := c.gridPt (c.i + 1)
    let h := (if isRemChan c.cfg.src then s.hR else s.hD) * 512
    if go = true ∧ c.st = 2 ∧ c.cfg.kind = 1 ∧ g1 ≤ h then
      let (s2, c1) := s1.reachSpans n g1 (s1.openOos c)
      let (c2, x) := s2.resample c1
      s2.setDctx n (c2.feed (s2.decD c2) x)
    else s1
  else s

/-- The first waiting code of a converter's context enters its chain (R244, R247): bridged, or clipped. -/
def State.takeCode (s : State) (n : Nat) (c : DecCtx) (q : Int × Bool × Bool) : State :=
  let (s1, c1) := s.reachSpans n (c.gridPt (c.i + 1)) { c with conv := c.conv.tail }
  let u := c1.reach (c1.gridPt c1.i)
  let c2 := if q.2.1 then c1.mark 6 u else if q.2.2 then c1.mark 4 u else c1
  s1.setDctx n (c2.feed (s1.decD c2) q.1)

/-- Codes that wait enter the chain, up to the horizon H_D (R275); at most `k` of them. -/
def State.drainConv (s : State) (n : Nat) : Nat → State
  | 0 => s
  | k + 1 =>
    let (s1, go) := s.beforeGrid n
    let c := s1.dctx n
    match c.conv with
    | [] => s1
    | q :: _ =>
      if go = true ∧ c.st = 2 ∧ c.cfg.kind = 2 ∧ c.gridPt (c.i + 1) ≤ s1.hD * 512 then (s1.takeCode n c q).drainConv n k else s1

/-- A code reaches the context of its converter (R244): it is the code of the first grid interval that has none yet, where that interval has
begun (assumption log 132). -/
def State.feedConverter (s : State) (v : Nat) (x : Int) (bridged clip : Bool) : State :=
  match s.dec.ctxs.find? fun e => e.2.st != 0 && e.2.cfg.kind == 2 && e.2.cfg.src == v with
  | none => s
  | some (n, c) =>
    if s.decLive n then
      let s1 := if c.anchor + (c.i + c.conv.length) * gridFu ≤ s.now then s.setDctx n { c with conv := c.conv ++ [(x, bridged, clip)] } else s
      if c.st = 2 then s1.drainConv n (c.conv.length + 1) else s1
    else s

/-! ### Records from the router -/

/-- An EDGE record or a GAP packet of a channel reaches its resampler (R27, R240). -/
def State.decTake (s : State) (rs : List Rec) : State :=
  match rs with
  | [] => s
  | h :: t =>
    match s.dec.ctxs.find? fun e => e.2.st != 0 && e.2.cfg.kind == 1 && e.2.cfg.src == h.chan with
    | none => s
    | some (n, c) =>
      match t with
      | [] =>
        if h.type = 0x01 ∧ h.code < 7 then
          let late := natBit h.flags 0
          s.setDctx n { c with edges := redgeInsert ⟨s.fullTime h.stampOf, h.code, recLower h, 0, late, natBit h.flags 2⟩ c.edges }
        else s
      | e :: _ =>
        if h.type ≠ 0x07 then s
        else if natBit h.flags 0 then
          let a := s.fullTime h.stampOf
          let z := s.fullTime e.stampOf
          let had := c.spans.any fun w => w.cause == 1 && w.stop.isNone
          let c1 := if had then { c with spans := c.spans.map fun w => if w.cause = 1 ∧ w.stop = none then { w with stop := some z } else w }
            else if c.touched (some z) then c.addSpan 1 a (some z) else c
          s.setDctx n { c1 with chainFrom := max c1.chainFrom z }
        else
          let late := natBit h.flags 4
          let e1 : REdge := ⟨s.fullTime e.stampOf, if natBit h.flags 3 then 6 else 0, natBit h.flags 2, h.w3.toNat, late, false⟩
          if e1.lost = 0 then s else s.setDctx n { c with edges := redgeInsert e1 c.edges }

/-! ### Commands (R269–R277) -/

/-- Whether a configuration's source is refused (R235, R277). -/
def State.badSource (s : State) (n : Nat) (f : DecCfg) : Bool :=
  let used := s.dec.ctxs.any fun e => e.1 != n && e.2.st != 0 &&
    ((e.2.cfg.kind == f.kind && e.2.cfg.src == f.src) ||
      (match e.2.apply with | some a => a.cfg.kind == f.kind && a.cfg.src == f.src | none => false))
  match f.kind with
  | 1 => ! chanOk f.src || used || (f.pos == 0 && f.neg == 0) || decide (Nat.land f.pos f.neg ≠ 0)
  | 2 => decide (7 < f.src) || used || decide (f.pos + f.neg ≠ 0)
  | _ => true

/-- The checks of R277 from BAD_SRC to BUDGET; 1 where they pass. -/
def State.decCheck (s : State) (n : Nat) (f : DecCfg) : Nat :=
  if s.badSource n f then 3
  else if f.bank / 64 ≠ decBank n ∨ s.bankValid f.bank = false then 4
  else if f.growthOk = false then 5
  else if 41943 < s.bankLoad (decBank n) n + f.cost then 6
  else 1

/-- The point of a command (R276): DEC_CTX_AT, or now. -/
def State.decPoint (s : State) (n : Nat) (named : Bool) : Nat :=
  if named then s.fullTime (s.pair .DEC_CTX_AT_LO .DEC_CTX_AT_HI n) else s.now

/-- START (R265, R266, R276). The copy that is checked is the one that runs (assumption log 30). -/
def State.decStart (s : State) (n point : Nat) : State :=
  let c := s.dctx n
  if c.st ≠ 0 then s.decDone n 2
  else
    let f := s.staged n
    let r := s.decCheck n f
    if r ≠ 1 then s.decDone n r
    else
      let t := gridCeil (max point ((if f.kind = 1 ∧ isRemChan f.src = true then s.hR else s.hD) * 512))
      let c1 := (({ DecCtx.init with st := 1 } : DecCtx).fresh f t (s.bankDf f.bank)).addSpan 0 t (some t)
      (s.setDctx n { c1 with spans := c1.spans ++ s.muxSpan f t }).decDone n 1

/-- STOP (R273, R276). -/
def State.decStop (s : State) (n point : Nat) : State :=
  let c := s.dctx n
  if c.st = 0 then s.decDone n 2
  else
    let t := gridCeil point
    if c.st = 1 ∧ t ≤ c.anchor then (s.setDctx n DecCtx.init).decDone n 1
    else
      let s1 := s.decDone n 1
      s1.setDctx n { c with stopAt := some (max t (c.anchor + c.i * gridFu)), req := none }

/-- APPLY (R273, R276). -/
def State.decApply (s : State) (n point tag : Nat) : State :=
  let c := s.dctx n
  if c.st ≠ 2 ∨ c.apply.isSome = true then s.decDone n 2
  else
    let f := s.staged n
    let r := s.decCheck n f
    if r ≠ 1 then s.decDone n r
    else (s.setDctx n { c with apply := some ⟨f, gridCeil point, tag⟩ }).decDone n 1

/-- The output instant at which a request with a point would begin: after a fade that runs (R269, R271). -/
def State.reqInstant (s : State) (c : DecCtx) (point : Nat) : Nat :=
  let step := s.decD c * gridFu
  let t := s.nextInstant c + (match c.fade with | some f => (2 ^ f.log - f.j) * step | none => 0)
  if point ≤ t then t else t + (point - t + step - 1) / max 1 step * step

/-- The bank that will be current when a request with a point begins: a waiting APPLY comes first where its point does (R273). -/
def State.bankThen (s : State) (c : DecCtx) (point : Nat) : Nat :=
  let own := match c.fade with | some f => f.bank | none => c.cur
  match c.apply with
  | some a => if a.point ≤ s.reqInstant c point then a.cfg.bank else own
  | none => own

/-- FADE (R269, R271). -/
def State.decFade (s : State) (n bank code point tag : Nat) : State :=
  let c := s.dctx n
  if 11 < code then s
  else if c.st ≠ 2 then s.decDone n 2
  else if bank / 64 ≠ decBank n ∨ s.bankValid bank = false then s.decDone n 4
  else if code ≠ 0 ∧ s.bankDf bank ≠ s.bankDf (s.bankThen c point) then s.decDone n 7
  else
    let s1 := if c.req.isSome then s.addSat F.DEC_CTX_CNT_replaced 1 n else s
    (s1.setDctx n { c with req := some ⟨bank, code, point, tag⟩ }).decDone n (if c.fade.isSome then 8 else 1)

/-- CONTEXT_RUN: an ARMED context reaches T0 (R276), and its SAMPLE stream begins with an EPOCH record (R109). -/
def contextRun (n : Nat) (s : State) : State :=
  let c := s.dctx n
  if c.st = 1 ∧ c.anchor ≤ s.now ∧ s.decLive n = true then
    let s0 := (s.pushPkt c.cfg.outq prodRouter .rtr [s.epochRec]).1
    let (s1, c1) := s0.beginSupp n { c with st := 2, spans := c.spans.map fun w => if w.cause = 0 then { w with seen := true } else w } 0
    s1.setDctx n c1
  else s

/-- OUTPUT_INSTANT. -/
def outputInstant (n : Nat) (s : State) : State := if s.outputDue (s.dctx n) = true ∧ s.decLive n = true then s.output n else s

/-- FADE_BEGIN (R271): the request in the slot begins at the next output instant, once the grid intervals reach it. -/
def fadeBegin (n : Nat) (s : State) : State :=
  let c := s.dctx n
  if s.outputDue c = true ∧ s.decLive n = true then
    match s.reqDue c with
    | some r => let (s1, c1) := s.beginReq n c r; s1.setDctx n c1
    | none => s
  else s

/-- SAMPLE_PACKET_TIMEOUT (R275). -/
def samplePacketTimeout (n : Nat) (s : State) : State :=
  let c := s.dctx n
  match c.pkt with
  | some p => if p.formed + msTicks 1 ≤ s.time then let (s1, c1) := s.closeSamples n c; s1.setDctx n c1 else s
  | none => s

/-! ### WATCH, HALT and the epoch -/

/-- Entry to WATCH or HALT begins a STEP suppression of every context, in ARMED or RUN (R260, R582). -/
def State.decHold (s : State) (tick : Nat) : State :=
  s.dec.ctxs.foldl (fun (t : State) e => if e.2.st ≠ 0 then t.setDctx e.1 ((t.dctx e.1).addSpan 1 (tick * 512) none) else t) s

/-- The chain's registers at zero: as if no input had come before; the DC block's estimate stays (R255). -/
def DecCtx.clearChain (c : DecCtx) : DecCtx :=
  { c with pre := 0, integ := [], comb := [], d1 := [], d2 := [], d3 := [], edges := [], back := none, conv := [] }

/-- A context skips the grid intervals of a stop: instants pass, suppressed, and numbers run on (R266). No input of theirs, and none from before,
is in the chain after it (R261). -/
def State.skipGrid (s : State) (c : DecCtx) (now : Nat) : DecCtx :=
  let i' := max c.i ((now - c.anchor + gridFu - 1) / gridFu)
  let d := s.decD c
  let m' := if d = 0 then c.m else max c.m ((i' - c.del / gridFu) / d)
  let k := m' - c.m
  let u := match c.supp with | some u => u | none => { causes := 2, first := none, count := 0 }
  { c.clearChain.noCount with
      i := i', m := m', seq := (c.seq + k) % 2 ^ 32, chainFrom := now,
      supp := some { u with causes := Nat.lor u.causes 2, first := if k = 0 then u.first else some (u.first.getD (s.nextInstant c)),
                            count := u.count + k } }

/-- The STEP span of a stop ends. -/
def DecCtx.endStep (c : DecCtx) (now : Nat) : DecCtx :=
  { c with spans := c.spans.map fun (w : DSpan) => if w.cause = 1 ∧ w.stop = none then { w with stop := some now, seen := true } else w }

/-- Wake or RESUME ends it. An ARMED context whose T0 has passed has missed instants too; one whose T0 is to come is not touched. -/
def State.decResume (s : State) : State :=
  s.dec.ctxs.foldl (fun (t : State) e =>
    if e.2.st = 0 then t
    else if e.2.st = 1 ∧ t.now ≤ e.2.anchor then t.setDctx e.1 { e.2 with spans := e.2.spans.filter fun w => w.cause != 1 || w.stop.isSome }
    else
      let (t1, c1) := t.closeSamples e.1 e.2
      t1.setDctx e.1 (t1.skipGrid (c1.endStep s.now) s.now)) s

def execGridPointEval (n : Nat) (s : State) : Host.Outcome State Fault Refusal := .next (gridPointEval n s)
def execDecStart (n : Nat) (named : Bool) (s : State) : Host.Outcome State Fault Refusal := .next (s.decStart n (s.decPoint n named))
def execDecStop (n : Nat) (named : Bool) (s : State) : Host.Outcome State Fault Refusal := .next (s.decStop n (s.decPoint n named))
def execDecApply (n : Nat) (named : Bool) (s : State) : Host.Outcome State Fault Refusal := .next (s.decApply n (s.decPoint n named) 0)
def execDecFade (n bank code : Nat) (named : Bool) (s : State) : Host.Outcome State Fault Refusal :=
  .next (s.decFade n bank code (if named then s.decPoint n true else 0) 0)
def execContextRun (n : Nat) (s : State) : Host.Outcome State Fault Refusal := .next (contextRun n s)
def execOutputInstant (n : Nat) (s : State) : Host.Outcome State Fault Refusal := .next (outputInstant n s)
def execFadeBegin (n : Nat) (s : State) : Host.Outcome State Fault Refusal := .next (fadeBegin n s)
def execSamplePacketTimeout (n : Nat) (s : State) : Host.Outcome State Fault Refusal := .next (samplePacketTimeout n s)
def execDecCoefDataAccess (write : Option Word) (s : State) : Host.Outcome State Fault Refusal := .next (decCoefDataAccess write s)
def execDecCoefHdrWrite (value : Word) (s : State) : Host.Outcome State Fault Refusal := .next (decCoefHdrWrite value s)

end Sys2Proof.Machine
end

