-- ==== Sys2Proof/Machine/DramStore.lean ====
section
/-! DEFINITION. External memory (R443–R459): ECC errors, scrubbing, page retirement, regions, stream rings; and the NVMe record store
(R460–R466). -/

namespace Sys2Proof.Machine

def State.setStore (s : State) (f : Store → Store) : State := { s with store := f s.store }

/-! ### Geometry (R444, R445, R452) -/

/-- Channels in use, and the size of the address space. -/
def State.ddrUsed (s : State) : List Nat := (natsFrom 0 4).filter fun c => natBit (s.fd F.DRM_STS_used) c
def State.dramSize (s : State) : Nat := 2 ^ 30 * (s.ddrUsed.length * s.fd F.DRM_STS_gib)
/-- Start of the reserve, and of its extent-read staging. -/
def State.reserveBase (s : State) : Nat := s.dramSize - 2 ^ 26
def State.xrBase (s : State) : Nat := 24 * 2 ^ 20 + s.reserveBase

/-- Channel and page within it of an address. -/
def State.ddrOf (s : State) (a : Nat) : Nat × Nat :=
  let n := max 1 s.ddrUsed.length
  (nth 0 s.ddrUsed (a / 4096 % n), a / 4096 / n)

def mib2 : Nat := 2 ^ 21
/-- Base and size of a region in bytes. -/
def State.rgBase (s : State) (r : Nat) : Nat := mib2 * s.fd F.DRM_RG_BASE_base r
def State.rgSize (s : State) (r : Nat) : Nat := mib2 * s.fd F.DRM_RG_SIZE_size r
/-- The region that an address lies in. -/
def State.regionAt (s : State) (a : Nat) : Option Nat :=
  (natsFrom 0 256).find? fun r => s.fd F.DRM_RG_CFG_kind r != 0 && decide (s.rgBase r ≤ a ∧ a < s.rgBase r + s.rgSize r)

/-- Whether DRAM runs: it is in self-refresh in WATCH, where its domains are off, and after shedding (R446, R580). -/
def State.dramOn (s : State) : Bool := ! s.dev.shed && s.ddrUsed.all fun c => s.domOn (62 + c)

/-- Every channel in use has an event (R468). -/
def State.ddrEvents (s : State) : State := s.ddrUsed.foldl (fun (t : State) c => t.assertOnce (274 + c)) s

/-! ### Errors (R447–R451) -/

/-- The error is recorded. -/
def State.dramErr (s : State) (a : Nat) (f : Fld) : State :=
  let c := (s.ddrOf a).1
  ((((s.setFd f 1).setFd F.DRM_ERR_chan c).setPair .DRM_ERR_ADDR_LO .DRM_ERR_ADDR_HI a)).assertOnce (274 + c)

/-- A retired page enters the retirement list of the fault log (R450, R575). -/
def State.logRetire (s : State) (j a : Nat) : State :=
  let line := 4 + j / 14
  let old := (s.logLine 2 line).take 60
  let e := leBytes 4 ((s.ddrOf a).2 % 2 ^ 27 + (s.ddrOf a).1 * 2 ^ 27 + 2 ^ 31)
  let bs := padTo 60 old
  s.writeLog 2 line (crcLine (bs.take (4 * (j % 14)) ++ e ++ bs.drop (4 * (j % 14) + 4)))

/-- Retire the page of an address (R449): the next spare page takes its lines, which keep their data; poisoned lines stay poisoned. -/
def State.retirePage (s : State) (a : Nat) : State :=
  let pg := a / 4096
  if s.store.retired.contains pg then s
  else
    let j := s.store.retired.length
    if 4096 ≤ j then (s.setFd F.DRM_RETIRE_full 1).raise 0x142 (unitOf 10 (s.ddrOf a).1) (a / 4096) true
    else
      let s1 := (s.setStore fun v => { v with retired := v.retired ++ [pg], ce := Tab.set 0 v.ce pg 0 }).setFd F.DRM_RETIRE_pages (j + 1)
      let s2 := if j + 1 = 4096 then s1.setFd F.DRM_RETIRE_full 1 else s1
      (s2.logRetire j a).assertOnce (274 + (s2.ddrOf a).1)

/-- DRAM_CORRECTED_ERROR. -/
def dramCorrectedError (a : Nat) (s : State) : State :=
  if s.dramSize ≤ a ∨ s.dramOn = false then s
  else
    let n := Tab.get 0 s.store.ce (a / 4096) + 1
    let s1 := (((s.dramErr a F.DRM_ERR_ce).addSat F.DRM_CE_CNT 1)).setStore fun v => { v with ce := Tab.set 0 v.ce (a / 4096) n }
    if s1.fd F.DRM_SCRUB_retire_thr ≤ n ∧ s1.fd F.DRM_SCRUB_retire_thr ≠ 0 then s1.retirePage a else s1

/-- A line that is uncorrectable stays so until it is wholly rewritten (R448). -/
def State.poisonLine (s : State) (a : Nat) : State :=
  s.setStore fun v => { v with poison := if v.poison.contains (a / 64) then v.poison else v.poison ++ [a / 64] }

/-- An uncorrectable error is counted, recorded and raised (R447). -/
def State.dramUe (s : State) (a : Nat) : State :=
  ((s.dramErr a F.DRM_ERR_ue).addSat F.DRM_UE_CNT 1).raise 0x141 (unitOf 10 (s.ddrOf a).1) (a / 4096)

/-- DRAM_UNCORRECTABLE: the page retires, and the copy keeps the line poisoned (assumption log 37). -/
def dramUncorrectable (a : Nat) (s : State) : State :=
  if s.dramSize ≤ a ∨ s.dramOn = false then s else ((s.dramUe a).poisonLine a).retirePage a

/-- Whether the patrol scrubber reads a line now: a pass runs, or SCRUB_NOW or DRM_SCRUB asks for one; one of DRM_SCRUB begins
DRM_SCRUB.period hours after the pass before. -/
def State.scrubs (s : State) : Bool :=
  s.dramOn && s.dramSize != 0 && (s.store.pass || (s.bit F.DRM_SCRUB_en && (s.store.scrub != 0 || decide (s.store.passAt ≤ s.time))))

/-- PATROL_SCRUB: the scrubber reads the next line; a poisoned one is uncorrectable again. -/
def patrolScrub (ecc : Ecc) (s : State) : State :=
  if s.scrubs = false then s
  else
    let a := s.store.scrub * 64
    let s1 := if s.store.poison.contains s.store.scrub then dramUncorrectable a s else match ecc with
      | .good => s
      | .corrected => dramCorrectedError a s
      | .uncorrectable => dramUncorrectable a s
    let last := decide (s.dramSize ≤ a + 64)
    let due := if s.store.scrub = 0 then s.time + msTicks (3600000 * s.fd F.DRM_SCRUB_period) else s.store.passAt
    s1.setStore fun v => { v with scrub := if last then 0 else v.scrub + 1, pass := v.pass && ! last, passAt := due }

/-- Outcome of a DRM_CMD. -/
def State.drmCmdSts (s : State) (op result : Nat) : State :=
  ((s.setFd F.DRM_CMD_STS_last_op op).setFd F.DRM_CMD_STS_result result).incFd F.DRM_CMD_STS_seq

/-- RETIRE the page at DRM_ERR_ADDR. -/
def drmRetire (s : State) : State :=
  if s.bit F.DRM_RETIRE_full then s.drmCmdSts 1 2
  else (s.retirePage (s.pair .DRM_ERR_ADDR_LO .DRM_ERR_ADDR_HI)).drmCmdSts 1 1

/-- SCRUB_NOW. -/
def drmScrubNow (s : State) : State := (s.setStore fun v => { v with pass := true, scrub := 0 }).drmCmdSts 2 1

/-- Bytes written in order end every line up to their end: such a line is wholly rewritten (R448). -/
def State.dramWrite (s : State) (a : Nat) (bs : List Byte) : State :=
  let e := a + bs.length
  let s1 := { s with dram := Memory.writeN 0 s.dram a bs }
  s1.setStore fun v => { v with poison := v.poison.filter fun l => ! decide (a < 64 * l + 64 ∧ 64 * l + 64 ≤ e) }

/-- Poisoned lines that a range touches. -/
def State.poisonIn (s : State) (a n : Nat) : Nat := (s.store.poison.filter fun l => decide (64 * l < a + n ∧ a < 64 * l + 64)).length

/-- A read of poisoned lines: each is reported as uncorrectable (R448), and sets poison of its region (R451). -/
def State.notePoison (s : State) (a n : Nat) : State :=
  (s.store.poison.filter fun l => decide (64 * l < a + n ∧ a < 64 * l + 64)).foldl (fun (t : State) l =>
    let t1 := t.dramUe (64 * l)
    match s.regionAt (64 * l) with | some r => t1.setFd F.DRM_RG_STS_poison 1 r | none => t1) s

/-! ### Stream rings (R454–R459) -/

def State.ring (s : State) (r : Nat) : Ring := Tab.get Ring.init s.store.rings r
def State.setRing (s : State) (r : Nat) (x : Ring) : State := s.setStore fun v => { v with rings := Tab.set Ring.init v.rings r x }

def State.ringWr (s : State) (r : Nat) : Nat := s.pair .DRM_RG_WR_LO .DRM_RG_WR_HI r
def State.ringRd (s : State) (r : Nat) : Nat := s.pair .DRM_RG_RD_LO .DRM_RG_RD_HI r
def State.ringSp (s : State) (r : Nat) : Nat := s.pair .DRM_RG_SP_LO .DRM_RG_SP_HI r
def State.setWr (s : State) (r v : Nat) : State := s.setPair .DRM_RG_WR_LO .DRM_RG_WR_HI v r

/-- Consumed count (R457). -/
def State.consumed (s : State) (r : Nat) : Nat :=
  match s.bit F.DRM_RG_CFG_host_rd r, s.bit F.DRM_RG_CFG_spill r with
  | true, true => min (s.ringRd r) (s.ringSp r)
  | true, false => s.ringRd r
  | false, true => s.ringSp r
  | false, false => s.ringWr r

/-- Whether the extent that starts at WR is free. -/
def State.extentFree (s : State) (r : Nat) : Bool := decide (mib2 + s.ringWr r ≤ s.consumed r + s.rgSize r)

/-- A STREAM region without a writer. -/
def State.ringIdle (s : State) (r : Nat) : Bool := s.fd F.DRM_RG_CFG_kind r == 2 && (s.ring r).writer == 0

/-- A ring gains or loses its writer. -/
def State.setWriter (s : State) (r w : Nat) : State := (s.setRing r { s.ring r with writer := w }).setFd F.DRM_RG_STS_writer (b2n (w != 0)) r

/-- A PAD record (R367). -/
def padRec : Rec := mkRecW 0x7F 0 0 0 0 0 0

/-- Records at a ring position. -/
def State.ringPut (s : State) (r pos : Nat) (rs : List Rec) : State := s.dramWrite (s.rgBase r + pos % max 1 (s.rgSize r)) (rs.flatMap recBytes)

/-- The open extent closes: PAD to its end, and WR moves there (R456). -/
def State.closeExtent (s : State) (r : Nat) : State :=
  let wr := s.ringWr r
  let o := wr % mib2
  if o = 0 then s
  else
    let s1 := s.ringPut r wr ((natsFrom 0 ((mib2 - o) / 16)).map fun _ => padRec)
    (s1.setWr r (mib2 - o + wr)).setRing r { s1.ring r with first := none }

/-! ### Giving extents to drives (R463) -/

def State.drive (s : State) (d : Nat) : Drive := Tab.get Drive.init s.store.drives d
def State.setDrive (s : State) (d : Nat) (x : Drive) : State := s.setStore fun v => { v with drives := Tab.set Drive.init v.drives d x }
def State.drvState (s : State) (d : Nat) : Nat := s.fd F.NVS_DRV_STS_state d

/-- A drive changes state (R468). -/
def State.setDrv (s : State) (d st : Nat) : State :=
  if s.drvState d = st then s else (s.setFd F.NVS_DRV_STS_state st d).assertOnce (278 + d)

/-- A command goes to a drive. -/
def State.nvIssue (s : State) (d opcode region xseq slot part : Nat) (args : List Nat) : State :=
  let x := s.drive d
  (s.setDrive d { x with cmds := x.cmds ++ [⟨x.nextId, opcode, region, xseq, slot, part, false, s.time⟩], nextId := x.nextId + 1 }).emit
    (.nvme d opcode (x.nextId :: args))

/-- The words of a directory entry (R462). -/
def dirWords (e : Option DirEntry) : List Nat :=
  match e with
  | some e => [e.xseq, e.first, e.records, e.region + 256 + 65536 * e.epoch, e.poison, e.crc]
  | none => [0, 0, 0, 0, 0, 0]

/-- A directory entry changes: its block is rewritten, and a Flush follows. -/
def State.dirWrite (s : State) (d slot : Nat) (e : Option DirEntry) : State :=
  let x := s.drive d
  let s1 := s.setDrive d { x with dir := Tab.set none x.dir slot e }
  (s1.nvIssue d 1 256 0 slot 0 ((512 + (slot - x.k - 1) / 128) :: slot :: dirWords e)).nvIssue d 0 256 0 slot 0 []

/-- Write commands of one extent. -/
def Drive.parts (x : Drive) : Nat := mib2 / max 1 x.chunk

/-- Room for an extent's Writes: all queue pairs but the last, with 255 commands each (assumption log 38). -/
def State.nvRoom (s : State) (d : Nat) : Bool :=
  let x := s.drive d
  decide ((x.cmds.filter fun c => c.opcode == 1 && c.region != 256).length + x.parts ≤ 255 * (s.fd F.NVS_DRV_STS_qpairs d - 1))

/-- A full drive starts again at its first data slot where wrap is 1. -/
def State.nvWrap (s : State) (d : Nat) : State :=
  if s.drvState d = 5 ∧ s.bit F.NVS_CFG_wrap = true then
    ((s.setFd F.NVS_DRV_NEXT_slot ((s.drive d).k + 1) d).setDrv d 2).dropLive (unitOf 11 d) 0x163
  else s

/-- Whether a drive takes extents: OK, not full, and in use (R463). -/
def State.nvOk (s : State) (d : Nat) : Bool := s.drvState d == 2 && s.bit ⟨.NVS_CFG, d, 1⟩ && s.domOn (66 + d)

/-- Whether a drive can take an extent now: where it has no room, or the slot is being read, the extent waits (R464). -/
def State.nvTakes (s : State) (d : Nat) : Bool :=
  s.nvOk d && s.nvRoom d &&
    (match s.store.xr with | some x => ! (x.1 == d && x.2.1 == s.fd F.NVS_DRV_NEXT_slot d) | none => true)

/-- Give an extent to drive `d`: into its next slot, whose old entry is first made invalid. -/
def State.giveTo (s : State) (d r xs : Nat) : State :=
  let slot := s.fd F.NVS_DRV_NEXT_slot d
  let s1 := if (Tab.get none (s.drive d).dir slot).isSome then s.dirWrite d slot none else s
  let x := s1.drive d
  let s2 := s1.setDrive d { x with writing := x.writing ++ [(r, xs, slot)] }
  let base := s2.rgBase r + mib2 * xs % max 1 (s2.rgSize r)
  let s3 := (natsFrom 0 x.parts).foldl (fun (t : State) i =>
    t.nvIssue d 1 r xs slot i [slot * 512 + i * (x.chunk / 4096), base + i * x.chunk]) s2
  let s4 := s3.notePoison base mib2
  if slot + 1 < x.n then s4.setFd F.NVS_DRV_NEXT_slot (slot + 1) d
  else if s4.bit F.NVS_CFG_wrap then s4.setFd F.NVS_DRV_NEXT_slot (x.k + 1) d
  else (s4.setDrv d 5).raise 0x163 (unitOf 11 d) 0 true

/-- The next extent of a ring to be given: one to be written again, or the next closed one. -/
def State.nextExtent (s : State) (r : Nat) : Option Nat :=
  let g := s.ring r
  if s.fd F.DRM_RG_CFG_kind r ≠ 2 ∨ s.bit F.DRM_RG_CFG_spill r = false then none
  else match g.redo with
  | x :: _ => some x
  | [] => if mib2 * (g.given + 1) ≤ s.ringWr r then some g.given else none

/-- Rings in round-robin order after the last one served. -/
def State.ringOrder (s : State) : List Nat :=
  let l := s.store.lastRing
  natsFrom (l + 1) (255 - l) ++ natsFrom 0 (l + 1)

/-- Give one extent, if a drive takes one. -/
def State.giveOne (s : State) : State × Bool :=
  match s.ringOrder.find? fun r => (s.nextExtent r).isSome with
  | none => (s, false)
  | some r =>
    let d := if s.nvOk s.store.turn then s.store.turn else 1 - s.store.turn
    match s.nextExtent r with
    | some xs =>
      if s.nvTakes d then
        let g := s.ring r
        let g1 := if g.redo.isEmpty then { g with given := g.given + 1 } else { g with redo := g.redo.drop 1 }
        (((s.setRing r g1).giveTo d r xs).setStore fun v => { v with turn := 1 - d, lastRing := r }, true)
      else (s, false)
    | none => (s, false)

def State.giveAll : Nat → State → State
  | 0, s => s
  | n + 1, s => match s.giveOne with | (t, true) => State.giveAll n t | (t, false) => t

/-- Closed extents go to the drives while these take any; spill stops at shedding and in WATCH (R463, R446). -/
def State.spillGive (s : State) : State := if s.dramOn then State.giveAll 4096 ((s.nvWrap 0).nvWrap 1) else s

/-! ### Writing a ring (R455, R457) -/

/-- A ring is full: the status bit, and, where it becomes so, the event of each channel (R468). -/
def State.ringFull (s : State) (r : Nat) : State :=
  let s1 := (s.setRing r { s.ring r with full := true }).setFd F.DRM_RG_STS_full 1 r
  if (s.ring r).full then s1 else s1.ddrEvents

/-- One whole packet into a ring; false where the ring is full and nothing is written. -/
def State.ringWrite (s : State) (r : Nat) (rs : List Rec) : State × Bool :=
  let n := 16 * rs.length
  let s1 := if s.ringWr r % mib2 ≠ 0 ∧ mib2 < s.ringWr r % mib2 + n then (s.closeExtent r).spillGive else s
  if s1.ringWr r % mib2 = 0 ∧ s1.extentFree r = false then (s1.ringFull r, false)
  else
    let wr := s1.ringWr r
    let s2 := (s1.ringPut r wr rs).setWr r (wr + n)
    let g := { s2.ring r with full := false }
    let g1 := if (wr + n) % mib2 = 0 then { g with first := none } else if wr % mib2 = 0 then { g with first := some s.time } else g
    let s3 := s2.setRing r g1
    (if (wr + n) % mib2 = 0 then s3.spillGive else s3, true)

/-- A writer leaves its ring: the open extent closes (R456). -/
def State.ringLeave (s : State) (r : Nat) : State := ((s.closeExtent r).setWriter r 0).spillGive

/-- EXTENT_CLOSE_TIMEOUT: due DRM_RG_CFG.flush_ms after the open extent's first record. -/
def extentCloseTimeout (r : Nat) (s : State) : State :=
  match (s.ring r).first with
  | none => s
  | some t =>
    if s.fd F.DRM_RG_CFG_kind r = 2 ∧ r < 256 ∧ s.dramOn = true ∧ t + msTicks (s.fd F.DRM_RG_CFG_flush_ms r) ≤ s.time then
      (s.closeExtent r).spillGive
    else s

/-- The Writes of a ring's extents that a drive has not completed count for the ring no more. -/
def State.dropWriting (s : State) (d r : Nat) : State :=
  s.setDrive d { s.drive d with writing := (s.drive d).writing.filter fun w => w.1 != r }

/-- RESET_RING (R459); Writes of the ring that are outstanding then complete for nothing. -/
def resetRing (r : Nat) (s : State) : State :=
  if 256 ≤ r ∨ s.fd F.DRM_RG_CFG_kind r ≠ 2 ∨ (s.ring r).writer ≠ 0 then s.drmCmdSts 3 2
  else
    let s1 := ((s.setWr r 0).setPair .DRM_RG_RD_LO .DRM_RG_RD_HI 0 r).setPair .DRM_RG_SP_LO .DRM_RG_SP_HI 0 r
    (((s1.setRing r Ring.init).dropWriting 0 r).dropWriting 1 r).drmCmdSts 3 1

/-- DRM_RG_RD_WRITE (R458). -/
def drmRgRdWrite (r v : Nat) (s : State) : State :=
  if 256 ≤ r then s
  else if v < s.ringRd r ∨ s.ringWr r < v ∨ v % 16 ≠ 0 then s.setFd F.DRM_RG_STS_cfg_err 1 r
  else (s.setPair .DRM_RG_RD_LO .DRM_RG_RD_HI v r).spillGive

/-! ### Completions (R458, R463, R465) -/

/-- Records of an extent in DRAM that are not PAD: the number, and the timestamp of the first. -/
def countRecs (dram : Memory) : Nat → Nat → Nat → Option Nat → Nat × Option Nat
  | 0, _, n, f => (n, f)
  | k + 1, a, n, f =>
    if (Memory.read 0 dram (a + 3)).toNat = 0x7F then countRecs dram k (a + 16) n f
    else countRecs dram k (a + 16) (n + 1) (match f with | some t => some t | none => some (ofLe (Memory.readN 0 dram (a + 4) 8)))

/-- The directory entry of an extent (R462). -/
def State.dirEntry (s : State) (r xs : Nat) : DirEntry :=
  let base := s.rgBase r + mib2 * xs % max 1 (s.rgSize r)
  let c := countRecs s.dram 131072 base 0 none
  let first := c.2.getD 0
  { xseq := xs, first := first, records := c.1, region := r, epoch := s.fullTime first / 2 ^ 64 % 65536,
    poison := sat 65535 (s.poisonIn base mib2), crc := crc32c (Memory.readN 0 s.dram base mib2) }

/-- SP moves over the extents that are complete (R458). -/
def State.spAdvance (r : Nat) : Nat → State → State
  | 0, s => s
  | n + 1, s =>
    let g := s.ring r
    let x := s.ringSp r / mib2
    if g.done.contains x then
      State.spAdvance r n ((s.setPair .DRM_RG_SP_LO .DRM_RG_SP_HI (mib2 * (x + 1)) r).setRing r { g with done := g.done.filter (· != x) })
    else s

/-- EXTENT_WRITE_COMPLETE: every Write of the extent in a slot has completed. -/
def extentWriteComplete (d slot : Nat) (s : State) : State :=
  let x := s.drive d
  match x.writing.find? fun w => w.2.2 == slot with
  | none => s
  | some (r, xs, _) =>
    if x.cmds.any fun c => c.opcode == 1 && c.slot == slot && c.region == r && c.xseq == xs then s
    else
      let s1 := (s.setDrive d { x with writing := x.writing.filter fun w => w.2.2 != slot }).dirWrite d slot (some (s.dirEntry r xs))
      let s2 := s1.setPair .NVS_DRV_EXT_LO .NVS_DRV_EXT_HI (s1.pair .NVS_DRV_EXT_LO .NVS_DRV_EXT_HI d + 1) d
      let g := s2.ring r
      let s3 := s2.setRing r { g with done := g.done ++ [xs] }
      (State.spAdvance r (g.done.length + 1) s3).spillGive

/-- No drive is usable while a ring spills (R466). -/
def State.nvNone (s : State) : State :=
  let bad := (natsFrom 0 2).all fun d => s.drvState d == 0 || s.drvState d == 3 || s.drvState d == 4
  let spill := (natsFrom 0 256).any fun r => s.fd F.DRM_RG_CFG_kind r == 2 && s.bit F.DRM_RG_CFG_spill r
  if bad && spill then s.raise 0x004 0 0 true else s

/-- An extent is to be given again, in its place in SP order. -/
def State.redoExtent (s : State) (r xs : Nat) : State :=
  let g := s.ring r
  s.setRing r { g with redo := (g.redo.filter fun y => decide (y < xs)) ++ [xs] ++ (g.redo.filter fun y => decide (xs < y)) }

/-- The extents outstanding on a drive are to be written again, and of its commands only those that `keep` names stay (R466). -/
def State.giveBack (s : State) (d : Nat) (keep : NvCmd → Bool) : State :=
  let x := s.drive d
  x.writing.foldl (fun (t : State) w => t.redoExtent w.1 w.2.1) (s.setDrive d { x with cmds := x.cmds.filter keep, writing := [] })

/-- An extent read in progress on a drive fails (R472). -/
def State.readFails (s : State) (d : Nat) : State :=
  match s.store.xr with
  | some x =>
    if x.1 = d then
      (((s.setStore fun v => { v with xr := none }).setFd F.NVS_XR_STS_busy 0).setFd F.NVS_XR_STS_result 3).assertOnce (278 + d)
    else s
  | none => s

/-- A drive's queues are gone: its power, its use or its queues end. -/
def State.driveLost (s : State) (d : Nat) : State := (s.giveBack d fun _ => false).readFails d

/-- A drive becomes DEGRADED: its extents are written again to the other (R465, R466). The manual does not number its causes
(assumption log 39). -/
def State.degrade (s : State) (d : Nat) : State :=
  if s.drvState d = 3 then s
  else
    let (cause, s0) := s.free
    let s2 := s0.giveBack d fun c => c.opcode == 2
    let s3 := ((s2.setDrv d 3).dropLive (unitOf 11 d) 0x163).raise 0x162 (unitOf 11 d) (cause % 2 ^ 32) true
    s3.nvNone.spillGive

/-- NVME_COMPLETION: status 0 success, 1 a media or data-integrity error, others another error, after which the command is given again
(assumption log 40). -/
def nvmeCompletion (d id status : Nat) (s : State) : State :=
  let x := s.drive d
  match x.cmds.find? fun c => c.id == id with
  | none => s
  | some c =>
    if status = 0 then (s.setDrive d { x with cmds := x.cmds.filter fun c => c.id != id }).spillGive
    else if status = 1 then (s.setDrive d { x with cmds := x.cmds.filter fun c => c.id != id }).degrade d
    else
      let cmds := x.cmds.map fun (y : NvCmd) => if y.id = id then { y with aborted := false, since := s.time } else y
      let s1 := s.setDrive d { x with cmds := cmds }
      s1.emit (.nvme d c.opcode [id])

/-- NVME_COMMAND_TIMEOUT (R465), due NVS_CFG.tmo seconds after the command, or after its Abort: the Abort, then the controller reset, where `ready` says that the controller came back. -/
def nvmeCommandTimeout (d id : Nat) (ready : Bool) (s : State) : State :=
  let x := s.drive d
  match x.cmds.find? fun c => c.id == id with
  | none => s
  | some c =>
    let s1 := (s.setFd F.NVS_DRV_ERR_timeouts (s.fd F.NVS_DRV_ERR_timeouts d + 1) d).raise 0x161 (unitOf 11 d) c.opcode
    let recent := match x.resetAt with | some t => decide (s.time < t + msTicks 60000) | none => false
    if s.time < c.since + msTicks (1000 * s.fd F.NVS_CFG_tmo) then s
    else if recent then s1.degrade d
    else if c.aborted = false then
      let cmds := x.cmds.map fun (y : NvCmd) => if y.id = id then { y with aborted := true, since := s.time } else y
      let s2 := (s1.incFd F.NVS_DRV_ERR_aborts d).setDrive d { x with cmds := cmds }
      s2.emit (.nvme d 8 [id])
    else
      let s2 := s1.incFd F.NVS_DRV_ERR_resets d
      if ready then
        let cmds := x.cmds.map fun (y : NvCmd) => { y with aborted := false, since := s.time }
        let s3 := s2.setDrive d { x with cmds := cmds, resetAt := some s.time }
        x.cmds.foldl (fun (t : State) y => t.emit (.nvme d y.opcode [y.id])) s3
      else s2.degrade d

/-- NVME_LINK_LOSS. -/
def nvmeLinkLoss (d : Nat) (s : State) : State :=
  if 2 ≤ d ∨ s.drvState d = 0 ∨ s.domOn (66 + d) = false then s
  else
    let s1 := (s.setFd F.NVS_DRV_STS_gen 0 d).setFd F.NVS_DRV_STS_width 0 d
    if s.drvState d = 4 then s1 else s1.degrade d

/-! ### Initialisation, SMART, commands (R461, R466, R472) -/

/-- A stored entry from its eight numbers. -/
def readEntry (l : List Nat) : Nat × Option DirEntry :=
  let e : DirEntry :=
    { xseq := nth 0 l 1, first := nth 0 l 2, records := nth 0 l 3, region := nth 0 l 4, epoch := nth 0 l 5, poison := nth 0 l 6,
      crc := nth 0 l 7 }
  (nth 0 l 0, some e)

/-- DRIVE_INIT_DONE: writing starts at the first data slot without a valid entry (assumption log 41). -/
def driveInitDone (d : Nat) (env : DriveEnv) (s : State) : State :=
  if 2 ≤ d ∨ s.drvState d ≠ 1 ∨ s.domOn (66 + d) = false then s
  else
    let s1 := (((s.setFd F.NVS_DRV_STS_gen env.gen d).setFd F.NVS_DRV_STS_width env.width d).setFd F.NVS_DRV_STS_qpairs (min 8 env.qpairs) d)
    let n := min (2 ^ 23) (env.blocks * 4096 / mib2)
    let k := (n + 65535) / 65536
    if env.ok = false ∨ env.qpairs < 2 ∨ n ≤ k + 1 then
      let (check, s2) := s1.free
      ((s2.setDrv d 4).raise 0x160 (unitOf 11 d) (check % 2 ^ 32) true).nvNone
    else
      let dir : Tab (Option DirEntry) := env.entries.foldl (fun (t : Tab (Option DirEntry)) l =>
        let e := readEntry l
        if k < e.1 ∧ e.1 < n then Tab.set none t e.1 e.2 else t) []
      let x : Drive := { Drive.init with n := n, k := k, gen := env.storeGen, chunk := min 131072 env.mdts, dir := dir }
      let s2 := (s1.setDrive d x).setFd F.NVS_DRV_SLOTS_n (n - k - 1) d
      let next := (dir.foldl (fun (m : Nat) e => if e.1 = m then m + 1 else m) (k + 1))
      let s3 := ((s2.dropLive (unitOf 11 d) 0x160).dropLive (unitOf 11 d) 0x162).dropLive 0 0x004
      if next < n then ((s3.setFd F.NVS_DRV_NEXT_slot next d).setDrv d 2).spillGive
      else if s3.bit F.NVS_CFG_wrap then ((s3.setFd F.NVS_DRV_NEXT_slot (k + 1) d).setDrv d 2).spillGive
      else (((s3.setFd F.NVS_DRV_NEXT_slot (k + 1) d).setDrv d 5)).raise 0x163 (unitOf 11 d) 0 true

/-- SMART_POLL: due every 60 s, of a drive whose link is up. -/
def smartPoll (d warning : Nat) (s : State) : State :=
  if 2 ≤ d ∨ s.drvState d = 0 ∨ s.drvState d = 1 ∨ s.fd F.NVS_DRV_STS_gen d = 0 ∨ s.domOn (66 + d) = false ∨ s.time < (s.drive d).smartAt then s
  else
    let s1 := (s.setDrive d { s.drive d with smartAt := s.time + msTicks 60000 }).setFd F.NVS_DRV_STS_smart warning d
    if warning % 256 = 0 then s1.dropLive (unitOf 11 d) 0x164 else s1.raise 0x164 (unitOf 11 d) (warning % 256) true

/-- Outcome of an NVS_CMD. -/
def State.nvsCmdSts (s : State) (d op result : Nat) : State :=
  (((s.setFd F.NVS_CMD_STS_drive d).setFd F.NVS_CMD_STS_op op).setFd F.NVS_CMD_STS_result result).incFd F.NVS_CMD_STS_seq

/-- REINIT; it fails where no drive is in use (assumption log 42). -/
def nvsReinit (d : Nat) (s : State) : State :=
  if 2 ≤ d then s
  else if s.drvState d = 2 ∨ s.drvState d = 1 then s.nvsCmdSts d 1 2
  else if s.drvState d = 0 then s.nvsCmdSts d 1 3
  else (((s.driveLost d).setDrv d 1).nvsCmdSts d 1 1).spillGive

/-- Whether a drive takes admin and I/O commands. -/
def State.drvUp (s : State) (d : Nat) : Bool := s.drvState d == 2 || s.drvState d == 3 || s.drvState d == 5

/-- FLUSH; it fails on a drive that is not there (assumption log 42). -/
def nvsFlush (d : Nat) (s : State) : State :=
  if 2 ≤ d then s else if s.drvUp d then (s.nvIssue d 0 0 0 0 0 []).nvsCmdSts d 2 1 else s.nvsCmdSts d 2 3

/-- FORMAT; a DEGRADED drive receives no Write (R466), and extents outstanding are given again. -/
def nvsFormat (d : Nat) (s : State) : State :=
  let busy := (natsFrom 0 256).any fun r => s.fd F.DRM_RG_CFG_kind r == 2 && s.bit F.DRM_RG_CFG_spill r && (s.ring r).writer != 0
  if 2 ≤ d then s
  else if busy then s.nvsCmdSts d 3 2
  else if s.drvState d ≠ 2 ∧ s.drvState d ≠ 5 then s.nvsCmdSts d 3 3
  else
    let s0 := s.giveBack d fun c => c.opcode == 2
    let x := s0.drive d
    let s1 := (s0.setDrive d { x with dir := [], gen := (x.gen + 1) % 2 ^ 32 }).setFd F.NVS_DRV_NEXT_slot (x.k + 1) d
    let s2 := s1.nvIssue d 1 256 0 0 0 [0, x.n, x.k, x.gen + 1]
    ((if s2.drvState d = 5 then (s2.setDrv d 2).dropLive (unitOf 11 d) 0x163 else s2).nvsCmdSts d 3 1).spillGive

/-! ### Extent reads (R464) -/

/-- EXTENT_READ: NVS_XR_CMD.go. A read needs the drive's link (R466). -/
def extentRead (s : State) : State :=
  let d := s.fd F.NVS_XR_SLOT_drive
  let slot := s.fd F.NVS_XR_SLOT_slot
  let addr := s.pair .NVS_XR_ADDR_LO .NVS_XR_ADDR_HI
  let s1 := s.incFd F.NVS_XR_STS_seq
  match Tab.get none (s.drive d).dir slot with
  | some e =>
    if s.bit F.NVS_XR_STS_busy = true ∨ (s.drvState d ≠ 2 ∧ s.drvState d ≠ 3) ∨ slot ≤ (s.drive d).k ∨ (s.drive d).n ≤ slot then
      ((if s.bit F.NVS_XR_STS_busy then s1 else s1.setFd F.NVS_XR_STS_result 2)).assertOnce (278 + d)
    else if s.fd F.NVS_DRV_STS_gen d = 0 then (s1.setFd F.NVS_XR_STS_result 3).assertOnce (278 + d)
    else
      let s2 := ((s1.setFd F.NVS_XR_STS_busy 1).setFd F.NVS_XR_STS_result 0).setFd F.NVS_XR_STS_poison e.poison
      (s2.setStore fun v => { v with xr := some (d, slot, addr / 4096 * 4096) }).nvIssue d 2 0 0 slot 0 [slot * 512, s2.xrBase]
  | none => (if s.bit F.NVS_XR_STS_busy then s1 else s1.setFd F.NVS_XR_STS_result 2).assertOnce (278 + d)

/-- EXTENT_READ_DONE: the 2 MiB that the drive returned, or its failure. Data waits while the device may make no request (R474, R482). -/
def extentReadDone (ok : Bool) (data : List Byte) (s : State) : State :=
  match s.store.xr with
  | none => s
  | some (d, slot, addr) => if ok = true ∧ s.mayRequest.2 = false then s.mayRequest.1 else
    let x := s.drive d
    let s0 := (s.setDrive d { x with cmds := x.cmds.filter fun c => c.opcode != 2 }).setStore fun v => { v with xr := none }
    let s1 := s0.setFd F.NVS_XR_STS_busy 0
    if ok then
      let good := match Tab.get none x.dir slot with | some e => decide (crc32c data = e.crc) | none => false
      let s2 := (s1.dramWrite s1.xrBase data).emit (.hostWrite addr data s1.relaxed)
      ((s2.setFd F.NVS_XR_STS_result (if good then 1 else 4)).assertOnce (278 + d)).spillGive
    else ((s1.setFd F.NVS_XR_STS_result 3).assertOnce (278 + d)).spillGive

def execDramCorrectedError (addr : Nat) (s : State) : Host.Outcome State Fault Refusal := .next (dramCorrectedError addr s)
def execDramUncorrectable (addr : Nat) (s : State) : Host.Outcome State Fault Refusal := .next (dramUncorrectable addr s)
def execPatrolScrub (ecc : Ecc) (s : State) : Host.Outcome State Fault Refusal := .next (patrolScrub ecc s)
def execRetire (s : State) : Host.Outcome State Fault Refusal := .next (drmRetire s)
def execScrubNow (s : State) : Host.Outcome State Fault Refusal := .next (drmScrubNow s)
def execResetRing (r : Nat) (s : State) : Host.Outcome State Fault Refusal := .next (resetRing r s)
def execExtentCloseTimeout (r : Nat) (s : State) : Host.Outcome State Fault Refusal := .next (extentCloseTimeout r s)
def execExtentWriteComplete (d slot : Nat) (s : State) : Host.Outcome State Fault Refusal := .next (extentWriteComplete d slot s)
def execDrmRgRdWrite (r value : Nat) (s : State) : Host.Outcome State Fault Refusal := .next (drmRgRdWrite r value s)
def execNvmeCompletion (d id status : Nat) (s : State) : Host.Outcome State Fault Refusal := .next (nvmeCompletion d id status s)
def execNvmeCommandTimeout (d id : Nat) (ready : Bool) (s : State) : Host.Outcome State Fault Refusal :=
  .next (nvmeCommandTimeout d id ready s)
def execNvmeLinkLoss (d : Nat) (s : State) : Host.Outcome State Fault Refusal := .next (nvmeLinkLoss d s)
def execDriveInitDone (d : Nat) (env : DriveEnv) (s : State) : Host.Outcome State Fault Refusal := .next (driveInitDone d env s)
def execSmartPoll (d warning : Nat) (s : State) : Host.Outcome State Fault Refusal := .next (smartPoll d warning s)
def execNvsReinit (d : Nat) (s : State) : Host.Outcome State Fault Refusal := .next (nvsReinit d s)
def execNvsFlush (d : Nat) (s : State) : Host.Outcome State Fault Refusal := .next (nvsFlush d s)
def execNvsFormat (d : Nat) (s : State) : Host.Outcome State Fault Refusal := .next (nvsFormat d s)
def execExtentRead (s : State) : Host.Outcome State Fault Refusal := .next (extentRead s)
def execExtentReadDone (ok : Bool) (data : List Byte) (s : State) : Host.Outcome State Fault Refusal := .next (extentReadDone ok data s)

end Sys2Proof.Machine
end

