-- ==== Sys2Proof/Machine/Madc.lean ====
section
/-! DEFINITION. Monitor converters (R88–R91, R242–R250, R282): modulator codes, tap changes, readback and check slots, the bridge,
and substitution. -/

namespace Sys2Proof.Machine

/-- Converter `c`. -/
def State.madc (s : State) (c : Nat) : Madc := Tab.get Madc.init s.dec.conv c
def State.setMadc (s : State) (c : Nat) (m : Madc) : State := s.setDec fun d => { d with conv := Tab.set Madc.init d.conv c m }

/-- State of a converter: 0 serving, 1 SPARE_IDLE, 2 RETIRED (R282). -/
def State.madcState (s : State) (c : Nat) : Nat := s.fd F.MADC_STS_state c
/-- The tap set that a converter serves. -/
def State.madcSet (s : State) (c : Nat) : Nat := s.fd F.MADC_STS_set c
/-- The converter that serves a tap set. -/
def State.servingConv (s : State) (v : Nat) : Option Nat :=
  (natsFrom 0 12).find? fun c => s.madcState c == 0 && s.madcSet c == v && c / 3 == v / 2

/-- Whether the converters run: in RUN, with their group's domain on (R250, R580). -/
def State.madcLive (s : State) (c : Nat) : Bool := s.dev.st == .run && s.domOn (24 + c / 3) && decide (c < 12)

/-- The next grid boundary in full ticks and fine units. -/
def State.nextGrid (s : State) : Nat := gridCeil (s.now + 1)

/-- Grid intervals of a slot and of the bridge (R246, R247). -/
def slotLen : Nat := 11719
def bridgeLen : Nat := 13673

/-- A settling event of cause MUX (2) or SPARE (5) on logical converter `v` (R245, R249). -/
def State.muxEvent (s : State) (v cause : Nat) : State :=
  let a := s.nextGrid
  (s.settleSource 2 v cause a (some (a + muxLen * gridFu))).setDec fun d => { d with muxEnd := Tab.set (0, 0) d.muxEnd v (a + muxLen * gridFu, cause) }

/-! ### Codes (R244, R246, R247) -/

/-- A code in the format of R239. -/
def codeVal (d : Nat) : Int := ((d : Int) - 8) * 2 ^ 21

/-- The bridge value (R247): the mean of the last 4,096 codes; a free value where there are fewer (assumption log 31). -/
def State.bridgeOf (s : State) (m : Madc) : State × Int :=
  if m.codes.length = 4096 then (s, m.codes.foldl (fun (t : Int) (d : Nat) => t + ((d : Int) - 8)) 0 * 2 ^ 9)
  else let (f, s1) := s.free; (s1, sInt 25 f)

/-- The readback filter takes a code: from grid interval 1,954 of the slot, a CIC of order 3 and ratio 1,024 (R246). -/
def MadcSlot.take (p : MadcSlot) (d : Nat) : MadcSlot :=
  if p.k < muxLen ∨ 9 ≤ p.outs.length then { p with k := p.k + 1 }
  else
    let ig := integrate (codeVal d) (padInt 3 p.integ)
    let q := { p with k := p.k + 1, integ := ig }
    if (p.k - muxLen + 1) % 1024 = 0 then
      let (cb, y) := combs (lastOr 0 ig) (padInt 3 p.comb)
      { q with comb := cb, outs := p.outs ++ [y] }
    else q

/-- The reading in microvolts over 7 × 2^54 (R244, R246): the mean of r_2 to r_8. -/
def MadcSlot.reading (p : MadcSlot) : Int := 2500000 * (7 * 2 ^ 54) + 5120000 * ((p.outs.drop 2).foldl (fun (t : Int) x => t + x) 0)
/-- Its denominator. -/
def readDen : Nat := 7 * 2 ^ 54

/-- The reading in whole microvolts; which way it is rounded the manual does not say (assumption log 32). -/
def State.readUv (s : State) (p : MadcSlot) : State × Int :=
  let q := p.reading / (readDen : Int)
  if p.reading % (readDen : Int) = 0 then (s, q) else let (f, s1) := s.free; (s1, q + (f % 2 : Nat))

/-- MODULATOR_CODE (R244): the code enters the converter's history, its slot, and its context. -/
def modulatorCode (c code : Nat) (clip : Bool) (s : State) : State :=
  if s.madcLive c = true ∧ code < 16 ∧ s.madcState c ≠ 3 then
    let m := s.madc c
    let x : Int := if m.left = 0 then codeVal code else m.bridge
    let inSlot := m.slot.isSome
    let m1 := { m with codes := if m.left = 0 then (code :: m.codes).take 4096 else m.codes, left := m.left - 1,
                       slot := m.slot.map fun p => p.take code }
    let s1 := s.setMadc c m1
    if s.madcState c = 0 then s1.feedConverter (s.madcSet c) x (decide (m.left ≠ 0)) (clip && ! inSlot) else s1
  else s

/-! ### Taps (R245) -/

/-- A new tap takes effect. -/
def State.setTap (s : State) (v tap : Nat) : State := (s.setFd F.MADC_TAP_tap tap v).muxEvent v 2

/-- A write to MADC_TAPv; a slot of the converter holds it; a reserved tap is ignored (R10). -/
def madcTapWrite (v : Nat) (w : Word) (s : State) : State :=
  let tap := bitsOf w 0 6
  if 45 < tap ∨ 7 < v then s
  else
    let busy := match s.servingConv v with | some c => (s.madc c).slot.isSome | none => false
    if busy then s.setDec fun d => { d with heldTap := Tab.set 0 d.heldTap v (tap + 1) } else s.setTap v tap

/-- The slot of a serving converter has ended: the mux returns, or a held write takes effect and the bridge ends there. -/
def State.slotOver (s : State) (c : Nat) : State :=
  let m := s.madc c
  let s1 := (s.setMadc c { m with slot := none }).setFd F.MADC_STS_slot 0 c
  let v := s.madcSet c
  let h := Tab.get 0 s.dec.heldTap v
  if s.madcState c = 0 ∧ h ≠ 0 then
    ((s1.setMadc c { m with slot := none, left := 0 }).setDec fun d => { d with heldTap := Tab.set 0 d.heldTap v 0 }).setTap v (h - 1)
  else s1

/-- A slot begins, with its bridge where the converter serves (R246–R248). -/
def State.slotBegin (s : State) (c : Nat) (dac : Option Nat) (why : Nat) (discard : Bool) : State :=
  let m := s.madc c
  let (s1, b) := if s.madcState c = 0 then s.bridgeOf m else (s, m.bridge)
  (s1.setMadc c { m with bridge := b, left := if s.madcState c = 0 then bridgeLen else 0,
                         slot := some { dac := dac, k := 0, start := s.time, discard := discard, integ := [], comb := [], outs := [], why := why } }).setFd
    F.MADC_STS_slot 1 c

/-- Whether a slot may begin: none runs, and no MUX span of the tap set lasts (R245). -/
def State.slotFree (s : State) (c : Nat) : Bool :=
  s.madcLive c && (s.madc c).slot.isNone && (s.madcState c != 0 || decide ((Tab.get (0, 0) s.dec.muxEnd (s.madcSet c)).1 ≤ s.now))

/-! ### DAC readback (R88–R91, R246) -/

/-- Whether DAC `d` of tap set `v` is read: its port enabled and of class C. -/
def State.dacUsed (s : State) (v d : Nat) : Bool :=
  let p := 12 * v + d / 2
  s.bit F.PRT_CFG_en p && s.bit F.PRT_CFG_class p

/-- The next DAC of a tap set's rotation, in order of port and upper before lower. -/
def State.nextDac (s : State) (v : Nat) : Option Nat :=
  let n := Tab.get 0 s.dec.next v
  (natsFrom 0 24).findSome? fun j => let d := (n + j) % 24; if s.dacUsed v d then some d else none

/-- Whether PRT_RB_CTL.interval × 10 ms have passed since the tap set's last readback slot began (R89; assumption log 133). -/
def State.rbDue (s : State) (v : Nat) : Bool :=
  let a := Tab.get 0 s.dec.lastRb v
  a == 0 || decide (a + msTicks (10 * s.fd F.PRT_RB_CTL_interval) ≤ s.time + 1)

/-- READBACK_SLOT_START (R89). -/
def readbackSlotStart (c : Nat) (s : State) : State :=
  if s.slotFree c = true ∧ s.madcState c = 0 ∧ s.bit F.PRT_RB_CTL_en = true ∧ s.rbDue (s.madcSet c) = true then
    let v := s.madcSet c
    match s.nextDac v with
    | none => s
    | some d =>
      let s1 := s.setDec fun q => { q with next := Tab.set 0 q.next v ((d + 1) % 24), lastRb := Tab.set 0 q.lastRb v (s.time + 1) }
      s1.slotBegin c (some (24 * v + d)) 0 (s.bit F.PRT_STS_thr_settle (12 * v + d / 2))
  else s

/-- The error of a reading (R90, R246) in units of 1.953125 mV over 7 × 2^54: reading less code voltage (R50). -/
def State.readErr (s : State) (p : MadcSlot) (d : Nat) : Int :=
  let port := d / 2
  let code := side (d % 2 == 1) (s.port port).set.thr
  p.reading * 8 - ((code : Int) * 15625 - 12000000) * readDen

/-- DAC_READBACK for a port (R90, R574). -/
def State.raiseRb (s : State) (port : Nat) : State := s.raise 0x062 (unitOf 3 port) (bitsOf (s.rg .PRT_RB port) 0 16)

/-- READBACK_SLOT_END (R90, R91, R246). -/
def readbackSlotEnd (c : Nat) (s : State) : State :=
  match (s.madc c).slot with
  | none => s
  | some p =>
    match p.dac with
    | none => s
    | some d =>
      if p.k < slotLen ∨ s.madcLive c = false then s
      else
        let port := d / 2
        let s0 := s.slotOver c
        let (s1, uv) := s0.readUv p
        let moved := (Tab.get [] s.thrs port).any fun h => decide (p.start ≤ h.1 ∧ h.1 ≤ s.time)
        if p.discard || moved || s.bit F.PRT_STS_thr_settle port then s1
        else
          let tap := 12 + 2 * (port % 12) + d % 2
          let e := s.readErr p d
          let lsb := holdBits 8 (rdiv e (15625 * readDen))
          let s2 := (s1.setFd F.MADC_RB_tap tap c).setFd F.MADC_RB_uv (uNat 24 uv) c
          let s3 := if d % 2 = 0 then s2.setFd F.PRT_RB_err_hi (uNat 8 lsb) port else s2.setFd F.PRT_RB_err_lo (uNat 8 lsb) port
          if 3 * 15625 * readDen < e.natAbs then
            (if d % 2 = 0 then s3.setFd F.PRT_RB_mis_hi 1 port else s3.setFd F.PRT_RB_mis_lo 1 port).raiseRb port
          else s3

/-! ### Reference checks (R248, R249, R282) -/

/-- CHECK_SLOT_START: a serving converter's check. -/
def checkSlotStart (c : Nat) (s : State) : State :=
  if s.slotFree c = true ∧ s.madcState c = 0 then s.slotBegin c none 0 false else s

/-- SPARE_SELF_CHECK: a SPARE_IDLE converter's check, with no bridge. -/
def spareSelfCheck (c : Nat) (s : State) : State :=
  if s.slotFree c = true ∧ s.madcState c = 1 then s.slotBegin c none 0 false else s

/-- Outcome of a converter command (R282). -/
def State.madcCmdSts (s : State) (c op result : Nat) : State :=
  (((s.setFd F.MADC_CMD_STS_conv c).setFd F.MADC_CMD_STS_op op).setFd F.MADC_CMD_STS_result result).incFd F.MADC_CMD_STS_seq

/-- The spare of a tile that passed its last check. -/
def State.readySpare (s : State) (tile : Nat) : Option Nat :=
  (natsFrom (3 * tile) 3).find? fun c => s.madcState c == 1 && (s.madc c).passed

/-- A substitution (R249): the spare serves the tap set; the old converter takes a state. -/
def State.substitute (s : State) (old spare st : Nat) : State :=
  let v := s.madcSet old
  let m := s.madc old
  let s1 := ((s.setMadc old { m with slot := none, left := 0 }).setFd F.MADC_STS_slot 0 old).setFd F.MADC_STS_state st old
  let m2 := s1.madc spare
  let s2 := ((s1.setMadc spare { m2 with slot := none, left := 0 }).setFd F.MADC_STS_slot 0 spare).setFd F.MADC_STS_state 0 spare
  let s3 := s2.setFd F.MADC_STS_set v spare
  let h := Tab.get 0 s.dec.heldTap v
  let s4 := if h = 0 then s3 else
    (s3.setDec fun d => { d with heldTap := Tab.set 0 d.heldTap v 0 }).setFd F.MADC_TAP_tap (h - 1) v
  (s4.muxEvent v 5).assertOnce (258 + spare)

/-- Escalation of MADC_CHECK: a substitution that retires the converter, where a spare stands ready. -/
def State.madcEscalate (s : State) (c : Nat) : State :=
  if s.madcState c ≠ 0 then s else
  match s.readySpare (c / 3) with
  | some sp => s.substitute c sp 2
  | none => s

/-- MADC_CMD op SUBSTITUTE: the old converter is checked, and counts as RETIRED until it passes (assumption log 33). -/
def madcSubstitute (c : Nat) (s : State) : State :=
  if 12 ≤ c then s
  else if s.madcState c ≠ 0 then s.madcCmdSts c 1 2
  else
    match s.readySpare (c / 3) with
    | none => s.madcCmdSts c 1 2
    | some sp => ((s.substitute c sp 2).slotBegin c none 3 false).madcCmdSts c 1 1

/-- MADC_CMD op CHECK: a check slot now. -/
def madcCheckCmd (c : Nat) (s : State) : State :=
  if 12 ≤ c then s
  else if s.madcState c = 2 ∨ s.slotFree c = false then s.madcCmdSts c 2 2
  else (s.slotBegin c none 1 false).madcCmdSts c 2 0

/-- MADC_CMD op RETRY: a check of a RETIRED converter. -/
def madcRetry (c : Nat) (s : State) : State :=
  if 12 ≤ c then s
  else if s.madcState c ≠ 2 ∨ s.slotFree c = false then s.madcCmdSts c 3 2
  else (s.slotBegin c none 2 false).madcCmdSts c 3 0

/-- CHECK_SLOT_END (R248, R249, R282). -/
def checkSlotEnd (c : Nat) (s : State) : State :=
  match (s.madc c).slot with
  | none => s
  | some p =>
    if p.dac.isSome = true ∨ p.k < slotLen ∨ s.madcLive c = false then s
    else
      let (s1, uv) := (s.slotOver c).readUv p
      let ok := decide ((p.reading - 3500000 * (readDen : Int)).natAbs ≤ 2000 * readDen)
      let s2 := s1.setFd F.MADC_CHK_uv (uNat 24 uv) c
      let s3 := s2.setMadc c { s2.madc c with passed := ok }
      let s4 := if ok then s3.incFd F.MADC_CHK_passes c
        else ((s3.setFd F.MADC_STS_chk_fail 1 c).raise 0x100 (unitOf 8 c) (uNat 32 uv)).assertOnce (258 + c)
      let s5 := if ok = true ∧ 2 ≤ p.why then s4.setFd F.MADC_STS_state 1 c else s4
      if (p.why = 1 ∨ p.why = 2) ∧ s5.fd F.MADC_CMD_STS_conv = c ∧ s5.fd F.MADC_CMD_STS_op = p.why + 1 then s5.setFd F.MADC_CMD_STS_result 1 else s5

/-- The converters stop at entry to WATCH or HALT: slots end with nothing read, and a tap write that one held takes effect (R245, R250). -/
def State.madcHalt (s : State) : State :=
  (natsFrom 0 12).foldl (fun (t : State) c =>
    let t1 := if (t.madc c).slot.isSome then t.slotOver c else t
    t1.setMadc c { t1.madc c with left := 0 }) s

def execModulatorCode (conv code : Nat) (clip : Bool) (s : State) : Host.Outcome State Fault Refusal := .next (modulatorCode conv code clip s)
def execMadcTapWrite (v : Nat) (value : Word) (s : State) : Host.Outcome State Fault Refusal := .next (madcTapWrite v value s)
def execReadbackSlotStart (conv : Nat) (s : State) : Host.Outcome State Fault Refusal := .next (readbackSlotStart conv s)
def execReadbackSlotEnd (conv : Nat) (s : State) : Host.Outcome State Fault Refusal := .next (readbackSlotEnd conv s)
def execCheckSlotStart (conv : Nat) (s : State) : Host.Outcome State Fault Refusal := .next (checkSlotStart conv s)
def execCheckSlotEnd (conv : Nat) (s : State) : Host.Outcome State Fault Refusal := .next (checkSlotEnd conv s)
def execSpareSelfCheck (conv : Nat) (s : State) : Host.Outcome State Fault Refusal := .next (spareSelfCheck conv s)
def execMadcSubstitute (conv : Nat) (s : State) : Host.Outcome State Fault Refusal := .next (madcSubstitute conv s)
def execMadcCheckCmd (conv : Nat) (s : State) : Host.Outcome State Fault Refusal := .next (madcCheckCmd conv s)
def execMadcRetry (conv : Nat) (s : State) : Host.Outcome State Fault Refusal := .next (madcRetry conv s)

end Sys2Proof.Machine
end

