-- ==== Sys2Proof/Machine/Links.lean ====
section
/-! DEFINITION. Links (R374–R406), of channel boards (L0–L15) and of the cascade (C0–C3, here 16 to 19; R403): LINK_EVT packets,
sequence and retransmission, training, time exchange, credits and their audit, and edge reports. -/

namespace Sys2Proof.Machine

/-- Link `l`. -/
def State.link (s : State) (l : Nat) : Link := Tab.get Link.init s.links l
def State.setLink (s : State) (l : Nat) (k : Link) : State := { s with links := Tab.set Link.init s.links l k }
/-- Update a link. -/
def State.modLink (s : State) (l : Nat) (f : Link → Link) : State := s.setLink l (f (s.link l))

/-- A field of a link's registers, of LNK_ or CAS_LNK_. -/
def State.lfd (s : State) (a b : Fld) (l : Nat) : Nat := if l < 16 then s.fd a l else s.fd b (l - 16)
def State.setLfd (s : State) (a b : Fld) (v l : Nat) : State := if l < 16 then s.setFd a v l else s.setFd b v (l - 16)
def State.incLfd (s : State) (a b : Fld) (l : Nat) : State := if l < 16 then s.incFd a l else s.incFd b (l - 16)

/-- State of a link: 0 OFF, 1 TRAIN, 2 SYNC, 3 UP, 4 DOWN, 5 FAULT (R389). -/
def State.lstate (s : State) (l : Nat) : Nat := s.lfd F.LNK_STS_state F.CAS_LNK_STS_state l

/-- Event sources 218 + l, 234 + c (R404, R532). -/
def State.linkLevel (s : State) (l : Nat) : State :=
  if l < 16 then s.setLevel (218 + l) (s.bit F.LNK_STS_chg l || s.bit F.LNK_STS_audit_fail l)
  else
    let c := l - 16
    s.setLevel (234 + c) (s.bit F.CAS_LNK_STS_chg c || s.bit F.CAS_LNK_STS_audit_fail c || (c == 0 && s.bit F.CAS_STS_mem_chg))

/-- A link takes a state. -/
def State.setLstate (s : State) (l st : Nat) : State :=
  if s.lstate l = st then s
  else ((s.setLfd F.LNK_STS_state F.CAS_LNK_STS_state st l).setLfd F.LNK_STS_chg F.CAS_LNK_STS_chg 1 l).linkLevel l

/-- Buffers of a link's receiver (R396, R517), and flits that may be outstanding (R394, R517). -/
def linkBufs (l : Nat) : Nat := if l < 16 then 64 else 128
def linkReplay (l : Nat) : Nat := if l < 16 then 64 else 127

/-- U and O of a link. -/
def State.lU (s : State) (l : Nat) : Nat := s.lfd F.LNK_CREDIT_ungranted F.CAS_LNK_CREDIT_ungranted l
def State.lO (s : State) (l : Nat) : Nat := s.lfd F.LNK_CREDIT_occupied F.CAS_LNK_CREDIT_occupied l
/-- Set U and O; the rest is granted. -/
def State.setUO (s : State) (l u o : Nat) : State :=
  ((s.setLfd F.LNK_CREDIT_ungranted F.CAS_LNK_CREDIT_ungranted u l).setLfd F.LNK_CREDIT_occupied F.CAS_LNK_CREDIT_occupied o l).setLfd
    F.LNK_CREDIT_granted F.CAS_LNK_CREDIT_granted (linkBufs l - u - o) l

/-! ### LINK_EVT (R364, R398, R399) -/

/-- The LINK_EVT packet of code `code`: time, number of events, detail. -/
def State.linkEvtPkt (s : State) (l code : Nat) (e : Nat × Nat × Nat × Nat) (n : Nat) : State :=
  let chan := if l < 16 ∧ (code = 4 ∨ code = 6 ∨ code = 7 ∨ code = 8 ∨ code = 10) then 0x100 + 256 * l + e.2.1 % 256 else 0
  if s.bit F.QUE_SYSQ_LNK_en then
    (s.pushPkt (s.fd F.QUE_SYSQ_LNK_queue) prodSys .sys
      [mkRec 0x13 chan 0 0 (stamp e.1) (l + 256 * code + 65536 * sat 65535 n), mkRecW 0x13 chan 1 0 e.2.1 e.2.2.1 e.2.2.2]).1
  else s

/-- Ticks of a link's LINK_EVT gap; cascade links have no such register, and form one for every event. -/
def State.evtGap (s : State) (l : Nat) : Nat := if l < 16 then usTicks (s.fd F.LNK_EVT_CFG_gap l) else 0

/-- An event of code `code` with its detail: counted, and formed or held (R398, R399). -/
def State.linkEvt (s : State) (l code w1 w2 w3 : Nat) : State :=
  let s1 := if l < 16 then s.addSat F.LNK_VCNT 1 l (code - 1) else s.addSat F.CAS_LNK_VCNT 1 (l - 16) (code - 1)
  let k := s1.link l
  let e := Tab.get LinkEvt.init k.evts code
  let d := (s1.now, w1 % 2 ^ 32, w2 % 2 ^ 32, w3 % 2 ^ 32)
  if s1.time < e.until_ then s1.setLink l { k with evts := Tab.set LinkEvt.init k.evts code { e with count := e.count + 1, held := some d } }
  else
    (s1.setLink l { k with evts := Tab.set LinkEvt.init k.evts code { until_ := if s1.evtGap l = 0 then 0 else s1.time + s1.evtGap l, count := 0, held := none } }).linkEvtPkt
      l code d (e.count + 1)

/-- LINK_EVT_GAP_END (R399). -/
def linkEvtGapEnd (l code : Nat) (s : State) : State :=
  let k := s.link l
  let e := Tab.get LinkEvt.init k.evts code
  match e.held with
  | some d =>
    if e.until_ ≤ s.time then
      (s.setLink l { k with evts := Tab.set LinkEvt.init k.evts code { until_ := s.time + s.evtGap l, count := 0, held := none } }).linkEvtPkt l code d e.count
    else s
  | none => s

/-! ### Sending (R376–R379, R393, R394) -/

/-- Slot words of a CTL flit. -/
def ctl (l : List Nat) : List Nat := l

/-- The time fields of a flit, formed for the tick in which it leaves (R379, R385, R386, R393, R397). -/
def State.fillFlit (s : State) (l : Nat) (f : TxFlit) : List Nat :=
  if f.kind ≠ 3 then f.slots
  else
    let d := s.lfd F.LNK_DELAY_d F.CAS_LNK_DELAY_d l
    let t := s.now
    let k := s.link l
    match f.slots with
    | 2 :: _ => [2, t % 2 ^ 32, t / 2 ^ 32 % 2 ^ 32]
    | 3 :: a :: b :: _ :: _ :: r => 3 :: a :: b :: (t % 2 ^ 32) :: (t / 2 ^ 32 % 2 ^ 32) :: r
    | 4 :: _ => [4, (t + d) % 2 ^ 32, (t + d) / 2 ^ 32 % 2 ^ 32]
    | 6 :: _ => [6, k.sent % 2 ^ 16, k.rb % 2 ^ 16, k.bal % 256]
    | x => x

/-- The words of a flit, CRC included (R376, R377). -/
def flitWords (kind seq ack nrep credit anchor : Nat) (slots : List Nat) : List Nat :=
  let w := (kind % 16 + seq % 256 * 16 + ack % 256 * 4096 + nrep % 16 * 2 ^ 20 + credit % 256 * 2 ^ 24) :: anchor ::
    ((slots ++ (natsFrom 0 13).map fun _ => 0).take 13)
  w ++ [crc32c (w.flatMap fun x => leBytes 4 x)]

/-- A flit leaves. -/
def State.sendFlit (s : State) (l kind seq nrep anchor : Nat) (slots : List Nat) : State :=
  let k := s.link l
  s.emit (.flit l kind (flitWords kind seq (k.rx + 255) nrep k.g anchor slots))

/-- A kept flit leaves, for the first time or again. A TREQ's t1 is that of its last sending. -/
def State.sendKept (s : State) (l : Nat) (f : TxFlit) : State :=
  let ws := s.fillFlit l f
  let s1 := if f.kind = 3 ∧ f.slots.head? = some 2 then s.modLink l fun k => { k with t1 := some s.now } else s
  s1.sendFlit l f.kind f.seq f.nrep 0 ws

/-- A sequenced flit leaves with the next sequence number and is kept for replay (R394). -/
def State.sendNew (s : State) (l kind nrep : Nat) (slots : List Nat) : State :=
  let k := s.link l
  let f : TxFlit := ⟨k.tx, kind, nrep, slots⟩
  (s.setLink l { k with tx := (k.tx + 1) % 256, kept := k.kept ++ [f], since := if k.kept.isEmpty then s.time else k.since }).sendKept l f

/-- A sequenced flit: sent at once, or kept back while as many are outstanding as may be (R394). Flits that carry records or line
events keep their order behind those that wait. -/
def State.sendSeq (s : State) (l kind nrep : Nat) (slots : List Nat) : State :=
  let k := s.link l
  if linkReplay l ≤ k.kept.length ∨ (kind ≠ 3 ∧ k.waitTx ≠ []) then s.setLink l { k with waitTx := k.waitTx ++ [⟨0, kind, nrep, slots⟩] }
  else s.sendNew l kind nrep slots

/-- A CTL flit. -/
def State.sendCtl (s : State) (l : Nat) (slots : List Nat) : State := s.sendSeq l 3 0 (ctl slots)

/-- Flits that wait leave while there is room. -/
def State.sendWaiting (l : Nat) : Nat → State → State
  | 0, s => s
  | n + 1, s =>
    let k := s.link l
    match k.waitTx with
    | [] => s
    | f :: t => if linkReplay l ≤ k.kept.length then s else State.sendWaiting l n ((s.setLink l { k with waitTx := t }).sendNew l f.kind f.nrep f.slots)

/-- Every flit kept leaves again (R390, R393). -/
def State.resendAll (s : State) (l : Nat) : State := (s.link l).kept.foldl (fun t f => t.sendKept l f) s

/-- An ack covers kept flits up to the one it names (R394). -/
def ackDrop (a : Nat) : List TxFlit → List TxFlit
  | [] => []
  | f :: t => if f.seq = a then t else ackDrop a t

/-- The ack and credit that any good flit carries (R378, R394, R396). -/
def State.takeHeader (s : State) (l : Nat) (f : Flit) : State :=
  let k := s.link l
  let hit := k.kept.any fun x => x.seq == f.ack
  let k1 := if hit then { k with kept := ackDrop f.ack k.kept, resent := 0, since := s.time } else k
  let got := if l < 16 then 0 else (f.credit + 256 - k.rb % 256) % 256
  State.sendWaiting l 128 (s.setLink l { k1 with good := true, heard := s.time, rb := k1.rb + got, bal := k1.bal + got })

/-! ### States and training (R389–R392) -/

/-- HELLO (R379, R516). -/
def State.sendHello (s : State) (l : Nat) : State :=
  let k := s.link l
  let last := (k.rx + 255) % 256 + 256 * b2n k.rxAny
  let w3 := if l < 16 then k.g % 65536
    else s.fd F.CAS_ID_dev + 64 * s.fd F.CAS_ID_role + 256 * s.fd F.CAS_STS_level + 2048 * s.fd F.CAS_STS_rooted
  s.sendFlit l 3 0 0 0 [1, 1, last, w3]

/-- Flits that wait and outlive a loss of the link: all but the exchanges of time and of the audit, which begin anew (R391, R528). -/
def Link.lasting (k : Link) : List TxFlit :=
  k.waitTx.filter fun f => f.kind != 3 || decide (7 ≤ f.slots.headD 0)

/-- Training starts from step 1 (R390). With rate 2 the rates alternate by try. -/
def State.train (s : State) (l : Nat) : State :=
  let k := s.link l
  let r := s.lfd F.LNK_CFG_rate F.CAS_LNK_CFG_rate l
  let act := if r = 2 then k.tries % 2 else r % 2
  ((s.setLfd F.LNK_STS_rate_act F.CAS_LNK_STS_rate_act act l).setLink l
    { k with step := 1, waitTx := k.lasting, t1 := none, areq := none, exch := 0, rttSum := 0, more := 0, naks := 0, good := true, resent := 0, since := s.time }).setLstate l 1

/-- A link goes OFF: its channel states, counters and sequence state are kept (R389, R392). -/
def State.linkOff (s : State) (l : Nat) : State :=
  ((s.modLink l fun k => { k with step := 0, t1 := none, areq := none, waitTx := k.lasting, downAt := some (k.downAt.getD s.time) }).setLstate l 0)

/-- Whether a link's domain is on (R404, R580). -/
def State.linkDom (s : State) (l : Nat) : Bool := if l < 16 then s.domOn (69 + l / 4) else s.domOn 73

/-- Whether a cascade link is used in the device's role (R509). -/
def State.linkRole (s : State) (l : Nat) : Bool :=
  decide (l < 16) || (match s.fd F.CAS_ID_role with | 1 => decide (16 < l) | 2 => true | _ => false)

/-- An enabled link trains. -/
def State.linkStart (s : State) (l : Nat) : State :=
  if s.lfd F.LNK_CFG_en F.CAS_LNK_CFG_en l = 1 ∧ s.linkDom l = true ∧ s.linkRole l = true ∧
      (s.dev.st = .run ∨ s.dev.st = .boot) then (s.modLink l fun k => { k with tries := 0 }).train l
  else s.linkOff l

/-- Unit of a link (R563). -/
def linkUnit (l : Nat) : Nat := unitOf 5 l

/-- A member that has joined and whose C0 is not UP is ADRIFT (R521). -/
def State.adrift (s : State) : State :=
  if s.fd F.CAS_STS_state = 2 ∧ s.fd F.CAS_ID_role = 2 then
    ((s.setFd F.CAS_STS_state 3).setFd F.CAS_STS_rooted 0).linkEvt 16 20 (uNat 32 s.casc.err) 3 0
  else s

/-- A link is declared DOWN (R391). A TREQ still unanswered stays so (R387). -/
def State.linkDown (s : State) (l cause : Nat) : State :=
  let s1 := (s.modLink l fun k => { k with step := 0, t1 := none, areq := none, waitTx := k.lasting, downAt := some s.time }).setLstate l 4
  let s2 := (if (s.link l).t1.isSome then s1.setLfd F.LNK_STS_time_ok F.CAS_LNK_STS_time_ok 0 l else s1).linkEvt l 12 cause 0 0
  let s3 := s2.raise (if l < 16 then 0x0A2 else 0x0A4) (linkUnit l) cause
  if l = 16 then s3.adrift else s3

/-- An escalated LINK_FAIL or credit audit moves the link to FAULT (R390, R397). -/
def State.linkFault (s : State) (l : Nat) : State := (s.linkOff l).setLstate l 5

/-- A training try fails; after eight, LINK_FAIL (R390). -/
def State.tryFails (s : State) (l : Nat) : State :=
  let k := s.link l
  let s1 := s.setLink l { k with tries := k.tries + 1 }
  if k.tries + 1 < 8 then s1.train l
  else
    ((s1.modLink l fun k => { k with step := 0, downAt := some s.time }).setLstate l 1).raise 0x0A0 (linkUnit l) (k.tries + 1) true

/-- FLIT_LOCK (R375, R390). -/
def flitLock (l : Nat) (s : State) : State :=
  if s.lstate l = 1 ∧ (s.link l).step = 1 then (s.modLink l fun k => { k with step := 2 }).sendHello l else s

/-- FLIT_LOCK_LOSS (R375, R391). -/
def flitLockLoss (l : Nat) (s : State) : State :=
  if s.lstate l = 3 ∨ s.lstate l = 2 then s.linkDown l 0
  else if s.lstate l = 1 ∧ 2 ≤ (s.link l).step then s.modLink l fun k => { k with step := 1 }
  else s

/-- TRAIN_TRY_TIMEOUT (R390). -/
def trainTryTimeout (l : Nat) (s : State) : State :=
  if (s.lstate l = 1 ∨ s.lstate l = 2) ∧ (s.link l).step ≠ 0 then s.tryFails l else s

/-- RETRAIN_TIMER (R390): training restarts; for L links once LNK_TMO.retrain ms have passed. -/
def retrainTimer (l : Nat) (s : State) : State :=
  let k := s.link l
  let due := match k.downAt with
    | some t => decide (16 ≤ l) || decide (t + msTicks (s.fd F.LNK_TMO_retrain l) ≤ s.time)
    | none => true
  if (s.lstate l = 4 ∨ (s.lstate l = 1 ∧ k.step = 0)) ∧ due = true then s.train l else s

/-- Free buffers are granted; on L links credits start anew (R390 step 4, R396). A cascade link counts from the HELLO's header. -/
def State.stepCredit (s : State) (l : Nat) : State :=
  let o := s.lO l
  (s.modLink l fun k =>
    { k with g := k.g + (linkBufs l - o), rb := if l < 16 then 0 else k.rb, bal := if l < 16 then 0 else k.bal }).setUO l 0 o

/-- Step 5 SYNC begins: kept flits are resent first (assumption log 34), then the first TREQ; on C0 the parent sends them. -/
def State.stepSync (s : State) (l : Nat) : State :=
  let s1 := ((s.modLink l fun k => { k with step := 5, exch := 0, rttSum := 0, more := 0, t1 := none, since := s.time }).setLstate l 2).resendAll l
  if l = 16 ∨ ((s1.link l).kept.any fun f => f.kind == 3 && f.slots.head? == some 2) then s1 else s1.sendCtl l [2]

/-- Step 3 RESUME (R390, R391): the sequence goes on after what the peer accepted, or starts anew. -/
def Link.resume (k : Link) (w : Nat) : Link :=
  if natBit w 8 then
    let p := w % 256
    let hit := k.kept.any fun f => f.seq == p
    let kept := if hit then ackDrop p k.kept else k.kept
    { k with kept := kept, tx := if kept.isEmpty then (p + 1) % 256 else k.tx, resent := 0 }
  else { k with kept := [], tx := 0, resent := 0 }

/-- A break of the path: a packet open in the tunnel queue is rewound (R528). -/
def State.tunnelBreak (s : State) (t : Nat) : State :=
  let q := s.fd F.CAS_TUNIN_CFG_queue t
  match (s.queue q).opn with
  | some o =>
    if o.prod = 0x100 + t then ((s.rewindQ q (0x100 + t)).setFd F.CAS_TUNIN_STS_brk 1 t).incFd F.CAS_TUNIN_STS_rewound t else s
  | none => s

/-- Inbound tunnels whose source lies beyond a link. -/
def State.breakVia (s : State) (l : Nat) : State :=
  (natsFrom 0 16).foldl (fun (u : State) t =>
    let src := u.fd F.CAS_TUNIN_CFG_src t
    let here := if l = 16 then ! ((natsFrom 17 3).any fun x => (u.link x).devs.contains src) else (u.link l).devs.contains src
    if here then u.tunnelBreak t else u) s

/-- What a HELLO tells of the peer (R379, R516). -/
def State.notePeer (s : State) (l : Nat) (f : Flit) : State :=
  let w := nth 0 f.slots 3
  if l < 16 then (s.setFd F.LNK_BOARD_id w l).setFd F.LNK_BOARD_chans (w / 65536) l
  else
    ((s.setFd F.CAS_LNK_STS_peer w (l - 16)).setFd F.CAS_LNK_STS_peer_valid 1 (l - 16)).modLink l fun k =>
      { k with role := natBits w 6 2, rooted := natBit w 11, rb := f.credit % 256, bal := 0 }

/-- U that a member reports in its JOIN: the manual gives the member no measure of its own hop before SYNC, so it is a free value
(assumption log 35). -/
def State.joinU (s : State) : Nat × State := let (f, s1) := s.free; (f % 2 ^ 24, s1)

/-- Step 3 of a member's C0 (R513): JOIN. -/
def State.sendJoin (s : State) (f : Flit) : State :=
  let w := nth 0 f.slots 3
  let lvl := (natBits w 8 3 + 1) % 8
  let s1 := ((s.setFd F.CAS_STS_level lvl).setFd F.CAS_STS_parent w).setFd F.CAS_STS_rooted (natBits w 11 1)
  let (u, s2) := s1.joinU
  (s2.modLink 16 fun k => { k with step := 3 }).sendCtl 16 [7, s2.fd F.CAS_ID_dev + 256 * lvl, u]

/-- Whether a link must first go through JOIN: C0 of a member that is joining or was lost, and a child link whose DEV has not
joined (R513, R530). -/
def State.mustJoin (s : State) (l : Nat) (f : Flit) : Bool :=
  if l < 16 then false
  else if l = 16 then
    s.fd F.CAS_STS_state == 1 ||
      (s.fd F.CAS_STS_state == 3 && (match (s.link 16).downAt with | some t => decide (t + msTicks 100 ≤ s.time) | none => false))
  else ! (s.link l).devs.contains (nth 0 f.slots 3 % 64)

/-- HELLO (R390, R513). -/
def hello (l : Nat) (f : Flit) (s : State) : State :=
  let st := s.lstate l
  let k := s.link l
  if st = 3 then ((s.modLink l fun k => { k with heard := s.time, good := true }).linkDown l 2)
  else if st = 2 ∨ (st = 1 ∧ k.step = 3) then s.sendHello l
  else if st = 1 ∧ k.step = 2 then
    if nth 0 f.slots 1 % 256 ≠ 1 then s.tryFails l
    else
      let w := nth 0 f.slots 2
      let s1 := if 16 ≤ l ∧ natBit w 8 = false then s.breakVia l else s
      let s2 := (s1.notePeer l f).setLink l { (s1.link l).resume w with heard := s.time }
      let s3 := if natBit w 8 then s2 else s2.modLink l fun k => { k with rx := 0, rxAny := false }
      if s3.mustJoin l f then (if l = 16 then s3.sendJoin f else s3.modLink l fun k => { k with step := 3 })
      else (s3.stepCredit l).stepSync l
  else s

/-- A link that comes UP: its periods count from now. -/
def Link.goesUp (k : Link) (t : Nat) : Link :=
  { k with step := 0, tries := 0, high := none, downAt := none, heard := t, treqAt := some t, timeAt := some t, areqAt := some t }

/-- TRAINING_COMPLETE (R390): the first TIME has gone, or come. -/
def trainingComplete (l : Nat) (s : State) : State :=
  let k := s.link l
  if s.lstate l = 2 ∧ k.step = 6 then
    let s1 := ((s.setLink l (k.goesUp s.time)).setLstate l 3).incLfd
      F.LNK_STS_trains F.CAS_LNK_STS_trains l
    (s1.dropLive (linkUnit l) 0x0A0).linkEvt l 13 (s1.lfd F.LNK_STS_rate_act F.CAS_LNK_STS_rate_act l)
      (s1.lfd F.LNK_RTT_rtt F.CAS_LNK_RTT_rtt l) (s1.lfd F.LNK_DELAY_d F.CAS_LNK_DELAY_d l)
  else s

/-! ### Receiving (R393–R395) -/

/-- Whether a link receives sequenced flits. -/
def State.receives (s : State) (l : Nat) : Bool :=
  s.lstate l == 3 || s.lstate l == 2 || (s.lstate l == 1 && (s.link l).step == 3)

/-- A sequenced flit with a good CRC: accepted where its sequence is the one expected (R393). -/
def State.accept (s : State) (l : Nat) (f : Flit) : State × Bool :=
  if ! s.receives l then (s, false)
  else
    let s1 := s.takeHeader l f
    let k := s1.link l
    if f.seq % 256 = k.rx then (s1.setLink l { k with rx := (k.rx + 1) % 256, rxAny := true, naks := 0 }, true) else (s1, false)

/-- IDLE_FLIT (R378). -/
def idleFlit (l : Nat) (f : Flit) (s : State) : State := if s.receives l then s.takeHeader l f else s

/-- The sender goes back to a sequence number (R393, R394). -/
def State.replay (s : State) (l seq : Nat) : State :=
  let k := s.link l
  let rest := k.kept.dropWhile fun f => f.seq != seq
  if rest.isEmpty then s
  else
    let n := (if rest.length = k.kept.length then k.resent else 0) + 1
    if 8 < n then (s.setLink l { k with kept := rest, resent := 0 }).linkDown l 2
    else
      ((s.setLink l { k with kept := rest, resent := n, since := s.time }).incLfd F.LNK_RETRY_replays F.CAS_LNK_RETRY_replays l).resendAll l

/-- NAK_FLIT (R377, R393). -/
def nakFlit (l : Nat) (f : Flit) (s : State) : State :=
  if s.receives l then (s.takeHeader l f).replay l (f.anchor % 256) else s

/-- ACK_TIMEOUT (R394); for L links once LNK_TMO.ack µs have passed. -/
def ackTimeout (l : Nat) (s : State) : State :=
  let k := s.link l
  match k.kept with
  | f :: _ =>
    if s.receives l = true ∧ (16 ≤ l ∨ k.since + usTicks (s.fd F.LNK_TMO_ack l) ≤ s.time) then s.replay l f.seq else s
  | [] => s

/-- BAD_CRC_FLIT (R393, R398). -/
def badCrcFlit (l : Nat) (s : State) : State :=
  if ! s.receives l then s
  else
    let k := s.link l
    if k.naks = 0 ∨ k.good = true then
      let n := k.naks + 1
      let s1 := ((s.setLink l { k with naks := n, good := false }).linkEvt l 1 k.rx n 0).incLfd F.LNK_RETRY_naks F.CAS_LNK_RETRY_naks l
      let s2 := s1.sendFlit l 2 0 0 k.rx []
      if 8 ≤ n then (s2.linkEvt l 2 k.rx 0 0).linkDown l 2 else s2
    else (s.setLink l { k with good := false }).linkEvt l 1 k.rx k.naks 0

/-- SILENCE_TIMEOUT (R391); for L links once LNK_TMO.loss µs have passed. -/
def silenceTimeout (l : Nat) (s : State) : State :=
  if (s.lstate l = 2 ∨ s.lstate l = 3) ∧ (16 ≤ l ∨ (s.link l).heard + usTicks (s.fd F.LNK_TMO_loss l) ≤ s.time) then s.linkDown l 1 else s

/-- BAD_TYPE (R395): a flit of a reserved type or subtype. -/
def badType (l kind : Nat) (f : Flit) (s : State) : State :=
  let (s1, ok) := s.accept l f
  if ok then
    s1.linkEvt l 16 (kind % 16 + f.seq % 256 * 16 + f.ack % 256 * 4096 + f.nrep % 16 * 2 ^ 20 + f.credit % 256 * 2 ^ 24) (nth 0 f.slots 0) 0
  else s1

/-! ### Time (R385–R387) -/

/-- Tolerance of a link's time. -/
def State.linkTol (s : State) (l : Nat) : Nat := if l < 16 then s.fd F.LNK_SYNC_CFG_tol l else s.fd F.CAS_CFG_tol

/-- Round half upward of a / b. -/
def halfUp (a : Int) (b : Nat) : Int := (2 * a + (b : Int)) / ((2 * b : Nat) : Int)

/-- A new RTT over `n` exchanges: LNK_RTT and d (R385). -/
def State.setRtt (s : State) (l : Nat) (sum : Int) (n : Nat) : State :=
  let rtt := halfUp sum n
  let d := halfUp sum (2 * n) + sInt 16 (s.lfd F.LNK_ASYM_asym F.CAS_LNK_ASYM_asym l)
  let s1 := s.setLfd F.LNK_RTT_rtt F.CAS_LNK_RTT_rtt (min (2 ^ 24 - 1) rtt.toNat) l
  s1.setLfd F.LNK_DELAY_d F.CAS_LNK_DELAY_d (min (2 ^ 24 - 1) d.toNat) l

/-- The largest |err| since the last read, and the last err (R386, R387, R519). -/
def State.noteErr (s : State) (l : Nat) (e : Int) : State :=
  let v := uNat 16 (max (-32768) (min 32767 e))
  if l < 16 then (s.setFd F.LNK_SYNC_STS_err v l).setFd F.LNK_SYNC_STS_errmax (max (s.fd F.LNK_SYNC_STS_errmax l) (sat 65535 e.natAbs)) l
  else (s.setFd F.CAS_OFFSET_err v).setFd F.CAS_OFFSET_errmax (max (s.fd F.CAS_OFFSET_errmax) (sat 65535 e.natAbs))

/-- An exchange of training: the next TREQ, or after sixteen the first TIME (R385, R390 step 5). The TREQ was answered (R387). -/
def State.trainExchange (s : State) (l : Nat) (rtt : Int) : State :=
  let k := s.link l
  let n := k.exch + 1
  let s1 := (s.setLink l { k with exch := n, rttSum := k.rttSum + rtt, t1 := none }).setLfd F.LNK_STS_time_ok F.CAS_LNK_STS_time_ok
    (b2n (decide (k.lastErr.natAbs ≤ s.linkTol l))) l
  if n < 16 then s1.sendCtl l [2]
  else ((s1.setRtt l (k.rttSum + rtt) 16).modLink l fun k => { k with step := 6, rttKnown := true }).sendCtl l [4]

/-- ECHO, whose first bit came at `t4` (R385–R387). -/
def echo (l : Nat) (f : Flit) (t4 : Nat) (s : State) : State :=
  let (s1, ok) := s.accept l f
  let k := s1.link l
  match ok, k.t1 with
  | true, some t1 =>
    let t2 := nth 0 f.slots 1 + 2 ^ 32 * nth 0 f.slots 2
    let t3 := nth 0 f.slots 3 + 2 ^ 32 * nth 0 f.slots 4
    let rtt : Int := ((t4 : Int) - t1) - sInt 64 (t3 + 2 ^ 64 - t2 % 2 ^ 64)
    if s1.lstate l = 2 ∧ k.step = 5 then s1.trainExchange l rtt
    else if s1.lstate l = 3 then
      let e := sInt 32 (nth 0 f.slots 5)
      let tol := s1.linkTol l
      let old := s1.lfd F.LNK_RTT_rtt F.CAS_LNK_RTT_rtt l
      let s2 := (s1.setLink l { k with t1 := none, more := k.more - 1, lastErr := e }).setRtt l rtt 1
      let s3 := if l < 16 then s2.noteErr l e else s2
      let s4 := s3.setLfd F.LNK_STS_time_ok F.CAS_LNK_STS_time_ok (b2n (decide (e.natAbs ≤ tol))) l
      let s5 := if k.rttKnown && decide (tol < (rtt - (old : Int)).natAbs) then s4.linkEvt l 15 (uNat 32 rtt) old 0 else s4
      let s6 := if tol < e.natAbs then s5.linkEvt l 14 (uNat 32 e) tol 0 else s5
      if 1 < k.more then s6.sendCtl l [2] else s6
    else s1
  | _, _ => s1

/-- Whether a period of `n` ticks has passed since `t`. -/
def State.past (s : State) (t : Option Nat) (n : Nat) : Bool := match t with | some t => decide (t + n ≤ s.time) | none => true

/-- Ticks between TREQs of a link: LNK_SYNC_CFG.period ms (R385); a cascade link has no such register, and any time is due. -/
def State.treqGap (s : State) (l : Nat) : Nat := if l < 16 then msTicks (s.fd F.LNK_SYNC_CFG_period l) else 0

/-- TREQ_PERIOD (R385, R387): C0 sends none. -/
def treqPeriod (l : Nat) (s : State) : State :=
  if s.lstate l = 3 ∧ l ≠ 16 ∧ s.past (s.link l).treqAt (s.treqGap l) = true then
    let s1 := if (s.link l).t1.isSome then s.setLfd F.LNK_STS_time_ok F.CAS_LNK_STS_time_ok 0 l else s
    (s1.modLink l fun k => { k with treqAt := some s.time }).sendCtl l [2]
  else s

/-- TIME_PERIOD (R386, R518): every 65,536 ticks. -/
def timePeriod (l : Nat) (s : State) : State :=
  if s.lstate l = 3 ∧ l ≠ 16 ∧ s.past (s.link l).timeAt 65536 = true then
    (s.modLink l fun k => { k with timeAt := some s.time }).sendCtl l [4]
  else s

/-! ### Credits and the audit (R396, R397) -/

/-- CREDIT_GRANT. -/
def creditGrant (l : Nat) (s : State) : State :=
  let u := s.lU l
  if s.lstate l = 3 ∧ u ≠ 0 then (s.modLink l fun k => { k with g := k.g + 1 }).setUO l (u - 1) (s.lO l) else s

/-- An AREQ. -/
def State.sendAreq (s : State) (l : Nat) : State := (s.modLink l fun k => { k with areq := some s.time }).sendCtl l [5, (s.link l).g % 2 ^ 16]

/-- AREQ_PERIOD: every 1 ms (R397, R517). -/
def areqPeriod (l : Nat) (s : State) : State :=
  if s.lstate l = 3 ∧ s.past (s.link l).areqAt (msTicks 1) = true then
    (s.modLink l fun k => { k with areqAt := some s.time }).sendAreq l
  else s

/-- REPORT or FWD flits accepted, modulo 2^16. -/
def State.flitsAcc (s : State) (l : Nat) : Nat := (if l < 16 then s.pair .LNK_FLITS_LO .LNK_FLITS_HI l else (s.link l).acc) % 2 ^ 16

/-- A failed audit (R397, R517). -/
def State.auditFail (s : State) (l sExp sum bb : Nat) : State :=
  let s1 := ((s.incLfd F.LNK_AUDIT_failed F.CAS_LNK_AUDIT_failed l).setLfd F.LNK_STS_audit_fail F.CAS_LNK_STS_audit_fail 1 l).linkLevel l
  let s2 := (s1.linkEvt l 11 sExp sum bb).raise (if l < 16 then 0x0A1 else 0x0A3) (linkUnit l) sum
  (s2.modLink l fun k => { k with areq := none, ovr := false }).linkDown l 3

/-- ARSP: the audit (R397). A REPORT flit without credit makes it fail (R398). -/
def arsp (l : Nat) (f : Flit) (s : State) : State :=
  let (s1, ok) := s.accept l f
  let k := s1.link l
  if ok = true ∧ s1.lstate l = 3 ∧ k.areq.isSome = true then
    let sx := nth 0 f.slots 1 % 2 ^ 16
    let rb := nth 0 f.slots 2 % 2 ^ 16
    let bb := nth 0 f.slots 3 % (if l < 16 then 128 else 256)
    let sum := bb + (k.g + 2 ^ 16 - rb) % 2 ^ 16 + s1.lU l + s1.lO l
    if s1.flitsAcc l = sx ∧ sum = linkBufs l ∧ k.ovr = false then
      (s1.setLink l { k with areq := none }).incLfd F.LNK_AUDIT_passed F.CAS_LNK_AUDIT_passed l
    else s1.auditFail l (s1.flitsAcc l) sum bb
  else s1

/-- ARSP_TIMEOUT: no ARSP within 1 ms of the AREQ. -/
def arspTimeout (l : Nat) (s : State) : State :=
  match (s.link l).areq with
  | some t => if s.lstate l = 3 ∧ t + msTicks 1 ≤ s.time then s.auditFail l (s.flitsAcc l) 0 0 else s
  | none => s

/-! ### Edge reports (R380–R384, R398) -/

/-- AHIGH (R380). -/
def ahigh (l : Nat) (f : Flit) (s : State) : State :=
  let (s1, ok) := s.accept l f
  if ok ∧ s1.lstate l = 3 then s1.modLink l fun k => { k with high := some (nth 0 f.slots 1 % 2 ^ 23) } else s1

/-- A of a REPORT flit as a full tick count (R380). -/
def State.anchorTick (s : State) (k : Link) (anchor : Nat) : Nat :=
  match k.high with
  | some h => s.fullTime ((h * 2 ^ 32 + anchor % 2 ^ 32) % 2 ^ 55 * 512) / 512
  | none =>
    let n := s.nowTick
    let c := n / 2 ^ 32 * 2 ^ 32 + anchor % 2 ^ 32
    if n + 2 ^ 31 < c ∧ 2 ^ 32 ≤ c then c - 2 ^ 32 else if c + 2 ^ 31 ≤ n then c + 2 ^ 32 else c

/-- The receiver holds a packet until a check word follows (R112). -/
def State.holdPkt (s : State) (l : Nat) (rs : List Rec) : State :=
  s.setTb fun t => { t with held := Tab.set [] t.held (24 + l) (Tab.get [] t.held (24 + l) ++ [⟨221, rs, 0, false⟩]) }

/-- Count events of a remote channel; COUNT_SAT as the counter reaches its end (R401). -/
def State.countRemote (s : State) (l i t n : Nat) : State :=
  let c := s.pair .LNK_CNT_LO .LNK_CNT_HI l i
  let v := sat (2 ^ 64 - 1) (c + n)
  let s1 := (s.setPair .LNK_CNT_LO .LNK_CNT_HI v l i).noteCount (0x1000 + 256 * l + i) t (v - c)
  if c < 2 ^ 64 - 1 ∧ v = 2 ^ 64 - 1 then s1.raise 0x005 0 (0x100 + 256 * l + i) else s1

/-- Whether an index is enabled (R400). -/
def State.idxOn (s : State) (l i : Nat) : Bool := natBit (s.rg .LNK_CHEN l (i / 32)).toNat (i % 32)

/-- A receiver's copy of now, in fine units (R112, R393). -/
def State.linkNow (s : State) (l : Nat) : Nat := ((s.now : Nat) + 512 * s.copyOff (24 + l)).toNat

/-- The checks ORDER, FUTURE and CHAN_OFF of a report at full time `t` (R398): the failing code, 0 where none. -/
def State.reportFault (s : State) (l i t : Nat) : Nat :=
  if t < Tab.get 0 (s.link l).times i then 7
  else if s.linkNow l + 512 < t then 8
  else if s.idxOn l i = false then 4 else 0

/-- An accepted report's time (R398 ORDER). -/
def State.noteTime (s : State) (l i t : Nat) : State := s.modLink l fun k => { k with times := Tab.set 0 k.times i t }

/-- One rising or falling report. -/
def State.edgeReport (s : State) (l i kind t : Nat) : State :=
  let c := s.reportFault l i t
  if c ≠ 0 then s.linkEvt l c i (t % 2 ^ 32) (t / 2 ^ 32)
  else
    let chan := 0x100 + 256 * l + i
    let n := (s.rg .LNK_CNT_LO l i).toNat
    ((s.holdPkt l [mkRec 0x01 chan (4 + kind) 0 (stamp t) n]).countRemote l i t 1).noteTime l i t

/-- One LOSS report (R382). -/
def State.lossReport (s : State) (l i t span n : Nat) : State :=
  let c := s.reportFault l i t
  if c ≠ 0 then s.linkEvt l c i (t % 2 ^ 32) (t / 2 ^ 32)
  else
    let chan := 0x100 + 256 * l + i
    let s1 := (s.holdPkt l (gapPacket chan 0 4 (if span ≤ t then t - span else t + 2 ^ 80 - span) t n)).countRemote l i t n
    (s1.noteTime l i t).linkEvt l 10 i n span

/-- The reports of a flit in slot order (R384). -/
def State.reports (l a : Nat) : Nat → Nat → List Nat → State → State
  | 0, _, _, s => s
  | _ + 1, _, [], s => s
  | fuel + 1, slot, w :: ws, s =>
    let i := natBits w 24 8
    let kind := natBits w 22 2
    let t := a * 512 + natBits w 0 22
    if kind < 2 then State.reports l a fuel (slot + 1) ws (s.edgeReport l i kind t)
    else if kind = 2 then
      match ws with
      | sp :: n :: rest => State.reports l a fuel (slot + 3) rest (s.lossReport l i t sp n)
      | _ => s.linkEvt l 9 slot w 0
    else State.reports l a fuel (slot + 1) ws (s.linkEvt l 9 slot w 0)

/-- REPORT_FLIT (R384, R396, R398). -/
def reportFlit (l : Nat) (f : Flit) (s : State) : State :=
  if 16 ≤ l ∨ s.lstate l ≠ 3 then s
  else
    let (s1, ok) := s.accept l f
    if ! ok then s1
    else
      let s2 := s1.setPair .LNK_FLITS_LO .LNK_FLITS_HI (s1.pair .LNK_FLITS_LO .LNK_FLITS_HI l + 1) l
      let u := s2.lU l
      let o := s2.lO l
      let k := s2.link l
      let a := s2.anchorTick k f.anchor
      if linkBufs l ≤ u + o then (s2.setLink l { k with ovr := true, lastA := some a }).linkEvt l 3 f.seq f.nrep 0
      else
        let s3 := s2.setUO l u (o + 1)
        let s4 := s3.setLink l { s3.link l with lastA := some a }
        let prev := k.lastA.getD 0
        if a < prev ∨ s3.linkNow l / 512 < a ∨ a + 2 ^ 54 ≤ s3.linkNow l / 512 then s4.linkEvt l 5 f.anchor prev 0
        else State.reports l a 14 0 (f.slots.take (min f.nrep 13)) s4

/-! ### Commands (R406) -/

/-- Outcome of a link command. -/
def State.lnkCmdSts (s : State) (l op result : Nat) : State :=
  ((s.setFd F.LNK_CMD_STS_last_op op l).setFd F.LNK_CMD_STS_result result l).incFd F.LNK_CMD_STS_seq l

/-- LNK_CMD op RETRAIN. -/
def lnkRetrain (l : Nat) (s : State) : State :=
  if s.bit F.LNK_CFG_en l = false then s.lnkCmdSts l 1 2
  else
    let s1 := if s.linkDom l = true ∧ s.dev.st = .run then ((s.modLink l fun k => { k with tries := 0 }).train l) else s
    ((s1.setFd F.LNK_STS_chg 1 l).linkLevel l).lnkCmdSts l 1 1

/-- LNK_CMD op AUDIT. -/
def lnkAudit (l : Nat) (s : State) : State := if s.lstate l = 3 then (s.sendAreq l).lnkCmdSts l 2 1 else s.lnkCmdSts l 2 2

/-- Every link goes OFF at entry to WATCH or HALT, and trains again after it (R392, R582). -/
def State.linksOff (s : State) : State := ((natsFrom 0 20).foldl (fun (t : State) l => t.linkOff l) s).adrift
def State.linksTrain (s : State) : State := (natsFrom 0 20).foldl (fun (t : State) l => t.linkStart l) s

def execFlitLock (link : Nat) (s : State) : Host.Outcome State Fault Refusal := .next (flitLock link s)
def execFlitLockLoss (link : Nat) (s : State) : Host.Outcome State Fault Refusal := .next (flitLockLoss link s)
def execReportFlit (link : Nat) (flit : Flit) (s : State) : Host.Outcome State Fault Refusal := .next (reportFlit link flit s)
def execIdleFlit (link : Nat) (flit : Flit) (s : State) : Host.Outcome State Fault Refusal := .next (idleFlit link flit s)
def execNakFlit (link : Nat) (flit : Flit) (s : State) : Host.Outcome State Fault Refusal := .next (nakFlit link flit s)
def execBadCrcFlit (link : Nat) (s : State) : Host.Outcome State Fault Refusal := .next (badCrcFlit link s)
def execHello (link : Nat) (flit : Flit) (s : State) : Host.Outcome State Fault Refusal := .next (hello link flit s)
def execEcho (link : Nat) (flit : Flit) (t4 : Nat) (s : State) : Host.Outcome State Fault Refusal := .next (echo link flit t4 s)
def execArsp (link : Nat) (flit : Flit) (s : State) : Host.Outcome State Fault Refusal := .next (arsp link flit s)
def execAhigh (link : Nat) (flit : Flit) (s : State) : Host.Outcome State Fault Refusal := .next (ahigh link flit s)
def execBadType (link kind : Nat) (flit : Flit) (s : State) : Host.Outcome State Fault Refusal := .next (badType link kind flit s)
def execTreqPeriod (link : Nat) (s : State) : Host.Outcome State Fault Refusal := .next (treqPeriod link s)
def execTimePeriod (link : Nat) (s : State) : Host.Outcome State Fault Refusal := .next (timePeriod link s)
def execAreqPeriod (link : Nat) (s : State) : Host.Outcome State Fault Refusal := .next (areqPeriod link s)
def execArspTimeout (link : Nat) (s : State) : Host.Outcome State Fault Refusal := .next (arspTimeout link s)
def execSilenceTimeout (link : Nat) (s : State) : Host.Outcome State Fault Refusal := .next (silenceTimeout link s)
def execAckTimeout (link : Nat) (s : State) : Host.Outcome State Fault Refusal := .next (ackTimeout link s)
def execCreditGrant (link : Nat) (s : State) : Host.Outcome State Fault Refusal := .next (creditGrant link s)
def execTrainTryTimeout (link : Nat) (s : State) : Host.Outcome State Fault Refusal := .next (trainTryTimeout link s)
def execTrainingComplete (link : Nat) (s : State) : Host.Outcome State Fault Refusal := .next (trainingComplete link s)
def execRetrainTimer (link : Nat) (s : State) : Host.Outcome State Fault Refusal := .next (retrainTimer link s)
def execLnkRetrain (link : Nat) (s : State) : Host.Outcome State Fault Refusal := .next (lnkRetrain link s)
def execLnkAudit (link : Nat) (s : State) : Host.Outcome State Fault Refusal := .next (lnkAudit link s)
def execLinkEvtGapEnd (link code : Nat) (s : State) : Host.Outcome State Fault Refusal := .next (linkEvtGapEnd link code s)

end Sys2Proof.Machine
end

