-- ==== Sys2Proof/Machine/Pip.lean ====
section
/-! DEFINITION. Pip units, TRIG pins and cascade trigger lines (R283–R302, R522–R524, R605). -/

namespace Sys2Proof.Machine

/-- Pip unit `n`. -/
def State.pip (s : State) (n : Nat) : Pip := Tab.get Pip.init s.trg.units n
def State.setPip (s : State) (n : Nat) (u : Pip) : State := { s with trg := { s.trg with units := Tab.set Pip.init s.trg.units n u } }

/-- TRIG pin `i`. -/
def State.trigPin (s : State) (i : Nat) : TrigPin := Tab.get TrigPin.init s.trg.pins i
def State.setTrigPin (s : State) (i : Nat) (p : TrigPin) : State :=
  { s with trg := { s.trg with pins := Tab.set TrigPin.init s.trg.pins i p } }

/-- Acquisition unit `a`. -/
def State.acqU (s : State) (a : Nat) : Acq := Tab.get Acq.init s.acq a
def State.setAcqU (s : State) (a : Nat) (u : Acq) : State := { s with acq := Tab.set Acq.init s.acq a u }

/-- Whether an acquisition unit is ARMED, RUN or SEG. -/
def State.acqArmed (s : State) (a : Nat) : Bool := s.fd F.ACQ_STS_state a == 1 || s.fd F.ACQ_STS_state a == 2 || s.fd F.ACQ_STS_state a == 3

/-- Armed acquisition units that take a Pip unit's triggers. -/
def State.acqOf (s : State) (n : Nat) : List Nat := (natsFrom 0 16).filter fun a => s.acqArmed a && s.fd F.ACQ_CFG_pip a == n

/-- Event source 238 + n (R322). -/
def State.pipEvt (s : State) (n : Nat) : State :=
  let en := match (s.pip n).cfg with | some c => c.evtEn | none => s.bit F.TRG_CFG_evt_en n
  s.setLevel (238 + n) ((s.bit F.TRG_STS_trig n && en) || s.bit F.TRG_STS_out_late n || s.bit F.ACQ_STS_done n ||
    s.bit F.ACQ_STS_gap n || s.bit F.ACQ_STS_pip_off n)

/-- Pip units judge in RUN, until shedding (R302). -/
def State.pipLive (s : State) : Bool := s.dev.st == .run && s.domOn 74 && ! s.dev.shed

/-! ### Configurations (R300, R301) -/

/-- The staged copy of a unit. -/
def State.pipStaged (s : State) (n : Nat) : PipCfg :=
  { op := s.fd F.TRG_CFG_op n, use := s.fd F.TRG_CFG_use n, auto := s.bit F.TRG_CFG_auto n, evtEn := s.bit F.TRG_CFG_evt_en n,
    qEn := s.bit F.TRG_CFG_q_en n, win := s.fd F.TRG_WIN n,
    tmo := if s.fd F.TRG_AUTO n = 0 then 2 ^ 32 else s.fd F.TRG_AUTO n, outq := s.fd F.TRG_OUTQ_queue n,
    conds := (natsFrom 0 4).map fun c =>
      { kind := s.fd F.TRG_SRC_kind n c, codes := s.fd F.TRG_SRC_codes n c, sel := s.fd F.TRG_SRC_sel n c, arg := s.fd F.TRG_ARG n c,
        ll := s.pair .TRG_LL_LO .TRG_LL_HI n c, ul := s.pair .TRG_UL_LO .TRG_UL_HI n c } }

/-- Used conditions in letter order. -/
def PipCfg.used (c : PipCfg) : List Nat := (natsFrom 0 4).filter fun k => natBit c.use k
def PipCfg.cond (c : PipCfg) (k : Nat) : PCond := nth PCond.init c.conds k

/-- A condition that the checks refuse. -/
def State.badCond (s : State) (c : PCond) : Bool :=
  match c.kind with
  | 1 => ! chanOk c.sel
  | 2 => ! isPortChan c.sel || decide (4 ≤ c.codes)
  | 3 => decide (c.codes ≠ 0) || (match s.task c.sel with | some k => decide (dFunc k.desc < 1 ∨ 15 < dFunc k.desc) | none => true)
  | 4 => ! chanOk c.sel || c.arg == 0
  | 5 => decide (c.codes ≠ 0)
  | 6 => decide (c.codes ≠ 0)
  | _ => true

/-- The checks of a configuration: 1 accepted, 3 BAD_EXPR, 4 BAD_COND. -/
def State.pipCheck (s : State) (c : PipCfg) : Nat :=
  if c.op = 0 ∨ 4 < c.op ∨ c.use = 0 ∨ (c.op = 4 ∧ c.win = 0) then 3
  else if c.used.any fun k => s.badCond (c.cond k) then 4 else 1

/-! ### Progress (R286) -/

/-- Progress of a condition in fine units. -/
def State.progress (s : State) (c : PCond) : Nat :=
  match c.kind with
  | 3 => match s.task c.sel with | some k => k.meas.lastEnd.getD 0 | none => s.hD * 512
  | 5 => (s.nowTick - s.fd F.TRG_TB_CFG_lag) * 512
  | 6 => s.hD * 512
  | _ => (if isRemChan c.sel then s.hR else s.hD) * 512

/-- Judgement point J. -/
def State.pipJ (s : State) (c : PipCfg) : Nat :=
  match c.used.map fun k => s.progress (c.cond k) with
  | [] => 0
  | x :: t => t.foldl min x

/-- The first tick not judged, and TRG_J. -/
def State.setJ (s : State) (n j : Nat) : State := (s.setPip n { s.pip n with j := j }).setPair .TRG_J_LO .TRG_J_HI (stamp (j * 512)) n

/-- The first tick not judged as a command sees it: in OFF, that of the configuration to be enabled. -/
def State.firstTick (s : State) (n : Nat) (c : PipCfg) : Nat :=
  match (s.pip n).cfg with | some _ => (s.pip n).j | none => max (s.pip n).j (s.pipJ c / 512)

/-! ### Events of conditions (R283–R285) -/

/-- An event: its time, condition, channel (none for lines and SOFT), edge code, and whether it is a lost edge, carries TSUS, is a line
event, or one taken late. -/
structure PEv where
  time : Nat
  cond : Nat
  chan : Option Nat
  code : Nat
  lost : Bool
  tsus : Bool
  line : Bool
  late : Bool
deriving DecidableEq, Repr

/-- A WINDOW condition takes an EDGE record of its port: whether the level leaves INSIDE as selected. -/
def windowTake (w : Tab Nat) (k code codes : Nat) : Tab Nat × Bool :=
  let hi := Tab.get 0 w (2 * k)
  let lo := Tab.get 0 w (2 * k + 1)
  let hit := decide (hi = 1 ∧ lo = 2) && ((code == 3 && natBit codes 0) || (code == 0 && natBit codes 1))
  let st := if isRise code then 2 else 1
  (Tab.set 0 w (2 * k + code / 2) st, hit)

/-- Codes of the first and second of some lost edges of a lane (R156): the lane's last transition, or its first later one, decides. -/
def lostCodes (dirs : Tab Nat) (chan : Nat) (lower psc : Bool) (after : Nat) : Nat × Nat :=
  let c := laneCodes chan (b2n lower)
  let kinds := Nat.lor (Tab.get 0 dirs (kindKey chan)) (Config.remoteKinds chan % 3 + 1)
  if psc then (6, 6)
  else if isRemChan chan && kinds == 1 then (4, 4)
  else if isRemChan chan && kinds == 2 then (5, 5)
  else if after = 1 then (c.2, c.1) else (c.1, c.2)

/-- A COUNT condition takes `n` lost edges of one instant: its counter, and the code of the first edge that gives an event. -/
def countLost (cnt goal mask n : Nat) (codes : Nat × Nat) : Nat × Option Nat :=
  let a := inMask mask codes.1
  let b := inMask mask codes.2
  let sel := if codes.1 = codes.2 then (if a then n else 0) else (if a then (n + 1) / 2 else 0) + (if b then n / 2 else 0)
  if cnt + sel < goal then (cnt + sel, none)
  else
    let k := goal - cnt
    let code := if codes.1 = codes.2 ∨ b = false then codes.1 else if a = false then codes.2 else if k % 2 = 1 then codes.1 else codes.2
    ((cnt + sel - goal) % goal, some code)

/-- Direction of a lane before `n` lost transitions, by its first one among inputs below `lim`; losses between add to them (R156):
1 rose, 2 fell, 0 none. -/
def laterDir (chan : Nat) (lower : Bool) (lim : Nat) : Nat → List PItem → Nat
  | _, [] => 0
  | n, e :: t =>
    match e.what with
    | .edge c code _ =>
      if e.time < lim ∧ c = chan ∧ code < 6 ∧ (code == 2 || code == 3) = lower then beforeLost n (if isRise code then 1 else 2)
      else laterDir chan lower lim n t
    | .gap c fl m => laterDir chan lower lim (if c = chan ∧ natBit fl 0 = false ∧ natBit fl 2 = lower then n + m else n) t
    | _ => laterDir chan lower lim n t

/-- Whether a value meets a RESULT condition (R284). -/
def resultHit (func v : Nat) (c : PCond) : Bool :=
  if func ≤ 5 then
    let a := f64Cmp v c.ll
    let b := f64Cmp c.ul v
    if natBit c.arg 0 then ! a.2.1 && ! a.2.2 && ! b.2.1 && ! b.2.2 else a.2.1 || b.2.1
  else
    let x := sInt 64 v
    let out := decide (x < sInt 64 c.ll ∨ sInt 64 c.ul < x)
    if natBit c.arg 0 then ! out else out

/-- One condition takes an edge, unless it is LATE (R285). -/
def Pip.edgeCond (u : Pip) (c : PCond) (k time chan code fl : Nat) : Pip × List PEv :=
  let ev : PEv := ⟨time, k, some chan, code, false, natBit fl 2, false, false⟩
  if c.sel ≠ chan ∨ natBit fl 0 = true then (u, [])
  else
    match c.kind with
    | 1 => (u, if inMask c.codes code then [ev] else [])
    | 2 =>
      if 3 < code then (u, [])
      else
        let (w, hit) := windowTake u.win k code c.codes
        ({ u with win := w }, if hit then [ev] else [])
    | 4 =>
      if inMask c.codes code then
        let n := Tab.get 0 u.cnt k + 1
        if c.arg ≤ n then ({ u with cnt := Tab.set 0 u.cnt k 0 }, [ev]) else ({ u with cnt := Tab.set 0 u.cnt k n }, [])
      else (u, [])
    | _ => (u, [])

/-- One condition takes a GAP packet: a loss for WINDOW, also where it is LATE; COUNT takes the lost edges of one that is not (R285). -/
def Pip.gapCond (u : Pip) (c : PCond) (k time chan fl n : Nat) (codes : Nat × Nat) : Pip × List PEv :=
  if c.sel ≠ chan then (u, [])
  else
    match c.kind with
    | 2 => if n ≠ 0 ∨ natBit fl 0 = true then ({ u with win := Tab.set 0 (Tab.set 0 u.win (2 * k) 0) (2 * k + 1) 0 }, []) else (u, [])
    | 4 =>
      if n = 0 ∨ natBit fl 0 = true ∨ natBit fl 4 = true then (u, [])
      else
        let (m, hit) := countLost (Tab.get 0 u.cnt k) c.arg c.codes n codes
        ({ u with cnt := Tab.set 0 u.cnt k m }, match hit with | some code => [⟨time, k, some chan, code, true, false, false, false⟩] | none => [])
    | _ => (u, [])

/-- The used conditions take an input in letter order. -/
def Pip.condsTake (u : Pip) (cfg : PipCfg) (f : Pip → PCond → Nat → Pip × List PEv) : Pip × List PEv :=
  cfg.used.foldl (fun (a : Pip × List PEv) k =>
    let (u1, es) := f a.1 (cfg.cond k) k
    (u1, a.2 ++ es)) (u, [])

/-- A unit takes an input: the events of its conditions. `later` are the inputs after it, `lim` the judgement point. -/
def Pip.events (u : Pip) (cfg : PipCfg) (e : PItem) (later : List PItem) (lim : Nat) : Pip × List PEv :=
  match e.what with
  | .edge chan code fl =>
    let (u1, es) := u.condsTake cfg fun u c k => u.edgeCond c k e.time chan code fl
    let dir := if isRise code then 1 else 2
    let lower := code == 2 || code == 3
    let d1 := if code < 6 then Tab.set 0 u1.dirs (dirKey chan lower) dir else u1.dirs
    let d2 := if isRemChan chan = true ∧ code < 6 then Tab.set 0 d1 (kindKey chan) (Nat.lor (Tab.get 0 d1 (kindKey chan)) dir) else d1
    ({ u1 with dirs := d2 }, es)
  | .gap chan fl n =>
    let lower := natBit fl 2
    let known := Tab.get 0 u.dirs (dirKey chan lower)
    let after := if known ≠ 0 then known else laterDir chan lower lim n later
    let codes := lostCodes u.dirs chan lower (natBit fl 3) after
    let (u1, es) := u.condsTake cfg fun u c k => u.gapCond c k e.time chan fl n codes
    let lastRose := if after = 1 then n % 2 == 0 else n % 2 == 1
    if n = 0 ∨ natBit fl 0 = true ∨ natBit fl 3 = true then (u1, es)
    else ({ u1 with dirs := Tab.set 0 u1.dirs (dirKey chan lower) (if lastRose then 1 else 2) }, es)
  | .result task func v chan =>
    u.condsTake cfg fun u c k =>
      (u, if c.kind = 3 ∧ c.sel = task ∧ resultHit func v c = true then [⟨e.time, k, some chan, 7, false, false, false, false⟩] else [])
  | .line l late =>
    u.condsTake cfg fun u c k => (u, if c.kind = 5 ∧ c.sel = l then [⟨e.time, k, none, 7, false, false, true, late⟩] else [])
  | .soft m => u.condsTake cfg fun u c k => (u, if c.kind = 6 ∧ natBit m k = true then [⟨e.time, k, none, 7, false, false, false, false⟩] else [])

/-- Events in order of time, then letter (R287). -/
def pevInsert (e : PEv) : List PEv → List PEv
  | [] => [e]
  | x :: t => if e.time < x.time ∨ (e.time = x.time ∧ e.cond < x.cond) then e :: x :: t else x :: pevInsert e t

/-- All inputs of tick `T` at the head of the list. -/
def Pip.tickEvents (cfg : PipCfg) (T lim : Nat) : List PItem → Pip → List PEv → Pip × List PEv
  | [], u, es => ({ u with items := [] }, es)
  | e :: rest, u, es =>
    if e.time / 512 ≠ T then ({ u with items := e :: rest }, es)
    else
      let (u1, new) := u.events cfg e rest lim
      Pip.tickEvents cfg T lim rest u1 (new.foldl (fun l x => pevInsert x l) es)

/-! ### Expressions (R287–R291) -/

/-- The state that a trigger restarts (R287). -/
def Pip.restart (u : Pip) : Pip := { u with mem := [], step := 0, cnt := [] }

/-- An event in a sequence (R289): whether the last step is met. -/
def Pip.seqTake (u : Pip) (cfg : PipCfg) (e : PEv) : Pip × Bool :=
  let used := cfg.used
  if used.head? = some e.cond then
    ({ u with step := 1, first := e.time, last := e.time }, used.length == 1)
  else if u.step ≠ 0 ∧ (used.drop u.step).head? = some e.cond then
    if cfg.op = 4 ∧ u.first + cfg.win * 512 < e.time then ({ u with step := 0 }, false)
    else if e.time ≤ u.last then (u, false)
    else ({ u with step := u.step + 1, last := e.time }, u.step + 1 == used.length)
  else (u, false)

/-- A sequence takes the events of a tick up to the one that completes it. -/
def Pip.seqRun (cfg : PipCfg) : List PEv → Pip → Pip × Bool
  | [], u => (u, false)
  | e :: t, u =>
    let (u1, done) := u.seqTake cfg e
    if done then (u1, true) else Pip.seqRun cfg t u1

/-- Whether the expression is true in tick `T` with its events, and the deciding event (R288, R290). -/
def Pip.expression (u : Pip) (cfg : PipCfg) (T : Nat) (es : List PEv) : Pip × Option PEv :=
  match cfg.op with
  | 1 => (u, es.head?)
  | 2 =>
    let u1 := { u with mem := es.foldl (fun m e => Tab.set 0 m e.cond (T + 1)) u.mem }
    let all := cfg.used.all fun k => let x := Tab.get 0 u1.mem k; decide (x ≠ 0 ∧ T + 1 ≤ x + cfg.win)
    (u1, if all then es.head? else none)
  | 3 | 4 =>
    let (u1, done) := Pip.seqRun cfg es u
    if done then (u1, es.find? fun e => some e.cond == cfg.used.getLast?) else (u1, none)
  | _ => (u, none)

/-- CAUSE (R290). -/
def causeOf (es : List PEv) : Nat := es.foldl (fun m e => Nat.lor m (2 ^ e.cond)) 0

/-! ### Pins (R295, R296) -/

/-- A source's trigger reaches a pin: a pulse, merged with the last where it would begin before that one ends. Whether its placement was
missed. -/
def State.pulse (s : State) (i time : Nat) : State × Bool :=
  let p := s.trigPin i
  if p.drives = false ∨ s.pipLive = false then (s, false)
  else
    let w := s.fd F.TRG_PIN_width i * 512
    let due := time + s.fd F.TRG_PDLY_delay i * 512
    let late := decide (due < s.now + 8 * 512)
    let start := if late then (s.nowTick + 1) * 512 else due
    let s1 := if late then s.addSat F.TRG_PSTS_late 1 i else s
    match p.pulses.reverse with
    | x :: before =>
      if start < x.stop then
        let y := { x with stop := max x.start start + w }
        ((s1.addSat F.TRG_PSTS_merged 1 i).setTrigPin i { p with pulses := (y :: before).reverse }, late)
      else (s1.setTrigPin i { p with pulses := p.pulses ++ [⟨start, start + w, s.bit F.TRG_PIN_pol i, false⟩] }, late)
    | [] => (s1.setTrigPin i { p with pulses := [⟨start, start + w, s.bit F.TRG_PIN_pol i, false⟩] }, late)

/-- Every pin that follows a source: `kind` 0 a Pip unit, 1 a line. -/
def State.pulses (s : State) (kind src time : Nat) : State × Bool :=
  (natsFrom 0 4).foldl (fun (a : State × Bool) i =>
    if a.1.fd F.TRG_PIN_skind i = kind ∧ a.1.fd F.TRG_PIN_src i = src then
      let (t, l) := a.1.pulse i time
      (t, a.2 || l)
    else a) (s, false)

/-- PIN_PULSE_START. -/
def pinPulseStart (i : Nat) (s : State) : State :=
  let p := s.trigPin i
  match p.pulses with
  | x :: t =>
    if x.begun = false ∧ x.start ≤ s.now ∧ p.drives = true ∧ s.pipLive = true then
      (s.setTrigPin i { p with pulses := { x with begun := true } :: t }).emit (.pin i (! x.low))
    else s
  | [] => s

/-- PIN_PULSE_END. -/
def pinPulseEnd (i : Nat) (s : State) : State :=
  let p := s.trigPin i
  match p.pulses with
  | x :: t => if x.begun = true ∧ x.stop ≤ s.now then (s.setTrigPin i { p with pulses := t }).emit (.pin i x.low) else s
  | [] => s

/-- TRG_PIN_WRITE (R10, R324, R605): reserved widths and lines keep the field; the direction changes at the next tick boundary. -/
def trgPinWrite (i : Nat) (w : Word) (s : State) : State :=
  if 4 ≤ i ∨ s.domOn 74 = false then s
  else
    let width := if bitsOf w 8 16 = 0 then s.fd F.TRG_PIN_width i else bitsOf w 8 16
    let src := if natBit w.toNat 2 = true ∧ 8 ≤ bitsOf w 3 4 then s.fd F.TRG_PIN_src i else bitsOf w 3 4
    let s1 := s.setRg .TRG_PIN (w32 (bitsOf w 0 3 + src * 8 + width * 256)) i
    let out := natBit w.toNat 0
    s1.setTrigPin i { s1.trigPin i with turn := some out }

/-- A tick boundary: the pins turn as TRG_PIN.dir asks (R295, R605); a pin that turns has no pulse. -/
def State.turnPins (s : State) : State :=
  { s with trg := { s.trg with pins := s.trg.pins.map fun e =>
      match e.2.turn with
      | none => e
      | some out => (e.1, if out = e.2.drives then { e.2 with turn := none } else { drives := out, turn := none, pulses := [] }) } }

/-! ### Lines (R297–R299, R522, R524) -/

/-- This device takes a line event of its own group. -/
def State.lineTaken (s : State) (l time : Nat) : State × Bool :=
  let late := decide (time + s.fd F.TRG_TB_CFG_lag * 512 < s.now)
  let (s0, out) := s.pulses 1 l time
  let s1 := if late then s0.addSat F.TRG_TB_STS_late 1 else s0
  let s2 := (natsFrom 0 16).foldl (fun (t : State) n =>
    let u := t.pip n
    if u.names [5] l then
      if late = true ∨ time / 512 < u.j then
        let u1 := u.take ⟨u.j * 512, 9, 0, .line l true⟩
        (t.setPip n u1).setFd F.TRG_STS_tb_late 1 n
      else t.setPip n (u.take ⟨time, 9, 0, .line l false⟩)
    else t) s1
  (s2, out)

/-- The slots of a line event in a LINE flit (R522). -/
def lineSlots (l group dev time : Nat) : List Nat :=
  [l + 8 * group + 64 * dev + 4096 * (time / 2 ^ 64 % 65536), time % 2 ^ 32, time / 2 ^ 32 % 2 ^ 32]

/-- A line event goes down every UP child link. -/
def State.lineDown (s : State) (slots : List Nat) : State :=
  (natsFrom 17 3).foldl (fun (t : State) c => if t.lstate c = 3 then t.sendSeq c 4 1 slots else t) s

/-- A line event that this device took at `t0` carries an earlier time of that tick: units that have not judged it take it at that time, and
pulses that have not begun move with it. -/
def State.lineEarlier (s : State) (l t0 time : Nat) : State :=
  let s1 := { s with trg := { s.trg with units := s.trg.units.map fun e =>
    let own := fun (x : PItem) => decide (x.time = t0) && x.what == .line l false
    (e.1, if e.2.items.any own then { e.2 with items := pitemInsert ⟨time, 9, 0, .line l false⟩ (e.2.items.filter fun x => ! own x) } else e.2) } }
  (natsFrom 0 4).foldl (fun (t : State) i =>
    if t.fd F.TRG_PIN_skind i = 1 ∧ t.fd F.TRG_PIN_src i = l then
      let p := t.trigPin i
      let due := t0 + t.fd F.TRG_PDLY_delay i * 512
      t.setTrigPin i { p with pulses := p.pulses.map fun x =>
        if x.start = due ∧ x.begun = false then { x with start := due - (t0 - time), stop := x.stop - (t0 - time) } else x }
    else t) s1

/-- A second line event of the same line, group and tick merges into the first, which then carries the earlier time (R297; assumption log 36). -/
def State.lineOnce (s : State) (l group time : Nat) (first : State → State × Bool) : State × Bool :=
  match s.casc.lines.find? fun k => k.1 == l && k.2.1 == group && k.2.2 / 512 == time / 512 with
  | none => first { s with casc := { s.casc with lines := (l, group, time) :: s.casc.lines } }
  | some k =>
    let s1 := s.addSat F.TRG_TB_STS_merged 1
    if k.2.2 ≤ time then (s1, false)
    else
      let s2 := { s1 with casc := { s1.casc with lines := s1.casc.lines.map fun x => if x = k then (l, group, time) else x } }
      (if group = s2.fd F.CAS_CFG_group then s2.lineEarlier l k.2.2 time else s2, false)

/-- The root takes a line event, its own or one from below. -/
def State.lineAtRoot (s : State) (l group dev time : Nat) : State × Bool :=
  s.lineOnce l group time fun s1 =>
    let (s2, out) := if group = s1.fd F.CAS_CFG_group then s1.lineTaken l time else (s1, false)
    (s2.lineDown (lineSlots l group dev time), out)

/-- A Pip unit's trigger drives a line (R297, R522): up to the root, or back locally on a device alone, ADRIFT or DETACHED. -/
def State.driveLine (s : State) (l time : Nat) : State × Bool :=
  let group := s.fd F.CAS_CFG_group
  let dev := s.fd F.CAS_ID_dev
  if s.fd F.CAS_ID_role = 1 then s.lineAtRoot l group dev time
  else if s.fd F.CAS_ID_role = 2 ∧ s.fd F.CAS_STS_state = 2 then (s.sendSeq 16 4 1 (lineSlots l group dev time), false)
  else s.lineOnce l group time fun s1 => s1.lineTaken l time

/-! ### Triggers (R290–R294) -/

/-- The TRIG packet (R292, R293). -/
def State.trigPkt (s : State) (n seq time cause : Nat) (e : Option PEv) (outLate : Bool) : List Rec :=
  let chan := match e with | some x => x.chan.getD 0 | none => 0
  let fl := b2n e.isNone + 2 * b2n (s.inHoldover (time / 512) (time / 512 + 1)) +
    (match e with | some x => 4 * b2n x.lost + 8 * b2n x.tsus + 16 * b2n x.line + 32 * b2n x.late + 64 * b2n x.chan.isNone | none => 64) +
    128 * b2n outLate
  let code := match e with | some x => x.code | none => 7
  let cond := match e with | some x => x.cond | none => 0
  [mkRec 0x04 chan 0 fl (stamp time) (n + 16 * cause),
    mkRecW 0x04 chan 1 0 seq (time / 2 ^ 64 % 65536 + code * 2 ^ 16 + cond * 2 ^ 19) (sat (2 ^ 32 - 1) (s.nowTick - time / 512))]

/-- A boundary of PIP gates enters in order of time (R145). -/
def boundInsert (t : Nat) : List Nat → List Nat
  | [] => [t]
  | x :: r => if t < x then t :: x :: r else x :: boundInsert t r

/-- Tasks whose gates the unit's triggers bound (R145). -/
def State.pipGates (s : State) (n time : Nat) : State :=
  s.placed.foldl (fun (t : State) e =>
    if (dGsrc e.2.desc = 3 ∧ dPip e.2.desc = n) ∨ (e.2.pend.any fun p => ! p.desc.isEmpty && dGsrc p.desc == 3 && dPip p.desc == n) = true then
      t.modTask e.1 fun k => { k with gates := { k.gates with bounds := boundInsert time k.gates.bounds } }
    else t) s

/-- A trigger goes where R294 says. -/
def State.fire (s : State) (n time cause : Nat) (e : Option PEv) : State :=
  let u := s.pip n
  match u.cfg with
  | none => s
  | some cfg =>
    let s1 := (((s.setPip n { u.restart with seq := (u.seq + 1) % 2 ^ 32, tref := time }).setRg .TRG_SEQ (w32 (u.seq + 1)) n).setPair
      .TRG_LAST_LO .TRG_LAST_HI (stamp time) n)
    let (s2, l1) := s1.pulses 0 n time
    let (s3, l2) := (natsFrom 0 8).foldl (fun (a : State × Bool) l =>
      if a.1.bit F.TRG_TBL_en l && a.1.fd F.TRG_TBL_src l == n then
        let (t, x) := a.1.driveLine l time
        (t, a.2 || x)
      else a) (s2, false)
    let late := l1 || l2
    let s4 := if late then s3.setFd F.TRG_STS_out_late 1 n else s3
    let pkt := s4.trigPkt n u.seq time cause e late
    let s5 := if cfg.qEn then (s4.pushPkt cfg.outq (prodPip n) .unit pkt).1 else s4
    let s6 := (s5.acqOf n).foldl (fun (t : State) a => t.setAcqU a { t.acqU a with trigs := (t.acqU a).trigs ++ [⟨time, pkt⟩] }) s5
    ((s6.pipGates n time).setFd F.TRG_STS_trig 1 n).pipEvt n

/-- A unit judges tick `T` (R287, R291); J has passed it. -/
def State.judgeTick (s : State) (n T lim : Nat) (cfg : PipCfg) : State :=
  let (u1, es) := Pip.tickEvents cfg T lim (s.pip n).items (s.pip n) []
  let (u2, dec) := u1.expression cfg T es
  let s1 := (s.setPip n u2).setJ n (T + 1)
  let forced := u2.tref + cfg.tmo * 512
  match dec with
  | some e => s1.fire n e.time (causeOf es) (some e)
  | none => if cfg.auto = true ∧ forced / 512 = T then s1.fire n forced 0 none else s1

/-- The next tick from `j` on with an input or an auto trigger in it. -/
def Pip.nextTick (u : Pip) (cfg : PipCfg) : Option Nat :=
  let a := match u.items with | e :: _ => some (e.time / 512) | [] => none
  let f := (u.tref + cfg.tmo * 512) / 512
  if cfg.auto = true ∧ u.j ≤ f then (match a with | some t => some (min t f) | none => some f) else a

/-- PIP_JUDGE_TICK (R286): the ticks that J has passed, up to and including the first in which something lies. Empty ticks change
nothing else. -/
def pipJudgeTick (n : Nat) (s : State) : State :=
  let u0 := s.pip n
  match u0.cfg with
  | none => s
  | some cfg =>
    let u := { u0 with items := u0.items.dropWhile fun e => decide (e.time / 512 < u0.j) }
    let jt := s.pipJ cfg / 512
    let lim := match u.cmds with | c :: _ => min jt c.tick | [] => jt
    if s.pipLive = false ∨ lim ≤ u.j then s
    else
      let s1 := s.setPip n u
      match u.nextTick cfg with
      | some T => if T < lim then s1.judgeTick n T (jt * 512) cfg else s1.setJ n lim
      | none => s1.setJ n lim

/-! ### Commands (R300, R301) -/

/-- Whether `n` names a unit whose registers answer. -/
def State.pipUnit (s : State) (n : Nat) : Bool := decide (n < 16) && s.domOn 74


/-- The outcome of a command. -/
def State.pipResult (s : State) (n r : Nat) : State := (s.setFd F.TRG_STS_result r n).incFd F.TRG_STS_seq n

/-- State of the unit once its waiting commands have acted. -/
def State.pipRunning (s : State) (n : Nat) : Bool :=
  match (s.pip n).cmds.getLast? with | some c => c.op != 2 | none => (s.pip n).cfg.isSome

/-- The configuration that a unit runs, or is about to. -/
def State.pipCfgNext (s : State) (n : Nat) : PipCfg :=
  match (s.pip n).cfg, (s.pip n).cmds.find? fun c => c.cfg.isSome with
  | some c, _ => c
  | none, some x => x.cfg.getD (s.pipStaged n)
  | none, none => s.pipStaged n

/-- The point of a command: TRG_AT where named, and no earlier than the first tick not judged, nor than a waiting command. -/
def State.pipPoint (s : State) (n : Nat) (named : Option Nat) : Nat :=
  let first := s.firstTick n (s.pipCfgNext n) * 512
  let p := match named with | some t => max (s.fullTime t) first | none => first
  match (s.pip n).cmds.getLast? with | some c => max p c.point | none => p

/-- A DISABLE stops the acquisition units that take the unit's triggers (R307). -/
def State.acqPipOff (s : State) (n point : Nat) : State :=
  (s.acqOf n).foldl (fun (t : State) a =>
    let u := t.acqU a
    let stop := match u.stop with | some x => if x.1 ≤ point then x else (point, 2) | none => (point, 2)
    t.setAcqU a { u with stop := some stop, pipOff := true }) s

/-- A waiting command takes effect. -/
def State.pipEffect (s : State) (n : Nat) (c : PipCmd) : State :=
  let u := s.pip n
  if c.op = 2 then
    (((s.setPip n { u with cfg := none, items := [] }).setFd F.TRG_STS_state 0 n).acqPipOff n c.point).pipEvt n
  else
    let now := s.pipStaged n
    let cfg := if s.pipCheck now = 1 then now else c.cfg.getD now
    let j := max u.j c.tick
    let u1 := { u.restart with cfg := some cfg, win := [], tref := c.point, j := j,
                               items := u.items.dropWhile fun e => decide (e.time / 512 < j) }
    if c.op = 1 then
      let s1 := (((s.setPip n { u1 with seq := 0, dirs := [] }).setRg .TRG_SEQ 0 n).setFd F.TRG_STS_state 1 n).setJ n j
      (if cfg.qEn then (s1.pushPkt cfg.outq prodRouter .rtr [s1.epochRec]).1 else s1).pipEvt n
    else
      let s1 := (s.setPip n u1).setJ n j
      ((s1.pushPkt cfg.outq prodSys .sys
        [mkRec 0x11 0 0 0 (stamp c.point) (3 + 16 * n), mkRecW 0x11 0 1 0 0 0 (c.tag % 65536)]).1).pipEvt n

/-- Whether a waiting command's point is reached: every tick before it is judged, or a unit in OFF may begin there. -/
def State.pipDue (s : State) (n : Nat) (c : PipCmd) : Bool :=
  match (s.pip n).cfg with
  | some _ => decide (c.tick ≤ (s.pip n).j)
  | none => decide (c.tick * 512 ≤ s.pipJ (c.cfg.getD (s.pipStaged n)))

/-- Waiting commands take effect in order while their points are reached. -/
def State.pipPoints (n : Nat) : Nat → State → State
  | 0, s => s
  | k + 1, s =>
    match (s.pip n).cmds with
    | c :: t => if s.pipDue n c then State.pipPoints n k ((s.setPip n { s.pip n with cmds := t }).pipEffect n c) else s
    | [] => s

/-- PIP_POINT_REACHED. -/
def pipPointReached (n : Nat) (s : State) : State := if s.pipLive then State.pipPoints n ((s.pip n).cmds.length) s else s

/-- A command is accepted: it waits for its point, which may be reached. -/
def State.pipAccept (s : State) (n op tag : Nat) (named : Option Nat) : State :=
  let p := s.pipPoint n named
  let u := s.pip n
  pipPointReached n (s.setPip n { u with cmds := u.cmds ++ [⟨p / 512, op, p, tag, if op = 2 then none else some (s.pipStaged n)⟩] })

/-- ENABLE. -/
def State.pipEnable (s : State) (n : Nat) (named : Option Nat) (tag : Nat) : State :=
  if s.pipRunning n then s.pipResult n 2
  else
    let r := s.pipCheck (s.pipStaged n)
    if r ≠ 1 then s.pipResult n r else (s.pipAccept n 1 tag named).pipResult n 1

/-- DISABLE. -/
def State.pipDisable (s : State) (n : Nat) (named : Option Nat) (tag : Nat) : State :=
  if s.pipRunning n then (s.pipAccept n 2 tag named).pipResult n 1 else s.pipResult n 2

/-- APPLY. -/
def State.pipApply (s : State) (n : Nat) (named : Option Nat) (tag : Nat) : State :=
  if s.pipRunning n = false then s.pipResult n 2
  else
    let r := s.pipCheck (s.pipStaged n)
    if r ≠ 1 then s.pipResult n r else (s.pipAccept n 3 tag named).pipResult n 1

/-- SOFT. -/
def State.pipSoft (s : State) (n mask : Nat) (named : Option Nat) : State :=
  if s.pipRunning n = false then s.pipResult n 2
  else
    let cfg := s.pipCfgNext n
    if cfg.used.any fun k => natBit mask k && (cfg.cond k).kind == 6 then
      (s.setPip n ((s.pip n).take ⟨s.pipPoint n named, 9, 0, .soft mask⟩)).pipResult n 1
    else s.pipResult n 5

/-- The point that TRG_AT names. -/
def State.trgAt (s : State) (n : Nat) (named : Bool) : Option Nat := if named then some (s.pair .TRG_AT_LO .TRG_AT_HI n) else none

/-- LINE_EVENT: a line event of this device's group reaches it. -/
def lineEvent (l time : Nat) (s : State) : State := if 8 ≤ l ∨ s.dev.st ≠ .run then s else (s.lineTaken l (s.fullTime time)).1

/-! ### Hooks -/

/-- An EDGE record or GAP packet reaches the Pip taps of its channel (R27). LATE ones tell only of losses and of directions (R156, R285). -/
def State.pipTake (s : State) (rs : List Rec) : State :=
  match rs with
  | [h] =>
    if h.type = 0x01 ∧ h.code < 7 then
      s.pipFeed [1, 2, 4] h.chan ⟨s.fullTime h.stampOf, h.code, h.w3.toNat, .edge h.chan h.code h.flags⟩
    else s
  | h :: e :: _ =>
    if h.type = 0x07 then
      s.pipFeed [1, 2, 4] h.chan ⟨s.fullTime e.stampOf, 8, 0, .gap h.chan h.flags h.w3.toNat⟩
    else s
  | [] => s

/-- Entry to HALT or WATCH: pins drive no pulses (R302). -/
def State.pipHold (s : State) : State :=
  (natsFrom 0 4).foldl (fun (t : State) i =>
    let p := t.trigPin i
    let t1 := match p.pulses with | x :: _ => if x.begun then t.emit (.pin i x.low) else t | [] => t
    t1.setTrigPin i { p with pulses := [] }) s

/-- Inputs of ticks that are never judged give no event; they tell of levels and of directions (R156, R285). -/
def Pip.skip (cfg : PipCfg) (j : Nat) (u : Pip) : List PItem → Pip
  | [] => { u with items := [] }
  | e :: t => if j ≤ e.time / 512 then { u with items := e :: t } else Pip.skip cfg j (u.events cfg e t (j * 512)).1 t

/-- RESUME or wake: units in RUN resume at the first tick at or after their J (R302). -/
def State.pipResume (s : State) : State :=
  (natsFrom 0 16).foldl (fun (t : State) n =>
    let u := t.pip n
    match u.cfg with
    | some cfg =>
      let j := max u.j ((t.pipJ cfg + 511) / 512)
      (t.setPip n { (Pip.skip cfg j u u.items).restart with tref := j * 512 }).setJ n j
    | none => t) s

def execPipJudgeTick (n : Nat) (s : State) : Host.Outcome State Fault Refusal := .next (pipJudgeTick n s)
def execPipEnable (n : Nat) (named : Bool) (s : State) : Host.Outcome State Fault Refusal := .next (if s.pipUnit n then s.pipEnable n (s.trgAt n named) 0 else s)
def execPipDisable (n : Nat) (named : Bool) (s : State) : Host.Outcome State Fault Refusal := .next (if s.pipUnit n then s.pipDisable n (s.trgAt n named) 0 else s)
def execPipApply (n : Nat) (named : Bool) (s : State) : Host.Outcome State Fault Refusal := .next (if s.pipUnit n then s.pipApply n (s.trgAt n named) 0 else s)
def execPipSoft (n mask : Nat) (named : Bool) (s : State) : Host.Outcome State Fault Refusal := .next (if s.pipUnit n then s.pipSoft n mask (s.trgAt n named) else s)
def execPipPointReached (n : Nat) (s : State) : Host.Outcome State Fault Refusal := .next (pipPointReached n s)
def execLineEvent (l time : Nat) (s : State) : Host.Outcome State Fault Refusal := .next (lineEvent l time s)
def execPinPulseStart (i : Nat) (s : State) : Host.Outcome State Fault Refusal := .next (pinPulseStart i s)
def execPinPulseEnd (i : Nat) (s : State) : Host.Outcome State Fault Refusal := .next (pinPulseEnd i s)
def execTrgPinWrite (i : Nat) (value : Word) (s : State) : Host.Outcome State Fault Refusal := .next (trgPinWrite i value s)

end Sys2Proof.Machine
end

