-- ==== Sys2Proof/Machine/Acquire.lean ====
section
/-! DEFINITION. Acquisition units (R303–R321). -/

namespace Sys2Proof.Machine

/-! ### Capture set, region, allocation (R303, R304, R311) -/

/-- Whether a channel belongs to the capture set of unit `a`. -/
def State.acqHas (s : State) (a c : Nat) : Bool :=
  (decide (c < 128) && natBit (s.rg .ACQ_CHMASK a (c / 32)).toNat (c % 32)) ||
    decide (s.fd F.ACQ_RRANGE_first a ≤ c ∧ c < s.fd F.ACQ_RRANGE_first a + s.fd F.ACQ_RRANGE_count a)

/-- The 128 local CHANs of the set. -/
def State.acqLocal (s : State) (a : Nat) : List Nat :=
  (natsFrom 0 128).filter fun c => natBit (s.rg .ACQ_CHMASK a (c / 32)).toNat (c % 32)

/-- The set is empty, or names a reserved CHAN, or its remote range leaves the remote channels. -/
def State.acqBadChan (s : State) (a : Nat) : Bool :=
  let n := s.fd F.ACQ_RRANGE_count a
  let f := s.fd F.ACQ_RRANGE_first a
  ((s.acqLocal a).isEmpty && n == 0) || (s.acqLocal a).any (fun c => ! chanOk c) || (n != 0 && ! decide (0x100 ≤ f ∧ f + n ≤ 0x1100))

/-- Other armed units. -/
def State.acqOthers (s : State) (a : Nat) : List Nat := (natsFrom 0 16).filter fun b => b != a && s.acqArmed b

/-- Two capture sets share a channel. -/
def State.acqShare (s : State) (a b : Nat) : Bool :=
  (s.acqLocal a).any (fun c => s.acqHas b c) || (s.acqLocal b).any (fun c => s.acqHas a c) ||
    decide (s.fd F.ACQ_RRANGE_count a ≠ 0 ∧ s.fd F.ACQ_RRANGE_count b ≠ 0 ∧
      s.fd F.ACQ_RRANGE_first a < s.fd F.ACQ_RRANGE_first b + s.fd F.ACQ_RRANGE_count b ∧
      s.fd F.ACQ_RRANGE_first b < s.fd F.ACQ_RRANGE_first a + s.fd F.ACQ_RRANGE_count a)

/-- Mode, region, pre and post. -/
def State.acqMode (s : State) (a : Nat) : Nat := s.fd F.ACQ_CFG_mode a
def State.acqRegion (s : State) (a : Nat) : Nat := s.fd F.ACQ_REGION_region a
def State.acqPre (s : State) (a : Nat) : Nat := s.fd F.ACQ_PRE_pre a
def State.acqPost (s : State) (a : Nat) : Nat := s.fd F.ACQ_POST a

/-- Bytes of the allocation. -/
def State.acqAlloc (s : State) (a : Nat) : Nat := 65536 * s.fd F.ACQ_STAGE_size a

/-- Slot size S in bytes, and the number K of slots (R311). -/
def State.slotBytes (s : State) (a : Nat) : Nat := ((5 + s.acqPre a + s.acqPost a + 32) * 16 + 4095) / 4096 * 4096
def State.slotCount (s : State) (a : Nat) : Nat := min ((s.rgSize (s.acqRegion a) - 4096) / s.slotBytes a) 16777216

/-- Records of one SEGSTREAM part: what the allocation holds beside the merge buffer, and no more than an extent (R317, R455). -/
def State.partCap (s : State) (a : Nat) : Nat := (min (s.acqAlloc a - 262144) mib2) / 16

/-- The checks of ARM (R320). -/
def State.acqCheck (s : State) (a : Nat) : Nat :=
  let mode := s.acqMode a
  let r := s.acqRegion a
  let kind := s.fd F.DRM_RG_CFG_kind r
  let base := s.fd F.ACQ_STAGE_base a
  let size := s.fd F.ACQ_STAGE_size a
  let codes := s.fd F.ACQ_CFG_codes a
  if s.acqArmed a then 2
  else if s.fd F.TRG_STS_state (s.fd F.ACQ_CFG_pip a) ≠ 1 then 3
  else if s.acqBadChan a then 4
  else if (s.acqOthers a).any fun b => s.acqShare a b then 5
  else if kind ≠ (if mode = 0 then 1 else 2) ∨ ((s.acqOthers a).any fun b => s.acqRegion b == r) = true ∨
      (mode ≠ 0 ∧ s.ringIdle r = false) then 6
  else if size = 0 ∨ 256 < base + size ∨
      ((s.acqOthers a).any fun b => decide (base < s.fd F.ACQ_STAGE_base b + s.fd F.ACQ_STAGE_size b ∧ s.fd F.ACQ_STAGE_base b < base + size)) = true ∨
      (mode ≠ 1 ∧ s.acqAlloc a < 262144 + 16 * s.acqPre a) then 7
  else if mode = 0 ∧ s.slotCount a = 0 then 8
  else if mode = 3 ∨ (mode ≠ 1 ∧ s.acqPost a = 0) ∨ codes = 0 ∨ 64 ≤ codes then 9
  else 1

/-! ### Release (R305) -/

/-- The release point. -/
def State.releasePoint (s : State) (a : Nat) : Nat :=
  let h := (if s.fd F.ACQ_RRANGE_count a = 0 then s.hD else s.hR) * 512
  if (s.acqU a).pipOff then h else min h ((s.pip (s.fd F.ACQ_CFG_pip a)).j * 512)

/-- The sequence order: time, CHAN, edge code, serial number. -/
def AItem.before (x y : AItem) : Bool :=
  decide (x.time < y.time) || (decide (x.time = y.time) && (decide (x.chan < y.chan) || (decide (x.chan = y.chan) &&
    (decide (x.code < y.code) || (decide (x.code = y.code) && decide (x.serial < y.serial))))))

/-- A record enters the merge buffer; LATE records come first, in order of arrival. -/
def aitemInsert (e : AItem) : List AItem → List AItem
  | [] => [e]
  | x :: t =>
    if e.late then (if x.late then x :: aitemInsert e t else e :: x :: t)
    else if ! x.late && e.before x then e :: x :: t else x :: aitemInsert e t

/-- Records that the merge buffer holds. -/
def Acq.held (u : Acq) : Nat := sumNat (u.buf.map fun i => if i.lost then 0 else i.recs.length)

/-- A packet of the capture set arrives; a full merge buffer loses it (R318). -/
def State.acqPut (s : State) (a : Nat) (e : AItem) : State :=
  let u := s.acqU a
  let past := match u.stop with | some x => decide (x.1 ≤ e.time) | none => false
  if e.time < u.arm ∨ past = true then s
  else s.setAcqU a { u with buf := aitemInsert { e with lost := decide (16384 < u.held + e.recs.length) } u.buf }

/-- The acquisition tap of a channel (R27). -/
def State.acqTake (s : State) (rs : List Rec) : State :=
  match rs with
  | [] => s
  | h :: t =>
    match (natsFrom 0 16).find? fun a => s.acqArmed a && s.acqHas a h.chan with
    | none => s
    | some a =>
      if h.type = 0x01 ∧ t.isEmpty = true then
        if h.code < 7 ∧ natBit (s.fd F.ACQ_CFG_codes a) h.code = true then
          s.acqPut a ⟨s.fullTime h.stampOf, h.chan, h.code, h.w3.toNat, natBit h.flags 0, false, rs⟩
        else s
      else if h.type = 0x07 then s.acqPut a ⟨s.fullTime h.stampOf, h.chan, 8, 0, natBit h.flags 4, false, rs⟩
      else s

/-- The EPOCH record at a wrap takes its place in every armed unit's sequence (R109, R314). -/
def State.acqEpoch (s : State) (r : Rec) : State :=
  (natsFrom 0 16).foldl (fun (t : State) a =>
    if t.acqArmed a then t.acqPut a ⟨t.now / 2 ^ 64 * 2 ^ 64, 0, 0, 0, false, false, [r]⟩ else t) s

/-! ### Losses (R318) -/

/-- A lost packet extends the run of lost records, or begins one. -/
def loseItem (l : Option ALoss) (time chan n : Nat) : Option ALoss :=
  match l with
  | some x => some { x with last := time, count := x.count + n }
  | none => some ⟨time, time, n, chan⟩

/-- The GAP packet of a run: source 5. -/
def ALoss.pkt (l : ALoss) : List Rec := gapPacket l.chan 0 5 l.first l.last l.count

/-- A GAP packet is formed: ACQ_LOST and ACQ_STS.gap. -/
def State.noteLost (s : State) (a n : Nat) : State :=
  ((s.setPair .ACQ_LOST_LO .ACQ_LOST_HI (s.pair .ACQ_LOST_LO .ACQ_LOST_HI a + n) a).setFd F.ACQ_STS_gap 1 a).pipEvt a

/-- The last GAP packet of source 5 in a body, in reverse order of records, takes in a further run. -/
def mergeLast (l : ALoss) : List Rec → List Rec
  | e :: h :: t =>
    if h.type = 0x07 ∧ h.code = 0 ∧ e.type = 0x07 ∧ e.code = 1 ∧ e.w3 = 5 then
      mkRec 0x07 e.chan 1 0 (stamp l.last) 5 :: { h with w3 := w32 (sat (2 ^ 32 - 1) (h.w3.toNat + l.count)) } :: t
    else e :: mergeLast l (h :: t)
  | l' => l'

/-- The running loss of a segment becomes a GAP packet in its place; after sixteen in a slot, it merges into the last (R311). -/
def State.segFlush (s : State) (a : Nat) (g : ASeg) : State × ASeg :=
  match g.loss with
  | none => (s, g)
  | some l =>
    let g1 : ASeg := { g with loss := none, lost := g.lost + l.count }
    if s.acqMode a = 0 ∧ 16 ≤ g.gaps then (s.noteLost a l.count, { g1 with body := (mergeLast l g.body.reverse).reverse })
    else (s.noteLost a l.count, { g1 with gaps := g.gaps + 1, body := g.body ++ l.pkt })

/-! ### Segments (R308–R317) -/

/-- SEG_HDR (R314). -/
def segHdr (a : Nat) (u : Acq) (t : ATrig) (num pre : Nat) : List Rec :=
  match t.recs with
  | h :: r :: _ =>
    let w2 := r.w2.toNat
    [mkRec 0x05 h.chan 0 h.flags (stamp t.time) (num % 2 ^ 24 + a * 2 ^ 24 + h.w3.toNat % 16 * 2 ^ 28),
      mkRecW 0x05 h.chan 1 0 (w2 % 65536 + natBits h.w3.toNat 4 4 * 65536 + b2n (natBit h.flags 0) * 2 ^ 20) pre
        (sat 65535 u.skipped + sat 65535 u.missed * 65536),
      mkRecW 0x05 h.chan 2 0 r.w1.toNat (natBits w2 16 5 * 65536) 0]
  | _ => []

/-- Channel that decided a segment's trigger. -/
def ASeg.chan (g : ASeg) : Nat := match g.trig.recs with | h :: _ => h.chan | [] => 0

/-- SEG_END (R314). -/
def segEnd (a : Nat) (g : ASeg) (tClose why : Nat) : List Rec :=
  [mkRec 0x06 g.chan 0 (b2n (g.lost != 0)) (stamp tClose) (g.num % 2 ^ 24 + a * 2 ^ 24),
    mkRecW 0x06 g.chan 1 0 (sat (2 ^ 32 - 1) g.given) (sat (2 ^ 32 - 1) g.lost) why]

/-- A SEGSTREAM part is committed to the ring; the next begins with CONT. Where the ring is full its records are lost (assumption
log 44). -/
def State.commitPart (s : State) (a : Nat) (g : ASeg) (final : Bool) : State × ASeg :=
  let (s1, ok) := s.ringWrite (s.acqRegion a) g.body
  let part := g.part + 1
  let cont := if final then [] else [mkRec 0x12 g.chan 0 0 (stamp g.trig.time) (g.num % 2 ^ 24 + part % 256 * 2 ^ 24)]
  if ok then (s1, { g with body := cont, part := part })
  else
    let first := match g.loss with | some l => l.first | none => g.trig.time
    let n := (match g.loss with | some l => l.count | none => 0) + g.body.length
    (s1, { g with body := cont, part := part, loss := some ⟨first, max first g.last, n, g.chan⟩ })

/-- A segment takes a packet of its sequence. -/
def State.segAdd (s : State) (a : Nat) (g : ASeg) (i : AItem) (post : Bool) : State × ASeg :=
  let n := i.recs.length
  let g0 : ASeg := { g with post := if post then g.post + n else g.post, last := i.time }
  if i.lost then (s, { g0 with loss := loseItem g.loss i.time i.chan n })
  else
    let (s1, g1) := s.segFlush a g0
    let g2 : ASeg := { g1 with given := if post then g1.given + n else g1.given }
    let (s2, g3) := if s.acqMode a = 2 ∧ s.partCap a < g2.body.length + n + 4 then s1.commitPart a g2 false else (s1, g2)
    (s2, { g3 with body := g3.body ++ i.recs })

/-- The most recent packets of the history, oldest first, that make up to `n` records. -/
def takePre (n : Nat) : List AItem → List AItem
  | [] => []
  | i :: t => if i.recs.length ≤ n then takePre (n - i.recs.length) t ++ [i] else []

/-- A segment opens at a trigger (R308). -/
def State.openSegment (s : State) (a : Nat) (t : ATrig) : State :=
  let u := s.acqU a
  let pre := takePre (s.acqPre a) u.hist
  let num := u.written
  let kept := sumNat (pre.map fun i => if i.lost then 0 else i.recs.length)
  let g0 : ASeg := { trig := t, num := num, pre := kept, post := 0, given := 0, lost := 0, gaps := 0, last := t.time,
                     body := segHdr a u t num kept, loss := u.loss, part := 0 }
  let (s1, g1) := pre.foldl (fun (x : State × ASeg) i => x.1.segAdd a x.2 i false) (s, g0)
  let (s2, g2) := s1.segFlush a g1
  (s2.setAcqU a { u with hist := [], seg := some { g2 with last := t.time }, skipped := 0, missed := 0, loss := none }).setFd F.ACQ_STS_state 3 a

/-- The control page (R312). -/
def State.controlPage (s : State) (a : Nat) : State :=
  let u := s.acqU a
  s.dramWrite (s.rgBase (s.acqRegion a)) (padTo 4096 (leBytes 4 0x47455341 ++ leBytes 4 (s.slotBytes a / 4096) ++ leBytes 4 (s.slotCount a) ++
    leBytes 4 a ++ leBytes 8 u.written ++ leBytes 8 (stamp u.arm)))

/-- The unit leaves its acquisition for IDLE or DONE. -/
def State.acqLeave (s : State) (a st : Nat) : State :=
  let s1 := if s.acqMode a ≠ 0 ∧ (s.ring (s.acqRegion a)).writer = 1 + a then s.ringLeave (s.acqRegion a) else s
  let s2 := (s1.setAcqU a Acq.init).setFd F.ACQ_STS_state st a
  (if st = 4 then s2.setFd F.ACQ_STS_done 1 a else s2).pipEvt a

/-- The open segment closes at `tClose` (R309, R310, R313): its SEG_END, its slot or last part, the counts, and DONE after the last. -/
def State.closeSegment (s : State) (a tClose why : Nat) : State :=
  let u := s.acqU a
  match u.seg with
  | none => s
  | some g =>
    let (s1, g1) := s.segFlush a g
    let g2 : ASeg := { g1 with body := g1.body ++ segEnd a g1 tClose why }
    let mode := s.acqMode a
    let (s2, left) : State × Option ALoss :=
      if mode = 0 then
        let k := s1.slotCount a
        let sOv := if s1.bit F.ACQ_CFG_wrap a = true ∧ k ≤ u.written ∧ s1.fd F.ACQ_SEG_RD_consumed a ≤ u.written - k then
            s1.addSat F.ACQ_OVW 1 a else s1
        (sOv.dramWrite (s1.rgBase (s1.acqRegion a) + 4096 + u.written % max 1 k * s1.slotBytes a) (g2.body.flatMap recBytes), none)
      else
        let (sp, gp) := s1.commitPart a g2 true
        (sp, gp.loss)
    let u1 : Acq := { u with seg := none, hist := [], written := u.written + 1, loss := left,
                             rearm := tClose + (250 + s.fd F.ACQ_HOLDOFF_ticks a) * 512 }
    let s3 := ((s2.setAcqU a u1).setFd F.ACQ_SEGS_segs (u.written + 1) a).setFd F.ACQ_STS_state 2 a
    let s4 := if mode = 0 then s3.controlPage a else s3
    if u.written + 1 = s.fd F.ACQ_NSEG_n a + 1 then s4.acqLeave a 4 else s4

/-- Whether, and when, the open segment closes by count or by its limit, before a packet at time `next`. -/
def State.segDue (s : State) (a : Nat) (next : Option Nat) : Option (Nat × Nat) :=
  match (s.acqU a).seg with
  | none => none
  | some g =>
    let lim := g.trig.time + s.fd F.ACQ_POST_T a * 512
    let timed := decide (s.fd F.ACQ_POST_T a ≠ 0) &&
      (match next with | some t => decide (lim ≤ t) | none => decide (lim ≤ s.releasePoint a))
    if s.acqPost a ≤ g.post then some (g.last, 0)
    else if timed = true ∧ (match (s.acqU a).stop with | some x => decide (lim ≤ x.1) | none => true) = true then some (lim, 1) else none

/-- A trigger of the Pip unit in its place in the sequence (R294, R310, R313, R315). -/
def State.acqTrigger (s : State) (a : Nat) (t : ATrig) : State :=
  let u := s.acqU a
  if t.time < u.arm then s
  else if u.seg.isSome = true ∨ t.time < u.rearm then
    (s.setAcqU a { u with skipped := u.skipped + 1 }).addSat F.ACQ_SKIP_skipped 1 a
  else if s.acqMode a = 0 ∧ s.bit F.ACQ_CFG_wrap a = false ∧ s.slotCount a ≤ u.written - s.fd F.ACQ_SEG_RD_consumed a then
    (s.setAcqU a { u with missed := u.missed + 1 }).addSat F.ACQ_SKIP_missed 1 a
  else s.openSegment a t

/-- A packet into a stream ring, after the GAP packet of the losses before it (R315, R318). -/
def State.streamPut (s : State) (a time chan : Nat) (rs : List Rec) (lost : Bool) : State :=
  let u := s.acqU a
  let r := s.acqRegion a
  if lost then s.setAcqU a { u with loss := loseItem u.loss time chan rs.length }
  else
    let (s0, okE) := if u.begun then (s, true) else s.ringWrite r [s.epochRec]
    let (s1, ok1) := match u.loss with
      | none => (s0, true)
      | some l =>
        let (x, k) := s0.ringWrite r l.pkt
        (if k then x.noteLost a l.count else x, k)
    let u1 : Acq := { u with begun := u.begun || okE, loss := if ok1 then none else u.loss }
    let (s2, ok) := if okE && ok1 then s1.ringWrite r rs else (s1, false)
    s2.setAcqU a (if ok then u1 else { u1 with loss := loseItem u1.loss time chan rs.length })

/-- A released packet goes to the stream, to the open segment, or to the history. -/
def State.acqDeliver (s : State) (a : Nat) (i : AItem) : State :=
  let u := s.acqU a
  if s.acqMode a = 1 then s.streamPut a i.time i.chan i.recs i.lost
  else
    match u.seg with
    | some g =>
      let (s1, g1) := s.segAdd a g i true
      s1.setAcqU a { s1.acqU a with seg := some g1 }
    | none => s.setAcqU a { u with hist := (takePre (s.acqPre a) (i :: u.hist)).reverse }

/-- The time at which a packet or trigger stands in the sequence; none for a LATE record, which comes after all that the release point has passed. -/
def AItem.due (i : AItem) : Option Nat := if i.late then none else some i.time

/-- The first of the buffered packets and triggers, where the release point has passed it. -/
def State.acqNext (s : State) (a : Nat) : Option (AItem ⊕ ATrig) :=
  let u := s.acqU a
  let lim := match u.stop with | some x => min x.1 (s.releasePoint a) | none => s.releasePoint a
  match u.buf, u.trigs with
  | i :: _, t :: _ =>
    if i.late then some (.inl i)
    else if t.time ≤ i.time then (if t.time < lim then some (.inr t) else none)
    else if i.time < lim then some (.inl i) else none
  | i :: _, [] => if i.late = true ∨ i.time < lim then some (.inl i) else none
  | [], t :: _ => if t.time < lim then some (.inr t) else none
  | [], [] => none

/-- When the next of a sequence is due. -/
def itemDue (x : AItem ⊕ ATrig) : Option Nat := match x with | .inl i => i.due | .inr t => some t.time

/-- A stop whose point the release point has reached, with nothing left below it: an open segment closes, and the unit enters IDLE
(R307, R321). -/
def State.acqTryStop (s : State) (a : Nat) : State :=
  let u := s.acqU a
  match u.stop with
  | some (p, why) =>
    if s.acqArmed a = true ∧ p ≤ s.releasePoint a ∧ (s.acqNext a).isNone = true then
      let s1 := match s.segDue a none with
        | some (t, w) => s.closeSegment a t w
        | none => if u.seg.isSome then s.closeSegment a p why else s
      let s2 := if s1.acqArmed a then
          let s3 := match (s1.acqU a).loss with
            | some l => if s1.acqMode a = 1 then
                (let (x, k) := s1.ringWrite (s1.acqRegion a) l.pkt
                 if k then x.noteLost a l.count else x)
              else s1
            | none => s1
          s3.acqLeave a 0
        else s1
      if u.pipOff then (s2.setFd F.ACQ_STS_pip_off 1 a).pipEvt a else s2
    else s
  | none => s

/-- The next packet or trigger is released; a segment that is due closes before it. -/
def State.releaseOne (s : State) (a : Nat) : State :=
  match s.acqNext a with
  | none => (match s.segDue a none with | some (t, why) => s.closeSegment a t why | none => s).acqTryStop a
  | some x =>
    let s1 := match s.segDue a (itemDue x) with | some (t, why) => s.closeSegment a t why | none => s
    if s1.acqArmed a = false then s1
    else
      let u := s1.acqU a
      match x with
      | .inl i => ((s1.setAcqU a { u with buf := u.buf.drop 1 }).acqDeliver a i).acqTryStop a
      | .inr t =>
        let s2 := s1.setAcqU a { u with trigs := u.trigs.drop 1 }
        (if s2.acqMode a = 1 then
          (if t.time < u.arm then s2 else s2.streamPut a t.time (match t.recs with | h :: _ => h.chan | [] => 0) t.recs false)
        else s2.acqTrigger a t).acqTryStop a

/-- ACQ_RELEASE. -/
def acqRelease (a : Nat) (s : State) : State :=
  if s.fd F.ACQ_STS_state a = 2 ∨ s.fd F.ACQ_STS_state a = 3 then s.releaseOne a
  else if s.fd F.ACQ_STS_state a = 1 then s.acqTryStop a else s

/-- SEGMENT_CLOSE. -/
def segmentClose (a : Nat) (s : State) : State :=
  if s.fd F.ACQ_STS_state a ≠ 3 then s
  else
    match s.segDue a (match s.acqNext a with | some x => itemDue x | none => none) with | some (t, why) => (s.closeSegment a t why).acqTryStop a | none => s

/-! ### Commands (R306, R320, R321) -/

/-- Outcome of a command. -/
def State.acqResult (s : State) (a r : Nat) : State := (s.setFd F.ACQ_STS_result r a).incFd F.ACQ_STS_seq a

/-- ARM. -/
def State.acqArm (s : State) (a : Nat) (named : Option Nat) : State :=
  let r := s.acqCheck a
  if r ≠ 1 then s.acqResult a r
  else
    let p := match named with | some t => s.fullTime t | none => s.releasePoint a
    let arm := (p + 511) / 512 * 512
    let s1 := (((s.setRg .ACQ_SEGS 0 a).setRg .ACQ_SEG_RD 0 a).setPair .ACQ_LOST_LO .ACQ_LOST_HI 0 a).setRg .ACQ_SKIP 0 a
    let s2 := (s1.setRg .ACQ_OVW 0 a).setAcqU a { Acq.init with arm := arm }
    let s3 := if s2.acqMode a = 0 then
        ((s2.setFd F.ACQ_SLOTS_k (s2.slotCount a) a).setRg .ACQ_SLOT_SZ (w32 (s2.slotBytes a / 4096)) a).controlPage a
      else s2.setWriter (s2.acqRegion a) (1 + a)
    (s3.setFd F.ACQ_STS_state 1 a).acqResult a 1

/-- STOP at a point, with a close reason. -/
def State.acqStopAt (s : State) (a point why : Nat) : State :=
  let u := s.acqU a
  let stop := match u.stop with | some x => if x.1 ≤ point then x else (point, why) | none => (point, why)
  (s.setAcqU a { u with stop := some stop, buf := u.buf.filter fun i => i.late || decide (i.time < stop.1),
                        trigs := u.trigs.filter fun t => decide (t.time < stop.1) }).acqTryStop a

/-- STOP. -/
def State.acqStop (s : State) (a : Nat) (named : Option Nat) : State :=
  if s.acqArmed a = false then s.acqResult a 2
  else (s.acqStopAt a (match named with | some t => s.fullTime t | none => s.releasePoint a) 2).acqResult a 1

/-- ACQ_ARM_POINT. -/
def acqArmPoint (a : Nat) (s : State) : State :=
  if s.fd F.ACQ_STS_state a = 1 ∧ (s.acqU a).arm ≤ s.now then
    let s1 := s.setFd F.ACQ_STS_state 2 a
    if s1.acqMode a = 1 then
      let (s2, ok) := s1.ringWrite (s1.acqRegion a) [s1.epochRec]
      s2.setAcqU a { s2.acqU a with begun := ok }
    else s1
  else s

/-- ACQ_SEG_RD_WRITE: the consumed count never passes the written one (R313, R326). -/
def acqSegRdWrite (a v : Nat) (s : State) : State :=
  if 16 ≤ a ∨ s.domOn 74 = false then s
  else if s.fd F.ACQ_SEGS_segs a < v % 2 ^ 25 then s.setFd F.ACQ_STS_cfg_err 1 a else s.setFd F.ACQ_SEG_RD_consumed v a

/-! ### Hooks -/

/-- Everything below the stop point is released. -/
def State.acqDrain (a : Nat) : Nat → State → State
  | 0, s => s
  | n + 1, s => if s.acqArmed a then State.acqDrain a n (s.releaseOne a) else s

/-- Entry to HALT (`why` 3) or WATCH (2): every unit stops at its release point (R321). -/
def State.acqHold (s : State) (why : Nat) : State :=
  (natsFrom 0 16).foldl (fun (t : State) a =>
    if t.acqArmed a then
      let t1 := t.acqStopAt a (t.releasePoint a) why
      State.acqDrain a (2 * ((t1.acqU a).buf.length + (t1.acqU a).trigs.length) + 2) t1
    else t) s

/-- A power-fail warning stops every unit at once (R321). -/
def State.acqShed (s : State) : State :=
  (natsFrom 0 16).foldl (fun (t : State) a =>
    if t.acqArmed a then
      let t1 := if t.acqMode a ≠ 0 then t.setWriter (t.acqRegion a) 0 else t
      (t1.setAcqU a Acq.init).setFd F.ACQ_STS_state 0 a
    else t) s

/-- The point that ACQ_AT names. -/
def State.acqAt (s : State) (a : Nat) (named : Bool) : Option Nat := if named then some (s.pair .ACQ_AT_LO .ACQ_AT_HI a) else none

def execAcqArm (a : Nat) (named : Bool) (s : State) : Host.Outcome State Fault Refusal :=
  .next (if s.pipUnit a then s.acqArm a (s.acqAt a named) else s)
def execAcqStop (a : Nat) (named : Bool) (s : State) : Host.Outcome State Fault Refusal :=
  .next (if s.pipUnit a then s.acqStop a (s.acqAt a named) else s)
def execAcqArmPoint (a : Nat) (s : State) : Host.Outcome State Fault Refusal := .next (if s.pipUnit a then acqArmPoint a s else s)
def execAcqRelease (a : Nat) (s : State) : Host.Outcome State Fault Refusal := .next (if s.pipUnit a then acqRelease a s else s)
def execSegmentClose (a : Nat) (s : State) : Host.Outcome State Fault Refusal := .next (if s.pipUnit a then segmentClose a s else s)
def execAcqSegRdWrite (a value : Nat) (s : State) : Host.Outcome State Fault Refusal := .next (acqSegRdWrite a value s)

end Sys2Proof.Machine
end

