-- ==== Sys2Proof/Machine/Flags.lean ====
section
/-! DEFINITION. The flags of a context (R416): what a word's result does to Z, N, C and V, the sticky flags, and the conditions of pred
and cond. -/

namespace Sys2Proof.Machine

/-- The condition codes of pred and cond (R416). -/
def CFlags.holds (f : CFlags) (code : Nat) : Bool :=
  match code with
  | 0 => true
  | 1 => f.z
  | 2 => ! f.z
  | 3 => f.n != f.v
  | 4 => f.n == f.v
  | 5 => f.c
  | 6 => ! f.c
  | 7 => f.ev
  | 8 => ! f.ev
  | 9 => f.mark
  | 10 => ! f.mark
  | 11 => f.sel
  | 12 => ! f.sel
  | 13 => f.dvz
  | 14 => f.sat
  | _ => false

/-- Z and N of a 64-bit result. -/
def CFlags.zn (f : CFlags) (r : BitVec 64) : CFlags := { f with z := r == 0, n := r.msb }

/-- Flags of an addition: C the unsigned carry out, V the signed overflow. -/
def CFlags.ofAdd (f : CFlags) (a b : BitVec 64) : CFlags :=
  let r := a + b
  { f.zn r with c := decide (2 ^ 64 ≤ a.toNat + b.toNat), v := a.msb == b.msb && r.msb != a.msb }

/-- Flags of a subtraction: C set where a is below b, unsigned; V the signed overflow. -/
def CFlags.ofSub (f : CFlags) (a b : BitVec 64) : CFlags :=
  let r := a - b
  { f.zn r with c := decide (a.toNat < b.toNat), v := a.msb != b.msb && r.msb != a.msb }

/-- Flags of any other result: Z and N as the result says, C and V free, for the manual gives them for additions and subtractions
only (assumption log 23). -/
def CFlags.ofOther (f : CFlags) (z n : Bool) (free : Nat) : CFlags :=
  { f with z := z, n := n, c := natBit free 0, v := natBit free 1 }

/-- A division by zero sets DVZ; a saturation sets SAT. -/
def CFlags.setDvz (f : CFlags) (b : Bool) : CFlags := { f with dvz := f.dvz || b }
def CFlags.setSat (f : CFlags) (b : Bool) : CFlags := { f with sat := f.sat || b }

end Sys2Proof.Machine
end

