-- ==== Sys2Proof/Machine/EngCore.lean ====
section
/-! DEFINITION. Issuing a microword (R411–R417): its fields, the words that R415 forbids, the operands, and the first two stages of a
word. A row of a microword op acts where the context's next word is that op. -/

namespace Sys2Proof.Machine

/-! ### The microword (R414) -/

def wCls (w : Nat) : Nat := natBits w 124 4
def wOp (w : Nat) : Nat := natBits w 118 6
def wRd (w : Nat) : Nat := natBits w 113 5
def wRa (w : Nat) : Nat := natBits w 108 5
def wRb (w : Nat) : Nat := natBits w 103 5
def wBi (w : Nat) : Bool := natBit w 102
def wAs (w : Nat) : Bool := natBit w 101
def wFl (w : Nat) : Bool := natBit w 100
def wPred (w : Nat) : Nat := natBits w 96 4
def wImm (w : Nat) : Int := sInt 32 (natBits w 64 32)
def wSeq (w : Nat) : Nat := natBits w 60 4
def wCond (w : Nat) : Nat := natBits w 56 4
def wTgt (w : Nat) : Nat := natBits w 44 12
def wAux (w : Nat) : Nat := natBits w 32 12

/-- The number of ops of a class (R417). -/
def opCount (cls : Nat) : Nat :=
  match cls with
  | 0 => 17 | 1 => 14 | 2 => 6 | 3 => 10 | 4 => 7 | 5 => 5 | 6 => 9 | 7 => 3 | _ => 0

/-- Bound of aux for an op: its values lie below it; where aux is unused it is zero (R414, R417). -/
def auxBound (cls op : Nat) : Nat :=
  match cls, op with
  | 1, 9 => 128 | 1, 10 => 128 | 1, 11 => 64
  | 3, 7 => 128
  | 6, 1 => 6 | 6, 3 => 2 | 6, 5 => 4 | 6, 6 => 8 | 6, 7 => 3 | 6, 8 => 3
  | 7, 1 => 5
  | _, _ => 1

/-- A word that R415 allows. -/
def wordLegal (w : Nat) : Bool :=
  decide (wOp w < opCount (wCls w)) && decide (wSeq w ≤ 5) && decide (w % 2 ^ 32 = 0) && decide (wAux w < auxBound (wCls w) (wOp w))

/-! ### Registers and operands -/

/-- General register `i`. -/
def Ctx.r (c : Ctx) (i : Nat) : BitVec 64 := Tab.get 0 c.g i
def Ctx.setR (c : Ctx) (i : Nat) (v : BitVec 64) : Ctx := { c with g := Tab.set 0 c.g i v }

/-- Operand a, and operand b: g[rb], or imm sign-extended (R414). -/
def Ctx.a (c : Ctx) (w : Nat) : BitVec 64 := c.r (wRa w)
def Ctx.b (c : Ctx) (w : Nat) : BitVec 64 := if wBi w then BitVec.ofInt 64 (wImm w) else c.r (wRb w)

/-- The accumulator that a word names. -/
def Ctx.acc (c : Ctx) (w : Nat) : BitVec 128 := if wAs w then c.acc1 else c.acc0
def Ctx.setAcc (c : Ctx) (w : Nat) (v : BitVec 128) : Ctx := if wAs w then { c with acc1 := v } else { c with acc0 := v }

/-! ### Issue (R411, R415, R416) -/

/-- What an op does: it completes, or it aborts its context (true: a data-memory error), after a change of state. -/
inductive OpOut where
  | ok (s : State) (c : Ctx)
  | abort (dmem : Bool)
  | abortIn (s : State) (dmem : Bool)

/-- The word that context `c` issues next. -/
def State.fetchWord (s : State) (c : Ctx) : Nat := (Tab.get 0 s.eng.store c.pc).toNat

/-- Whether a context may issue: the device is in RUN and has shed no load (R35, R221), the context holds a started task, is not blocked or moving, has no stage-3 action due, and its engine is
ACTIVE (R411). -/
def State.canIssue (s : State) (e : Nat) (c : Ctx) : Bool :=
  s.dev.st == .run && ! s.dev.shed && c.valid && ! c.blocked && ! c.seqPend && ! c.moving && s.engState e == 0 &&
  (match s.task c.task with | some k => k.started | none => false)

/-- After the op: NEXT goes to pc + 1; any other sequencer operation is still to act. -/
def Ctx.advance (c : Ctx) (w : Nat) : Ctx := if wSeq w = 0 then { c with pc := (c.pc + 1) % 4096 } else { c with seqPend := true }

/-- Stages 1 and 2 of a word of class `cls` and op `op` on context x of engine e (R416). -/
def State.issue (s : State) (cls op e x : Nat) (f : State → Ctx → Nat → OpOut) : State :=
  let c := s.ctx e x
  if s.canIssue e c = false then s
  else
    let w := s.fetchWord c
    if wordLegal w = false then s.abortCtx e x false
    else if wCls w ≠ cls ∨ wOp w ≠ op then s
    else if c.fl.holds (wPred w) = false then s.setCtx e x (c.advance w)
    else
      match f s c w with
      | .ok s1 c1 => s1.setCtx e x (c1.advance w)
      | .abort d => s.abortCtx e x d
      | .abortIn s1 d => s1.abortCtx e x d

/-- Flags of a result for which the manual gives no C and V: set where fl is 1. -/
def State.otherFlags (s : State) (c : Ctx) (w : Nat) (z n : Bool) : State × Ctx :=
  if wFl w then
    let (f, s1) := s.free
    (s1, { c with fl := c.fl.ofOther z n f })
  else (s, c)

/-- An op that writes a 64-bit result to g[rd]. -/
def State.result (s : State) (c : Ctx) (w : Nat) (r : BitVec 64) : OpOut :=
  let (s1, c1) := s.otherFlags (c.setR (wRd w) r) w (r == 0) r.msb
  .ok s1 c1

/-- An op that writes an accumulator. -/
def State.accResult (s : State) (c : Ctx) (w : Nat) (r : BitVec 128) : OpOut :=
  let (s1, c1) := s.otherFlags (c.setAcc w r) w (r == 0) r.msb
  .ok s1 c1

end Sys2Proof.Machine
end

