-- ==== Sys2Proof/Machine/EngAlu.lean ====
section
/-! DEFINITION. Microword classes 0 to 2 (R417): integer operations, the accumulators, and division. -/

namespace Sys2Proof.Machine

/-! ### Class 0 -/

/-- An integer op of two operands whose C and V the manual does not give. -/
def State.alu (s : State) (op e x : Nat) (f : BitVec 64 → BitVec 64 → BitVec 64) : State :=
  s.issue 0 op e x fun s c w => s.result c w (f (c.a w) (c.b w))

def engAdd (e x : Nat) (s : State) : State :=
  s.issue 0 0 e x fun s c w =>
    .ok s { c.setR (wRd w) (c.a w + c.b w) with fl := if wFl w then c.fl.ofAdd (c.a w) (c.b w) else c.fl }
def engSub (e x : Nat) (s : State) : State :=
  s.issue 0 1 e x fun s c w =>
    .ok s { c.setR (wRd w) (c.a w - c.b w) with fl := if wFl w then c.fl.ofSub (c.a w) (c.b w) else c.fl }
def engAnd (e x : Nat) (s : State) : State := s.alu 2 e x fun a b => a &&& b
def engOr (e x : Nat) (s : State) : State := s.alu 3 e x fun a b => a ||| b
def engXor (e x : Nat) (s : State) : State := s.alu 4 e x fun a b => a ^^^ b
def engShl (e x : Nat) (s : State) : State := s.alu 5 e x fun a b => a <<< (b.toNat % 64)
def engShr (e x : Nat) (s : State) : State := s.alu 6 e x fun a b => a >>> (b.toNat % 64)
def engSar (e x : Nat) (s : State) : State := s.alu 7 e x fun a b => a.sshiftRight (b.toNat % 64)
def engMin (e x : Nat) (s : State) : State := s.alu 8 e x fun a b => if a.toInt ≤ b.toInt then a else b
def engMax (e x : Nat) (s : State) : State := s.alu 9 e x fun a b => if a.toInt ≤ b.toInt then b else a
def engMinu (e x : Nat) (s : State) : State := s.alu 10 e x fun a b => if a.toNat ≤ b.toNat then a else b
def engMaxu (e x : Nat) (s : State) : State := s.alu 11 e x fun a b => if a.toNat ≤ b.toNat then b else a
def engMov (e x : Nat) (s : State) : State := s.alu 12 e x fun _ b => b
/-- MOVH: bits [31:0] of g[rd] are kept. -/
def engMovh (e x : Nat) (s : State) : State :=
  s.issue 0 13 e x fun s c w =>
    s.result c w (BitVec.ofNat 64 ((c.r (wRd w)).toNat % 2 ^ 32 + uNat 32 (wImm w) * 2 ^ 32))
/-- CMP sets the flags whatever fl holds, and writes nothing. -/
def engCmp (e x : Nat) (s : State) : State :=
  s.issue 0 14 e x fun s c w => .ok s { c with fl := c.fl.ofSub (c.a w) (c.b w) }
/-- ADDS is held at −2^63 or 2^63 − 1 with SAT. -/
def engAdds (e x : Nat) (s : State) : State :=
  s.issue 0 15 e x fun s c w =>
    let r := (c.a w).toInt + (c.b w).toInt
    let h := stick r
    s.result { c with fl := c.fl.setSat (decide (h ≠ r)) } w (BitVec.ofInt 64 h)
def engSel (e x : Nat) (s : State) : State :=
  s.issue 0 16 e x fun s c w => s.result c w (if c.fl.z then c.a w else c.b w)

/-! ### Class 1 -/

def engMul (e x : Nat) (s : State) : State := s.issue 1 0 e x fun s c w => s.result c w (c.a w * c.b w)
def engMulhs (e x : Nat) (s : State) : State :=
  s.issue 1 1 e x fun s c w => s.result c w (BitVec.ofInt 64 ((c.a w).toInt * (c.b w).toInt / 2 ^ 64))
def engMulhu (e x : Nat) (s : State) : State :=
  s.issue 1 2 e x fun s c w => s.result c w (BitVec.ofNat 64 ((c.a w).toNat * (c.b w).toNat / 2 ^ 64))
def engAmac (e x : Nat) (s : State) : State :=
  s.issue 1 3 e x fun s c w => s.accResult c w (c.acc w + BitVec.ofInt 128 ((c.a w).toInt * (c.b w).toInt))
def engAmsb (e x : Nat) (s : State) : State :=
  s.issue 1 4 e x fun s c w => s.accResult c w (c.acc w - BitVec.ofInt 128 ((c.a w).toInt * (c.b w).toInt))
def engAclr (e x : Nat) (s : State) : State := s.issue 1 5 e x fun s c w => s.accResult c w 0
/-- g[i]:g[j], the first the high word. -/
def Ctx.wide (c : Ctx) (i j : Nat) : BitVec 128 := BitVec.ofNat 128 ((c.r i).toNat * 2 ^ 64 + (c.r j).toNat)
def engAld (e x : Nat) (s : State) : State := s.issue 1 6 e x fun s c w => s.accResult c w (c.wide (wRa w) (wRb w))
def engArdl (e x : Nat) (s : State) : State := s.issue 1 7 e x fun s c w => s.result c w (BitVec.ofNat 64 (c.acc w).toNat)
def engArdh (e x : Nat) (s : State) : State :=
  s.issue 1 8 e x fun s c w => s.result c w (BitVec.ofNat 64 ((c.acc w).toNat / 2 ^ 64))
def engAshl (e x : Nat) (s : State) : State := s.issue 1 9 e x fun s c w => s.accResult c w (c.acc w <<< wAux w)
/-- ASHR is arithmetic and rounds half upward (R259). -/
def engAshr (e x : Nat) (s : State) : State :=
  s.issue 1 10 e x fun s c w =>
    let n := wAux w
    let v := (c.acc w).toInt
    s.accResult c w (BitVec.ofInt 128 (if n = 0 then v else (v + 2 ^ (n - 1)) / 2 ^ n))
/-- AMULW: P and Q are register pairs; the register after g31 is g0 (assumption log 24). -/
def engAmulw (e x : Nat) (s : State) : State :=
  s.issue 1 11 e x fun s c w =>
    let p := (c.wide (wRa w) ((wRa w + 1) % 32)).toInt
    let q := (c.wide (wRb w) ((wRb w + 1) % 32)).toInt
    s.accResult c w (c.acc w + BitVec.ofInt 128 (rdiv (p * q) (2 ^ (64 + wAux w))))
def engAadd (e x : Nat) (s : State) : State := s.issue 1 12 e x fun s c w => s.accResult c w (c.acc w + c.wide (wRa w) (wRb w))
/-- AXCH has two results: all four flags are free where fl is 1 (assumption log 23). -/
def engAxch (e x : Nat) (s : State) : State :=
  s.issue 1 13 e x fun s c w =>
    let (f, s0) := s.free
    let (s1, c1) := (if wFl w then s0 else s).otherFlags { c with acc0 := c.acc1, acc1 := c.acc0 } w (natBit f 2) (natBit f 3)
    .ok s1 c1

/-! ### Class 2: a division by zero gives 0 and sets DVZ -/

/-- A division of 64-bit operands. -/
def State.divOp (s : State) (op e x : Nat) (f : BitVec 64 → BitVec 64 → BitVec 64) : State :=
  s.issue 2 op e x fun s c w =>
    let z := c.b w == 0
    s.result { c with fl := c.fl.setDvz z } w (if z then 0 else f (c.a w) (c.b w))

def engDivs (e x : Nat) (s : State) : State := s.divOp 0 e x fun a b => a.sdiv b
def engDivu (e x : Nat) (s : State) : State := s.divOp 1 e x fun a b => a.udiv b
def engRems (e x : Nat) (s : State) : State := s.divOp 2 e x fun a b => a.srem b
def engRemu (e x : Nat) (s : State) : State := s.divOp 3 e x fun a b => a.umod b

/-- The quotient rounded to nearest, ties away from zero. -/
def rdivInt (a b : Int) : Int := if b < 0 then rdiv (-a) b.natAbs else rdiv a b.natAbs

def engRdiv (e x : Nat) (s : State) : State := s.divOp 4 e x fun a b => BitVec.ofInt 64 (rdivInt a.toInt b.toInt)
def engAdiv (e x : Nat) (s : State) : State :=
  s.issue 2 5 e x fun s c w =>
    let z := c.b w == 0
    s.accResult { c with fl := c.fl.setDvz z } w
      (if z then 0 else BitVec.ofInt 128 (rdivInt (c.acc w).toInt (c.b w).toInt))

def execAdd (eng x : Nat) (s : State) : Host.Outcome State Fault Refusal := .next (engAdd eng x s)
def execSub (eng x : Nat) (s : State) : Host.Outcome State Fault Refusal := .next (engSub eng x s)
def execAnd (eng x : Nat) (s : State) : Host.Outcome State Fault Refusal := .next (engAnd eng x s)
def execOr (eng x : Nat) (s : State) : Host.Outcome State Fault Refusal := .next (engOr eng x s)
def execXor (eng x : Nat) (s : State) : Host.Outcome State Fault Refusal := .next (engXor eng x s)
def execShl (eng x : Nat) (s : State) : Host.Outcome State Fault Refusal := .next (engShl eng x s)
def execShr (eng x : Nat) (s : State) : Host.Outcome State Fault Refusal := .next (engShr eng x s)
def execSar (eng x : Nat) (s : State) : Host.Outcome State Fault Refusal := .next (engSar eng x s)
def execMin (eng x : Nat) (s : State) : Host.Outcome State Fault Refusal := .next (engMin eng x s)
def execMax (eng x : Nat) (s : State) : Host.Outcome State Fault Refusal := .next (engMax eng x s)
def execMinu (eng x : Nat) (s : State) : Host.Outcome State Fault Refusal := .next (engMinu eng x s)
def execMaxu (eng x : Nat) (s : State) : Host.Outcome State Fault Refusal := .next (engMaxu eng x s)
def execMov (eng x : Nat) (s : State) : Host.Outcome State Fault Refusal := .next (engMov eng x s)
def execMovh (eng x : Nat) (s : State) : Host.Outcome State Fault Refusal := .next (engMovh eng x s)
def execCmp (eng x : Nat) (s : State) : Host.Outcome State Fault Refusal := .next (engCmp eng x s)
def execAdds (eng x : Nat) (s : State) : Host.Outcome State Fault Refusal := .next (engAdds eng x s)
def execSel (eng x : Nat) (s : State) : Host.Outcome State Fault Refusal := .next (engSel eng x s)
def execMul (eng x : Nat) (s : State) : Host.Outcome State Fault Refusal := .next (engMul eng x s)
def execMulhs (eng x : Nat) (s : State) : Host.Outcome State Fault Refusal := .next (engMulhs eng x s)
def execMulhu (eng x : Nat) (s : State) : Host.Outcome State Fault Refusal := .next (engMulhu eng x s)
def execAmac (eng x : Nat) (s : State) : Host.Outcome State Fault Refusal := .next (engAmac eng x s)
def execAmsb (eng x : Nat) (s : State) : Host.Outcome State Fault Refusal := .next (engAmsb eng x s)
def execAclr (eng x : Nat) (s : State) : Host.Outcome State Fault Refusal := .next (engAclr eng x s)
def execAld (eng x : Nat) (s : State) : Host.Outcome State Fault Refusal := .next (engAld eng x s)
def execArdl (eng x : Nat) (s : State) : Host.Outcome State Fault Refusal := .next (engArdl eng x s)
def execArdh (eng x : Nat) (s : State) : Host.Outcome State Fault Refusal := .next (engArdh eng x s)
def execAshl (eng x : Nat) (s : State) : Host.Outcome State Fault Refusal := .next (engAshl eng x s)
def execAshr (eng x : Nat) (s : State) : Host.Outcome State Fault Refusal := .next (engAshr eng x s)
def execAmulw (eng x : Nat) (s : State) : Host.Outcome State Fault Refusal := .next (engAmulw eng x s)
def execAadd (eng x : Nat) (s : State) : Host.Outcome State Fault Refusal := .next (engAadd eng x s)
def execAxch (eng x : Nat) (s : State) : Host.Outcome State Fault Refusal := .next (engAxch eng x s)
def execDivs (eng x : Nat) (s : State) : Host.Outcome State Fault Refusal := .next (engDivs eng x s)
def execDivu (eng x : Nat) (s : State) : Host.Outcome State Fault Refusal := .next (engDivu eng x s)
def execRems (eng x : Nat) (s : State) : Host.Outcome State Fault Refusal := .next (engRems eng x s)
def execRemu (eng x : Nat) (s : State) : Host.Outcome State Fault Refusal := .next (engRemu eng x s)
def execRdiv (eng x : Nat) (s : State) : Host.Outcome State Fault Refusal := .next (engRdiv eng x s)
def execAdiv (eng x : Nat) (s : State) : Host.Outcome State Fault Refusal := .next (engAdiv eng x s)

end Sys2Proof.Machine
end

