-- ==== Sys2Proof/Machine/EngFpu.lean ====
section
/-! DEFINITION. Microword class 3 (R417): binary64 in the general registers, rounded to nearest with ties to even. The payload of a NaN
is a free value (assumption log 25). -/

namespace Sys2Proof.Machine

/-- A binary64 op; the function takes a free value for a NaN. -/
def State.fpu (s : State) (op e x : Nat) (f : Nat → Nat → Nat → Nat) : State :=
  s.issue 3 op e x fun s c w =>
    let (fr, s1) := s.free
    s1.result c w (BitVec.ofNat 64 (f fr (c.a w).toNat (c.b w).toNat))

/-- A binary64 division: by zero it gives 0 and sets DVZ (R417, assumption log 26). -/
def State.fdivOp (s : State) (op e x : Nat) (num : Ctx → Nat → Nat) (den : Ctx → Nat → Nat) : State :=
  s.issue 3 op e x fun s c w =>
    let (fr, s1) := s.free
    let z := f64Zero (den c w)
    s1.result { c with fl := c.fl.setDvz z } w (if z then 0 else BitVec.ofNat 64 (f64Div fr (num c w) (den c w)))

def engFadd (e x : Nat) (s : State) : State := s.fpu 0 e x fun f a b => f64Add f a b
def engFsub (e x : Nat) (s : State) : State := s.fpu 1 e x fun f a b => f64Add f a (f64Negate b)
def engFmul (e x : Nat) (s : State) : State := s.fpu 2 e x fun f a b => f64Mul f a b
def engFdiv (e x : Nat) (s : State) : State := s.fdivOp 3 e x (fun c w => (c.a w).toNat) fun c w => (c.b w).toNat
def engFsqrt (e x : Nat) (s : State) : State := s.fpu 4 e x fun f a _ => f64Root f a
def engFrcp (e x : Nat) (s : State) : State := s.fdivOp 5 e x (fun _ _ => f64OfInt 1 1) fun c w => (c.a w).toNat
def engFcvt (e x : Nat) (s : State) : State :=
  s.issue 3 6 e x fun s c w => s.result c w (BitVec.ofNat 64 (f64OfInt (c.a w).toInt 1))
/-- FCVTA: binary64 of acc / 2^aux, rounded once. -/
def engFcvta (e x : Nat) (s : State) : State :=
  s.issue 3 7 e x fun s c w => s.result c w (BitVec.ofNat 64 (f64OfInt (c.acc w).toInt (2 ^ wAux w)))
/-- FCMP: Z equal, N below, V unordered; it writes nothing, and with fl 1 leaves C free. -/
def engFcmp (e x : Nat) (s : State) : State :=
  s.issue 3 8 e x fun s c w =>
    let r := f64Cmp (c.a w).toNat (c.b w).toNat
    let (f, s1) := s.free
    .ok (if wFl w then s1 else s)
      { c with fl := { c.fl with z := r.1, n := r.2.1, v := r.2.2, c := if wFl w then natBit f 0 else c.fl.c } }
/-- FINT: rounded to the nearest integer, held at the limits with SAT; of a NaN, a free value (assumption log 25). -/
def engFint (e x : Nat) (s : State) : State :=
  s.issue 3 9 e x fun s c w =>
    let p := (c.a w).toNat
    let (fr, s1) := s.free
    if f64Nan p then s1.result c w (BitVec.ofNat 64 fr)
    else
      let r : Int := if f64Inf p then (if f64Neg p then -(2 ^ 64) else 2 ^ 64) else f64Round p
      let h := stick r
      s1.result { c with fl := c.fl.setSat (decide (h ≠ r)) } w (BitVec.ofInt 64 h)

def execFadd (eng x : Nat) (s : State) : Host.Outcome State Fault Refusal := .next (engFadd eng x s)
def execFsub (eng x : Nat) (s : State) : Host.Outcome State Fault Refusal := .next (engFsub eng x s)
def execFmul (eng x : Nat) (s : State) : Host.Outcome State Fault Refusal := .next (engFmul eng x s)
def execFdiv (eng x : Nat) (s : State) : Host.Outcome State Fault Refusal := .next (engFdiv eng x s)
def execFsqrt (eng x : Nat) (s : State) : Host.Outcome State Fault Refusal := .next (engFsqrt eng x s)
def execFrcp (eng x : Nat) (s : State) : Host.Outcome State Fault Refusal := .next (engFrcp eng x s)
def execFcvt (eng x : Nat) (s : State) : Host.Outcome State Fault Refusal := .next (engFcvt eng x s)
def execFcvta (eng x : Nat) (s : State) : Host.Outcome State Fault Refusal := .next (engFcvta eng x s)
def execFcmp (eng x : Nat) (s : State) : Host.Outcome State Fault Refusal := .next (engFcmp eng x s)
def execFint (eng x : Nat) (s : State) : Host.Outcome State Fault Refusal := .next (engFint eng x s)

end Sys2Proof.Machine
end

