-- ==== Sys2Proof/Machine/EngMem.lean ====
section
/-! DEFINITION. Microword classes 4 and 5 (R412, R413, R417): the frame, the spill area, and the histogram unit. -/

namespace Sys2Proof.Machine

/-! ### The frame -/

/-- Frame bytes of a context. -/
def State.frameBytes (s : State) (c : Ctx) : Nat :=
  match s.task c.task with | some k => s.frameOf (dFunc k.desc) | none => 0

/-- An access of `n` bytes to the frame at g[ra] + imm: out of the frame or misaligned, it aborts the context; a corrected ECC
error is counted, and an uncorrectable one aborts it (R412, R422). -/
def State.frameOp (s : State) (op n e x : Nat) (ecc : Ecc) (f : State → Ctx → Nat → Nat → OpOut) : State :=
  s.issue 4 op e x fun s c w =>
    let a := (c.a w + BitVec.ofInt 64 (wImm w)).toNat
    if s.frameBytes c < a + n ∨ a % n ≠ 0 then .abort false
    else
      match ecc with
      | .uncorrectable => .abort true
      | .corrected => f (s.addSat F.ENG_ECC 1 e) c w a
      | .good => f s c w a

/-- Read `n` bytes of the frame. -/
def Ctx.rd (c : Ctx) (a n : Nat) : Nat := ofLe (Memory.readN 0 c.frame a n)
/-- Write `n` bytes of the frame. -/
def Ctx.wr (c : Ctx) (a n v : Nat) : Ctx := { c with frame := Memory.writeN 0 c.frame a (leBytes n v) }

def engLd (e x : Nat) (ecc : Ecc) (s : State) : State :=
  s.frameOp 0 8 e x ecc fun s c w a => s.result c w (BitVec.ofNat 64 (c.rd a 8))
def engSt (e x : Nat) (ecc : Ecc) (s : State) : State :=
  s.frameOp 1 8 e x ecc fun s c w a => .ok s (c.wr a 8 (c.r (wRb w)).toNat)
def engLdw (e x : Nat) (ecc : Ecc) (s : State) : State :=
  s.frameOp 2 4 e x ecc fun s c w a => s.result c w (BitVec.ofNat 64 (c.rd a 4))
def engLdws (e x : Nat) (ecc : Ecc) (s : State) : State :=
  s.frameOp 3 4 e x ecc fun s c w a => s.result c w (BitVec.ofInt 64 (sInt 32 (c.rd a 4)))
def engStw (e x : Nat) (ecc : Ecc) (s : State) : State :=
  s.frameOp 4 4 e x ecc fun s c w a => .ok s (c.wr a 4 ((c.r (wRb w)).toNat % 2 ^ 32))

/-! ### The spill area (R453) -/

/-- An access to the task's spill area at g[ra] + imm: outside it or misaligned, it aborts the context. -/
def State.spillOp (s : State) (op e x : Nat) (f : State → Ctx → Nat → Nat → OpOut) : State :=
  s.issue 4 op e x fun s c w =>
    let a := (c.a w + BitVec.ofInt 64 (wImm w)).toNat
    match s.task c.task with
    | some k => if k.spill.2 < a + 8 ∨ a % 8 ≠ 0 then .abort false else f s c w (k.spill.1 + a)
    | none => .abort false

def engSpld (e x : Nat) (s : State) : State :=
  s.spillOp 5 e x fun s c w a =>
    if s.poisonIn a 8 = 0 then s.result c w (BitVec.ofNat 64 (ofLe (Memory.readN 0 s.dram a 8))) else .abortIn (s.notePoison a 8) true
def engSpst (e x : Nat) (s : State) : State :=
  s.spillOp 6 e x fun s c w a => .ok { s with dram := Memory.writeN 0 s.dram a (leBytes 8 (c.r (wRb w)).toNat) } c

/-! ### The histogram unit (R180, R413) -/

/-- Bins of a context. -/
def State.binCount (s : State) (c : Ctx) : Nat := match s.task c.task with | some k => binsOf k.desc | none => 0

/-- HCFG: a width of 0 aborts the context. -/
def engHcfg (e x : Nat) (s : State) : State :=
  s.issue 5 0 e x fun s c w =>
    if c.r (wRb w) = 0 then .abort false else .ok s { c with origin := (c.a w).toInt, width := (c.r (wRb w)).toNat }

/-- One more in a count, which sticks at its maximum. -/
def bump32 (n : Nat) : Nat := sat (2 ^ 32 - 1) (n + 1)

/-- The bin of a value; before any HCFG it is free (assumption log 27). -/
def binIndex (free : Nat) (o : Int) (w b : Nat) (v : Int) : Int :=
  if w = 0 then ((free % (b + 2) : Nat) : Int) - 1 else (v - o) / (w : Int)

/-- HADD: SAT is set when a bin or count sticks. -/
def engHadd (e x : Nat) (s : State) : State :=
  s.issue 5 1 e x fun s c w =>
    let b := s.binCount c
    let (f, s1) := s.free
    let i := binIndex f c.origin c.width b (c.a w).toInt
    let old := if i < 0 then c.below else if (b : Int) ≤ i then c.above else Tab.get 0 c.bins i.toNat
    let n := bump32 old
    let c1 := { c with fl := c.fl.setSat (decide (old + 1 ≠ n)) }
    .ok s1 (if i < 0 then { c1 with below := n } else if (b : Int) ≤ i then { c1 with above := n }
      else { c1 with bins := Tab.set 0 c.bins i.toNat n })

/-- HRD: of a bin number outside the range, a free value (assumption log 27). -/
def engHrd (e x : Nat) (s : State) : State :=
  s.issue 5 2 e x fun s c w =>
    let (f, s1) := s.free
    if (c.a w).toNat < s.binCount c then s1.result c w (BitVec.ofNat 64 (Tab.get 0 c.bins (c.a w).toNat))
    else s1.result c w (BitVec.ofNat 64 f)

def engHruo (e x : Nat) (s : State) : State :=
  s.issue 5 3 e x fun s c w => s.result c w (BitVec.ofNat 64 (c.above * 2 ^ 32 + c.below))

def engHclr (e x : Nat) (s : State) : State :=
  s.issue 5 4 e x fun s c _ => .ok s { c with bins := [], below := 0, above := 0 }

def execLd (eng x : Nat) (ecc : Ecc) (s : State) : Host.Outcome State Fault Refusal := .next (engLd eng x ecc s)
def execSt (eng x : Nat) (ecc : Ecc) (s : State) : Host.Outcome State Fault Refusal := .next (engSt eng x ecc s)
def execLdw (eng x : Nat) (ecc : Ecc) (s : State) : Host.Outcome State Fault Refusal := .next (engLdw eng x ecc s)
def execLdws (eng x : Nat) (ecc : Ecc) (s : State) : Host.Outcome State Fault Refusal := .next (engLdws eng x ecc s)
def execStw (eng x : Nat) (ecc : Ecc) (s : State) : Host.Outcome State Fault Refusal := .next (engStw eng x ecc s)
def execSpld (eng x : Nat) (s : State) : Host.Outcome State Fault Refusal := .next (engSpld eng x s)
def execSpst (eng x : Nat) (s : State) : Host.Outcome State Fault Refusal := .next (engSpst eng x s)
def execHcfg (eng x : Nat) (s : State) : Host.Outcome State Fault Refusal := .next (engHcfg eng x s)
def execHadd (eng x : Nat) (s : State) : Host.Outcome State Fault Refusal := .next (engHadd eng x s)
def execHrd (eng x : Nat) (s : State) : Host.Outcome State Fault Refusal := .next (engHrd eng x s)
def execHruo (eng x : Nat) (s : State) : Host.Outcome State Fault Refusal := .next (engHruo eng x s)
def execHclr (eng x : Nat) (s : State) : Host.Outcome State Fault Refusal := .next (engHclr eng x s)

end Sys2Proof.Machine
end

