-- ==== Sys2Proof/Machine/EngPort.lean ====
section
/-! DEFINITION. Microword classes 6 and 7 and the sequencer operations (R416–R423, R426). -/

namespace Sys2Proof.Machine

/-- EVPOP blocks the context; with an output packet open it aborts it (R420, R422). -/
def engEvpop (e x : Nat) (s : State) : State :=
  s.issue 6 0 e x fun s c _ => if c.opn then .abort false else .ok s { c with blocked := true }

/-- A field of the current event; before the first event the event registers are zero. -/
def Ctx.evField (c : Ctx) (k : Nat) : Nat :=
  match c.ev with
  | none => 0
  | some v =>
    match k with
    | 0 => v.record.w0.toNat
    | 1 => pairNat v.record.w1 v.record.w2
    | 2 => v.record.w3.toNat
    | 3 => v.roles
    | 4 => v.sub
    | _ => v.drops

def engEvrd (e x : Nat) (s : State) : State :=
  s.issue 6 1 e x fun s c w => s.result c w (BitVec.ofNat 64 (c.evField (wAux w)))

/-- SKIP: the rest of the current event's packet is removed (R340), from the port where it has popped it already. -/
def engSkip (e x : Nat) (s : State) : State :=
  s.issue 6 2 e x fun s c _ =>
    match c.ev, s.task c.task with
    | some v, some k =>
      let q := match k.subs.drop v.sub with | u :: _ => u.queue | [] => 0
      if c.rest.isEmpty then .ok (s.skipQ q) c
      else
        .ok (s.setRg .QUE_Q_SKIP (w32 (sat (2 ^ 32 - 1) ((s.rg .QUE_Q_SKIP q).toNat + c.rest.length))) q) { c with rest := [] }
    | _, _ => .ok s c

/-- OUT: W0 = g[ra][31:0], W1:W2 = g[rb], W3 = g[ra][63:32]; aux bit 0 ends the packet (R423). -/
def engOut (e x : Nat) (s : State) : State :=
  s.issue 6 3 e x fun s c w =>
    match s.task c.task with
    | some k =>
      let a := (c.a w).toNat
      let r : Rec := ⟨w32 a, loWord (c.r (wRb w)).toNat, hiWord (c.r (wRb w)).toNat, w32 (a / 2 ^ 32)⟩
      let last := wAux w == 1
      .ok (s.push k.outq (prodTask c.task) .eng r last).1 { c with opn := ! last }
    | none => .ok s c

/-- OUTR rewinds the open packet (R334). -/
def engOutr (e x : Nat) (s : State) : State :=
  s.issue 6 4 e x fun s c _ =>
    match s.task c.task with
    | some k => .ok (s.rewindQ k.outq (prodTask c.task)) { c with opn := false }
    | none => .ok s c

/-- TIME: now, H_D, H_R or the task's horizon, as timestamps. -/
def State.timeField (s : State) (d : List Word) (k : Nat) : Nat :=
  match k with
  | 0 => stamp s.now
  | 1 => stamp (s.hD * 512)
  | 2 => stamp (s.hR * 512)
  | _ => stamp (s.taskHor d)

/-- The descriptor of a context's task. -/
def State.ctxDesc (s : State) (c : Ctx) : List Word := match s.task c.task with | some k => k.meas.desc | none => []

def engTime (e x : Nat) (s : State) : State :=
  s.issue 6 5 e x fun s c w => s.result c w (BitVec.ofNat 64 (s.timeField (s.ctxDesc c) (wAux w)))
def engDesc (e x : Nat) (s : State) : State :=
  s.issue 6 6 e x fun s c w => s.result c w (BitVec.ofNat 64 (dpair (s.ctxDesc c) (2 * wAux w)))

/-- The tally slot that a context's task binds. -/
def State.boundSlot (s : State) (c : Ctx) : Option Nat :=
  let d := s.ctxDesc c
  let sl := slotOf (dChanA d)
  if dFunc d = 17 ∧ s.bit F.TLY_FLG_bound sl = true ∧ s.fd F.TLY_FLG_task sl = c.task then some sl else none

/-- TLYR: TLY_Q, TLY_CFG or TLY_FLG; without a bound slot it aborts the context. -/
def engTlyr (e x : Nat) (s : State) : State :=
  s.issue 6 7 e x fun s c w =>
    match s.boundSlot c with
    | none => .abort false
    | some sl =>
      let v := match wAux w with | 0 => s.quantum sl | 1 => (s.rg .TLY_CFG sl).toNat | _ => (s.rg .TLY_FLG sl).toNat
      s.result c w (BitVec.ofNat 64 v)

/-- TLYW writes TLY_NT, TLY_FRAC or TLY_FLG.tflags. -/
def engTlyw (e x : Nat) (s : State) : State :=
  s.issue 6 8 e x fun s c w =>
    match s.boundSlot c with
    | none => .abort false
    | some sl =>
      let v := (c.a w).toNat
      .ok (match wAux w with
        | 0 => s.setPair .TLY_NT_LO .TLY_NT_HI v sl
        | 1 => s.setRg .TLY_FRAC (w32 v) sl
        | _ => s.setFd F.TLY_FLG_tflags v sl) c

def engNop (e x : Nat) (s : State) : State := s.issue 7 0 e x fun s c _ => .ok s c

/-- CSR: task, context, engine, frame bytes, spill base. -/
def State.csr (s : State) (e x : Nat) (c : Ctx) (k : Nat) : Nat :=
  match k with
  | 0 => c.task
  | 1 => x
  | 2 => e
  | 3 => s.frameBytes c
  | _ => match s.task c.task with | some t => t.spill.1 | none => 0

def engCsr (e x : Nat) (s : State) : State :=
  s.issue 7 1 e x fun s c w => s.result c w (BitVec.ofNat 64 (s.csr e x c (wAux w)))

/-- FAULT raises ENG_PROG with detail imm. -/
def engFault (e x : Nat) (s : State) : State :=
  s.issue 7 2 e x fun s c w => .ok (s.raise 0x0E3 (unitOf 7 c.task) (uNat 32 (wImm w))) c

/-! ### Stage 3 (R416) -/

/-- Whether a stage-3 action of code `q` is due on a context. -/
def State.seqDue (s : State) (e q : Nat) (c : Ctx) : Bool :=
  s.dev.st == .run && ! s.dev.shed && c.valid && c.seqPend && ! c.blocked && ! c.moving && s.engState e == 0 && wSeq (s.fetchWord c) == q

/-- A sequencer operation: where cond holds it acts, otherwise the context goes to pc + 1. -/
def State.seqRow (s : State) (q e x : Nat) (f : State → Ctx → Nat → OpOut) : State :=
  let c := s.ctx e x
  if s.seqDue e q c = false then s
  else
    let w := s.fetchWord c
    let c0 := { c with seqPend := false }
    if c.fl.holds (wCond w) = false then s.setCtx e x { c0 with pc := (c.pc + 1) % 4096 }
    else
      match f s c0 w with
      | .ok s1 c1 => s1.setCtx e x c1
      | .abort d => s.abortCtx e x d
      | .abortIn s1 d => s1.abortCtx e x d

def seqJump (e x : Nat) (s : State) : State := s.seqRow 1 e x fun s c w => .ok s { c with pc := wTgt w }
/-- CALL: a ninth push aborts the context. -/
def seqCall (e x : Nat) (s : State) : State :=
  s.seqRow 2 e x fun s c w =>
    if 8 ≤ c.stack.length then .abort false else .ok s { c with stack := (c.pc + 1) % 4096 :: c.stack, pc := wTgt w }
/-- RET: a pop of an empty stack aborts the context. -/
def seqRet (e x : Nat) (s : State) : State :=
  s.seqRow 3 e x fun s c _ =>
    match c.stack with
    | [] => .abort false
    | p :: t => .ok s { c with stack := t, pc := p }
/-- DISP: tgt + g[rd][3:0], read after the op. -/
def seqDisp (e x : Nat) (s : State) : State :=
  s.seqRow 4 e x fun s c w => .ok s { c with pc := (wTgt w + (c.r (wRd w)).toNat % 16) % 4096 }

/-- STOP ends the task and frees its resources (R426); an open packet is rewound. -/
def seqStop (e x : Nat) (s : State) : State :=
  let c := s.ctx e x
  if s.seqDue e 5 c = false then s
  else if c.fl.holds (wCond (s.fetchWord c)) = false then s.setCtx e x { c with seqPend := false, pc := (c.pc + 1) % 4096 }
  else
    match s.task c.task with
    | none => s.setCtx e x Ctx.init
    | some k =>
      let s1 := if c.opn then s.rewindQ k.outq (prodTask c.task) else s
      (s1.dropMovesOf c.task).freeTask c.task

/-- STOP_TIMEOUT: no STOP within 1 ms of EVPOP returning EV = 0 (R426). -/
def stopTimeout (e x : Nat) (s : State) : State :=
  let c := s.ctx e x
  match c.stopSeen with
  | some t => if c.valid = true ∧ t + msTicks 1 ≤ s.time then s.abortCtx e x false else s
  | none => s

def execEvpop (eng x : Nat) (s : State) : Host.Outcome State Fault Refusal := .next (engEvpop eng x s)
def execEvrd (eng x : Nat) (s : State) : Host.Outcome State Fault Refusal := .next (engEvrd eng x s)
def execSkip (eng x : Nat) (s : State) : Host.Outcome State Fault Refusal := .next (engSkip eng x s)
def execOut (eng x : Nat) (s : State) : Host.Outcome State Fault Refusal := .next (engOut eng x s)
def execOutr (eng x : Nat) (s : State) : Host.Outcome State Fault Refusal := .next (engOutr eng x s)
def execTime (eng x : Nat) (s : State) : Host.Outcome State Fault Refusal := .next (engTime eng x s)
def execDesc (eng x : Nat) (s : State) : Host.Outcome State Fault Refusal := .next (engDesc eng x s)
def execTlyr (eng x : Nat) (s : State) : Host.Outcome State Fault Refusal := .next (engTlyr eng x s)
def execTlyw (eng x : Nat) (s : State) : Host.Outcome State Fault Refusal := .next (engTlyw eng x s)
def execNop (eng x : Nat) (s : State) : Host.Outcome State Fault Refusal := .next (engNop eng x s)
def execCsr (eng x : Nat) (s : State) : Host.Outcome State Fault Refusal := .next (engCsr eng x s)
def execFault (eng x : Nat) (s : State) : Host.Outcome State Fault Refusal := .next (engFault eng x s)
def execSeqJump (eng x : Nat) (s : State) : Host.Outcome State Fault Refusal := .next (seqJump eng x s)
def execSeqCall (eng x : Nat) (s : State) : Host.Outcome State Fault Refusal := .next (seqCall eng x s)
def execSeqRet (eng x : Nat) (s : State) : Host.Outcome State Fault Refusal := .next (seqRet eng x s)
def execSeqDisp (eng x : Nat) (s : State) : Host.Outcome State Fault Refusal := .next (seqDisp eng x s)
def execSeqStop (eng x : Nat) (s : State) : Host.Outcome State Fault Refusal := .next (seqStop eng x s)
def execStopTimeout (eng x : Nat) (s : State) : Host.Outcome State Fault Refusal := .next (stopTimeout eng x s)

end Sys2Proof.Machine
end

