-- ==== Sys2Proof/Machine/EngMove.lean ====
section
/-! DEFINITION. Machine checks, control-store loads, and the moves of tasks between engines (R428–R437, R621). -/

namespace Sys2Proof.Machine

/-! ### Targets (R621) -/

/-- Whether a task of the engine writes a cross-island queue that its own cluster produces. -/
def State.clusterBound (s : State) (e : Nat) : Bool :=
  (s.tasksOn e).any fun t => decide (1024 ≤ t.2.outq) && s.fd F.QUE_Q_CFG_prod t.2.outq == 1

/-- Whether an engine is a SPARE_IDLE engine in the pool (R581) that qualifies as the target of a move of every task of `src`. -/
def State.spareOk (s : State) (src e : Nat) : Bool :=
  s.engState e == 1 && s.domOn (28 + clusterOf e) && (s.moveTo e).isNone && (! s.clusterBound src || clusterOf e == clusterOf src)

/-- The lowest-numbered qualifying spare. -/
def State.pickSpare (s : State) (src : Nat) : Option Nat := (natsFrom 0 nEngines).find? fun e => s.spareOk src e

/-! ### The switch of engines -/

/-- A SWITCH packet of kind 4 (R366), in the class of system records (R338). -/
def State.movePkt (s : State) (t : Nat) (k : Task) (src tgt time : Nat) : State :=
  (s.pushPkt k.outq prodSys .sys [mkRec 0x11 (dChanA k.desc) 0 0 (stamp time) (4 + 16 * t), mkRecW 0x11 (dChanA k.desc) 1 0 src tgt 0]).1

/-- Whether an engine has room for a task that moves there, and may write its queue (R412, R413, R423). -/
def State.fits (s : State) (tgt : Nat) (k : Task) : Bool :=
  (s.freeCtx tgt).isSome && decide (s.frameUsed tgt + s.frameOf (dFunc k.desc) ≤ 98304) && decide (s.binsUsed tgt + binsOf k.desc ≤ 1024) &&
  s.outqOk k.outq tgt

/-- A task's context, frame, bins and port state are exported to engine `tgt`, and its queues are bound to that cluster (R433). A task for
which there is no room stays. -/
def State.exportTask (s : State) (t tgt time : Nat) : State :=
  match s.task t with
  | none => s
  | some k =>
    match (if s.fits tgt k then s.freeCtx tgt else none) with
    | none => s
    | some x =>
      let c := s.ctx k.eng k.ctx
      let dr := s.fd F.ENG_CTX_drops k.eng k.ctx
      let s1 := (s.setCtx k.eng k.ctx Ctx.init).setFd F.ENG_CTX_drops 0 k.eng k.ctx
      let k1 := { k with eng := tgt, ctx := x, moving := false }
      let s2 := ((s1.setTask t (some k1)).setCtx tgt x { c with moving := false }).setFd F.ENG_CTX_drops dr tgt x
      let s3 := k.subs.foldl (fun st u => st.setFd F.QUE_Q_CFG_cidx (clusterOf tgt) u.queue) s2
      s3.movePkt t k1 k.eng tgt time

/-! ### Machine check (R432–R434) -/

/-- An immediate move from `src` chooses its target and loads it, or reloads the source itself (R433, R434). -/
def State.immediateMove (s : State) (src : Nat) : State :=
  let ts := (s.tasksOn src).map fun t => t.1
  let s0 := s.markMoving ts true
  match s0.pickSpare src with
  | some tgt =>
    let m : Move := { imm := true, src := src, tasks := ts, step := 1, th := 0, whole := true, auto := 0, cmd := none, spare := true,
                      buf := [] }
    ((s0.setMove tgt (some m)).startLoad tgt (.forMchk src)).showMove tgt
  | none => s0.setLoad src (some (.forMchk src, 0))

/-- A machine check on an engine that takes part in a planned move (R437). -/
def State.mchkInMove (s : State) (e : Nat) : State :=
  match s.moveFrom e with
  | some (tgt, m) =>
    if m.imm then s
    else
      let ts := (s.tasksOn e).map fun t => t.1
      let step := if m.step = 1 then 1 else 2
      ((s.markMoving ts true).setMove tgt (some { m with imm := true, tasks := ts, step := step, buf := [] })).showMove tgt
  | none => if (s.moveTo e).isSome then s.abandonMove e else s

/-- MACHINE_CHECK: a fetched word fails parity in the quarters of `mask` (R432). -/
def machineCheck (e x mask : Nat) (s : State) : State :=
  let c := s.ctx e x
  if s.engState e ≠ 0 ∨ c.valid = false ∨ mask % 16 = 0 then s
  else
    let s1 := (((s.setFd F.ENG_MCHK_pc c.pc e).setFd F.ENG_MCHK_quarters mask e).setFd F.ENG_MCHK_ctx x e).setFd F.ENG_MCHK_valid 1 e
    let s2 := (s1.mchkInMove e).addSat F.ENG_STS_mchk 1 e
    let s3 := (s2.setEngState e 3).raise 0x0C0 (unitOf 6 e) c.pc true
    match s3.moveFrom e with
    | some _ => s3
    | none => s3.immediateMove e

/-- IMMEDIATE_MOVE_DONE: the target resumes every context; the source is reloaded (R433, R434), and resumes those for which an ACTIVE target had
no room. -/
def immediateMoveDone (src : Nat) (s : State) : State :=
  match s.moveFrom src with
  | some (tgt, m) =>
    if m.imm = false ∨ m.step < 2 then s
    else
      let s1 := (s.setEngState tgt 0)
      let s2 := m.tasks.foldl (fun st t => st.exportTask t tgt ((s.nowTick + 1) * 512)) s1
      let s3 := (s2.setMove tgt none).showMove tgt
      let s4 := s3.moveEnd m 1
      if (s4.tasksOn src).isEmpty then (s4.dropLive (unitOf 6 src) 0x0C0).startLoad src .afterMchk else s4.setLoad src (some (.forMchk src, 0))
  | none => s

/-- SCRUB_PARITY_ERROR (R431): the word is rewritten from the golden copy. -/
def scrubParityError (e word : Nat) (s : State) : State :=
  if nEngines ≤ e ∨ 4096 ≤ word ∨ s.engState e = 4 then s
  else (s.setFd F.ENG_STS_scrub 1 e).raise 0x0C3 (unitOf 6 e) word

/-! ### Loads (R430, R433–R435) -/

/-- A load that failed twice: the engine becomes RETIRED, and what it was loaded for goes on without it. -/
def State.loadFailed (s : State) (e : Nat) (why : LoadWhy) : State :=
  let s1 := ((s.setLoad e none).setEngState e 4).raise 0x0C1 (unitOf 6 e) 0
  match why with
  | .retry c => s1.engCmdEnd c 1
  | .afterMove => s1
  | .afterMchk => s1
  | .forMove _ =>
    match s1.moveTo e with
    | some m =>
      let s2 := (s1.markMoving m.tasks false).setMove e none
      let s3 := s2.moveEnd m 4
      (if m.auto = 0 then s3 else s3.retryLater m.src m.auto).showMove e
    | none => s1
  | .forMchk src => if src = e then s1 else ((s1.setMove e none).immediateMove src).showMove e

/-- A load that passed. -/
def State.loadPassed (s : State) (e : Nat) (why : LoadWhy) : State :=
  let s1 := s.setLoad e none
  match why with
  | .retry c => (s1.setEngState e 1).engCmdEnd c 1
  | .afterMove => s1.setEngState e 1
  | .afterMchk => if s1.fd F.ENG_STS_mchk e < 2 then s1.setEngState e 1 else s1.setEngState e 4
  | .forMove _ =>
    match s1.moveTo e with
    | some m => (s1.setMove e (some { m with step := 2 })).showMove e
    | none => s1.setEngState e 1
  | .forMchk src =>
    if src = e then
      ((s1.setEngState e 0).markMoving ((s1.tasksOn e).map fun t => t.1) false).dropLive (unitOf 6 e) 0x0C0
    else
      match s1.moveTo e with
      | some m => (s1.setMove e (some { m with step := 2 })).showMove e
      | none => s1.setEngState e 1

/-- CONTROL_STORE_LOAD_DONE (R430): verified by CRC and scan; a failed load is repeated once. -/
def controlStoreLoadDone (e : Nat) (good : Bool) (s : State) : State :=
  match s.load e with
  | none => s
  | some (why, n) =>
    if good then s.loadPassed e why
    else if n = 0 then s.setLoad e (some (why, 1))
    else s.loadFailed e why

/-! ### Planned hand-over (R435–R437, R439) -/

/-- A planned move starts: a spare is loaded first, an ACTIVE target is not. -/
def State.startMove (s : State) (src tgt : Nat) (ts : List Nat) (whole : Bool) (auto : Nat) (cmd : Option EngCmd) : State :=
  let spare := s.engState tgt == 1
  let m : Move := { imm := false, src := src, tasks := ts, step := if spare then 1 else 2, th := 0, whole := whole, auto := auto,
                    cmd := cmd, spare := spare, buf := [] }
  let s1 := s.setMove tgt (some m)
  (if spare then s1.startLoad tgt (.forMove src) else s1).showMove tgt

/-- ENG_CMD op HANDOVER (R435, R437, R439). With eng 0xFF it counts as naming the engine that it takes, and where it takes none the one that holds
the task (assumption log 148). -/
def engHandover (t tgt : Nat) (s : State) : State :=
  let s0 := s.engCmdTaken 1
  match s0.task t with
  | none => s0.engCmdEnd (s0.engCmd [tgt]) 2
  | some k =>
    let c := s0.engCmd [if tgt = 0xFF then k.eng else tgt]
    let qs := k.subs.map fun u => u.queue
    let shared := s0.placed.any fun p => p.1 != t && p.2.subs.any fun u => qs.contains u.queue
    let busyTgt := tgt != 0xFF && s0.inMove tgt
    if s0.taskInMove t || s0.inMove k.eng || busyTgt then s0.engCmdEnd c 3
    else if shared then s0.engCmdEnd c 2
    else if tgt = 0xFF then
      match s0.chooseEngine k.desc k.outq qs (fun e => e == k.eng || s0.inMove e) with
      | some e => s0.startMove k.eng e [t] false 0 (some (s0.engCmd [e]))
      | none => s0.engCmdEnd c 5
    else if tgt = k.eng ∨ nEngines ≤ tgt ∨ s0.qualifies tgt k.desc k.outq qs = false then s0.engCmdEnd c 2
    else s0.startMove k.eng tgt [t] false 0 (some c)

/-- Evacuate every task of an engine to a spare (R435, R621). -/
def State.evacuateTo (s : State) (src tgt auto : Nat) (cmd : Option EngCmd) : State :=
  s.startMove src tgt ((s.tasksOn src).map fun t => t.1) true auto cmd

/-- ENG_CMD op EVACUATE (R435, R437, R439, R621). -/
def evacuate (src tgt : Nat) (s : State) : State :=
  let s0 := s.engCmdTaken 2
  let c := s0.engCmd [src, tgt]
  if nEngines ≤ src ∨ s0.engState src ≠ 0 then s0.engCmdEnd c 2
  else if s0.inMove src = true ∨ (tgt ≠ 0xFF ∧ s0.inMove tgt = true) then s0.engCmdEnd c 3
  else if tgt = 0xFF then
    match s0.pickSpare src with
    | some e => s0.evacuateTo src e 0 (some c)
    | none => s0.engCmdEnd c 5
  else if nEngines ≤ tgt ∨ s0.spareOk src tgt = false then s0.engCmdEnd c 2
  else s0.evacuateTo src tgt 0 (some c)

/-- An automatic evacuation starts, or is put off where the engine is in a move or no spare qualifies (R435, R437). -/
def State.autoEvacuate (s : State) (src tries : Nat) : State :=
  if s.engState src ≠ 0 then s
  else if s.inMove src then s.retryLater src tries
  else
    match s.pickSpare src with
    | some e => s.evacuateTo src e tries none
    | none => s.retryLater src tries

/-- EVACUATION_RETRY (R437): 1 ms after an automatic evacuation was abandoned. -/
def evacuationRetry (src : Nat) (s : State) : State :=
  let r := Tab.get (0, 0) s.eng.retries src
  if r.1 = 0 ∨ s.time < r.2 then s
  else (s.setEng fun g => { g with retries := Tab.set (0, 0) g.retries src (0, 0) }).autoEvacuate src (r.1 + 1)

/-- ENG_CMD op RETRY (R439). -/
def engRetry (e : Nat) (s : State) : State :=
  let s0 := s.engCmdTaken 3
  if nEngines ≤ e ∨ s0.engState e ≠ 4 then s0.engCmdEnd (s0.engCmd [e]) 2 else s0.startLoad e (.retry (s0.engCmd [e]))

/-- HANDOVER_SHADOW: shadow subscriptions are installed and T_h is set (R436). -/
def handoverShadow (tgt : Nat) (s : State) : State :=
  match s.moveTo tgt with
  | none => s
  | some m =>
    if m.imm = true ∨ m.step ≠ 2 then s
    else
      let th := (s.nowTick + 2) * 512
      let s1 := (s.setMove tgt (some { m with step := 3, th := th })).markMoving m.tasks false
      (s1.setPair .ENG_HO_T_LO .ENG_HO_T_HI (stamp th)).showMove tgt

/-- Whether the old context has processed every event below T_h and can be suspended (R436 step 3). -/
def State.drained (s : State) (t th : Nat) : Bool :=
  match s.task t with
  | none => true
  | some k => decide (th ≤ s.taskHor k.desc) && (s.ctx k.eng k.ctx).blocked && k.port.all fun p => decide (th ≤ p.time) && ! p.late

/-- The target's port takes the buffered packets of a task in task order; the old queues' records are discarded. -/
def State.importTask (s : State) (t : Nat) (m : Move) : State :=
  match s.task t with
  | none => s
  | some k =>
    let k1 := { k with port := k.port.filter fun p => decide (p.time < m.th), gapPart := [] }
    (m.buf.filter fun b => b.1 == t).foldl (fun st b =>
      match st.task t with
      | none => st
      | some kk =>
        let k2 := b.2.2.foldl (fun (a : Task) r =>
          match kk.subs.find? (fun u => u.chan == r.chan) with
          | some u => st.takeRec a u.queue r
          | none => a) kk
        st.setTask t (some k2)) (s.setTask t (some k1))

/-- HANDOVER_DRAIN: the tasks are suspended, exported and imported, and the router feeds the target only (R436). A move to an ACTIVE target that
has lost its room is abandoned. -/
def handoverDrain (tgt : Nat) (s : State) : State :=
  match s.moveTo tgt with
  | none => s
  | some m =>
    if m.imm = true ∨ m.step ≠ 3 then s
    else
      let s0 := m.tasks.foldl (fun st t => st.drainTask t) s
      if m.spare = false ∧ (m.tasks.any fun t => match s0.task t with | some k => ! s0.fits tgt k | none => false) = true then s0.abandonMove tgt
      else if m.tasks.all fun t => s0.drained t m.th then
        let s1 := if m.spare then s0.setEngState tgt 0 else s0
        let s2 := m.tasks.foldl (fun st t => (st.importTask t m).exportTask t tgt m.th) s1
        let s3 := (s2.setMove tgt none).showMove tgt
        let s4 := s3.moveEnd m 1
        if m.whole then s4.startLoad m.src .afterMove else s4
      else s

def execMachineCheck (eng x quarters : Nat) (s : State) : Host.Outcome State Fault Refusal := .next (machineCheck eng x quarters s)
def execImmediateMoveDone (src : Nat) (s : State) : Host.Outcome State Fault Refusal := .next (immediateMoveDone src s)
def execScrubParityError (eng word : Nat) (s : State) : Host.Outcome State Fault Refusal := .next (scrubParityError eng word s)
def execControlStoreLoadDone (eng : Nat) (verified : Bool) (s : State) : Host.Outcome State Fault Refusal :=
  .next (controlStoreLoadDone eng verified s)
def execEngCmdHandover (task eng : Nat) (s : State) : Host.Outcome State Fault Refusal := .next (engHandover task eng s)
def execEvacuate (src tgt : Nat) (s : State) : Host.Outcome State Fault Refusal := .next (evacuate src tgt s)
def execEngRetry (eng : Nat) (s : State) : Host.Outcome State Fault Refusal := .next (engRetry eng s)
def execHandoverShadow (tgt : Nat) (s : State) : Host.Outcome State Fault Refusal := .next (handoverShadow tgt s)
def execHandoverDrain (tgt : Nat) (s : State) : Host.Outcome State Fault Refusal := .next (handoverDrain tgt s)
def execEvacuationRetry (src : Nat) (s : State) : Host.Outcome State Fault Refusal := .next (evacuationRetry src s)

end Sys2Proof.Machine
end

