-- ==== Sys2Proof/Machine/Access.lean ====
section
/-! DEFINITION. Access codes and reserved encodings (R7, R9, R10), the register at an offset (R11, R480), and the pairs of R12. -/

namespace Sys2Proof.Machine

/-- Bits of a register that a register list of the image may write: its RW and RWL fields with reset value "img", and HST_SMB_CFG (R553). -/
def regImg : Reg → Nat
  | .PRT_CFG => 0x37
  | .PRT_WIN => 0xfff0fff
  | .PRT_HYST => 0x7f7f
  | .PRT_FILT => 0x3f3f
  | .PRT_WAKE => 0x107
  | .PRT_CHK_CTL => 0x6
  | .PRT_VTT => 0x3ff
  | .PRT_RB_CTL => 0xff01
  | .TB_REF_CFG => 0x3
  | .TB_OUT_CFG => 0x3
  | .TB_CAL_CTL => 0xffffff01
  | .TB_SVC_EN => 0x1f
  | .TLY_CTL => 0x1
  | .TLY_CFG => 0x7
  | .TLY_Q_LO => 0xffffffff
  | .TLY_Q_HI => 0xffffffff
  | .LDG_CTL => 0xffff
  | .LDG_PF_CFG => 0x3ff
  | .DEC_CTX_SRC => 0x7f7f7fff
  | .DEC_CTX_CFG => 0xff1fff
  | .DEC_CTX_CIC => 0x3fff7f
  | .DEC_CTX_SHIFT_A => 0x3f3f3f3f
  | .DEC_CTX_SHIFT_B => 0x3f3f
  | .DEC_CTX_PHASE => 0xfffff
  | .DEC_CTX_COEF => 0xff
  | .DEC_CTX_OUTQ => 0x7ff
  | .MADC_TAP => 0x3f
  | .TRG_CFG => 0x7f7
  | .TRG_WIN => 0xffffffff
  | .TRG_AUTO => 0xffffffff
  | .TRG_OUTQ => 0x7ff
  | .TRG_SRC => 0x1fff7f07
  | .TRG_ARG => 0xffffffff
  | .TRG_LL_LO => 0xffffffff
  | .TRG_LL_HI => 0xffffffff
  | .TRG_UL_LO => 0xffffffff
  | .TRG_UL_HI => 0xffffffff
  | .TRG_TB_CFG => 0xffffff
  | .TRG_TBL => 0x1f
  | .TRG_PIN => 0xffff7f
  | .TRG_PDLY => 0xffffff
  | .ACQ_CFG => 0x7f01f3
  | .ACQ_PRE => 0xffffff
  | .ACQ_POST => 0xffffffff
  | .ACQ_POST_T => 0xffffffff
  | .ACQ_NSEG => 0xffffff
  | .ACQ_HOLDOFF => 0xffffff
  | .ACQ_REGION => 0xff
  | .ACQ_STAGE => 0x1ff00ff
  | .ACQ_CHMASK => 0xffffffff
  | .ACQ_RRANGE => 0x1fff1fff
  | .QUE_SYSQ_FLT => 0x87ff
  | .QUE_SYSQ_LNK => 0x87ff
  | .QUE_SYSQ_LVL => 0x87ff
  | .QUE_Q_CFG => 0x1f03ff0f
  | .QUE_Q_PRI => 0xff
  | .LNK_CFG => 0x7
  | .LNK_SYNC_CFG => 0xffff
  | .LNK_ASYM => 0xffff
  | .LNK_TMO => 0xffffff
  | .LNK_EVT_CFG => 0xffff
  | .LNK_CHEN => 0xffffffff
  | .ENG_RSV => 0x1f
  | .ENG_QPOOL => 0x3ff03ff
  | .DRM_SCRUB => 0xffff01
  | .NVS_CFG => 0xff07
  | .HST_CFG => 0x1
  | .HST_SMB_CFG => 0x37f
  | .HST_RING_CFG => 0xffffff7f
  | .EVT_ROUTE => 0x7ff
  | .EVT_VEC => 0xffff
  | .CAS_CFG => 0xffff0f
  | .CAS_LNK_CFG => 0x7
  | .CAS_LNK_ASYM => 0xffff
  | .CAS_TUNOUT_CFG => 0x8f3f07ff
  | .CAS_TUNIN_CFG => 0x803f07ff
  | .BOOT_LOCK => 0x3
  | .FLT_CTL => 0xe
  | .FLT_ESC => 0xffffff
  | .PWR_VIN_CFG => 0xff
  | .PWR_TEMP_THR => 0xffffff
  | .PWR_TMR_CFG => 0x7
  | .PWR_TMR_PER => 0xffffffff
  | _ => 0

/-- The low words of 64-bit pairs (R12). -/
def pairLows : List Reg :=
  [.GLB_HZN_D_LO, .GLB_HZN_R_LO, .PRT_CNTU_LO, .PRT_CNTL_LO, .PRT_CHK_T_LO, .TB_NOW_LO, .TB_SVC_CNT_LO, .TB_LANE_CALT_LO, .TLY_PRESET_LO, .TLY_Q_LO, .TLY_NT_LO, .LDG_SEQ_LO, .DEC_CTX_AT_LO, .TRG_LL_LO, .TRG_UL_LO, .TRG_LAST_LO, .TRG_J_LO, .TRG_AT_LO, .ACQ_LOST_LO, .ACQ_AT_LO, .QUE_Q_IN_LO, .LNK_FLITS_LO, .LNK_CNT_LO, .ENG_HO_T_LO, .DRM_ERR_ADDR_LO, .DRM_RG_WR_LO, .DRM_RG_RD_LO, .DRM_RG_SP_LO, .NVS_XR_ADDR_LO, .NVS_DRV_EXT_LO, .HST_CQ_BASE_LO, .HST_CPL_BASE_LO, .HST_RING_BASE_LO, .HST_RING_WB_LO, .HST_RING_HEAD_LO, .HST_RING_TAIL_LO, .CAS_MEM_LO, .FLT_OPEN_LO, .FLT_REC_T0_LO, .FLT_REC_TL_LO]
/-- The high words, in the same order. -/
def pairHighs : List Reg :=
  [.GLB_HZN_D_HI, .GLB_HZN_R_HI, .PRT_CNTU_HI, .PRT_CNTL_HI, .PRT_CHK_T_HI, .TB_NOW_HI, .TB_SVC_CNT_HI, .TB_LANE_CALT_HI, .TLY_PRESET_HI, .TLY_Q_HI, .TLY_NT_HI, .LDG_SEQ_HI, .DEC_CTX_AT_HI, .TRG_LL_HI, .TRG_UL_HI, .TRG_LAST_HI, .TRG_J_HI, .TRG_AT_HI, .ACQ_LOST_HI, .ACQ_AT_HI, .QUE_Q_IN_HI, .LNK_FLITS_HI, .LNK_CNT_HI, .ENG_HO_T_HI, .DRM_ERR_ADDR_HI, .DRM_RG_WR_HI, .DRM_RG_RD_HI, .DRM_RG_SP_HI, .NVS_XR_ADDR_HI, .NVS_DRV_EXT_HI, .HST_CQ_BASE_HI, .HST_CPL_BASE_HI, .HST_RING_BASE_HI, .HST_RING_WB_HI, .HST_RING_HEAD_HI, .HST_RING_TAIL_HI, .CAS_MEM_HI, .FLT_OPEN_HI, .FLT_REC_T0_HI, .FLT_REC_TL_HI]

/-! ### Fields -/

/-- Whether an encoding is not reserved (R10). -/
def Legal.ok (l : Legal) (v : Nat) : Bool :=
  match l with
  | .any => true
  | .range a b => decide (a ≤ v ∧ v ≤ b)
  | .odd => v % 2 == 1

/-- What a write does to one field of a word (R7, R9, R10). -/
def FieldDef.write (f : FieldDef) (locked : Bool) (w old : Word) : Word :=
  let v := bitsOf w f.lo f.w
  let o := bitsOf old f.lo f.w
  match f.acc with
  | .rw => if f.legal.ok v then setBits old f.lo f.w v else old
  | .rwl => if ! locked && f.legal.ok v then setBits old f.lo f.w v else old
  | .w1c => setBits old f.lo f.w (o - Nat.land o v)
  | .w1s => setBits old f.lo f.w (Nat.lor o v)
  | .ro | .wo | .rc => old

/-- A write to a register by its access codes alone. -/
def State.putFields (s : State) (r : Reg) (w : Word) (i : Nat := 0) (j : Nat := 0) (locked : Bool := false) : State :=
  s.setRg r ((regFields r).foldl (fun old f => f.write locked w old) (s.rg r i j)) i j

/-- Whether the RWL fields of a register are locked (R9, R103, R560, R592). -/
def State.rwlLocked (s : State) (r : Reg) : Bool :=
  match r with
  | .TB_REF_CFG => s.dev.st != .boot && s.dev.st != .powerup
  | .BOOT_LOCK => s.bit F.BOOT_LOCK_lock
  | .FLT_CTL => s.bit F.FLT_CTL_lock
  | .FLT_ESC => s.bit F.FLT_CTL_lock
  | _ => false

/-- Whether a queue may be the output of a context or a Pip unit: local, or cross-island from the fabric (R331). -/
def State.fabricQueue (s : State) (q : Nat) : Bool :=
  decide (q < 1024) || (decide (1072 ≤ q ∧ q < 1280) && s.fd F.QUE_Q_CFG_prod q == 0)

/-- A read's effect on RC fields: they clear (R7). -/
def State.clearRc (s : State) (r : Reg) (i : Nat := 0) (j : Nat := 0) : State :=
  s.setRg r ((regFields r).foldl (fun old f => if f.acc = .rc then setBits old f.lo f.w 0 else old) (s.rg r i j)) i j

/-- Whether a register has RC fields. -/
def hasRc (r : Reg) : Bool := (regFields r).any fun f => f.acc == .rc

/-! ### Offsets -/

/-- The copy of a register at an offset. -/
def regIndex (r : Reg) (off : Nat) : Option (Nat × Nat) :=
  let p := regShape r
  if off < p.base then none
  else
    let d := off - p.base
    let i := if p.s1 = 0 then 0 else d / p.s1
    let e := d - i * p.s1
    let j := if p.s2 = 0 then 0 else e / p.s2
    if i < p.n1 ∧ j < p.n2 ∧ i * p.s1 + j * p.s2 = d then some (i, j) else none

/-- The register at an offset, with its indices (R11). -/
def regAt (off : Nat) : Option (Reg × Nat × Nat) :=
  allRegs.findSome? fun r => (regIndex r off).map fun x => (r, x.1, x.2)

/-- The high word of the pair whose low word a register is. -/
def pairHigh (r : Reg) : Option Reg := ((pairLows.zip pairHighs).find? fun p => p.1 == r).map fun p => p.2

/-- The low word of the pair whose high word a register is. -/
def pairLow (r : Reg) : Option Reg := ((pairLows.zip pairHighs).find? fun p => p.2 == r).map fun p => p.1

/-! ### Requesters (R12) -/

/-- The entry of a requester. -/
def State.pairEntry (s : State) (who : Requester) : PairEntry :=
  match s.pairs.find? fun e => e.who == who with
  | some e => e
  | none => ⟨who, none, none⟩

/-- Whether a requester is a PCIe one. -/
def Requester.isPcie : Requester → Bool
  | .pcie _ => true
  | .smbus => false

/-- A low-word access of a requester: its entry becomes the most recent; a seventeenth PCIe requester frees the oldest entry. -/
def State.touchPair (s : State) (e : PairEntry) : State :=
  let others := s.pairs.filter fun x => x.who != e.who
  let full := e.who.isPcie && decide (16 ≤ (others.filter fun x => x.who.isPcie).length)
  let oldest : Option PairEntry := if full then others.find? fun x => x.who.isPcie else none
  let rest := match oldest with | some o => others.filter fun x => x.who != o.who | none => others
  { s with pairs := rest ++ [e] }

/-- An entry of a requester changes in place, where it has one. -/
def State.setPairEntry (s : State) (e : PairEntry) : State :=
  { s with pairs := s.pairs.map fun x => if x.who = e.who then e else x }

/-- A write to another register discards a held low word. -/
def State.dropHeld (s : State) (who : Requester) : State := s.setPairEntry { s.pairEntry who with held := none }

/-- A read of a low word at `off`: the high word goes to the requester's shadow. -/
def State.noteShadow (s : State) (who : Requester) (off : Nat) (hi : Word) : State :=
  s.touchPair { s.pairEntry who with shadow := some (off, hi) }

/-- A read of the high word of the pair at `off`: the shadow, which is consumed, or the present word. -/
def State.takeShadow (s : State) (who : Requester) (off : Nat) (now : Word) : State × Word :=
  let e := s.pairEntry who
  match e.shadow with
  | some (o, w) => if o = off then (s.setPairEntry { e with shadow := none }, w) else (s, now)
  | none => (s, now)

/-- A write of the low word of the pair at `off` is held. -/
def State.holdLow (s : State) (who : Requester) (off : Nat) (w : Word) : State :=
  s.touchPair { s.pairEntry who with held := some (off, w) }

/-- A write of the high word of the pair at `off`: the low word held for it, if any, which is used up. -/
def State.takeHeldLow (s : State) (who : Requester) (off : Nat) : State × Option Word :=
  let e := s.pairEntry who
  match e.held with
  | some (o, w) => (s.setPairEntry { e with held := none }, if o = off then some w else none)
  | none => (s, none)

end Sys2Proof.Machine
end

