-- ==== Sys2Proof/Machine/Cascade.lean ====
section
/-! DEFINITION. The cascade (R509–R534): joining, time across the tree, trigger lines, forwarding of records, and loss. -/

namespace Sys2Proof.Machine

def State.setCasc (s : State) (f : Casc → Casc) : State := { s with casc := f s.casc }

/-- This device's DEV, and its cascade state (0 ALONE, 1 JOINING, 2 JOINED, 3 ADRIFT, 4 DETACHED). -/
def State.ownDev (s : State) : Nat := s.fd F.CAS_ID_dev
def State.cascState (s : State) : Nat := s.fd F.CAS_STS_state
def State.isRoot (s : State) : Bool := s.fd F.CAS_ID_role == 1
def State.isMember (s : State) : Bool := s.fd F.CAS_ID_role == 2

/-- Whether a number is a child link, C1 to C3. -/
def isChild (l : Nat) : Bool := decide (17 ≤ l ∧ l ≤ 19)

/-- A CTL flit down every UP child link. -/
def State.ctlDown (s : State) (slots : List Nat) : State :=
  (natsFrom 17 3).foldl (fun (t : State) l => if t.lstate l = 3 then t.sendCtl l slots else t) s

/-- A device falls out of its tree: DETACHED, with its LINK_EVT (R519, R527). -/
def State.detach (s : State) (err : Int) : State :=
  ((s.setFd F.CAS_STS_state 4).setFd F.CAS_STS_rooted 0).linkEvt 16 20 (uNat 32 err) 4 0

/-! ### Membership (R514, R515, R523, R530) -/

/-- Whether a DEV is joined, at the root; and its bit in CAS_MEM. -/
def State.memHas (s : State) (d : Nat) : Bool := natBit (s.pair .CAS_MEM_LO .CAS_MEM_HI) d
def State.setMem (s : State) (m : Nat) : State :=
  ((s.setPair .CAS_MEM_LO .CAS_MEM_HI m).setFd F.CAS_STS_mem_chg 1).linkLevel 16

/-- The root's CAS_LINE_DLY: twice the largest U of its members; a DLY flit tells a change (R523). -/
def State.lineDly (s : State) : State :=
  let u := s.casc.us.foldl (fun (m : Nat) e => if s.memHas e.1 then max m e.2 else m) 0
  let d := (2 * u) % 2 ^ 24
  if s.fd F.CAS_LINE_DLY_ticks = d then s else (s.setFd F.CAS_LINE_DLY_ticks d).ctlDown [12, d]

/-- A link's child that waits in step 3 goes on once its DEV is accepted (R513). -/
def State.childJoined (s : State) (l dev : Nat) : State :=
  let s1 := s.modLink l fun k => { k with devs := if k.devs.contains dev then k.devs else k.devs ++ [dev] }
  if (s1.link l).step = 3 ∧ s1.fd F.CAS_LNK_STS_peer (l - 16) = dev then (s1.stepCredit l).stepSync l else s1

/-- The root's verdict on a JOIN: 0 accepted, else the cause (R514). The sender's role is known of its own children. -/
def State.joinVerdict (s : State) (l dev level : Nat) : Nat :=
  let direct := (s.link l).step = 3 ∧ s.fd F.CAS_LNK_STS_peer (l - 16) = dev
  if s.memHas dev = true ∧ dev ≠ 0 then 1
  else if dev = 0 then 2
  else if 4 < level then 3
  else if direct ∧ (s.link l).role ≠ 2 then 4 else 0

/-- JOIN: at the root a verdict; a member passes it upward. -/
def joinFlit (l : Nat) (f : Flit) (s : State) : State :=
  if isChild l = false then s
  else
    let (s1, ok) := s.accept l f
    let dev := natBits (nth 0 f.slots 1) 0 6
    let level := natBits (nth 0 f.slots 1) 8 3
    let u := nth 0 f.slots 2
    if ok = false then s1
    else if s1.isRoot then
      let v := s1.joinVerdict l dev level
      if v ≠ 0 then s1.sendCtl l [9, dev + v * 65536]
      else
        let s2 := (s1.setCasc fun c => { c with us := Tab.set 0 c.us dev u }).setMem (Nat.lor (s1.pair .CAS_MEM_LO .CAS_MEM_HI) (2 ^ dev))
        let s3 := (s2.lineDly).linkEvt l 17 dev level u
        (s3.sendCtl l [8, dev + 256 * level, s3.fd F.CAS_LINE_DLY_ticks]).childJoined l dev
    else if s1.isMember = true ∧ s1.cascState = 2 then
      (s1.setCasc fun c => { c with via := Tab.set 0 c.via dev l }).sendCtl 16 f.slots
    else s1

/-- ACCEPT on C0: for this member, which goes on to credit and sync; or for one below it. -/
def acceptFlit (f : Flit) (s : State) : State :=
  let (s1, ok) := s.accept 16 f
  let dev := natBits (nth 0 f.slots 1) 0 6
  let level := natBits (nth 0 f.slots 1) 8 3
  let dly := nth 0 f.slots 2
  if ok = false ∨ s1.isMember = false then s1
  else if dev = s1.ownDev then
    if (s1.link 16).step = 3 then
      (((s1.setFd F.CAS_STS_level level).setFd F.CAS_LINE_DLY_ticks dly).stepCredit 16).stepSync 16
    else s1
  else
    let l := Tab.get 0 s1.casc.via dev
    if isChild l then ((s1.sendCtl l f.slots).linkEvt l 17 dev level 0).childJoined l dev else s1

/-- REFUSE on C0. -/
def refuseFlit (f : Flit) (s : State) : State :=
  let (s1, ok) := s.accept 16 f
  let dev := natBits (nth 0 f.slots 1) 0 6
  let cause := natBits (nth 0 f.slots 1) 16 3
  if ok = false ∨ s1.isMember = false then s1
  else if dev = s1.ownDev then
    (((s1.setFd F.CAS_STS_refuse cause).linkOff 16).detach s1.casc.err).raise 0x00D 0 cause
  else
    let l := Tab.get 0 s1.casc.via dev
    if isChild l then s1.sendCtl l f.slots else s1

/-- DEVs of a mask. -/
def maskDevs (m : Nat) : List Nat := (natsFrom 0 64).filter fun d => natBit m d

/-- The root loses members through a link (R530). -/
def State.membersLost (s : State) (l m : Nat) : State :=
  let old := s.pair .CAS_MEM_LO .CAS_MEM_HI
  let s1 := (s.setMem (old - Nat.land old m)).modLink l fun k => { k with devs := k.devs.filter fun d => ! natBit m d }
  ((s1.lineDly).raise 0x010 0 (m % 2 ^ 32)).linkEvt l 18 (m % 2 ^ 32) (m / 2 ^ 32 % 2 ^ 32) 0

/-- LEAVE from below. -/
def leaveFlit (l : Nat) (f : Flit) (s : State) : State :=
  if isChild l = false then s
  else
    let (s1, ok) := s.accept l f
    let m := nth 0 f.slots 1 % 2 ^ 32 + nth 0 f.slots 2 % 2 ^ 32 * 2 ^ 32
    if ok = false then s1
    else if s1.isRoot then s1.membersLost l m
    else
      let s2 := s1.modLink l fun k => { k with devs := k.devs.filter fun d => ! natBit m d }
      if s2.lstate 16 = 3 then s2.sendCtl 16 f.slots else s2

/-- CHILD_LINK_LOST: a child link has not been UP for 100 ms. -/
def childLinkLost (l : Nat) (s : State) : State :=
  let k := s.link l
  let m := k.devs.foldl (fun (m : Nat) d => Nat.lor m (2 ^ d)) 0
  let due := match k.downAt with | some t => decide (t + msTicks 100 ≤ s.time) | none => false
  if isChild l = false ∨ s.lstate l = 3 ∨ due = false ∨ m = 0 then s
  else if s.isRoot then s.membersLost l m
  else
    let s1 := s.setLink l { k with devs := [] }
    if s1.lstate 16 = 3 then s1.sendCtl 16 [11, m % 2 ^ 32, m / 2 ^ 32] else s1

/-- DLY on C0: shown, and passed down. -/
def dlyFlit (f : Flit) (s : State) : State :=
  let (s1, ok) := s.accept 16 f
  let d := nth 0 f.slots 1 % 2 ^ 24
  if ok = true ∧ s1.isMember = true then (s1.setFd F.CAS_LINE_DLY_ticks d).ctlDown [12, d] else s1

/-- JOIN_TIMEOUT (R512): DETACHED once CAS_CFG.join_tmo × 100 ms have passed, and on to RUN on its own time. -/
def joinTimeout (s : State) : State :=
  if s.isMember = true ∧ s.cascState = 1 ∧ s.casc.begun + msTicks (100 * s.fd F.CAS_CFG_join_tmo) ≤ s.time then ((s.linkOff 16).detach s.casc.err).raise 0x00E 0 0 else s

/-! ### Trigger lines (R522, R524) -/

/-- The events of a LINE flit: line, group, DEV, full time. -/
def lineEvents (s : State) : Nat → List Nat → List (Nat × Nat × Nat × Nat)
  | 0, _ => []
  | n + 1, a :: b :: c :: t =>
    let e := s.now / 2 ^ 80 * 2 ^ 80 + natBits a 12 16 * 2 ^ 64
    (natBits a 0 3, natBits a 3 3, natBits a 6 6, e + c % 2 ^ 32 * 2 ^ 32 + b % 2 ^ 32) :: lineEvents s n t
  | _, _ => []

/-- LINE_FLIT. -/
def lineFlit (l : Nat) (f : Flit) (s : State) : State :=
  let (s1, ok) := s.accept l f
  let es := lineEvents s1 (min 4 f.nrep) f.slots
  if ok = false then s1
  else if isChild l then
    if s1.isRoot then es.foldl (fun (t : State) e => (t.lineAtRoot e.1 e.2.1 e.2.2.1 e.2.2.2).1) s1
    else if s1.isMember = true ∧ s1.cascState = 2 ∧ s1.lstate 16 = 3 then s1.sendSeq 16 4 f.nrep f.slots
    else s1
  else if l = 16 ∧ s1.isMember = true ∧ s1.cascState = 2 then
    let s2 := es.foldl (fun (t : State) e => if e.2.1 = t.fd F.CAS_CFG_group then (t.lineTaken e.1 e.2.2.2).1 else t) s1
    (natsFrom 17 3).foldl (fun (t : State) c => if t.lstate c = 3 then t.sendSeq c 4 f.nrep f.slots else t) s2
  else s1

/-! ### Time (R518–R521) -/

/-- A member joins, or joins again: JOINED. -/
def State.joined (s : State) : State := (s.setFd F.CAS_STS_state 2).setFd F.CAS_STS_rooted (b2n (s.link 16).rooted)

/-- Step 6 LOAD (R513): now and the fine phase come from the TIME, and o is zero. The flit carries no epoch, so TB_EPOCH is a free value
(assumption log 45). -/
def State.loadTime (s : State) (t own : Nat) : State :=
  let (e, s1) := s.free
  let now : Nat := (e % 65536) * 2 ^ 64 + t + (s1.now - own)
  let s2 := ({ s1 with up := 0 } : State).setCasc fun c =>
    { c with base := (now : Int) - (s1.time * 512 : Nat), off := 0, target := 0, err := 0, stepAt := none }
  (s2.setTb fun t => { t with keep := now / 512 }).setRg .TB_EPOCH (w32 (now / 2 ^ 64 % 65536))

/-- CAS_TIME_FLIT on C0, whose first bit came at the member's own full time `own` (R386, R519, R521). -/
def casTimeFlit (f : Flit) (own : Nat) (s : State) : State :=
  let (s1, ok) := s.accept 16 f
  let t := nth 0 f.slots 1 % 2 ^ 32 + nth 0 f.slots 2 % 2 ^ 32 * 2 ^ 32
  if ok = false ∨ s1.isMember = false then s1
  else
    let sync := s1.lstate 16 = 2
    let s2 := if sync then s1.modLink 16 fun k => { k with step := 6 } else s1
    if s2.cascState = 1 then (if sync then (s2.loadTime t own).joined else s2)
    else if s2.cascState = 2 ∨ s2.cascState = 3 then
      let e := sInt 64 (t + 2 ^ 64 - own % 2 ^ 64)
      let s3 := (s2.setCasc fun c => { c with err := e }).noteErr 16 e
      let s4 := if s3.linkTol 16 < e.natAbs then s3.linkEvt 16 14 (uNat 32 e) (s3.linkTol 16) 0 else s3
      if 512 < e.natAbs then (s4.detach e).raise 0x00F 0 (uNat 32 e) true
      else
        let s5 := s4.setCasc fun c => { c with target := c.off + e }
        let s6 := s5.setFd F.CAS_LNK_STS_time_ok (b2n (decide (e.natAbs ≤ s5.linkTol 16))) 0
        if s6.cascState = 3 then s6.joined else s6
    else s2

/-- OFFSET_STEP: one fine unit toward the target, 64 ticks or more after the last. -/
def offsetStep (s : State) : State :=
  if s.isMember = true ∧ s.cascState = 2 ∧ s.past s.casc.stepAt 64 = true then
    s.setCasc fun c => { c with stepAt := some s.time, off := if c.off < c.target then c.off + 1 else if c.target < c.off then c.off - 1 else c.off }
  else s

/-- TREQ on C0, whose first bit came at `t2`: the ECHO. -/
def treq (f : Flit) (t2 : Nat) (s : State) : State :=
  let (s1, ok) := s.accept 16 f
  if ok = true ∧ s1.isMember = true ∧ (s1.lstate 16 = 2 ∨ s1.lstate 16 = 3) then
    s1.sendCtl 16 [3, t2 % 2 ^ 32, t2 / 2 ^ 32 % 2 ^ 32, 0, 0, uNat 32 s1.casc.err]
  else s1

/-- AREQ on a cascade link: the ARSP. -/
def areq (l : Nat) (f : Flit) (s : State) : State :=
  if l < 16 ∨ 19 < l then s
  else
    let (s1, ok) := s.accept l f
    if ok = true ∧ s1.lstate l = 3 then s1.sendCtl l [6, 0, 0, 0] else s1

/-- Outcome of a CAS_CMD. -/
def State.casCmdSts (s : State) (op result : Nat) : State :=
  ((s.setFd F.CAS_CMD_STS_last_op op).setFd F.CAS_CMD_STS_result result).incFd F.CAS_CMD_STS_seq

/-- RESYNC: 16 exchanges on every UP link that sends TREQs. -/
def resync (s : State) : State :=
  if s.domOn 73 = false then s
  else if (natsFrom 16 4).all fun l => s.lstate l != 3 then s.casCmdSts 2 2
  else
    ((natsFrom 17 3).foldl (fun (t : State) l =>
      if t.lstate l = 3 then (t.modLink l fun k => { k with more := 16 }).sendCtl l [2] else t) s).casCmdSts 2 1

/-- C0_SIGNAL_DETECT (R531). -/
def c0SignalDetect (s : State) : State := if s.isMember then s.wakeStart .cascade else s

/-! ### Forwarding (R525, R526, R528) -/

/-- Receive queue XQ40 + c and transmit queue XQ44 + c. -/
def rxq (c : Nat) : Nat := 1064 + c
def txq (c : Nat) : Nat := 1068 + c

/-- Next hop toward a DEV: the child link whose subtree holds it, and C0 otherwise. -/
def State.nextHop (s : State) (dst : Nat) : Nat :=
  match (natsFrom 17 3).find? fun l => (s.link l).devs.contains dst with
  | some l => l - 16
  | none => 0

/-- Tags of a queue. -/
def State.tags (s : State) (q : Nat) : List FwdTag := Tab.get [] s.casc.tags q
def State.setTags (s : State) (q : Nat) (l : List FwdTag) : State := s.setCasc fun c => { c with tags := Tab.set [] c.tags q l }

/-- Records of a packet with one tag into a receive or transmit queue. -/
def State.fwdPush (s : State) (q prod : Nat) (t : FwdTag) : List Rec → State
  | [] => s
  | r :: rest =>
    let last := t.last && rest.isEmpty
    let s1 := (s.push q prod .rtr r last).1
    (s1.setTags q (s1.tags q ++ [{ t with last := last }])).fwdPush q prod t rest

/-- Records of the first packet that a pop would read. -/
def Queue.headLen (u : Queue) (x : Bool) : Nat :=
  if ! u.cur.isEmpty then u.cur.length
  else if u.markReady x then 1
  else if x then (match u.pkts with | p :: _ => if u.vis = 0 then 0 else p.recs.length | [] => 0)
  else match takeBest u.pkts with | some (p, _) => p.recs.length | none => 0

/-- A discarded flit of a tunnel that is not enabled, or of another source (R526, R527). -/
def State.tunOff (s : State) (l : Nat) (t : FwdTag) : State := s.linkEvt l 19 t.tun t.src t.dst

/-- Whether an inbound tunnel takes a flit. -/
def State.tunTakes (s : State) (t : FwdTag) : Bool := s.bit F.CAS_TUNIN_CFG_en t.tun && s.fd F.CAS_TUNIN_CFG_src t.tun == t.src

/-- Flits that waited for room enter the receive queue, and free their buffers. -/
def State.rxDrain (l : Nat) : Nat → State → State
  | 0, s => s
  | n + 1, s =>
    let k := s.link l
    match k.rxBuf with
    | [] => s
    | (rs, t) :: rest =>
      if 4095 < (s.queue (rxq (l - 16))).occupancy + rs.length then s
      else
        let s1 := (s.setLink l { k with rxBuf := rest }).fwdPush (rxq (l - 16)) (0x200 + l) ((t.head?).getD ⟨0, 0, 0, true⟩) rs
        State.rxDrain l n (s1.setUO l (s1.lU l + 1) (s1.lO l - 1))

/-- FWD_FLIT. -/
def fwdFlit (l : Nat) (f : Flit) (s : State) : State :=
  if l < 16 ∨ 19 < l then s
  else
    let (s1, ok) := s.accept l f
    if ok = false then s1
    else
      let w := nth 0 f.slots 12
      let t : FwdTag := ⟨natBits w 0 6, natBits w 6 6, natBits w 12 4, natBit w 16⟩
      let rs := (natsFrom 0 (min 3 f.nrep)).map fun i =>
        (⟨w32 (nth 0 f.slots (4 * i)), w32 (nth 0 f.slots (4 * i + 1)), w32 (nth 0 f.slots (4 * i + 2)), w32 (nth 0 f.slots (4 * i + 3))⟩ : Rec)
      let s2 := s1.modLink l fun k => { k with acc := k.acc + 1 }
      if linkBufs l ≤ s2.lU l + s2.lO l then (s2.modLink l fun k => { k with ovr := true }).linkEvt l 3 f.seq f.nrep 0
      else
        let s3 := s2.setUO l (s2.lU l) (s2.lO l + 1)
        if t.dst = s3.ownDev ∧ s3.tunTakes t = false then (s3.tunOff l t).setUO l (s3.lU l + 1) (s3.lO l - 1)
        else State.rxDrain l 128 (s3.modLink l fun k => { k with rxBuf := k.rxBuf ++ [(rs, [t])] })

/-- Pop one whole packet from a queue. -/
def State.popPacket (q : Nat) : Nat → State → List Rec → State × List Rec
  | 0, s, l => (s, l)
  | n + 1, s, l =>
    let (s1, p) := s.popOnce q
    if p.valid = false then (s1, l)
    else if p.eop then (s1, l ++ [p.record]) else State.popPacket q n s1 (l ++ [p.record])

/-- The forwarder moves a packet from the source queue of an outbound tunnel, where the transmit queue has room for it. -/
def State.fwdSource (s : State) (q : Nat) : State :=
  match (natsFrom 0 16).find? fun t => s.bit F.CAS_TUNOUT_CFG_en t && s.fd F.CAS_TUNOUT_CFG_queue t == q with
  | none => s
  | some t =>
    let tx := txq (s.fd F.QUE_Q_CFG_cidx q % 4)
    let n := (s.queue q).headLen (isXq q)
    if n = 0 ∨ 4095 < (s.queue tx).occupancy + n then s
    else
      let (s1, rs) := State.popPacket q n s []
      let tag : FwdTag := ⟨s.ownDev, s.fd F.CAS_TUNOUT_CFG_dst t, s.fd F.CAS_TUNOUT_CFG_dtun t, true⟩
      (s1.fwdPush tx (0x300 + t) tag rs).setRg .CAS_TUNOUT_CNT (s1.rg .CAS_TUNOUT_CNT t + w32 rs.length) t

/-- The forwarder moves a packet from a receive queue: into its tunnel's queue here, or on toward its destination. -/
def State.fwdReceive (s : State) (c : Nat) : State :=
  let q := rxq c
  let n := (s.queue q).headLen true
  match s.tags q with
  | [] => s
  | t :: _ =>
    let tx := txq (s.nextHop t.dst)
    if n = 0 ∨ (t.dst ≠ s.ownDev ∧ 4095 < (s.queue tx).occupancy + n) then s
    else
      let (s1, rs) := State.popPacket q n s []
      let s2 := s1.setTags q ((s1.tags q).drop rs.length)
      let s3 :=
        if t.dst = s.ownDev then
          (if s2.tunTakes t then (s2.pushPkt (s2.fd F.CAS_TUNIN_CFG_queue t.tun) (0x100 + t.tun) .rtr rs).1 else s2.tunOff (16 + c) t)
        else s2.fwdPush tx (0x200 + 16 + c) { t with last := true } rs
      State.rxDrain (16 + c) 128 s3

/-- Records for one FWD flit: up to three of one packet. -/
def State.popThree (q : Nat) : Nat → State → List Rec → State × List Rec × Bool
  | 0, s, l => (s, l, false)
  | n + 1, s, l =>
    let (s1, p) := s.popOnce q
    if p.valid = false then (s1, l, false)
    else if p.eop then (s1, l ++ [p.record], true) else State.popThree q n s1 (l ++ [p.record])

/-- The transmitter sends a FWD flit where it holds a credit (R517). -/
def State.fwdTransmit (s : State) (c : Nat) : State :=
  let l := 16 + c
  let q := txq c
  let k := s.link l
  match s.tags q with
  | [] => s
  | t :: _ =>
    if s.lstate l ≠ 3 ∨ k.bal = 0 ∨ (s.queue q).headLen true = 0 then s
    else
      let (s1, rs, last) := State.popThree q 3 s []
      if rs.isEmpty then s1
      else
        let s2 := (s1.setTags q ((s1.tags q).drop rs.length)).modLink l fun k => { k with bal := k.bal - 1, sent := k.sent + 1 }
        let body := (rs.flatMap fun r => [r.w0.toNat, r.w1.toNat, r.w2.toNat, r.w3.toNat]) ++ ((natsFrom 0 12).map fun _ => 0)
        s2.sendSeq l 0 rs.length (body.take 12 ++ [t.src + 64 * t.dst + 4096 * t.tun + 65536 * b2n last])

/-- QUEUE_POP by the forwarder or a cascade transmitter. -/
def State.fwdPop (s : State) (q : Nat) : State :=
  if 1064 ≤ q ∧ q < 1068 then s.fwdReceive (q - 1064)
  else if 1068 ≤ q ∧ q < 1072 then s.fwdTransmit (q - 1068)
  else s.fwdSource q

/-! ### Tunnel registers (R525, R534) -/

/-- Whether a destination is in the tree, and the link toward it. -/
def State.inTree (s : State) (d : Nat) : Bool :=
  (natsFrom 17 3).any (fun l => (s.link l).devs.contains d) || (s.isMember && s.cascState == 2)

/-- The conditions of an outbound tunnel. -/
def State.tunOutOk (s : State) (q dst : Nat) : Bool :=
  decide (q < 1024) && s.fd F.QUE_Q_CFG_cons q == 5 && s.inTree dst && s.fd F.QUE_Q_CFG_cidx q == s.nextHop dst && dst != s.ownDev

/-- The conditions of an inbound tunnel's queue: a local one, or a cross-island one whose producer is the fabric island, that nothing
else fills. -/
def State.tunInOk (s : State) (t q : Nat) : Bool :=
  queueOk q && (decide (q < 1024) || (decide (1072 ≤ q) && s.fd F.QUE_Q_CFG_prod q == 0)) &&
    ! ((natsFrom 0 16).any fun u => u != t && s.bit F.CAS_TUNIN_CFG_en u && s.fd F.CAS_TUNIN_CFG_queue u == q) &&
    ! (s.placed.any fun k => k.2.outq == q || k.2.subs.any fun b => b.queue == q)

/-- CAS_TUNNEL_ENABLE: a write of CAS_TUNOUT_CFGt or CAS_TUNIN_CFGt. A reserved queue number leaves its field (R10, R327). -/
def casTunnelEnable (inbound : Bool) (t : Nat) (w : Word) (s : State) : State :=
  if 16 ≤ t ∨ s.domOn 73 = false then s
  else
    let r := if inbound then Reg.CAS_TUNIN_CFG else Reg.CAS_TUNOUT_CFG
    let mask : Word := if inbound then 0x003F07FF else 0x0F3F07FF
    let old := s.rg r t
    let err0 := if natBit w.toNat 30 then (0 : Word) else old &&& 0x40000000
    let was := natBit old.toNat 31
    let want := natBit w.toNat 31
    if was then
      let changed := (w &&& mask) != (old &&& mask)
      let err := if changed then (0x40000000 : Word) else err0
      s.setRg r ((old &&& mask) ||| err ||| (if want then 0x80000000 else 0)) t
    else
      let q := bitsOf w 0 11
      let v := if 1280 ≤ q then setBits w 0 11 (bitsOf old 0 11) else w
      let ok := if inbound then s.tunInOk t q else s.tunOutOk q (bitsOf w 16 6)
      let err := if want && ! ok then (0x40000000 : Word) else err0
      s.setRg r ((v &&& mask) ||| err ||| (if want && ok then 0x80000000 else 0)) t

def execJoin (link : Nat) (flit : Flit) (s : State) : Host.Outcome State Fault Refusal := .next (joinFlit link flit s)
def execAccept (flit : Flit) (s : State) : Host.Outcome State Fault Refusal := .next (acceptFlit flit s)
def execRefuse (flit : Flit) (s : State) : Host.Outcome State Fault Refusal := .next (refuseFlit flit s)
def execLeave (link : Nat) (flit : Flit) (s : State) : Host.Outcome State Fault Refusal := .next (leaveFlit link flit s)
def execDly (flit : Flit) (s : State) : Host.Outcome State Fault Refusal := .next (dlyFlit flit s)
def execLineFlit (link : Nat) (flit : Flit) (s : State) : Host.Outcome State Fault Refusal := .next (lineFlit link flit s)
def execFwdFlit (link : Nat) (flit : Flit) (s : State) : Host.Outcome State Fault Refusal := .next (fwdFlit link flit s)
def execCasTimeFlit (flit : Flit) (own : Nat) (s : State) : Host.Outcome State Fault Refusal := .next (casTimeFlit flit own s)
def execOffsetStep (s : State) : Host.Outcome State Fault Refusal := .next (offsetStep s)
def execJoinTimeout (s : State) : Host.Outcome State Fault Refusal := .next (joinTimeout s)
def execChildLinkLost (link : Nat) (s : State) : Host.Outcome State Fault Refusal := .next (childLinkLost link s)
def execResync (s : State) : Host.Outcome State Fault Refusal := .next (resync s)
def execC0SignalDetect (s : State) : Host.Outcome State Fault Refusal := .next (c0SignalDetect s)
def execCasTunnelEnable (inbound : Bool) (t : Nat) (value : Word) (s : State) : Host.Outcome State Fault Refusal :=
  .next (casTunnelEnable inbound t value s)
def execTreq (flit : Flit) (t2 : Nat) (s : State) : Host.Outcome State Fault Refusal := .next (treq flit t2 s)
def execAreq (link : Nat) (flit : Flit) (s : State) : Host.Outcome State Fault Refusal := .next (areq link flit s)

end Sys2Proof.Machine
end

