-- ==== Sys2Proof/Machine/HostRing.lean ====
section
/-! DEFINITION. The host rings (R484–R489) and completion entries (R496). -/

namespace Sys2Proof.Machine

/-- Update the host path. -/
def State.setHst (s : State) (f : HostSt → HostSt) : State := { s with hst := f s.hst }

/-! ### Rings (R484–R489) -/

def State.hring (s : State) (r : Nat) : HRing := Tab.get HRing.init s.hst.rings r
def State.setHring (s : State) (r : Nat) (x : HRing) : State := s.setHst fun h => { h with rings := Tab.set HRing.init h.rings r x }

def State.hHead (s : State) (r : Nat) : Nat := s.pair .HST_RING_HEAD_LO .HST_RING_HEAD_HI r
def State.hTail (s : State) (r : Nat) : Nat := s.pair .HST_RING_TAIL_LO .HST_RING_TAIL_HI r
/-- Records that a ring holds: 2^s. -/
def State.hCap (s : State) (r : Nat) : Nat := 2 ^ s.fd F.HST_RING_CFG_size r

/-- The notice of a ring (R488). -/
def State.ringNotice (s : State) (r : Nat) : State :=
  (s.setRg (if r < 32 then .HST_RING_NTF0 else .HST_RING_NTF1)
    (setBits (s.rg (if r < 32 then .HST_RING_NTF0 else .HST_RING_NTF1)) (r % 32) 1 1)).hstLevel

/-- The records of a packet go to their places, in at most two runs (R485). -/
def State.ringData (s : State) (r : Nat) (rs : List Rec) : State :=
  let base := s.pair .HST_RING_BASE_LO .HST_RING_BASE_HI r
  let at0 := s.hHead r % s.hCap r
  let a := rs.take (s.hCap r - at0)
  let b := rs.drop (s.hCap r - at0)
  let s1 := s.emit (.hostWrite (base + 16 * at0) (a.flatMap recBytes) s.relaxed)
  if b.isEmpty then s1 else s1.emit (.hostWrite base (b.flatMap recBytes) s.relaxed)

/-- The head goes to HST_RING_WB (R486). -/
def State.ringBack (s : State) (r : Nat) : State :=
  if s.bit F.HST_RING_CFG_wb_en r then
    s.emit (.hostWrite (s.pair .HST_RING_WB_LO .HST_RING_WB_HI r) (leBytes 8 (s.hHead r)) false)
  else s

/-- The queues bound to a ring, in the order in which the engine tries them: after the one served last (R485). -/
def State.ringQueues (s : State) (r : Nat) : List Nat :=
  let qs := (natsFrom 0 1280).filter fun q => s.fd F.QUE_Q_CFG_cons q == 2 && s.fd F.QUE_Q_CFG_cidx q == r && ! (decide (1024 ≤ q ∧ q < 1072))
  let t := (s.hring r).turn
  (qs.filter fun q => decide (t < q)) ++ qs.filter fun q => decide (q ≤ t)

/-- A ring that has no room for the packet that waits (R487, R488). -/
def State.ringWait (s : State) (r n : Nat) : State :=
  let x := s.hring r
  let s1 := (s.setFd F.HST_RING_STS_full 1 r).setHring r { x with want := n }
  let s2 := if s1.hCap r < n then s1.setFd F.HST_RING_STS_big 1 r else s1
  if x.want = 0 ∧ s.fd F.HST_RING_CFG_thr r ≠ 0 then (s2.setHring r { x with want := n, noted := s.hHead r }).ringNotice r else s2

/-- The whole packet at the head of queue `q` goes into ring `r`. -/
def State.ringTake (s : State) (r q : Nat) : State :=
  let (s1, rs) := State.popPacket q 4200 s []
  let n := rs.length
  if n = 0 then s
  else if s.hCap r < s.hHead r - s.hTail r + n then s.ringWait r n
  else
    let s2 := (s1.ringData r rs).setPair .HST_RING_HEAD_LO .HST_RING_HEAD_HI (s.hHead r + n) r
    let s3 := s2.ringBack r
    let x := s3.hring r
    let due := decide (s3.fd F.HST_RING_CFG_thr r ≠ 0) && decide (x.noted + s3.fd F.HST_RING_CFG_thr r ≤ s3.hHead r)
    let s4 := s3.setHring r { x with want := 0, turn := q, noted := if due then s3.hHead r else x.noted }
    if due then s4.ringNotice r else s4

/-- Whether a ring that was full still has no room for the packet that waits: nothing is popped for it (R487). -/
def State.ringBlocked (s : State) (r : Nat) : Bool :=
  (s.hring r).want != 0 && decide (s.hCap r < s.hHead r - s.hTail r + (s.hring r).want)

/-- Whether the ring engine runs: not in BOOT, nor once WATCH or HALT has drained (R489), nor after shedding (R221). -/
def State.ringsRun (s : State) : Bool := (s.dev.st == .run || s.dev.st == .halt) && ! s.dev.drained && ! s.dev.shed

/-- RING_PACKET_WRITE. -/
def ringPacketWrite (r : Nat) (s : State) : State :=
  if 64 ≤ r ∨ s.bit F.HST_RING_CFG_en r = false ∨ s.ringsRun = false ∨ s.ringBlocked r = true then s
  else
    match (s.ringQueues r).find? fun q => decide (0 < (s.queue q).headLen (isXq q)) && s.queueOn q with
    | none => s
    | some q =>
      let (s1, ok) := s.mayRequest
      if ok then s1.ringTake r q else s1

/-- HST_RING_TAIL_WRITE (R487). -/
def hstRingTailWrite (r v : Nat) (s : State) : State :=
  if 64 ≤ r then s
  else if v < s.hTail r ∨ s.hHead r < v then s.setFd F.HST_RING_STS_cfg_err 1 r
  else
    let s1 := s.setPair .HST_RING_TAIL_LO .HST_RING_TAIL_HI v r
    let x := s1.hring r
    if s1.hHead r - v + x.want ≤ s1.hCap r then s1.setHring r { x with want := 0 } else s1

/-- HST_RING_CFG_WRITE (R484, R489). -/
def hstRingCfgWrite (r : Nat) (w : Word) (s : State) : State :=
  if 64 ≤ r then s
  else if s.bit F.HST_RING_CFG_en r then
    if natBit w.toNat 0 then s.setFd F.HST_RING_STS_cfg_err 1 r
    else
      let old := s.rg .HST_RING_CFG r
      let s1 := ((s.setFd F.HST_RING_CFG_en 0 r).setFd F.HST_RING_STS_big 0 r).setHring r { s.hring r with want := 0 }
      if setBits w 0 1 1 = old then s1 else s1.setFd F.HST_RING_STS_cfg_err 1 r
  else
    let s1 := s.putFields .HST_RING_CFG w r
    if s1.bit F.HST_RING_CFG_en r then
      ((s1.setPair .HST_RING_HEAD_LO .HST_RING_HEAD_HI 0 r).setPair .HST_RING_TAIL_LO .HST_RING_TAIL_HI 0 r).setHring r HRing.init
    else s1

/-! ### Completion entries (R496) -/

/-- Entries of the completion queue. -/
def State.cplCap (s : State) : Nat := 2 ^ s.fd F.HST_CPL_CFG_size

/-- Whether the completion queue takes no further entry (R490). -/
def State.cplFull (s : State) : Bool :=
  ! s.bit F.HST_CPL_CFG_en || (s.fd F.HST_CPL_PTR_tail + 1) % s.cplCap == s.fd F.HST_CPL_PTR_head

/-- A completion entry is written: its bytes, and where it goes. -/
def State.cplWrite (s : State) (e : CplEntry) : State :=
  let t := s.fd F.HST_CPL_PTR_tail
  let bytes := leBytes 2 e.tag ++ leBytes 1 e.op ++ leBytes 1 e.status ++ leBytes 1 e.code ++ leBytes 1 0 ++ leBytes 2 (b2n s.hst.phase) ++
    leBytes 8 (stamp e.point)
  let s1 := s.emit (.hostWrite (s.pair .HST_CPL_BASE_LO .HST_CPL_BASE_HI + 16 * t) bytes false)
  let t1 := (t + 1) % s.cplCap
  let s2 := (s1.setFd F.HST_CPL_PTR_tail t1).setHst fun h => { h with phase := if t1 = 0 then ! h.phase else h.phase }
  s2.hstSts F.HST_STS_cpl

/-- A completion entry; one that finds the queue full waits for HST_CPL_PTR.head (assumption log 150). -/
def State.complete (s : State) (tag op status code point : Nat) : State :=
  if s.bit F.HST_CPL_CFG_en = false then s
  else if s.cplFull then s.setHst fun h => { h with cpls := h.cpls ++ [⟨tag, op, status, code, point⟩] }
  else s.cplWrite ⟨tag, op, status, code, point⟩

/-- Entries that waited are written while there is room. -/
def State.cplDrain (s : State) : List CplEntry → State
  | [] => s.setHst fun h => { h with cpls := [] }
  | e :: t => if s.cplFull then s.setHst fun h => { h with cpls := e :: t } else (s.cplWrite e).cplDrain t

/-- HST_CPL_PTR_WRITE (R506). -/
def hstCplPtrWrite (w : Word) (s : State) : State :=
  let n := s.cplCap
  let h := s.fd F.HST_CPL_PTR_head
  let t := s.fd F.HST_CPL_PTR_tail
  let v := bitsOf w 16 16
  if n ≤ v ∨ (t + n - h) % n < (v + n - h) % n then s.hstSts F.HST_STS_cq_err
  else (s.setFd F.HST_CPL_PTR_head v).cplDrain s.hst.cpls

def execRingPacketWrite (r : Nat) (s : State) : Host.Outcome State Fault Refusal := .next (ringPacketWrite r s)
def execHstRingTailWrite (r value : Nat) (s : State) : Host.Outcome State Fault Refusal := .next (hstRingTailWrite r value s)
def execHstRingCfgWrite (r : Nat) (value : Word) (s : State) : Host.Outcome State Fault Refusal := .next (hstRingCfgWrite r value s)
def execHstCplPtrWrite (value : Word) (s : State) : Host.Outcome State Fault Refusal := .next (hstCplPtrWrite value s)

end Sys2Proof.Machine
end

