-- ==== Sys2Proof/Machine/Router.lean ====
section
/-! DEFINITION. The channel router (R27, R31, R33, R109), the service channels (R132, R133), and the commands of the queues (R332–R354,
R365, R370, R371). -/

namespace Sys2Proof.Machine

/-! ### Records leave the router (R27, R33, R145, R150) -/

/-- A record with a flag set. -/
def Rec.flag (r : Rec) (b : Nat) : Rec := { r with w0 := setBits r.w0 b 1 1 }

/-- LATE reports (R33): a remote report below H_R when it reaches the router, and a LOSS report whose last lost edge is. -/
def State.lateMark (s : State) (rs : List Rec) : State × List Rec :=
  match rs with
  | [h] =>
    let t := s.fullTime h.stampOf
    if h.type = 0x01 ∧ isRemChan h.chan = true ∧ t < s.hR * 512 then
      ((s.addSat F.GLB_LATE_CNT 1).linkEvt (chanLink h.chan) 6 (chanIdx h.chan) (t % 2 ^ 32) (t / 2 ^ 32), [h.flag 0])
    else (s, rs)
  | [h, e] =>
    let t := s.fullTime e.stampOf
    if h.type = 0x07 ∧ e.w3.toNat % 8 = 4 ∧ t < s.hR * 512 then
      ((s.addSat F.GLB_LATE_CNT 1).linkEvt (chanLink h.chan) 6 (chanIdx h.chan) (t % 2 ^ 32) (t / 2 ^ 32), [h.flag 4, e])
    else (s, rs)
  | _ => (s, rs)

/-- Whether a record is LATE. -/
def recLate (rs : List Rec) : Bool :=
  match rs with
  | [h] => natBit h.flags 0
  | h :: _ => natBit h.flags 4
  | [] => false

/-- Full time of an EDGE record, or of the end of a GAP packet. -/
def State.recEnd (s : State) (rs : List Rec) : Nat :=
  match rs.getLast? with | some r => s.fullTime r.stampOf | none => 0

/-- The subscriptions of a channel take its record, each queue once (R27); a subscription delivers from its point on (R159). -/
def State.toSubs (s : State) (chan : Nat) (rs : List Rec) : State :=
  let t := s.recEnd rs
  let qs := s.placed.flatMap fun k => (k.2.subs.filter fun u => u.chan == chan && (recLate rs || decide (u.since ≤ t))).map fun u => u.queue
  (distinct qs).foldl (fun (st : State) q => (st.pushPkt q prodRouter .rtr rs).1) s

/-- An edge in order of time among the gate-defining edges of a task. -/
def defInsert (e : Nat × Nat) : List (Nat × Nat) → List (Nat × Nat)
  | [] => [e]
  | x :: t => if e.1 < x.1 then e :: x :: t else x :: defInsert e t

/-- Whether a descriptor's gates may be defined by an edge of a channel (R145). -/
def definesGate (d : List Word) (chan : Nat) : Bool :=
  (dGsrc d == 1 && (chan == dStartChan d || (dArmEn d && chan == dArmChan d) || (! dCont d && chan == dStopChan d))) ||
  (dGsrc d == 2 && chan == 0x60)

/-- A timed edge that is not LATE reaches the gates that it may define (R146). -/
def State.toGates (s : State) (chan code : Nat) (t : Nat) : State :=
  s.placed.foldl (fun (st : State) e =>
    if definesGate e.2.desc chan || e.2.pend.any (fun p => ! p.desc.isEmpty && definesGate p.desc chan) then
      st.modTask e.1 fun k => { k with gates := { k.gates with defs := defInsert (t, 8 * chan + code) k.gates.defs } }
    else st) s

/-- A record of a shadowed task's channel is copied (R436). -/
def State.toShadows (s : State) (chan : Nat) (rs : List Rec) : State :=
  let t := s.recEnd rs
  s.placed.foldl (fun (st : State) e => if e.2.subs.any fun u => u.chan == chan then st.shadowCopy e.1 t rs else st) s

/-- A packet of records of one channel passes the router (R27). In HALT the router delivers to nobody (R35). -/
def State.route (s : State) (rs0 : List Rec) : State :=
  let (s0, rs) := s.lateMark rs0
  match rs with
  | [] => s0
  | h :: _ =>
    if s.dev.st = .run ∧ (h.type = 0x01 ∨ h.type = 0x07) then
      let chan := h.chan
      let s1 := s0.toSubs chan rs
      let s2 := if h.type = 0x01 ∧ recLate rs = false then s1.toGates chan h.code (s1.fullTime h.stampOf) else s1
      ((((s2.toShadows chan rs).decTake rs).pipTake rs).acqTake rs)
    else s0

/-- The router pops one record; a packet passes on at its last. Markers of its queues name no channel and go nowhere. -/
def State.routerPop (s : State) (q : Nat) : State :=
  let (s1, p) := s.popOnce q
  if p.valid = false ∨ p.data = false then s1
  else
    let part := Tab.get [] s1.eng.parts q ++ [p.record]
    if p.eop then (s1.setEng fun e => { e with parts := Tab.set [] e.parts q [] }).route part
    else s1.setEng fun e => { e with parts := Tab.set [] e.parts q part }

/-! ### Consumers (R330, R336, R370) -/

/-- The memory ring writer takes a whole packet; while its ring is full it pops nothing (R457). -/
def State.memPop (s : State) (q : Nat) : State :=
  let r := s.fd F.QUE_Q_CFG_cidx q
  if (s.ring r).writer ≠ 256 + q then s
  else
    let (s1, rs) := State.popPacket q 4200 s []
    if rs.isEmpty then s
    else
      let (s2, ok) := s1.ringWrite r rs
      if ok then s2 else (s.closeExtent r).ringFull r

/-- A BAR0 pop: W1 to W3 are latched, and QUE_POP_STS shows the outcome (R370). -/
def State.barPop (s : State) (q : Nat) : State :=
  let (s1, p) := s.popOnce q
  let r := p.record
  ((((s1.setRg .QUE_POP_W r.w0 0).setRg .QUE_POP_W r.w1 1).setRg .QUE_POP_W r.w2 2).setRg .QUE_POP_W r.w3 3).setRg .QUE_POP_STS
    (w32 (b2n (p.valid && p.eop) + 2 * b2n (! p.valid)))

/-- QUEUE_POP: the consumer that the queue's number or its QUE_Q_CFG names. -/
def queuePop (q : Nat) (s : State) : State :=
  if 1280 ≤ q ∨ s.domOn (58 + sliceOf q) = false then s
  else if 1024 ≤ q ∧ q < 1064 then s.routerPop q
  else if 1064 ≤ q ∧ q < 1072 then s.fwdPop q
  else match s.fd F.QUE_Q_CFG_cons q with
    | 1 => let (s1, p) := s.popOnce q; if p.valid then s1.portTake q p.record else s1
    | 2 => let (s1, ok) := s.mayRequest; if ok && s.bit F.HST_RING_CFG_en (s.fd F.QUE_Q_CFG_cidx q) then s1.ringTake (s.fd F.QUE_Q_CFG_cidx q) q else s1
    | 3 => s.memPop q
    | 4 => s.barPop q
    | 5 => s.fwdPop q
    | _ => s

/-- QUE_POP_W0_READ (R370). -/
def quePopW0Read (who : Requester) (s : State) : State :=
  let q := s.fd F.QUE_POP_SEL_queue
  let off := regAddr .QUE_POP_W 0 0
  if s.dev.st = .boot ∨ s.dev.st = .powerup ∨ s.domOn (58 + sliceOf q) = false then s.emit (.readData who off 0)
  else if s.fd F.QUE_Q_CFG_cons q = 4 ∧ (q < 1024 ∨ 1072 ≤ q) then
    let s1 := s.barPop q
    s1.emit (.readData who off (s1.rg .QUE_POP_W 0))
  else (s.setFd F.QUE_POP_STS_wrong 1).emit (.readData who off 0)

/-! ### Producers and flushes -/

/-- QUEUE_PUSH (R332). -/
def queuePush (q prod : Nat) (cls : PClass) (r : Rec) (last : Bool) (s : State) : State :=
  if 1280 ≤ q then s else (s.push q prod cls r last).1

/-- PACKET_REWIND (R334). -/
def packetRewind (q prod : Nat) (s : State) : State := if 1280 ≤ q then s else s.rewindQ q prod

/-- SKIP_PKT (R340). -/
def skipPkt (q : Nat) (s : State) : State := if 1280 ≤ q then s else s.skipQ q

/-- QUE_FLUSH (R345). -/
def queFlush (q : Nat) (s : State) : State := if 1280 ≤ q then s else s.flushQ q

/-- XQ_COMMIT_VISIBLE (R348). -/
def xqCommitVisible (q : Nat) (s : State) : State :=
  let u := s.queue q
  if 1024 ≤ q ∧ q < 1280 ∧ u.vis < u.pkts.length then s.setQueue q { u with vis := u.vis + 1 } else s

/-- XQ_FREE_VISIBLE (R348). -/
def xqFreeVisible (q : Nat) (s : State) : State :=
  let u := s.queue q
  if 1024 ≤ q ∧ q < 1280 ∧ 0 < u.hidden then s.setQueue q { u with hidden := u.hidden - 1 } else s

/-! ### Configuration (R371, R454) -/

/-- A queue takes its memory ring where that is a STREAM region without a writer; otherwise its enable is refused (R454). -/
def State.ringJoin (s : State) (q : Nat) : State :=
  let r := s.fd F.QUE_Q_CFG_cidx q
  if s.ringIdle r then ((s.setWriter r (256 + q)).ringWrite r [s.epochRec]).1
  else (s.setFd F.QUE_Q_CFG_en 0 q).setFd F.QUE_Q_STS_cfg_err 1 q

/-- A queue leaves the memory ring that it writes. -/
def State.ringQuit (s : State) (q : Nat) : State :=
  let r := s.fd F.QUE_Q_CFG_cidx q
  if s.fd F.QUE_Q_CFG_cons q = 3 ∧ (s.ring r).writer = 256 + q then s.ringLeave r else s

/-- The fields that R371 holds while a queue is enabled. -/
def bindBits (w : Word) : Nat := bitsOf w 1 3 + 8 * bitsOf w 8 8 + 2 ^ 11 * bitsOf w 16 2 + 2 ^ 13 * bitsOf w 24 5

/-- QUE_Q_CFG_WRITE. A local queue's prod and pidx read zero. -/
def queQCfgWrite (q : Nat) (w : Word) (s : State) : State :=
  if 1280 ≤ q ∨ (1024 ≤ q ∧ q < 1072) then s
  else
    let old := s.rg .QUE_Q_CFG q
    let w1 := if q < 1024 then setBits (setBits w 16 2 0) 24 5 0 else w
    let n := (s.putFields .QUE_Q_CFG w1 q).rg .QUE_Q_CFG q
    let en0 := natBit old.toNat 0
    let en1 := natBit n.toNat 0
    if en0 && bindBits n != bindBits old then
      let s1 := s.setFd F.QUE_Q_STS_cfg_err 1 q
      if en1 then s1 else (s1.ringQuit q).setFd F.QUE_Q_CFG_en 0 q
    else
      let s1 := if en0 && ! en1 then s.ringQuit q else s
      let s2 := s1.setRg .QUE_Q_CFG n q
      if ! en0 && en1 && bitsOf n 1 3 == 3 then s2.ringJoin q else s2

/-! ### QUE_CMD (R354, R365, R372) -/

/-- The outcome of a QUE_CMD. -/
def State.queCmdSts (s : State) (q op result : Nat) : State :=
  (((s.setFd F.QUE_CMD_STS_queue q).setFd F.QUE_CMD_STS_op op).setFd F.QUE_CMD_STS_result result).incFd F.QUE_CMD_STS_seq

/-- Faulty rows of a queue are replaced from its slice's spares, or the queue is bad (R354). -/
def State.testRows (s : State) (q faulty : Nat) : State :=
  let k := sliceOf q
  let n := s.fd F.QUE_SLICE_STS_spares k
  let m := min n faulty
  let s1 := (s.setFd F.QUE_SLICE_STS_spares (n - m) k).setFd F.QUE_SLICE_STS_repaired (s.fd F.QUE_SLICE_STS_repaired k + m) k
  let s2 := if faulty = 0 then s1 else s1.assertOnce (270 + k)
  if m < faulty then ((s2.setQueue q { s2.queue q with bad := true }).setFd F.QUE_Q_STS_bad 1 q).raise 0x120 (unitOf 9 q) k true
  else if (s2.queue q).bad then
    ((s2.setQueue q { s2.queue q with bad := false }).setFd F.QUE_Q_STS_bad 0 q).dropLive (unitOf 9 q) 0x120
  else s2

/-- QUE_TEST: `faulty` rows fail. -/
def queTest (q faulty : Nat) (s : State) : State :=
  if 1280 ≤ q ∨ (1024 ≤ q ∧ q < 1072) ∨ s.bit F.QUE_Q_CFG_en q = true then s.queCmdSts q 1 2
  else
    let s1 := s.testRows q faulty
    s1.queCmdSts q 1 (if (s1.queue q).bad then 3 else 1)

/-- A LEVEL packet (R365). -/
def State.levelPkt (s : State) (cause : Nat) : State :=
  if s.bit F.QUE_SYSQ_LVL_en then
    let l := s.lvlAll
    (s.pushPkt (s.fd F.QUE_SYSQ_LVL_queue) prodSys .sys
      [mkRec 0x0F 0 0 0 (stamp (s.nowTick * 512)) cause,
       ⟨recW0 0x0F 0 1 0, l 0, l 1, l 2⟩, ⟨recW0 0x0F 0 2 0, l 3, l 4, l 5⟩]).1
  else s

/-- QUE_LEVEL. -/
def queLevel (s : State) : State :=
  let q := s.fd F.QUE_SYSQ_LVL_queue
  if s.bit F.QUE_SYSQ_LVL_en = true ∧ s.queueOn q = true then (s.levelPkt 2).queCmdSts 0 2 1 else s.queCmdSts 0 2 2

/-! ### The drain of WATCH and HALT (R353) -/

/-- Whether a queue holds records, a marker or an open packet. -/
def Queue.holds (u : Queue) : Bool := ! u.pkts.isEmpty || ! u.cur.isEmpty || u.opn.isSome || u.marker.isSome

/-- Every queue is flushed; the FLUSH_MARK of a queue that held something carries PWR, and stays in AON. -/
def State.flushAll (s : State) : State :=
  (natsFrom 0 1280).foldl (fun (t : State) q =>
    let u := t.queue q
    if u.holds then
      let t1 := t.flushQ q
      let v := t1.queue q
      t1.setQueue q { v with disc := [], waiting := [], vis := 0, hidden := 0,
                             marker := v.marker.map fun m => { m with pwr := true, committed := true, after := 0 } }
    else t) ((s.setEng fun e => { e with parts := [] }).setCasc fun c => { c with tags := [] })

/-- QUEUE_DRAIN_END: due after the final checkpoint of an entry to WATCH or HALT. -/
def queueDrainEnd (s : State) : State :=
  if s.dev.finalDone = true ∧ s.dev.drained = false ∧ (s.dev.st = .halt ∨ s.dev.trans = .toWatch) then
    s.flushAll.setDev fun v => { v with drained := true }
  else s

/-! ### EPOCH records (R109) -/

/-- The queues of the streams that are active: task outputs and subscriptions, SAMPLE streams, Pip units' queues and the system queues. -/
def State.streamQueues (s : State) : List Nat :=
  distinct (((s.placed.filter fun e => e.2.started).map fun e => e.2.outq) ++ (s.placed.flatMap fun e => e.2.subs.map fun u => u.queue) ++
    ((s.dec.ctxs.filter fun e => e.2.st == 2).map fun e => e.2.cfg.outq) ++
    ((natsFrom 0 16).filterMap fun n => match (s.pip n).cfg with | some c => if c.qEn then some c.outq else none | none => none) ++
    (if s.bit F.QUE_SYSQ_FLT_en then [s.fd F.QUE_SYSQ_FLT_queue] else []) ++ (if s.bit F.QUE_SYSQ_LNK_en then [s.fd F.QUE_SYSQ_LNK_queue] else []) ++
    (if s.bit F.QUE_SYSQ_LVL_en then [s.fd F.QUE_SYSQ_LVL_queue] else []))

/-- SAMPLE packets close before an EPOCH record (R275). -/
def State.closeAllSamples (s : State) : State :=
  s.dec.ctxs.foldl (fun (t : State) e => if e.2.st = 2 then let (t1, c1) := t.closeSamples e.1 (t.dctx e.1); t1.setDctx e.1 c1 else t) s

/-- EPOCH_RECORD: due once H_R has passed the first tick of the new epoch. -/
def epochRecord (s : State) : State :=
  if s.tb.epochDue = true ∧ s.nowTick / epochTicks * epochTicks < s.hR then
    let s1 := (s.setTb fun t => { t with epochDue := false }).closeAllSamples
    let r := s1.epochRec
    (s1.streamQueues.foldl (fun (t : State) q => (t.pushPkt q prodRouter .rtr [r]).1) s1).acqEpoch r
  else s

/-! ### Service channels (R22, R132, R133) -/

/-- Packets that wait for the service channels' island go to the router. -/
def State.svcRelease (s : State) : State :=
  let pk := Tab.get [] s.tb.held 40
  pk.foldl (fun (t : State) h => t.route h.recs) (s.setTb fun t => { t with held := Tab.set [] t.held 40 [] })

/-- An edge of service channel `i` at an instant, in ps: its lane's buffer takes it and it passes on to the router, or it is lost and accounted for
(R15, R25, R132). -/
def State.serviceEdge (s : State) (i t ps : Nat) (r : Rec) : State :=
  if s.bufRoom (216 + i) ps then (((s.closeLoss 40 (216 + i) ps).bufTake (216 + i) ps).1.svcRelease).route [r]
  else s.bufLose (216 + i) (0x60 + i) t 0

/-- The hardware counter of service channel `i` counts one edge (R24, R78, R132). -/
def State.countService (s : State) (i t : Nat) : State :=
  let c := s.pair .TB_SVC_CNT_LO .TB_SVC_CNT_HI i
  if c = 2 ^ 64 - 1 then s
  else
    let s1 := (s.setPair .TB_SVC_CNT_LO .TB_SVC_CNT_HI (c + 1) i).noteCount (192 + i) t 1
    if c + 1 = 2 ^ 64 - 1 then s1.raise 0x005 0 (0x60 + i) else s1

/-- SERVICE_TRANSITION: counted while the time base runs, and recorded in RUN where enabled and the lane is not calibrating (R124, R133). -/
def serviceTransition (i : Nat) (rising : Bool) (slot code : Nat) (s : State) : State :=
  if 5 ≤ i ∨ s.tb.on = false ∨ s.dev.portsOff = true then s
  else
    let t := s.stampOf (216 + i) (216 + i) s.time (slot % 4) (code % 256)
    let ser := s.rg .TB_SVC_SER i
    let s1 := ((s.setRg .TB_SVC_SER (ser + 1) i).countService i t).svcRelease
    if natBit (s.fd F.TB_SVC_EN_en) i = true ∧ s.dev.st = .run ∧ s.laneState (216 + i) ≠ 2 then
      s1.serviceEdge i t (1600 * s.time + 400 * (slot % 4)) (mkRec 0x01 (0x60 + i) (b2n (! rising)) 0 (stamp t) ser.toNat)
    else s1

def execQueuePush (q prod : Nat) (cls : PClass) (record : Rec) (last : Bool) (s : State) : Host.Outcome State Fault Refusal :=
  .next (queuePush q prod cls record last s)
def execQueuePop (q : Nat) (s : State) : Host.Outcome State Fault Refusal := .next (queuePop q s)
def execPacketRewind (q prod : Nat) (s : State) : Host.Outcome State Fault Refusal := .next (packetRewind q prod s)
def execSkipPkt (q : Nat) (s : State) : Host.Outcome State Fault Refusal := .next (skipPkt q s)
def execQueFlush (q : Nat) (s : State) : Host.Outcome State Fault Refusal := .next (queFlush q s)
def execXqCommitVisible (q : Nat) (s : State) : Host.Outcome State Fault Refusal := .next (xqCommitVisible q s)
def execXqFreeVisible (q : Nat) (s : State) : Host.Outcome State Fault Refusal := .next (xqFreeVisible q s)
def execQuePopW0Read (who : Requester) (s : State) : Host.Outcome State Fault Refusal := .next (quePopW0Read who s)
def execQueQCfgWrite (q : Nat) (value : Word) (s : State) : Host.Outcome State Fault Refusal := .next (queQCfgWrite q value s)
def execQueTest (q faulty : Nat) (s : State) : Host.Outcome State Fault Refusal := .next (queTest q faulty s)
def execQueLevel (s : State) : Host.Outcome State Fault Refusal := .next (queLevel s)
def execQueueDrainEnd (s : State) : Host.Outcome State Fault Refusal := .next (queueDrainEnd s)
def execEpochRecord (s : State) : Host.Outcome State Fault Refusal := .next (epochRecord s)
/-- CALIBRATION_PASS_END: the GAP packet of a service channel goes to the router at once. -/
def passEnd (lane : Nat) (hist : List Nat) (s : State) : State := (calibrationPassEnd lane hist s).svcRelease

def execCalibrationPassEnd (lane : Nat) (hist : List Nat) (s : State) : Host.Outcome State Fault Refusal := .next (passEnd lane hist s)
def execServiceTransition (i : Nat) (rising : Bool) (slot code : Nat) (s : State) : Host.Outcome State Fault Refusal :=
  .next (serviceTransition i rising slot code s)

end Sys2Proof.Machine
end

