-- ==== Sys2Proof/Machine/Commands.lean ====
section
/-! DEFINITION. The host command path (R490–R496, R501): doorbells, fetching, groups, the eight operations, FENCE and completions. -/

namespace Sys2Proof.Machine

/-! ### Outcomes -/

/-- What checking and applying a command gives: the state, the status and code of its completion, and the point at which it takes effect,
zero where that is not known (R496). -/
structure CmdOut where
  st : State
  status : Nat
  code : Nat
  point : Nat

/-- Accepted. -/
def State.cmdOk (s : State) (point : Nat) : CmdOut := ⟨s, 0, 0, point⟩
/-- REFUSED with the object's own code. -/
def State.cmdRefused (s : State) (code : Nat) : CmdOut := ⟨s, 4, code, 0⟩
/-- REFUSED where the object has no code of its own for the case: the byte is free (assumption log 47). -/
def State.cmdNoCode (s : State) : CmdOut := let (f, s1) := s.free; ⟨s1, 4, f % 256, 0⟩
/-- BAD_CMD and BAD_POINT. -/
def State.cmdBad (s : State) : CmdOut := ⟨s, 1, 0, 0⟩
def State.cmdBadPoint (s : State) : CmdOut := ⟨s, 2, 0, 0⟩

/-! ### Form (R491, R492, R496) -/

/-- Bits of arg that an op gives a meaning (R492). -/
def argMask (op : Nat) : Nat :=
  match op with | 1 => 2 ^ 55 - 1 | 5 => 0xFFF7 | 6 => 0xF7 | 7 => 3 | _ => 0

/-- Whether a field or a bit that the op leaves zero is not zero (R491, R492; assumption log 151). -/
def CmdEntry.reservedSet (e : CmdEntry) : Bool :=
  ! e.rsvdZero || Nat.land e.arg (argMask e.op) != e.arg || (e.op != 1 && e.outq != 0) || (e.op != 1 && e.op != 3 && e.payload.any fun w => w != 0)

/-- Whether an entry is ill-formed by itself; `first` for the first of its group. -/
def CmdEntry.bad (e : CmdEntry) (first : Bool) : Bool :=
  let atB := natBit e.flags 0
  let gate := natBit e.flags 1
  e.op == 0 || decide (8 < e.op) || decide (8 ≤ e.flags) || e.tag == 0 || e.reservedSet ||
  (if first then (! atB && (gate || e.point != 0)) || (atB && gate && Nat.land e.point 0xFFFFFFFFF0008000 != 0)
   else atB || gate || e.point != 0) ||
  (e.op == 4 && first && (! atB || gate)) || (e.op == 8 && e.obj != 0)

/-! ### Points (R494) -/

/-- End of the gate `k` after the one that is open or comes first, of a task with TIME gates. -/
def State.timeGateEnd (s : State) (t : Task) (k : Nat) : Nat :=
  let g := t.gates
  let len := dGateLen t.desc
  let e0 :=
    if t.started = true ∧ g.phase = .opened then gridFrom g.orig len (g.start + 1)
    else if t.started then gridFrom g.orig len g.start0 + len
    else gridFrom (s.fullTime (dOrigin t.desc)) len t.startAt + len
  e0 + k * len

/-- The point of a group for one of its entries: a time, or a gate of the object itself; none for BAD_POINT. -/
def State.cmdPoint (s : State) (e0 e : CmdEntry) : Option (Option Nat × Option Nat) :=
  if natBit e0.flags 0 = false then some (none, none)
  else if natBit e0.flags 1 = false then some (some (s.fullTime e0.point), none)
  else
    let ref := natBits e0.point 16 12
    match s.task ref with
    | none => none
    | some k =>
      let ahead := (natBits e0.point 0 15 + 2 ^ 15 - k.gates.seq) % 2 ^ 15
      if 2 ^ 14 ≤ ahead then none
      else if dGsrc k.desc = 0 then some (some (s.timeGateEnd k ahead), none)
      else if e.obj = ref ∧ e.op ≤ 4 then some (none, some (natBits e0.point 0 15))
      else none

/-- The first tick boundary at or above a task's horizon, where a point lies below it (R426). -/
def State.abovePoint (s : State) (d : List Word) (t : Nat) : Nat :=
  let h := s.taskHor d
  if t < h then (h + 511) / 512 * 512 else t

/-! ### Tasks (R159, R418, R424–R426) -/

/-- Queue numbers of TASK_START's arg. -/
def argQueues (arg : Nat) : List Nat := (natsFrom 0 5).map fun i => natBits arg (11 * i) 11

/-- TASK_START. -/
def State.cmdStart (s : State) (e : CmdEntry) (time : Option Nat) : CmdOut :=
  if dTask e.payload ≠ e.obj then s.cmdNoCode
  else
    let (st, s1) := s.placeTask e.payload (argQueues e.arg) (e.outq % 2048) (time.getD 0) none
    if st ≠ 0 then s.cmdRefused st
    else s1.cmdOk (match s1.task e.obj with | some k => k.startAt | none => 0)

/-- TASK_STOP: a task that has not started, or whose gates do not run, ends at once. -/
def State.cmdStop (s : State) (e : CmdEntry) (time gate : Option Nat) : CmdOut :=
  match s.task e.obj with
  | none => s.cmdNoCode
  | some k =>
    if ! (k.started && k.gates.run) then ((s.dropMovesOf e.obj).freeTask e.obj).cmdOk s.now
    else
      match gate with
      | some g => (s.setTask e.obj (some { k with pend := k.pend ++ [⟨0, some g, [], e.tag, none⟩] })).cmdOk 0
      | none =>
        let p := s.abovePoint k.desc (time.getD 0)
        let q := match k.stopAt with | some x => min x p | none => p
        (s.setTask e.obj (some { k with stopAt := some q })).cmdOk q

/-- Whether an engine has room for a task's new descriptor in place of its old one. -/
def State.roomFor (s : State) (k : Task) (d : List Word) : Bool :=
  decide (s.frameUsed k.eng + s.frameOf (dFunc d) ≤ 98304 + s.frameOf (dFunc k.desc)) && decide (s.binsUsed k.eng + binsOf d ≤ 1024 + binsOf k.desc)

/-- TASK_SWITCH. -/
def State.cmdSwitch (s : State) (e : CmdEntry) (time gate : Option Nat) : CmdOut :=
  let d := e.payload
  match s.task e.obj with
  | none => s.cmdNoCode
  | some k =>
    if dTask d ≠ e.obj then s.cmdNoCode
    else
      let st := s.checkDesc d [] (some e.obj)
      let fresh := (s.namedChans d).filter fun c => ! (k.subs.any fun u => u.chan == c)
      if st ≠ 0 then s.cmdRefused st
      else if fresh.any fun c => decide (4 ≤ s.subCount c) then s.cmdRefused 5
      else
        let soon := s.now + 1024
        let p := match time with
          | some t => s.abovePoint d t
          | none => s.abovePoint d (if fresh.isEmpty then s.now else (soon + 511) / 512 * 512)
        match s.assignQueues (if gate.isSome then s.now else p) fresh [] [], s.spillArea (s.spillNeed d) with
        | some subs, some sp =>
          if s.roomFor k d = false then s.cmdRefused 6
          else if fresh.isEmpty = false ∧ gate.isNone = true ∧ p < soon then s.cmdBadPoint
          else
            let k1 := { k with subs := k.subs ++ subs, spill := if k.spill.2 < sp.2 then sp else k.spill,
                               pend := k.pend ++ [⟨if gate.isSome then 0 else p, gate, d, e.tag, none⟩] }
            (((s.setTask e.obj (some k1)).bindSubs subs k.eng).openStreams subs).cmdOk (if gate.isSome then 0 else p)
        | _, _ => s.cmdRefused 6

/-- GATE (R145, R149). -/
def State.cmdGate (s : State) (e : CmdEntry) (time : Option Nat) : CmdOut :=
  match s.task e.obj, time with
  | some k, some t =>
    if ! (dGsrc k.desc == 4 || k.pend.any fun p => ! p.desc.isEmpty && dGsrc p.desc == 4) then s.cmdNoCode
    else if (match k.gates.last with | some x => decide (t ≤ x) | none => false) = true ∨ t < s.taskHor k.desc then s.cmdBadPoint
    else (s.setTask e.obj (some { k with gates := { k.gates with bounds := boundInsert t k.gates.bounds } })).cmdOk t
  | none, _ => s.cmdNoCode
  | _, none => s.cmdBadPoint

/-! ### Units (R276, R300, R306, R493) -/

/-- DEC: as a DEC_CTX_CMD write. -/
def State.cmdDec (s : State) (e : CmdEntry) (time : Option Nat) : CmdOut :=
  let n := e.obj
  let op := natBits e.arg 0 3
  let p := time.getD s.now
  if 4608 ≤ n then s.cmdNoCode
  else if 5 ≤ op then s.cmdBad
  else
    let s1 := match op with
      | 1 => s.decStart n p
      | 2 => s.decStop n p
      | 3 => s.decApply n p e.tag
      | 4 => s.decFade n (natBits e.arg 8 8) (natBits e.arg 4 4) (time.getD 0) e.tag
      | _ => s
    let r := s1.fd F.DEC_CTX_STS_result n
    if op = 0 then s.cmdOk 0
    else if r ≠ 1 ∧ r ≠ 8 then s1.cmdRefused r
    else
      let c := s1.dctx n
      let next := c.anchor + c.i * gridFu
      s1.cmdOk (match op with
        | 1 => c.anchor
        | 2 => (match c.stopAt with | some t => t | none => gridCeil p)
        | 3 => max (gridCeil p) next
        | _ => 0)

/-- PIP: as a TRG_CMD write. -/
def State.cmdPip (s : State) (e : CmdEntry) (time : Option Nat) : CmdOut :=
  let n := e.obj
  let op := natBits e.arg 0 3
  let at0 := time.map stamp
  if 16 ≤ n then s.cmdNoCode
  else if 5 ≤ op then s.cmdBad
  else if op = 0 then s.cmdOk 0
  else
    let p := s.pipPoint n at0
    let s1 := match op with
      | 1 => s.pipEnable n at0 e.tag
      | 2 => s.pipDisable n at0 e.tag
      | 3 => s.pipApply n at0 e.tag
      | _ => s.pipSoft n (natBits e.arg 4 4) at0
    let r := s1.fd F.TRG_STS_result n
    if r = 1 then s1.cmdOk p else s1.cmdRefused r

/-- ACQ: as an ACQ_CMD write. -/
def State.cmdAcq (s : State) (e : CmdEntry) (time : Option Nat) : CmdOut :=
  let a := e.obj
  let op := natBits e.arg 0 2
  let at0 := time.map stamp
  if 16 ≤ a then s.cmdNoCode
  else if op = 3 then s.cmdBad
  else if op = 0 then s.cmdOk 0
  else
    let s1 := if op = 1 then s.acqArm a at0 else s.acqStop a at0
    let r := s1.fd F.ACQ_STS_result a
    if r = 1 then s1.cmdOk (if op = 1 then (s1.acqU a).arm else (match time with | some t => t | none => s.releasePoint a))
    else s1.cmdRefused r

/-! ### FENCE (R492, R496) -/

/-- Whether an accepted command has taken effect. -/
def State.inEffect (s : State) (c : LiveCmd) : Bool :=
  match c.op with
  | 1 => (match s.task c.obj with | some k => k.started | none => true)
  | 2 => (match s.task c.obj with | some k => k.stopAt.isNone && ! (k.pend.any fun p => p.desc.isEmpty && p.tag == c.tag) | none => true)
  | 3 => (match s.task c.obj with | some k => ! (k.pend.any fun p => p.tag == c.tag) | none => true)
  | 4 => (match s.task c.obj with | some k => ! k.gates.bounds.contains c.point | none => true)
  | 5 =>
    let x := s.dctx c.obj
    (match c.sub with | 1 => x.st != 1 | 2 => x.stopAt.isNone | 3 => x.apply.isNone | 4 => x.req.isNone | _ => true)
  | 6 => ! ((s.pip c.obj).cmds.any fun p => p.tag == c.tag && p.op == c.sub)
  | 7 => (match c.sub with | 1 => s.fd F.ACQ_STS_state c.obj != 1 | 2 => (s.acqU c.obj).stop.isNone | _ => true)
  | _ => true

/-- A command that was accepted is remembered until it has taken effect. -/
def State.noteLive (s : State) (e : CmdEntry) (point : Nat) : State :=
  s.setHst fun h => { h with live := h.live.filter (fun c => ! s.inEffect c) ++ [⟨e.op, e.obj, e.tag, point, natBits e.arg 0 3⟩] }

/-! ### One entry, and a group (R493, R495) -/

/-- Check one entry of a group and apply it. -/
def State.runCmd (s : State) (e0 e : CmdEntry) (first : Bool) : CmdOut :=
  if e.bad first then s.cmdBad
  else
    match s.cmdPoint e0 e with
    | none => s.cmdBadPoint
    | some (time, gate) =>
      let o := match e.op with
        | 1 => s.cmdStart e time
        | 2 => s.cmdStop e time gate
        | 3 => s.cmdSwitch e time gate
        | 4 => s.cmdGate e time
        | 5 => s.cmdDec e time
        | 6 => s.cmdPip e time
        | 7 => s.cmdAcq e time
        | _ => (s.setHst fun h => { h with fences := h.fences ++ [e] }).cmdOk 0
      if o.status = 0 ∧ e.op ≠ 8 then { o with st := o.st.noteLive e o.point } else o

/-- The entries of a group one after another, on a trial state. -/
def State.tryGroup (e0 : CmdEntry) : List CmdEntry → Bool → State → State × List CmdOut
  | [], _, s => (s, [])
  | e :: t, first, s =>
    let o := s.runCmd e0 e first
    let (s1, os) := State.tryGroup e0 t false o.st
    (s1, o :: os)

/-- The completion entries of a group: a FENCE gives none here unless it failed. -/
def State.groupDone (s : State) (all : Bool) : List (CmdEntry × CmdOut) → State
  | [] => s
  | (e, o) :: t =>
    let status := if all || o.status != 0 then o.status else 3
    let s1 := if e.op = 8 ∧ status = 0 then s else s.complete e.tag e.op status (if status = 4 then o.code else 0) (if status = 0 then o.point else 0)
    s1.groupDone all t

/-- A whole group is checked, and takes effect where every entry passes (R495). -/
def State.cmdGroup (s : State) (es : List CmdEntry) : State :=
  match es with
  | [] => s
  | e0 :: _ =>
    if 16 < es.length then es.foldl (fun (t : State) e => t.complete e.tag e.op 1 0 0) s
    else
      let (s1, os) := State.tryGroup e0 es true s
      let all := os.all fun o => o.status == 0
      (if all || es.length == 1 then s1 else { s with freeCtr := s1.freeCtr }).groupDone all (es.zip os)

/-- A command by itself. -/
def State.oneCmd (s : State) (op : Nat) (e : CmdEntry) : State := s.cmdGroup [{ e with op := op, flags := e.flags % 4 + e.flags / 8 * 8 }]

/-! ### The command queue (R483, R490) -/

/-- Whether the device fetches commands now: in RUN and HALT, with both queues in use, none waiting at a FENCE, and room for completions. -/
def State.mayFetch (s : State) : Bool :=
  (s.dev.st == .run || s.dev.st == .halt) && ! s.dev.shed && s.bit F.HST_CQ_CFG_en && s.fd F.HST_CQ_PTR_head != s.fd F.HST_CQ_PTR_tail &&
  ! s.cplFull && s.hst.fences.isEmpty

/-- The read of the entry at the head. -/
def State.fetchReq (s : State) : State := s.emit (.hostRead (s.pair .HST_CQ_BASE_LO .HST_CQ_BASE_HI + 128 * s.fd F.HST_CQ_PTR_head) 128)

/-- COMMAND_FETCH: the entry at the head arrives. An entry with LINK waits for the rest of its group. -/
def commandFetch (e : CmdEntry) (s : State) : State :=
  if s.mayFetch = false then s
  else
    let (s1, ok) := s.mayRequest
    if ok = false then s1
    else
      let s2 := s1.fetchReq.setFd F.HST_CQ_PTR_head ((s1.fd F.HST_CQ_PTR_head + 1) % 2 ^ s1.fd F.HST_CQ_CFG_size)
      let es := s2.hst.group ++ [{ e with flags := e.flags % 4 + e.flags / 8 * 8 }]
      if natBit e.flags 2 then s2.setHst fun h => { h with group := es }
      else (s2.setHst fun h => { h with group := [] }).cmdGroup es

/-- COMPLETION_TIMEOUT: one retry, then the queue is disabled. -/
def completionTimeout (failed : Bool) (s : State) : State :=
  if s.mayFetch = false then s
  else if failed then (s.setFd F.HST_CQ_CFG_en 0).hstSts F.HST_STS_cq_err
  else s.fetchReq

/-- FENCE_COMPLETE: due when every earlier command has taken effect. -/
def fenceComplete (s : State) : State :=
  match s.hst.fences with
  | [] => s
  | e :: rest =>
    if s.hst.live.all (fun c => s.inEffect c) = true ∧ s.cplFull = false then
      let (s1, ok) := s.mayRequest
      if ok then (s1.setHst fun h => { h with fences := rest, live := [] }).complete e.tag 8 0 0 0 else s1
    else s

/-- Whether BAR4 takes a doorbell now (R475, R543). -/
def State.doorOpen (s : State) : Bool := ! s.evt.d3hot && ! s.dev.perstLow && s.dev.st != .boot && s.dev.st != .powerup

/-- HST_CQ_DB (R490, R501). -/
def hstCqDb (v : Nat) (s : State) : State :=
  if s.doorOpen = false then s
  else
    let s1 := s.wakeStart .doorbell
    let n := v % 65536
    if 2 ^ s1.fd F.HST_CQ_CFG_size ≤ n then s1.hstSts F.HST_STS_cq_err else s1.setFd F.HST_CQ_PTR_tail n

/-- A doorbell (R501). -/
def State.doorbell (s : State) (i : Nat) (w : Word) : State :=
  if 10 ≤ i then s else ((s.wakeStart .doorbell).setRg .HST_DB_VAL w i).assertOnce (310 + i)

/-- HST_DB. -/
def hstDb (i : Nat) (w : Word) (s : State) : State := if s.doorOpen then s.doorbell i w else s

def taskStart (e : CmdEntry) (s : State) : State := s.oneCmd 1 e
def taskStop (e : CmdEntry) (s : State) : State := s.oneCmd 2 e
def taskSwitch (e : CmdEntry) (s : State) : State := s.oneCmd 3 e
def gateCmd (e : CmdEntry) (s : State) : State := s.oneCmd 4 e
def decCmd (e : CmdEntry) (s : State) : State := s.oneCmd 5 e
def pipCmd (e : CmdEntry) (s : State) : State := s.oneCmd 6 e
def acqCmd (e : CmdEntry) (s : State) : State := s.oneCmd 7 e
def fenceCmd (e : CmdEntry) (s : State) : State := s.oneCmd 8 e

def execHstCqDb (value : Nat) (s : State) : Host.Outcome State Fault Refusal := .next (hstCqDb value s)
def execHstDb (i : Nat) (value : Word) (s : State) : Host.Outcome State Fault Refusal := .next (hstDb i value s)
def execCommandFetch (entry : CmdEntry) (s : State) : Host.Outcome State Fault Refusal := .next (commandFetch entry s)
def execTaskStart (entry : CmdEntry) (s : State) : Host.Outcome State Fault Refusal := .next (taskStart entry s)
def execTaskStop (entry : CmdEntry) (s : State) : Host.Outcome State Fault Refusal := .next (taskStop entry s)
def execTaskSwitch (entry : CmdEntry) (s : State) : Host.Outcome State Fault Refusal := .next (taskSwitch entry s)
def execGate (entry : CmdEntry) (s : State) : Host.Outcome State Fault Refusal := .next (gateCmd entry s)
def execDec (entry : CmdEntry) (s : State) : Host.Outcome State Fault Refusal := .next (decCmd entry s)
def execPip (entry : CmdEntry) (s : State) : Host.Outcome State Fault Refusal := .next (pipCmd entry s)
def execAcq (entry : CmdEntry) (s : State) : Host.Outcome State Fault Refusal := .next (acqCmd entry s)
def execFence (entry : CmdEntry) (s : State) : Host.Outcome State Fault Refusal := .next (fenceCmd entry s)
def execFenceComplete (s : State) : Host.Outcome State Fault Refusal := .next (fenceComplete s)
def execCompletionTimeout (retryFailed : Bool) (s : State) : Host.Outcome State Fault Refusal := .next (completionTimeout retryFailed s)

end Sys2Proof.Machine
end

