-- ==== Sys2Proof/Machine/Power.lean ====
section
/-! DEFINITION. The device state machine and the power stage (R35–R45, R212, R220–R223, R572, R577–R590): entries to WATCH and HALT, wake,
RESUME, the power-fail sequence, requests of a reset, escalation, rails, power domains, general timers and temperature. -/

namespace Sys2Proof.Machine

/-! ### The final checkpoint (R212, R216, R221) -/

/-- A transition that writes a final checkpoint begins, with its cut at the first tick boundary after now. -/
def State.beginFinal (s : State) (t : Trans) (cause : Nat) : State :=
  (s.begin t).setDev fun v =>
    { v with cut := some (v.cut.getD (s.nowTick + 1)), finalCause := cause, snapTaken := false, finalDone := false }

/-- The marker counts of the cut, port lanes and remote channels (R203). -/
def State.latchCut (s : State) (c : Nat) : State :=
  let lane := fun (l : Nat) => sub32 (s.laneCount l) (s.countedFrom l (c * 512))
  let rem := fun (r : Nat) => sub32 (s.remCount r) (s.countedFrom (0x1000 + r) (c * 512))
  let keep := fun (f : Nat → Nat) (n : Nat) => ((natsFrom 0 n).map fun (i : Nat) => (i, f i)).filter fun (e : Nat × Nat) => e.2 != 0
  { s with ldg := { s.ldg with bridgeLane := keep lane 192, bridgeRem := keep rem 4096 } }

/-- Shedding reaches ports and links, after the snapshot (R221). -/
def State.shedPorts (s : State) : State :=
  if s.dev.shed then (s.setDev fun v => { v with portsOff := true }).linksOff else s

/-- FINAL_CHECKPOINT_SNAPSHOT: due once a cut is set, every tally gate has closed, and a checkpoint in progress has ended; a power-fail
sequence stops that one instead (R221, R222). -/
def finalCheckpointSnapshot (s : State) : State :=
  match s.dev.cut with
  | none => s
  | some c =>
    let pf := decide (s.dev.trans = .powerFail)
    if s.dev.snapTaken = true ∨ (s.dev.st = .run ∧ s.talliesClosed = false) ∨ (s.ldg.wr.isSome = true ∧ pf = false) then s
    else
      let s1 : State := { s with ldg := { s.ldg with wr := none } }
      let s2 : State :=
        if s.dev.st = .run then (if pf = true ∨ s.dev.trans = .reset then s1 else s1.latchCut c)
        else if s.dev.bridging = true ∧ (pf = true ∨ s.dev.trans = .reset) then s1.writeBridge else s1
      ((s2.beginCkpt 2 s.dev.finalCause false).setDev fun v => { v with snapTaken := true }).shedPorts

/-! ### Resets requested (R535–R537) -/

/-- A reset begins with its final checkpoint; PD75 is on for it. -/
def State.startReset (s : State) : State := (s.domUp 75).beginFinal .reset 2

/-- A PERST_N, soft or cascade cause (bit of BOOT_CAUSE): it joins a reset in progress, waits for another transition to end, and in BOOT
needs no checkpoint (assumption log 49). -/
def State.resetCause (s : State) (bit : Nat) : State :=
  let s1 := s.setDev fun v => { v with causes := Nat.lor v.causes (2 ^ bit) }
  if s.dev.st = .powerup then s
  else if s.dev.st = .boot then
    (if s.dev.trans = .reset then s1 else (s.begin .reset).setDev fun v => { v with causes := 2 ^ bit, finalDone := true })
  else if s.dev.trans = .reset ∨ s.dev.waitReset = true then s1
  else
    let s2 := s.setDev fun v => { v with causes := 2 ^ bit }
    if s.dev.trans = .none then s2.startReset else s2.setDev fun v => { v with waitReset := true }

/-- A fault reset takes effect at once, and abandons a frame (R535, R537); during the power-fail sequence it waits (R222). -/
def State.faultReset (s : State) (i : Nat) : State :=
  let s1 := s.setDev fun v => { v with frec := some i }
  if s.dev.st = .powerup then s
  else if s.dev.trans = .powerFail then s1.setDev fun v => { v with waitFault := true }
  else
    let cs := if s.dev.trans = .reset then s.dev.causes else 0
    let s2 := { s1 with ldg := { s1.ldg with wr := none } }
    (s2.begin .reset).setDev fun v => { v with causes := Nat.lor cs 8, finalDone := true, snapTaken := true }

/-! ### HALT (R44, R45, R158, R392) -/

/-- Entry to HALT begins in RUN or WATCH: acquisition and Pip units stop; in WATCH, wake steps 1 and 2 run first (R585). -/
def State.startHalt (s : State) (cause : Nat) : State :=
  if s.dev.st = .run then ((s.beginFinal (.toHalt cause) 4).acqHold 3).pipHold
  else (((s.domsUp allDoms).setFd F.HST_LINK_l1 0).logFlush).beginFinal (.toHalt cause) 4

/-- HALT is asked for by a class 2 escalation or by the TAP; during another transition it waits. -/
def State.askHalt (s : State) (cause : Nat) : State :=
  if s.dev.st ≠ .run ∧ s.dev.st ≠ .watch then s
  else
    match s.dev.trans with
    | .none => s.startHalt cause
    | .toWatch => s.setDev fun v => { v with waitHalt := some cause }
    | .waking _ => s.setDev fun v => { v with waitHalt := some cause }
    | _ => s

/-- What waited for a transition to end is taken now, in the order of R37. -/
def State.afterTransition (s : State) : State :=
  if s.dev.waitReset then (s.setDev fun v => { v with waitReset := false, waitHalt := none, heldWake := none }).startReset
  else
    match s.dev.waitHalt, s.dev.heldWake with
    | some c, _ => (s.setDev fun v => { v with waitHalt := none, heldWake := none }).askHalt c
    | none, some c => (s.setDev fun v => { v with heldWake := none }).wakeStart c
    | none, none => s

/-- HALT is reached when the final checkpoint is written: links go OFF, planned moves are abandoned, converters rest (R392, R437). -/
def State.haltReached (s : State) : State :=
  match s.dev.trans with
  | .toHalt cause =>
    if s.dev.finalDone = false then s
    else
      let s1 := ((s.linksOff).abandonAll).madcHalt
      let s2 := if s.dev.st = .run then s1.decHold s1.nowTick else s1
      let s3 := (s2.enter .halt).setFd F.GLB_STATE_halt_cause cause
      (s3.setDev fun v => { v with cut := none, bridging := ! v.portsOff, pinsTaken := v.pinsTaken || v.pinsWait, pinsWait := false }).afterTransition
  | _ => s

/-- FRAME_WRITE_DONE: the frames are written, and a HALT that waited for them is reached. -/
def frameDone (failed corrected : List Nat) (s : State) : State := (frameWriteDone failed corrected s).haltReached

/-- Outcome of a GLB_CMD (R43). -/
def State.glbSts (s : State) (cmd result : Nat) : State :=
  ((s.setFd F.GLB_CMD_STS_last_cmd cmd).setFd F.GLB_CMD_STS_result result).incFd F.GLB_CMD_STS_seq

/-- HALT. -/
def haltCmd (s : State) : State :=
  if s.dev.trans ≠ .none then s.glbSts 3 3
  else if s.dev.st ≠ .run ∧ s.dev.st ≠ .watch then s.glbSts 3 1
  else (s.glbSts 3 0).startHalt 3

/-! ### Tasks restart (R45, R583–R585) -/

/-- A task's gates begin anew at its horizon, as a new chain; after WATCH its engine has lost all but what a bridge needs, and a run of ADEV that a cut on a boundary left open ends (R184). -/
def State.restartTask (s : State) (t : Nat) (wake : Bool) : State :=
  match s.task t with
  | none => s
  | some k =>
    let g := k.gates.begin k.desc (max k.startAt (s.taskHor k.desc)) (s.fullTime (dOrigin k.desc))
    let m := if wake then { Meas.init with desc := k.desc, seq := k.meas.seq, tly := k.meas.tly } else { k.meas with desc := k.desc, isOpen := false }
    let k1 := { k with gates := if k.started then { g with chain := true } else k.gates, bounds := [], port := [], gapPart := [], dropPart := [],
                       meas := m, ended := false }
    let s0 := if wake = true ∧ dFunc k.meas.desc = 16 then (s.endRun k t k.meas).1 else s
    let s1 := s0.setTask t (some k1)
    if wake then s1.setCtx k.eng k.ctx (Ctx.fresh t k.desc) else s1

/-- Every placed task restarts. -/
def State.restartTasks (s : State) (wake : Bool) : State := s.placed.foldl (fun (t : State) e => t.restartTask e.1 wake) s

/-- A task is placed again by R424 from its descriptor and bindings, away from an engine. -/
def State.replaceTask (s : State) (t : Nat) (k : Task) : State :=
  let names := (s.namedChans k.desc).map fun (c : Nat) =>
    match k.subs.find? fun u => u.chan == c with
    | some u => if u.pool then 0x7FF else u.queue
    | none => 0x7FF
  ((s.freeTask t).placeTask k.desc names k.outq 0 (some k.eng)).2

/-- A port's states are UNKNOWN again; a hold or a check that power cut short is over, the check aborted (R67, R75; assumption log 126). -/
def State.portAnew (s : State) (p : Nat) : State :=
  let x := s.port p
  let s1 := s.setPort p { x.restart (max (4 * s.time) x.k) with hold := none, chk := none }
  if x.chk.isSome then (s1.chkResult p 3 0).nextChk (p / 4) else s1

/-- Every port's states are UNKNOWN again, of class P only or of every class (R67, R75). -/
def State.portsUnknown (s : State) (all : Bool) : State :=
  (natsFrom 0 96).foldl (fun (t : State) p => if all || t.fd F.PRT_CFG_class p == 0 then t.portAnew p else t) s

/-- A device that leaves WATCH drives its child links for 10 µs before they train, where CAS_CFG.wake_fwd is 1 (R531). -/
def State.wakeForward (s : State) : State :=
  if s.bit F.CAS_CFG_wake_fwd then
    [17, 18, 19].foldl (fun (t : State) (l : Nat) =>
      if t.fd F.CAS_LNK_CFG_en (l - 16) = 1 ∧ t.linkRole l = true then t.emit (.linkWake l) else t) s
  else s

/-- The drives lost their power and their queues, in WATCH and after shedding (R610). -/
def State.drivesLost (s : State) : State := (s.driveLost 0).driveLost 1

/-- Their power is on again, and those in use are initialised (R461). -/
def State.drivesAnew (s : State) : State :=
  (natsFrom 0 2).foldl (fun (t : State) d => if t.drvState d = 0 then t else t.setDrv d 1) s

/-- RUN goes on after WATCH or HALT: units and links resume, and a LEVEL packet is formed (R45, R302, R365, R392). -/
def State.runAgain (s : State) (cause : Nat) : State :=
  let s1 := (s.enter .run).setDev fun v =>
    { v with cut := none, finalDone := false, snapTaken := false, bridging := false, drained := false, shed := false, portsOff := false,
             dimmPwr := true }
  let s2 := (if cause = 0 ∨ s.dev.shed = true then s1.drivesAnew else s1).restartTasks (cause == 0)
  let s3 := if cause = 0 then s2.wakeForward else s2
  (((s3.linksTrain).pipResume).decResume).levelPkt cause

/-- RESUME (R44, R613): refused in another state, in a transition or while the TAP holds the pins, with a class 2 or 3 record open, and after
a power-fail HALT while VIN is low. -/
def resumeCmd (vinLow : Bool) (s : State) : State :=
  if s.dev.trans ≠ .none then s.glbSts 2 3
  else if s.dev.st ≠ .halt then s.glbSts 2 1
  else if s.dev.pinsTaken then s.glbSts 2 3
  else if s.severeOpen = true ∨ (s.fd F.GLB_STATE_halt_cause = 2 ∧ vinLow = true) then s.glbSts 2 2
  else
    let s1 := if s.dev.portsOff then s.portsUnknown true else s
    (s1.glbSts 2 0).runAgain 1

/-! ### WATCH (R582–R585) -/

/-- ENTER_WATCH: steps 1 and 2 begin (R582). -/
def enterWatch (s : State) : State :=
  if s.dev.trans ≠ .none then s.glbSts 1 3
  else if s.dev.st ≠ .run then s.glbSts 1 1
  else if s.faultLive 0x003 0 then s.glbSts 1 2
  else
    let s1 := (s.glbSts 1 0).beginFinal .toWatch 3
    ((s1.acqHold 2).pipHold).decHold (s.nowTick + 1)

/-- The domains that WATCH switches off (R580): all but those of quads with an enabled class C port, the host link, the main PLL and the TDC
reference distribution. -/
def State.watchOff (s : State) : List Nat :=
  allDoms.filter fun d =>
    if d < 24 then ! (natsFrom (4 * d) 4).any fun p => s.bit F.PRT_CFG_en p && s.bit F.PRT_CFG_class p
    else d != 68 && d != 77 && d != 78

/-- WATCH_ENTRY_DONE: due once the FINAL checkpoint is written, with what waited for it; queues are flushed, links go OFF and domains switch (R582 steps 3 to 5).
What was held during entry is taken then. -/
def watchEntryDone (s : State) : State :=
  if s.dev.trans ≠ .toWatch ∨ s.dev.finalDone = false ∨ s.ldg.wr.isSome = true then s
  else
    let s1 := if s.dev.drained then s else s.flushAll
    let s2 := (((s1.linksOff).abandonAll).madcHalt).drivesLost
    let s3 := ((s2.enter .watch).domsDown s2.watchOff).setFd F.HST_LINK_l1 (b2n s2.evt.aspmL1)
    (s3.setDev fun v => { v with cut := none, bridging := true, drained := true }).afterTransition

/-- WAKE_EVENT: a timer, a doorbell, or a cascade message at a member. A window event is a port's own: its wake logic raises it at the sample that
changes the level code (R74), and the event here brings the port to the present. -/
def wakeEvent (c : WakeCause) (n : Nat) (s : State) : State :=
  match c with
  | .window => if n < 96 then s.runTo n (4 * s.time) else s
  | .timer => if n < 8 ∧ s.bit F.PWR_TMR_CFG_en n = true ∧ s.bit F.PWR_TMR_CFG_wake n = true then s.wakeStart .timer else s
  | .doorbell => s.wakeStart .doorbell
  | .cascade => if s.isMember then s.wakeStart .cascade else s

/-- An engine whose load fails at wake is RETIRED, and its tasks are placed by R424 (R430, R583). -/
def State.wakeLoss (s : State) (e : Nat) : State :=
  if nEngines ≤ e then s
  else
    let ts := s.tasksOn e
    let s1 := (s.setEngState e 4).raise 0x0C1 (unitOf 6 e) 0
    ts.foldl (fun (t : State) x => t.replaceTask x.1 x.2) s1

/-- WAKE_DONE: steps 2 to 5 of R583. -/
def wakeDone (bad : List Nat) (s : State) : State :=
  match s.dev.trans with
  | .waking _ =>
    if s.dev.st = .watch then
      let s1 := bad.foldl (fun (t : State) e => t.wakeLoss e) s
      ((s1.portsUnknown false).runAgain 0).afterTransition
    else s
  | _ => s

/-! ### Power failure (R38, R220–R223) -/

/-- Load shedding begins (R221): acquisition, decimation, Pip units, spill and host DMA stop. -/
def State.shedLoad (s : State) : State :=
  if s.dev.shed then s
  else
    let s1 := ((s.setDev fun v => { v with shed := true }).drivesLost).pwrSts F.PWR_STS_shed
    if s.dev.st = .run then ((s1.acqShed).pipHold).decHold s.nowTick else s1

/-- A power-fail warning stops a checkpoint in progress, but not the final write that it joins, and a migration (R221, R222). -/
def State.stopWriter (s : State) (keep : Bool) : State :=
  { s with ldg := { s.ldg with wr := if keep then s.ldg.wr else none, migStop := true } }

/-- POWER_FAIL_WARNING from VIN, PWR_FAIL_N or both in one AON cycle, where enabled. -/
def powerFailWarning (vin pin : Bool) (s : State) : State :=
  let src := b2n (vin && s.bit F.LDG_PF_CFG_vin_en) + 2 * b2n (pin && s.bit F.LDG_PF_CFG_pin_en)
  if src = 0 ∨ s.dev.st = .powerup then s
  else
    let s1 := ((s.raise 0x040 (unitOf 2 0xFFF) src).pwrSts F.PWR_STS_pf).setDev fun v => { v with pfAct := true }
    let s2 := (s1.setFd F.LDG_PF_STS_warned 1).setFd F.LDG_PF_STS_src src
    if s.dev.st = .boot then s2.setDev fun v => { v with pfBoot := true }
    else if s.dev.trans = .powerFail then s1
    else if s.dev.trans = .reset then
      let s3 := ((s2.stopWriter s2.dev.snapTaken).setDev fun v => { v with pfBoot := true }).shedLoad
      if s3.dev.snapTaken then s3.shedPorts else s3
    else
      let s3 := ((s2.stopWriter false).setFd F.LDG_PF_STS_done 0).domUp 75
      ((s3.setDev fun v => { v with heldWake := none, waitHalt := none, pinsWait := false }).beginFinal .powerFail 1).shedLoad

/-- POWER_FAIL_SEQUENCE_END: due once the final write is complete. -/
def powerFailSequenceEnd (micros : Nat) (s : State) : State :=
  if s.dev.trans ≠ .powerFail ∨ s.dev.finalDone = false then s
  else
    let s1 := (s.setFd F.LDG_PF_STS_done 1).setFd F.LDG_PF_STS_dur (sat 65535 micros)
    let s2 := ((s1.abandonAll).madcHalt).shedPorts
    let s3 := (s2.enter .halt).setFd F.GLB_STATE_halt_cause 2
    let s4 := s3.setDev fun v => { v with cut := none, bridging := false, pfAct := false, dimmPwr := false }
    if s.dev.waitFault then
      (s4.begin .reset).setDev fun v => { v with causes := (if v.waitReset then Nat.lor v.causes 8 else 8), finalDone := true, waitFault := false, waitReset := false }
    else if s.dev.waitReset then (s4.begin .reset).setDev fun v => { v with finalDone := true, waitReset := false }
    else s4

/-! ### Escalation (R572, R574) -/

/-- The class 1 reaction of a fault code against a unit (R574). -/
def State.reaction (s : State) (code unit : Nat) : State :=
  let i := unit % 4096
  if code = 0x061 ∨ code = 0x062 then
    if i < 96 ∧ s.bit F.PRT_CFG_en i = true then (s.setFd F.PRT_CFG_en 0 i).schedule i else s
  else if code = 0x0A0 ∨ code = 0x0A1 ∨ code = 0x0A3 then (if i < 20 then s.linkFault i else s)
  else if code = 0x0E0 then
    match Tab.get none s.eng.aborted i with
    | some k =>
      let s1 := s.setEng fun g => { g with aborted := Tab.set none g.aborted i none }
      if (s1.task i).isSome then s1 else s1.replaceTask i k
    | none => s
  else if code = 0x0E4 then
    match s.task i with
    | some k => s.autoEvacuate k.eng 1
    | none => s
  else if code = 0x100 then (if i < 12 then s.madcEscalate i else s)
  else s

/-- The class 1 reactions of a record, in ascending bit order; the overflow record performs none (R567). -/
def State.reactions (s : State) (i : Nat) (r : FaultRec) : State :=
  if i = 63 then s
  else
    (natsFrom 0 30).foldl (fun (t : State) b =>
      if natBit r.cause b && faultClass (r.unit / 4096 * 32 + b) == some 1 then t.reaction (r.unit / 4096 * 32 + b) r.unit else t) s

/-- A record is marked escalated, with its packet, event and log entry (R570–R572, R576). -/
def State.markEsc (s : State) (i : Nat) (r : FaultRec) : State :=
  let s0 := if r.cls = 3 ∧ s.domOn 75 = false then (s.setDom 75 true).logFlush else s
  let s1 := s0.setFrec i (some { r with esc := true, deadline := none })
  let s2 := (s1.faultPkt i).assertOnce (283 + r.cls)
  match s2.frec i with
  | some x => if r.cls = 3 then s2.logWrite (s2.entryBytes 4 x (i == 63)) else s2.faultLog i 4
  | none => s2

/-- ESCALATION: the timer of record `i` runs out. -/
def escalation (i : Nat) (s : State) : State :=
  match s.frec i with
  | none => s
  | some r =>
    if (match r.deadline with | none => true | some d => ! s.due d) = true ∨ r.ack = true ∨ r.cls = 0 then s
    else
      let s1 := s.markEsc i r
      if r.cls = 3 then s1.faultReset i
      else if r.cls = 1 then s1.reactions i r
      else if s.dev.st = .halt ∨ s.dev.trans = .powerFail then s1
      else (s1.reactions i r).askHalt 1

/-! ### Rails and VIN (R578, R579) -/

/-- Nominal voltages of the rails, in mV (R577). -/
def railNominal : List Int := [750, 850, 800, 900, 1200, 1100, 1800, 1800, 8000, -3000, 1800, 3300]

/-- Whether rail `r` lies outside ±5 % of nominal. -/
def railOff (r : Nat) (mv : Int) : Bool :=
  let n := nth 0 railNominal r
  decide (n.natAbs < 20 * (mv - n).natAbs)

/-- RAIL_OUT_OF_REGULATION. What it measures is read from PWR_RAIL, as a free value. -/
def railOut (r : Nat) (mv : Int) (s : State) : State :=
  if 12 ≤ r ∨ railOff r mv = false then s
  else (s.raise 0x042 (unitOf 2 (0x100 + r)) (uNat 32 mv) true).pwrSts F.PWR_STS_rail

/-- RAIL_CURRENT_LIMIT. -/
def railLimit (r ma10 : Nat) (s : State) : State :=
  if 12 ≤ r then s
  else (s.raise 0x043 (unitOf 2 (0x100 + r)) ma10 true).pwrSts F.PWR_STS_oc

/-- The limit of VIN, in mV. -/
def State.vinLimit (s : State) : Nat := 8000 + 50 * s.fd F.PWR_VIN_CFG_hi

/-- VIN_HIGH. -/
def vinHigh (mv : Nat) (s : State) : State :=
  if mv ≤ s.vinLimit then s else (s.raise 0x041 (unitOf 2 0xFFF) mv true).pwrSts F.PWR_STS_vin_hi

/-- POWER_CONDITION_CLEAR (R568): LIVE drops with a FAULT packet, where the voltage is in its range again. -/
def powerConditionClear (c : PowerCond) (mv : Int) (s : State) : State :=
  match c with
  | .vinHigh => if (s.vinLimit : Int) < mv then s else s.dropLive (unitOf 2 0xFFF) 0x041
  | .rail r => if 12 ≤ r ∨ railOff r mv = true then s else s.dropLive (unitOf 2 (0x100 + r)) 0x042
  | .current r => if 12 ≤ r then s else s.dropLive (unitOf 2 (0x100 + r)) 0x043

/-! ### Power domains (R580, R581) -/

/-- Whether the blocks of a domain that can be switched off by request are idle (R581). -/
def State.domIdle (s : State) (d : Nat) : Bool :=
  if d < 24 then (natsFrom (4 * d) 4).all fun p => ! s.bit F.PRT_CFG_en p
  else if 28 ≤ d ∧ d < 54 then
    ((natsFrom (8 * (d - 28)) 8).all fun e => s.engState e != 0) &&
      decide (s.fd F.ENG_RSV_reserve ≤ ((natsFrom 0 nEngines).filter fun e => s.engState e == 1 && clusterOf e != d - 28 && s.domOn (28 + clusterOf e)).length)
  else if 54 ≤ d ∧ d < 58 then s.dec.ctxs.all fun e => decBank e.1 != d - 54 || e.2.st == 0
  else if d = 66 ∨ d = 67 then ! natBit (s.fd F.NVS_CFG_en) (d - 66)
  else if 69 ≤ d ∧ d < 73 then (natsFrom (4 * (d - 69)) 4).all fun l => ! s.bit F.LNK_CFG_en l
  else false

/-- Outcome of a PWR_DOM_REQ (R594). -/
def State.domSts (s : State) (d result : Nat) : State :=
  ((s.setFd F.PWR_DOM_STS_dom d).setFd F.PWR_DOM_STS_result result).incFd F.PWR_DOM_STS_seq

/-- DOMAIN_OFF. -/
def domainOff (d : Nat) (s : State) : State :=
  if s.domIdle d then
    ((({ s with domReq := if s.domReq.contains d then s.domReq else s.domReq ++ [d] }).setDom d false).domSts d 1).sparesFrom (s.engCount 1)
  else s.domSts d 2

/-- DOMAIN_ON: reverses a switch; in WATCH the domain follows R580 until the wake. -/
def domainOn (d : Nat) (s : State) : State :=
  if s.domReq.contains d then
    let s1 := { s with domReq := s.domReq.filter fun x => x != d }
    let s2 := (if s.dev.st = .watch ∧ s.watchOff.contains d = true then s1 else s1.setDom d true).domSts d 1
    (s2.dropLive (unitOf 2 d) 0x044).sparesFrom (s.engCount 1)
  else s.domSts d 2

/-- POWER_GOOD_TIMEOUT: the domain stays off, and a request that asked for it has failed. -/
def powerGoodTimeout (d : Nat) (s : State) : State :=
  if 80 ≤ d then s
  else
    let s1 := ({ s with domReq := if s.domReq.contains d then s.domReq else s.domReq ++ [d] }).setDom d false
    let s2 := if s.fd F.PWR_DOM_STS_dom = d ∧ s.fd F.PWR_DOM_STS_result = 1 then s1.setFd F.PWR_DOM_STS_result 3 else s1
    ((s2.raise 0x044 (unitOf 2 d) 0 true).pwrSts F.PWR_STS_dom).sparesFrom (s.engCount 1)

/-! ### Timers and temperature (R586–R588) -/

/-- GENERAL_TIMER_EXPIRY: due PWR_TMR_PER milliseconds after the timer's count began; a periodic timer counts on from there. -/
def timerExpiry (i : Nat) (s : State) : State :=
  match s.tmr i with
  | none => s
  | some t0 =>
    let t1 := t0 + msTicks (s.fd F.PWR_TMR_PER i)
    if s.due t1 = false then s else
    let s1 := (s.setTmr i (if s.bit F.PWR_TMR_CFG_periodic i then some t1 else none)).assertOnce (293 + i)
    if s.bit F.PWR_TMR_CFG_wake i then s1.wakeStart .timer else s1

/-- Limit of zone 1, 2 or 3, in 0.25 °C. -/
def State.zoneLimit (s : State) (k : Nat) : Int :=
  4 * ((if k = 1 then s.fd F.PWR_TEMP_THR_warn else if k = 2 then s.fd F.PWR_TEMP_THR_crit else s.fd F.PWR_TEMP_THR_trip : Nat) : Int)

/-- The zone of a temperature, coming from zone `z`: a zone is entered at its limit, and left 5 °C below it. -/
def State.zoneOf (s : State) (z : Nat) (t : Int) : Nat :=
  (natsFrom 1 3).foldl (fun (m : Nat) k =>
    if s.zoneLimit k ≤ t ∨ (k ≤ z ∧ s.zoneLimit k - 20 < t) then max m k else m) 0

/-- TEMP_TRIP, in the record of its unit or, with the table full, the overflow record, escalates at once: load is shed, and HALT entered with halt_cause 1 (R588). -/
def State.tempTrip (s : State) (unit : Nat) : State :=
  let i := (s.recOfUnit unit).getD 63
  match s.frec i with
  | none => s
  | some r =>
    let s1 := s.markEsc i r
    if s.dev.st = .run ∨ s.dev.st = .watch then (s1.shedLoad).askHalt 1 else s1

/-- One sensor is read. -/
def State.readSensor (s : State) (i : Nat) (t : Int) : State :=
  let z := s.fd F.PWR_TEMP_zone i
  let n := s.zoneOf z t
  let s1 := (s.setFd F.PWR_TEMP_t (uNat 10 t) i).setFd F.PWR_TEMP_zone n i
  let u := unitOf 2 (0x200 + i)
  if n = z then s1
  else
    let s2 := s1.assertOnce (306 + i)
    let s3 := (natsFrom 1 3).foldl (fun (x : State) k =>
      if z < k ∧ k ≤ n then x.raise (0x044 + k) u (uNat 32 t) true
      else if n < k ∧ k ≤ z then x.dropLive u (0x044 + k) else x) s2
    if n = 3 then s3.tempTrip u else s3

/-- TEMP_SAMPLE. -/
def tempSample (t0 t1 t2 t3 : Int) (s : State) : State := (((s.readSensor 0 t0).readSensor 1 t1).readSensor 2 t2).readSensor 3 t3

/-! ### Pins of the control port (R610) -/

/-- Levels of GPIO0 to GPIO7, as bits: ST_RUN, ST_HALT, ST_WATCH, FAULT_N, PF_ACT, DIMM_PWR_EN, NVME0_PWR_EN, NVME1_PWR_EN. -/
def State.gpio (s : State) : Nat :=
  let st := fun (x : DevState) => b2n (s.dev.st == x)
  let nv := fun (d : Nat) => b2n (s.dev.dimmPwr && ! s.dev.shed && s.dev.st != .watch && natBit (s.fd F.NVS_CFG_en) d)
  st .run + 2 * st .halt + 4 * st .watch + 8 * b2n (! s.severeOpen) + 16 * b2n s.dev.pfAct + 32 * b2n s.dev.dimmPwr + 64 * nv 0 + 128 * nv 1

def execFinalCheckpointSnapshot (s : State) : Host.Outcome State Fault Refusal := .next (finalCheckpointSnapshot s)
def execFrameWriteDone (failed corrected : List Nat) (s : State) : Host.Outcome State Fault Refusal := .next (frameDone failed corrected s)
def execHalt (s : State) : Host.Outcome State Fault Refusal := .next (haltCmd s)
def execResume (vinLow : Bool) (s : State) : Host.Outcome State Fault Refusal := .next (resumeCmd vinLow s)
def execEnterWatch (s : State) : Host.Outcome State Fault Refusal := .next (enterWatch s)
def execWatchEntryDone (s : State) : Host.Outcome State Fault Refusal := .next (watchEntryDone s)
def execWakeEvent (cause : WakeCause) (chan : Nat) (s : State) : Host.Outcome State Fault Refusal := .next (wakeEvent cause chan s)
def execWakeDone (badEngines : List Nat) (s : State) : Host.Outcome State Fault Refusal := .next (wakeDone badEngines s)
def execPowerFailWarning (vin pin : Bool) (s : State) : Host.Outcome State Fault Refusal := .next (powerFailWarning vin pin s)
def execEscalation (i : Nat) (s : State) : Host.Outcome State Fault Refusal := .next (escalation i s)
def execRailOutOfRegulation (r : Nat) (mv : Int) (s : State) : Host.Outcome State Fault Refusal := .next (railOut r mv s)
def execRailCurrentLimit (r ma10 : Nat) (s : State) : Host.Outcome State Fault Refusal := .next (railLimit r ma10 s)
def execVinHigh (mv : Nat) (s : State) : Host.Outcome State Fault Refusal := .next (vinHigh mv s)
def execPowerConditionClear (cond : PowerCond) (mv : Int) (s : State) : Host.Outcome State Fault Refusal :=
  .next (powerConditionClear cond mv s)
def execDomainOff (d : Nat) (s : State) : Host.Outcome State Fault Refusal := .next (domainOff d s)
def execDomainOn (d : Nat) (s : State) : Host.Outcome State Fault Refusal := .next (domainOn d s)
def execPowerGoodTimeout (d : Nat) (s : State) : Host.Outcome State Fault Refusal := .next (powerGoodTimeout d s)
def execGeneralTimerExpiry (i : Nat) (s : State) : Host.Outcome State Fault Refusal := .next (timerExpiry i s)
def execTempSample (t0 t1 t2 t3 : Int) (s : State) : Host.Outcome State Fault Refusal := .next (tempSample t0 t1 t2 t3 s)

end Sys2Proof.Machine
end

