-- ==== Sys2Proof/Machine/BootImage.lean ====
section
/-! DEFINITION. The Tilsia image (R544–R553): its header and sections, when a copy is valid, which copy boot chooses, and the register
lists. -/

namespace Sys2Proof.Machine

/-! ### Reading the flash -/

/-- `n` bytes of a memory from `a` on, where the list holds no entry below `a`. -/
def blockFrom (blank : Byte) : Nat → Memory → Nat → List Byte
  | 0, _, _ => []
  | n + 1, [], a => blank :: blockFrom blank n [] (a + 1)
  | n + 1, (k, v) :: t, a => if k = a then v :: blockFrom blank n t (a + 1) else blank :: blockFrom blank n ((k, v) :: t) (a + 1)

/-- `n` bytes of flash from an address; what nothing has programmed reads as erased (assumption log 50). -/
def State.flashRead (s : State) (a n : Nat) : List Byte := blockFrom 0xFF n (s.flash.dropWhile fun (e : Nat × Byte) => decide (e.1 < a)) a

/-- A little-endian number of `n` bytes at a place in a byte list. -/
def leAt (bs : List Byte) (i n : Nat) : Nat := ofLe ((bs.drop i).take n)

/-! ### Header and descriptors (R545, R546) -/

/-- Address of a copy: 0 primary, 1 alternate (R544). -/
def copyBase (c : Nat) : Nat := c * 0x4000000

/-- Whether a copy can be there: the primary is treated as absent for BOOT_SRC 0b10 (R540), the alternate is absent on a flash of 64 MiB or
less (R544). -/
def State.copyThere (s : State) (c : Nat) : Bool := if c = 0 then s.fd F.BOOT_STRAP_boot_src != 2 else decide (26 < s.boot.flashLog)

/-- The header of a copy. -/
def State.header (s : State) (c : Nat) : List Byte := s.flashRead (copyBase c) 256

def hdrVersion (h : List Byte) : Nat := leAt h 8 4
def hdrLength (h : List Byte) : Nat := leAt h 12 4
def hdrCount (h : List Byte) : Nat := leAt h 16 2

/-- Whether bytes are zero. -/
def allZero (bs : List Byte) : Bool := bs.all fun b => b == 0

/-- The header checks of R545 and R547. -/
def headerOk (h : List Byte) : Bool :=
  leAt h 252 4 == crc32c (h.take 252) && leAt h 0 4 == 0x41534C54 && leAt h 4 2 == 1 &&
    allZero ((h.drop 6).take 2) && allZero ((h.drop 18).take 6) && allZero ((h.drop 56).take 196) &&
    decide (1296 ≤ hdrLength h ∧ hdrLength h ≤ 67108864 ∧ 1 ≤ hdrCount h ∧ hdrCount h ≤ 64 ∧ 256 + 16 * hdrCount h ≤ hdrLength h)

/-- A section descriptor. -/
structure Sect where
  type : Nat
  required : Bool
  len : Nat
  off : Nat
  crc : Nat
deriving DecidableEq, Repr

/-- The descriptors of a copy whose bytes are given. -/
def sections (img : List Byte) : List Sect :=
  (chunks 16 (hdrCount img) ((img.drop 256).take (16 * hdrCount img))).map fun (d : List Byte) =>
    ⟨leAt d 0 2, leAt d 2 2 % 2 == 1, leAt d 4 4, leAt d 8 4, leAt d 12 4⟩

/-- The bytes of a section. -/
def Sect.bytes (x : Sect) (img : List Byte) : List Byte := (img.drop x.off).take x.len

/-- Whether a section type is known. -/
def knownType (t : Nat) : Bool := decide (1 ≤ t ∧ t ≤ 9)

/-- The section of a known type, empty where the copy has none. -/
def sectBytes (img : List Byte) (t : Nat) : List Byte :=
  match (sections img).find? fun x => x.type == t with
  | some x => x.bytes img
  | none => []

/-! ### Sections (R550) -/

/-- A COEF entry: bank, N, D_f, coefficients. -/
structure CoefEntry where
  bank : Nat
  n : Nat
  df : Nat
  words : List Nat
deriving DecidableEq, Repr

/-- The entries of a COEF section, none where it is malformed; the first number bounds the entries. -/
def coefEntries : Nat → List Byte → Option (List CoefEntry)
  | _, [] => some []
  | 0, _ :: _ => none
  | k + 1, b :: t =>
    let bs := b :: t
    let h := leAt bs 0 4
    let bank := natBits h 0 8
    let n := natBits h 8 9
    let df := natBits h 17 5
    if bs.length < 4 + 4 * n ∨ 60 ≤ bank % 64 ∨ n < 1 ∨ 256 < n ∨ df < 1 ∨ 16 < df then none
    else
      match coefEntries k (bs.drop (4 + 4 * n)) with
      | some es => some (⟨bank, n, df, (chunks 4 n ((bs.drop 4).take (4 * n))).map ofLe⟩ :: es)
      | none => none

/-- A DRAMCFG entry (R452, R550): sizes in units of 2 MiB. -/
structure RegionEntry where
  region : Nat
  kind : Nat
  flags : Nat
  flushMs : Nat
  base : Nat
  size : Nat
deriving DecidableEq, Repr

/-- The entries of a DRAMCFG section. -/
def dramEntries (bs : List Byte) : List RegionEntry :=
  (chunks 16 (leAt bs 1 1) (bs.drop 16)).map fun (e : List Byte) => ⟨leAt e 0 1, leAt e 1 1, leAt e 2 1, leAt e 3 1, leAt e 4 4, leAt e 8 4⟩

/-- Whether a section is well formed (R550, R552). -/
def sectOk (t : Nat) (bs : List Byte) : Bool :=
  if t = 1 then bs.length == 65536
  else if t = 2 then (coefEntries bs.length bs).isSome
  else if t = 4 then bs.length % 80 == 0
  else if t = 8 then bs.length == 16 + 16 * leAt bs 1 1 && (dramEntries bs).all fun e => decide (e.kind ≤ 4)
  else if knownType t then bs.length % 12 == 0
  else true

/-! ### A valid copy (R547) -/

/-- Whether sections `x` and `y` share a byte. -/
def Sect.overlaps (x y : Sect) : Bool := decide (x.off < y.off + y.len ∧ y.off < x.off + x.len)

/-- No section of a list overlaps a later one. -/
def disjointSects : List Sect → Bool
  | [] => true
  | x :: t => (t.all fun y => ! x.overlaps y) && disjointSects t

/-- The conditions of R547 on the sections. -/
def sectionsOk (img : List Byte) : Bool :=
  let ss := sections img
  (ss.all fun x =>
    x.off % 16 == 0 && decide (256 + 16 * hdrCount img ≤ x.off ∧ x.off + x.len ≤ hdrLength img) && x.crc == crc32c (x.bytes img) &&
      sectOk x.type (x.bytes img) && (knownType x.type || ! x.required)) &&
    disjointSects ss && ((natsFrom 1 9).all fun t => decide ((ss.filter fun x => x.type == t).length ≤ 1)) && ss.any fun x => x.type == 1

/-- The bytes of a copy whose header is good. -/
def State.copyBytes (s : State) (c : Nat) : List Byte := s.flashRead (copyBase c) (hdrLength (s.header c))

/-- Whether the body of a copy with a good header is good. -/
def State.bodyOk (s : State) (c : Nat) : Bool :=
  let img := s.copyBytes c
  let dig := sha256Bytes (img.drop 256)
  dig == (img.drop 24).take 32 && (! s.bit F.BOOT_OTP_STS_dig_en || some dig == s.boot.otp.digest) && sectionsOk img

/-! ### Choosing a copy (R548, R549) -/

/-- What choosing finds: the copy used, the version of the other, whether that one failed a check, whether the divergence row or the fallback
applied, and the copy that CFG_IMAGE names. -/
structure Choice where
  used : Option Nat
  other : Nat
  bad : Bool
  diverge : Bool
  fallback : Bool
  image : Option Nat
deriving DecidableEq, Repr

/-- One body decides: copy `c` is read, and the other only where it fails. `o` tells whether the other's header is good. -/
def State.favour (s : State) (c : Nat) (o : Bool) : Choice :=
  if s.bodyOk c then ⟨some c, 0, false, false, false, none⟩
  else if o && s.bodyOk (1 - c) then ⟨some (1 - c), 0, true, false, false, some c⟩
  else ⟨none, 0, true, false, false, none⟩

/-- The table of R548. -/
def State.choose (s : State) : Choice :=
  let g := fun (c : Nat) => s.copyThere c && headerOk (s.header c)
  let v := fun (c : Nat) => hdrVersion (s.header c)
  if g 0 && g 1 then
    if s.header 0 = s.header 1 then s.favour 0 true
    else if v 0 < v 1 then s.favour 1 true
    else if v 1 < v 0 then s.favour 0 true
    else
      match s.bodyOk 0, s.bodyOk 1 with
      | true, true => ⟨some 0, v 1, false, true, false, none⟩
      | true, false => ⟨some 0, 0, true, false, false, some 1⟩
      | false, true => ⟨some 1, 0, true, false, false, some 0⟩
      | false, false => ⟨none, 0, true, false, false, none⟩
  else if g 0 then
    if s.bodyOk 0 then ⟨some 0, 0, s.copyThere 1, false, false, some 1⟩ else ⟨none, 0, true, false, false, none⟩
  else if g 1 then
    if s.bodyOk 1 then ⟨some 1, 0, s.copyThere 0, false, false, some 0⟩ else ⟨none, 0, true, false, false, none⟩
  else ⟨none, 0, s.copyThere 0 || s.copyThere 1, false, false, none⟩

/-- R549: after three to five failed boots, the valid copy that R548 would not choose. -/
def State.chooseCopy (s : State) : Choice :=
  let x := s.choose
  match x.used with
  | none => x
  | some c =>
    let o := 1 - c
    if s.fd F.BOOT_CNT_fails < 3 ∨ x.image.isSome = true ∨ s.copyThere o = false ∨ headerOk (s.header o) = false then x
    else if s.bodyOk o then { x with used := some o, other := hdrVersion (s.header c), fallback := true }
    else { x with bad := true }

/-! ### Register lists (R552, R553) -/

/-- A class 0 configuration fault is counted in BOOT_SKIP.entries. -/
def State.skipEntry (s : State) (off : Nat) : State := (s.addSat F.BOOT_SKIP_entries 1).raise 0x00B 0 off

/-- A register's "img" fields take the masked bits of a value; locks hold (R9), and reserved encodings leave their field (R10). -/
def State.putImg (s : State) (r : Reg) (m v : Word) (i j : Nat) : State :=
  let img := regImg r
  let lock := s.rwlLocked r
  s.setRg r ((regFields r).foldl (fun (old : Word) f => if natBit img f.lo then f.write lock ((old &&& ~~~m) ||| (v &&& m)) old else old)
    (s.rg r i j)) i j

/-- A write `w` of the bits `m` of a context's staging register, made to the state `s₀`: a preset loads its values, and a write to a stage field
makes the chain custom (R263); a reserved preset is no write of the field (R10), so that another hb2_en beside it is one of a stage field. -/
def State.presetRule (s : State) (was : State) (r : Reg) (m w : Word) (i : Nat) : State :=
  match r with
  | .DEC_CTX_CFG =>
    if bitsOf m 0 3 = 0 then (if bitsOf m F.DEC_CTX_CFG_hb2_en.lo 1 ≠ 0 then s.setFd F.DEC_CTX_CFG_preset 0 i else s)
    else if bitsOf w 0 3 ≤ 4 then s.loadPreset i
    else if s.fd F.DEC_CTX_CFG_hb2_en i ≠ was.fd F.DEC_CTX_CFG_hb2_en i then s.setFd F.DEC_CTX_CFG_preset 0 i
    else s
  | .DEC_CTX_COEF => if bitsOf m 0 8 ≠ 0 then s.setFd F.DEC_CTX_CFG_preset 0 i else s
  | .DEC_CTX_CIC => if m = 0 then s else s.setFd F.DEC_CTX_CFG_preset 0 i
  | .DEC_CTX_SHIFT_A => if m = 0 then s else s.setFd F.DEC_CTX_CFG_preset 0 i
  | .DEC_CTX_SHIFT_B => if m = 0 then s else s.setFd F.DEC_CTX_CFG_preset 0 i
  | _ => s

/-- What an entry does to a register, with the rules of the register's own chapter: window limits (R51), temperature limits (R594), local
queues (R369), TRIG pins (R295), tunnels (R528) and chain presets (R263). -/
def State.listWrite (s : State) (r : Reg) (m v : Word) (i j : Nat) : State :=
  let old := s.rg r i j
  let n := (s.putImg r m v i j).rg r i j
  match r with
  | .PRT_WIN => prtWinWrite i n s
  | .PWR_TEMP_THR =>
    if bitsOf n 0 8 < bitsOf n 8 8 ∧ bitsOf n 8 8 < bitsOf n 16 8 ∧ 100 ≤ bitsOf n 16 8 ∧ bitsOf n 16 8 ≤ 125 then s.setRg r n else s
  | .QUE_Q_CFG =>
    if 1024 ≤ i ∧ i < 1072 then s else s.setRg r (if i < 1024 then setBits (setBits n 16 2 0) 24 5 0 else n) i
  | .TRG_PIN => trgPinWrite i n s
  | .TB_OUT_CFG => s.putOut n
  | .PWR_TMR_CFG => s.putTmr i n
  | .CAS_TUNOUT_CFG => casTunnelEnable false i n s
  | .CAS_TUNIN_CFG => casTunnelEnable true i n s
  | .DEC_CTX_OUTQ => if s.fabricQueue (bitsOf n 0 11) then s.setRg r n i j else s
  | .TRG_OUTQ => if s.fabricQueue (bitsOf n 0 11) then s.setRg r n i j else s
  | _ => (s.setRg r n i j).presetRule s r m ((old &&& ~~~m) ||| (v &&& m)) i

/-- One entry: offset, mask, value. -/
def State.listEntry (s : State) (blocks : List Nat) (e : List Byte) : State :=
  let off := leAt e 0 4
  let m := w32 (leAt e 4 4)
  match regAt off with
  | none => s.skipEntry off
  | some (r, i, j) =>
    let img := BitVec.ofNat 32 (regImg r)
    if blocks.contains (off / 2 ^ 20) = false ∨ img = 0 ∨ (off / 2 ^ 20 = 14 ∧ r ≠ .BOOT_LOCK) then s.skipEntry off
    else
      let s1 := s.listWrite r (m &&& img) (w32 (leAt e 8 4)) i j
      if m &&& ~~~img = 0 then s1 else s1.skipEntry off

/-- A register list. -/
def State.applyList (s : State) (blocks : List Nat) (bs : List Byte) : State :=
  (chunks 12 (bs.length / 12) bs).foldl (fun (t : State) e => t.listEntry blocks e) s

end Sys2Proof.Machine
end

