-- ==== Sys2Proof/Machine/Boot.lean ====
section
/-! DEFINITION. Resets, the boot sequence, fuses and flash commands (R535–R561): what each reset keeps, the steps of boot, and the commands of
the BOOT_ block. -/

namespace Sys2Proof.Machine

/-! ### What a reset keeps (R538) -/

/-- Free values in `n` bytes of flash from `a` on: a PROGRAM or ERASE that a reset cut short (assumption log 51). -/
def State.scramble : Nat → Nat → State → State
  | 0, _, s => s
  | n + 1, a, s =>
    let (f, s1) := s.free
    State.scramble n (a + 1) { s1 with flash := Memory.write 0xFF s1.flash a (BitVec.ofNat 8 f) }

/-- A flash command in progress ends with the reset. -/
def State.cutFlash (s : State) : State :=
  match s.boot.flash with
  | some (op, a) =>
    let s1 := if op = 2 then s.scramble 256 a else if op = 3 then s.scramble 65536 a else s
    { s1 with boot := { s1.boot with flash := none } }
  | none => s

/-- The Ledger's contents, and what derives from them. -/
def Ledger.kept (l : Ledger) : Ledger :=
  { Ledger.init with lines := l.lines, bmap := l.bmap, retired := l.retired, anchorNext := l.anchorNext, mapNext := l.mapNext, intentNext := l.intentNext, corrected := l.corrected }

/-- Registers kept from a state, copy `i` of each. -/
def State.keepRegs (t s : State) (l : List (Reg × Nat)) : State := l.foldl (fun (u : State) e => u.setRg e.1 (s.rg e.1 e.2) e.2) t

/-- Spare blocks of the Ledger, and the divergence hold, as its contents have them. -/
def State.ledgerRegs (t s : State) : State :=
  ((t.setFd F.LDG_STS_hold (s.fd F.LDG_STS_hold)).setFd F.LDG_SPARE_spares (64 - s.ldg.retired.length)).setFd F.LDG_SPARE_retired s.ldg.retired.length

/-- Power-on reset: all but the Ledger, the flash and the fuses takes its reset value, and fuses programmed since take effect (R538, R555). -/
def State.por (s0 : State) : State :=
  let s := s0.cutFlash
  let t : State :=
    { State.reset with pending := s.pending, freeCtr := s.freeCtr, out := s.out, flash := s.flash, ldg := s.ldg.kept,
                       dev := { Dev.init with perstLow := s.dev.perstLow },
                       boot := { BootSt.init with otp := s.boot.otp } }
  let o := s.boot.otp
  let t1 := ((t.setFd F.BOOT_OTP_STS_dig_en (b2n o.digEn)).setFd F.BOOT_OTP_STS_jtag o.jtag).setFd F.BOOT_OTP_STS_dig_set (b2n o.digest.isSome)
  (t1.keepRegs s ((natsFrom 0 8).map fun (i : Nat) => (.BOOT_OTP_DIG, i))).ledgerRegs s

/-- A fault record after a reset: no condition holds; timers stop after a fault reset (R573), and run on otherwise. -/
def FaultRec.afterReset (r : FaultRec) (fault : Bool) (time : Nat) : FaultRec :=
  { r with live := false, conds := [], sent := 0, deadline := if fault then none else r.deadline.map fun (d : Nat) => d - time }

/-- PCIe function state (R474, R475, R508, R538): kept through fault and cascade resets; an FLR keeps the link, its payload size and ASPM; a
PERST_N reset keeps nothing. -/
def Events.afterReset (e : Events) (link cfg : Bool) : Events :=
  if cfg then { e with vecs := [], alertPin := false }
  else { Events.init with aspmL1 := link && e.aspmL1 }

/-- The AON state and the TAP go on through a reset other than POR. -/
def Dev.afterReset (v : Dev) : Dev :=
  { Dev.init with st := .boot, causes := 0, jtagIr := v.jtagIr, cells := v.cells, pinsTaken := v.pinsTaken || v.pinsWait, perstLow := v.perstLow, pfAct := v.pfAct,
                  dimmPwr := v.dimmPwr, pfBoot := v.pfBoot }

/-- A reset of causes `m` other than POR (R538); no cause: a boot that restarts keeps what every such reset keeps, and the fault lock with what it
locks, which no reset clears then (R9). -/
def State.clear (s0 : State) (m : Nat) : State :=
  let s := s0.cutFlash
  let link := ! natBit m 1
  let cfg := link && ! natBit m 2
  let t : State :=
    { State.reset with pending := s.pending, freeCtr := s.freeCtr, out := s.out, flash := s.flash, ldg := s.ldg.kept,
                       dev := s.dev.afterReset, evt := s.evt.afterReset link cfg,
                       flt := { s.flt with recs := s.flt.recs.map fun (e : Nat × Option FaultRec) => (e.1, e.2.map fun (r : FaultRec) => r.afterReset (natBit m 3) s.time) },
                       boot := { BootSt.init with otp := s.boot.otp } }
  let kept := [(.BOOT_CAUSE, 0), (.BOOT_CNT, 0), (.BOOT_STRAP, 0), (.ENG_RSV, 0), (.BOOT_OTP_STS, 0)] ++
    ((natsFrom 0 8).map fun (i : Nat) => (Reg.BOOT_OTP_DIG, i)) ++ (if link then [(.BOOT_LOCK, 0), (.HST_LINK, 0)] else []) ++
    (if m = 0 ∧ s.bit F.FLT_CTL_lock = true then [(.FLT_CTL, 0), (.FLT_ESC, 0), (.FLT_ESC, 1), (.FLT_ESC, 2)] else [])
  (t.keepRegs s kept).ledgerRegs s

/-! ### Steps of boot (R541) -/

/-- Step `n` of boot runs. -/
def State.atStep (s : State) (n : Nat) : State := (s.setDev fun v => { v with bootStep := n }).setFd F.BOOT_STS_step n

/-- Boot is held (R540, R548, R549); source 305 (R543). -/
def State.holdBoot (s : State) (err : Nat) : State := ((s.setFd F.BOOT_STS_hold 1).setFd F.BOOT_STS_err err).assertOnce 305

/-- Step 3 of a boot that began with POR: the straps are latched (R539); PERST_N is seen. -/
def State.latchStraps (s : State) (e : BootEnv) : State :=
  let s1 := ((s.setFd F.BOOT_STRAP_boot_src e.bootSrc).setFd F.BOOT_STRAP_casc_role e.cascRole).setFd F.BOOT_STRAP_dev_addr e.devAddr
  s1.setDev fun v => { v with perstLow := ! e.perstHigh }

/-- Role and DEV from the straps (R509). -/
def State.role (s : State) : State :=
  let r := s.fd F.BOOT_STRAP_casc_role
  let a := s.fd F.BOOT_STRAP_dev_addr
  let s1 := ((s.setFd F.CAS_ID_role r).setFd F.CAS_ID_dev_addr a).setFd F.CAS_ID_dev (if r = 2 then a else 0)
  if r = 3 then s1.raise 0x00D 0 0 else s1

/-- CSTORE goes into every engine; ENG_GOLD and the function table follow it (R427, R428). What a function's program needs of frame,
histogram and spill is not in the image: free values (assumption log 52). -/
def State.loadStore (s : State) (bs : List Byte) : State :=
  let ws : List (BitVec 128) := (chunks 16 4096 bs).map fun (w : List Byte) => BitVec.ofNat 128 (ofLe w)
  let tab : Tab (BitVec 128) := ((natsFrom 0 4096).zip ws).filter fun (e : Nat × BitVec 128) => e.2 != 0
  let s1 := (s.setEng fun g => { g with store := tab }).setRg .ENG_GOLD (w32 (crc32c bs))
  (natsFrom 0 32).foldl (fun (t : State) f =>
    if f < 18 ∨ Tab.get 0 tab f ≠ 0 then
      let (a, t1) := t.free
      t1.setRg .ENG_FUNC (w32 (1 + a % 192 + 256 + a / 256 % 4 * 512)) f
    else t) s1

/-- Engines that passed are ACTIVE from the lowest number on, as many as the reserve leaves (R409). -/
def State.partition (s : State) (bad : List Nat) : State :=
  let r := s.fd F.ENG_RSV_reserve
  let good := (natsFrom 0 nEngines).filter fun (e : Nat) => ! bad.contains e
  let act := good.take (min 192 (good.length - r))
  let s1 := (natsFrom 0 nEngines).foldl (fun (t : State) e =>
    if bad.contains e then (t.setEngState e 4).raise 0x0C1 (unitOf 6 e) 0
    else t.setEngState e (if act.contains e then 0 else 1)) s
  { s1 with boot := { s1.boot with reserve := r } }

/-- COEF loads as DEC_COEF writes would (R550). -/
def State.loadCoef (s : State) (es : List CoefEntry) : State :=
  es.foldl (fun (t : State) e => t.setDec fun d =>
    { d with coefs := ((natsFrom 0 e.n).zip e.words).foldl (fun (u : Tab (BitVec 24)) w => Tab.set 0 u (256 * e.bank + w.1) (BitVec.ofNat 24 w.2)) d.coefs,
             hdrs := Tab.set 0 d.hdrs e.bank (w32 (e.n + e.df * 2 ^ 16 + 2 ^ 31)) }) s

/-- The faults and registers of a choice of copy (R548, R549). -/
def State.noteChoice (s : State) (x : Choice) : State :=
  let s1 := (s.setFd F.BOOT_STS_other_bad (b2n x.bad)).setFd F.BOOT_STS_copy (x.used.getD 2)
  match x.used with
  | none => s1.raise 0x009 0 0
  | some c =>
    let v := hdrVersion (s.header c)
    let s2 := ((s1.setRg .BOOT_IMG_VER (w32 v)).setRg .BOOT_IMG_OTHER (w32 x.other)).setFd F.BOOT_STS_fallback (b2n x.fallback)
    let s3 := match x.image with | some i => s2.raise 0x007 0 i | none => s2
    let s4 := if x.diverge then (s3.raise 0x008 0 (hdrVersion (s.header 0))).setFd F.BOOT_STS_diverge 1 else s3
    if x.fallback then s4.raise 0x00A 0 (s.fd F.BOOT_CNT_fails) else s4

/-- Blocks that REGINIT may write (R553), by bits [23:20] of the offset. -/
def reginitBlocks : List Nat := [0, 2, 4, 5, 7, 8, 9, 10, 11, 12, 14, 15]

/-- Step 4 with its image. -/
def State.loadImage (s : State) (e : BootEnv) (img : List Byte) : State :=
  let s1 := s.loadStore (sectBytes img 1)
  let s2 := (e.badRows.filter fun (q : Nat) => decide (q < 1280)).foldl (fun (t : State) q => t.testRows q 1) s1
  let s3 := s2.loadCoef ((coefEntries 65536 (sectBytes img 2)).getD [])
  let s4 := (s3.applyList reginitBlocks (sectBytes img 5)).partition e.badEngines
  { s4 with boot := { s4.boot with tasks := sectBytes img 4 } }

/-- A lane's boot calibration and corrections (R117, R118, R120). -/
def State.calLane (s : State) (e : BootEnv) (lane : Nat) : State × Bool :=
  let h : List Nat × List Nat := match e.laneHists.find? fun x => x.1 == lane with
    | some x => x.2
    | none => (List.replicate 1024 4096, List.replicate 1024 4096)
  let look := fun (l : List (Nat × Int)) (k : Nat) => match l.find? fun x => x.1 == k with | some x => x.2 | none => (0 : Int)
  let (s1, ok) := s.bootCalLane lane h.1 h.2 (e.badLanes.contains lane)
  let s2 := if lane < 216 then s1.setFd F.TB_LANE_DCAL_dcal (uNat 16 (look e.dcals lane)) lane else s1
  if 192 ≤ lane ∧ lane < 216 then
    ((natsFrom 0 8).foldl (fun (t : State) k => t.setFd F.TB_SPR_CORR_corr (uNat 16 (look e.sprCorrs (8 * (lane - 192) + k))) (lane - 192) k) s2, ok)
  else (s2.setFd F.TB_LANE_CORR_corr (uNat 16 (look e.corrs lane)) lane, ok)

/-- A lane that fails is RETIRED; a port lane's work goes to its quad's spare, where that is idle. A second lane of a quad is RETIRED with no partner,
and a service lane stays ACTIVE, with cal_valid 0 (assumption log 127). -/
def State.bootLane (s : State) (e : BootEnv) (lane : Nat) : State :=
  let (s1, ok) := s.calLane e lane
  let q := quadOfLane lane
  if ok then (if 192 ≤ lane ∧ lane < 216 then s1.setLane lane 3 0 else s1)
  else if lane < 192 ∧ s1.laneState (spareOf q) = 3 then
    ((s1.setLane lane 5 (spareOf q)).setLane (spareOf q) 4 lane).raise 0x082 (unitOf 4 lane) (spareOf q) true
  else (if lane < 216 then s1.setLane lane 5 0 else s1).raise 0x082 (unitOf 4 lane) (if lane < 216 then spareOf q else 0) true

/-- Every lane, spares first. -/
def State.bootLanes (s : State) (e : BootEnv) : State :=
  (natsFrom 192 24 ++ natsFrom 0 192 ++ natsFrom 216 5).foldl (fun (t : State) l => t.bootLane e l) s

/-- Ports take the settings of PORTCFG. -/
def State.bootPorts (s : State) : State := (natsFrom 0 96).foldl (fun (t : State) p => t.takeSet p t.time (t.asked p)) s

/-- The largest set of 4, 2 or 1 channels of one capacity, lowest-numbered first (R444). -/
def dimmSet (gib : Nat → Nat) (ok : List Nat) : List Nat :=
  let pick := fun (n : Nat) => (ok.filterMap fun (c : Nat) =>
    let l := (ok.filter fun (d : Nat) => decide (c ≤ d) && gib d == gib c).take n
    if l.length = n then some l else none).head?
  ((pick 4).or ((pick 2).or (pick 1))).getD []

/-- DIMM training (R444): channels whose DIMM is unsupported or whose training fails are disabled. -/
def State.trainDram (s : State) (e : BootEnv) (cap : Nat) : State :=
  let gib := fun (c : Nat) => nth 0 e.dimmGiB c
  let pop := (natsFrom 0 4).filter fun (c : Nat) => gib c != 0
  let bad := pop.filter fun (c : Nat) => ! [16, 32, 64, 128].contains (gib c)
  let fail := pop.filter fun (c : Nat) => ! bad.contains c && e.trainFail.contains c
  let use := dimmSet gib (pop.filter fun (c : Nat) => ! bad.contains c && ! e.trainFail.contains c)
  let mask := fun (l : List Nat) => l.foldl (fun (m c : Nat) => m + 2 ^ c) 0
  let s1 := bad.foldl (fun (t : State) c => t.raise 0x140 (unitOf 10 c) 0) s
  let s2 := fail.foldl (fun (t : State) c => t.raise 0x140 (unitOf 10 c) 1) s1
  let s3 := ((s2.setFd F.DRM_STS_used (mask use)).setFd F.DRM_STS_failed (mask (bad ++ fail))).setFd F.DRM_STS_gib
    (match use with | c :: _ => gib c | [] => 0)
  let s4 := s3.setFd F.DRM_STS_rate (if cap = 255 then e.dimmRate else min e.dimmRate cap)
  if use.isEmpty then s4.raise 0x003 0 0 true else s4

/-- Whether a region may stand (R452): inside the space and below the reserve, and sharing no byte with another of the list; of entries with
one number, the first; of GOLDEN ones, the first. -/
def State.regionOk (s : State) (before after : List RegionEntry) (x : RegionEntry) : Bool :=
  let meets := fun (y : RegionEntry) => y.kind != 0 && y.region != x.region && decide (x.base < y.base + y.size ∧ y.base < x.base + x.size)
  decide ((x.base + x.size) * mib2 ≤ s.reserveBase) && ! (before ++ after).any meets && ! before.any (fun y => y.region == x.region) &&
    ! (x.kind == 4 && before.any fun y => y.kind == 4)

/-- DRAMCFG regions are set (R452). -/
def State.setRegions : List RegionEntry → List RegionEntry → State → State
  | _, [], s => s
  | before, x :: t, s =>
    let s1 :=
      if s.ddrUsed.isEmpty then s
      else if x.kind = 0 ∧ before.all (fun y => y.region != x.region) then s
      else if s.regionOk before t x then
        ((s.setRg .DRM_RG_CFG (w32 (x.kind % 8 + x.flags % 4 * 8 + x.flushMs % 256 * 256)) x.region).setRg .DRM_RG_BASE (w32 x.base) x.region).setRg
          .DRM_RG_SIZE (w32 x.size) x.region
      else s.raise 0x00C 0 x.region
    State.setRegions (before ++ [x]) t s1

/-- The fault log's position, from its header and entries (R575). -/
def State.loadLog (s : State) : State :=
  let hs := (natsFrom 0 2).filterMap fun (l : Nat) =>
    let b := s.logLine 2 l
    if lineGood b && leAt b 0 4 == 0x474C5446 then some b else none
  let top : Option (List Byte) := hs.foldl (fun (a : Option (List Byte)) b =>
    match a with | some x => if leAt x 56 4 < leAt b 56 4 then some b else a | none => some b) none
  let n := (natsFrom 297 727).foldl (fun (m : Nat) l => let b := s.logLine 2 l; if lineGood b then max m (leAt b 0 8 + 1) else m) 0
  match top with
  | some b =>
    { s with flt := { s.flt with ring := (leAt b 8 2 - 297) % 727, hdrSeq := leAt b 56 4, seq := n,
                                 serials := (natsFrom 0 4).map fun (c : Nat) => leAt b (16 + 4 * c) 4 } }
  | none => { s with flt := { s.flt with ring := 0, hdrSeq := 0, seq := n, serials := [] } }

/-- Entries of the retirement list in the Ledger: page + 2^27 × channel (R575). -/
def State.retireList (s : State) : List Nat :=
  (natsFrom 4 293).flatMap fun (l : Nat) =>
    let b := s.logLine 2 l
    if lineGood b then ((natsFrom 0 14).map fun (i : Nat) => leAt b (4 * i) 4).filterMap fun (v : Nat) => if natBit v 31 then some (natBits v 0 29) else none
    else []

/-- Write the retirement list anew. -/
def State.writeRetireList (s : State) (l : List Nat) (lines : Nat) : State :=
  (natsFrom 0 lines).foldl (fun (t : State) k =>
    t.writeLog 2 (4 + k) (crcLine (((l.drop (14 * k)).take 14).flatMap fun (v : Nat) => leBytes 4 (v + 2 ^ 31)))) s

/-- The retirement list is reapplied; entries of a channel whose DIMM has changed are dropped (R450). A page of a channel that is not in use
keeps its spare page, out of reach. -/
def State.reapplyPages (s : State) (serials : List Nat) : State :=
  let old := s.retireList
  let keep := old.filter fun (v : Nat) => nth 0 s.flt.serials (v / 2 ^ 27) == nth 0 serials (v / 2 ^ 27)
  let s1 := if keep = old then s else s.writeRetireList keep ((old.length + 13) / 14)
  let use := s1.ddrUsed
  let page := fun (v : Nat) => match use.idxOf? (v / 2 ^ 27) with | some i => v % 2 ^ 27 * use.length + i | none => 2 ^ 40 + v
  let s2 := (s1.setStore fun x => { x with retired := keep.map page }).setFd F.DRM_RETIRE_pages keep.length
  let s3 := if 4096 ≤ keep.length then s2.setFd F.DRM_RETIRE_full 1 else s2
  { s3 with flt := { s3.flt with serials := (natsFrom 0 4).map fun (c : Nat) => nth 0 serials c } }

/-- The golden copy goes to the GOLDEN region, or to the first 2 MiB of the reserve's reserved part (R428, R452). -/
def State.writeGolden (s : State) (bs : List Byte) : State :=
  if s.ddrUsed.isEmpty then s
  else
    let a := match (natsFrom 0 256).find? fun (r : Nat) => s.fd F.DRM_RG_CFG_kind r == 4 && s.fd F.DRM_RG_SIZE_size r == 1 with
      | some r => s.rgBase r
      | none => s.reserveBase + 28 * 2 ^ 20
    s.dramWrite a bs

/-- Step 6. -/
def State.stepSix (s : State) (e : BootEnv) (img : List Byte) : State :=
  let cfg := sectBytes img 8
  let s1 := ((s.atStep 6).setDev fun v => { v with dimmPwr := true }).trainDram e (if cfg.isEmpty then 255 else leAt cfg 0 1)
  let s2 := (s1.loadLog).reapplyPages e.dimmSerial
  let s3 := (State.setRegions [] (dramEntries cfg) s2).writeGolden (sectBytes img 1)
  ((natsFrom 0 2).foldl (fun (t : State) d => if natBit (t.fd F.NVS_CFG_en) d then t.setDrv d 1 else t) s3).nvNone

/-- The BOOT entry of the fault log (R576): no record, the boots and the image version. -/
def State.bootEntry (s : State) : State :=
  s.logWrite (s.entryBytes 1 { cls := 0, code := 0, unit := 0, cause := 0, detail := 0, merges := 0, opened := 0, seen := 0, live := false,
                               conds := [], ack := false, esc := false, deadline := none, mergeDue := false, sent := 0 } false)

/-- Step 7: LEDGERCFG, recovery, the BOOT entry, and the entries that waited for it. -/
def State.stepSeven (s : State) (img : List Byte) : State :=
  let s1 := (((s.atStep 7).applyList [6] (sectBytes img 6)).recoverLedger).bootEntry
  (s1.atStep 8).logFlush

/-- Steps 8 and 9: link registers, and the links start; a member begins to join (R392, R512). -/
def State.stepLinks (s : State) (img : List Byte) : State :=
  let s1 := (natsFrom 0 16).foldl (fun (t : State) l => t.linkStart l) (s.applyList [3] (sectBytes img 9))
  let s2 := (s1.atStep 9).applyList [13] (sectBytes img 7)
  let s3 := if s2.isMember then ({ s2 with casc := { s2.casc with begun := s2.time } } : State).setFd F.CAS_STS_state 1
    else if s2.isRoot then (s2.setFd F.CAS_STS_state 2).setFd F.CAS_STS_rooted 1 else s2
  (natsFrom 16 4).foldl (fun (t : State) l => t.linkStart l) s3

/-- XSPI_RESET_N is driven low at the start of step 4, and high again 10 µs later (R607). -/
def State.xspiReset (s : State) : State := (s.emit (.xspiReset false)).emit (.xspiReset true)

/-- The level of XSPI_RESET_N but for that pulse; none before boot step 2, while every xSPI pin is high impedance (R607). -/
def State.xspiResetN (s : State) : Option Bool := if s.dev.st = .powerup then none else some true

/-- Steps 4 to 9. -/
def State.stepFour (s : State) (e : BootEnv) : State :=
  let log := Nat.log2 e.flashBytes
  let s1 := (({ s with boot := { s.boot with flashLog := log } }).atStep 4).xspiReset
  let s2 := s1.setFd F.BOOT_FL_STS_size log
  if 6 ≤ s2.fd F.BOOT_CNT_fails then s2.holdBoot 2
  else
    let x := s2.chooseCopy
    let s3 := s2.noteChoice x
    match x.used with
    | none => s3.holdBoot 1
    | some c =>
      let img := s3.copyBytes c
      let s4 := (((s3.loadImage e img).atStep 5).bootLanes e).applyList [1] (sectBytes img 3)
      (((s4.bootPorts).stepSix e img).stepSeven img).stepLinks img

/-- Step 3 and on: a boot that a power-fail warning or a JTAG instruction stops goes no further (R542); strap hold (R540). -/
def State.stepThree (s : State) (e : BootEnv) : State :=
  let s1 := (({ s with boot := { s.boot with env := some e } }).role).atStep 3
  if s1.dev.pfBoot ∨ s1.dev.pinsTaken then s1
  else if s1.fd F.BOOT_STRAP_boot_src = 3 then s1.holdBoot 3
  else s1.stepFour e

/-- A boot begins: BOOT state, every domain on, one more boot (R35, R556, R580). -/
def State.beginBoot (s : State) : State := (((s.enter .boot).domsUp allDoms).incFd F.BOOT_CNT_boots)

/-! ### Power-on reset and the power stage -/

/-- POR_N_LOW. Where PWR_FAIL_N was asserted before it, the final write in progress still runs (R222). -/
def porLow (s : State) : State :=
  if (s.dev.trans = .powerFail ∨ (s.dev.trans = .reset ∧ s.dev.pfAct = true)) ∧ 2 ≤ s.fd F.LDG_PF_STS_src ∧ s.dev.finalDone = false then
    s.setDev fun v => { v with waitPor := true }
  else s.por

/-- POWER_FAIL_SEQUENCE_END; a POR that waited for the final write takes effect (R222). -/
def powerFailEnd (micros : Nat) (s : State) : State :=
  if s.dev.trans = .powerFail ∧ s.dev.finalDone = true ∧ s.dev.waitPor = true then s.por else powerFailSequenceEnd micros s

/-- VIN_UNDERVOLTAGE: a POR too (R36, R535). -/
def undervoltage (s : State) : State := s.por

/-- POWER_STAGE_UP: POR_N is high, VIN in range and every rail up (steps 1 to 3). -/
def powerStageUp (e : BootEnv) (s : State) : State :=
  if s.dev.st = .powerup then ((s.beginBoot).latchStraps e).stepThree e else s

/-! ### Resets take effect (R535–R537) -/

/-- RESET_TAKES_EFFECT: due once the final checkpoint has ended, or the fault record is written. -/
def resetTakesEffect (e : BootEnv) (s : State) : State :=
  if s.dev.trans ≠ .reset ∨ s.dev.finalDone = false then s
  else if s.dev.waitPor then s.por
  else
    let m := s.dev.causes
    let failed := natBit m 3 && (s.dev.st == .boot || s.dev.early)
    let s1 := s.clear m
    let s2 := if failed then s1.setFd F.BOOT_CNT_fails (sat 6 (s.fd F.BOOT_CNT_fails + 1)) else s1
    let frec : Nat := match s.dev.frec with | some i => if natBit m 3 then i * 256 + 2 ^ 14 else 0 | none => 0
    let s3 := if m = 0 then s2 else s2.setRg .BOOT_CAUSE (w32 (m + frec))
    (s3.beginBoot).stepThree e

/-- BOOT_PF_RESTART: VIN has stayed above the threshold for 10 ms after a warning in BOOT (R38). -/
def bootPfRestart (e : BootEnv) (s : State) : State :=
  if s.dev.st = .boot ∧ s.dev.pfBoot = true ∧ s.dev.trans = .none then
    ((((s.clear 0).setDev fun v => { v with pfBoot := false }).setFd F.BOOT_CAUSE_pf_restart 1).beginBoot).stepThree e
  else s

/-- PERST_N_FALL: the host port is held in reset, and a PERST_N reset is requested. -/
def perstFall (s : State) : State := (s.setDev fun v => { v with perstLow := true }).resetCause 1

/-- PERST_N_RISE: the host port leaves reset (R537, R541 step 3). -/
def perstRise (s : State) : State := s.setDev fun v => { v with perstLow := false }

/-- FUNCTION_LEVEL_RESET: a soft reset (R475, R535). -/
def functionLevelReset (s : State) : State := s.resetCause 2

/-- CASCADE_RESET_FLIT on C0: sent down before the device acts (R529). -/
def cascadeReset (f : Flit) (s : State) : State :=
  let (s1, ok) := s.accept 16 f
  if ok = true ∧ s1.isMember = true then (s1.ctlDown [10]).resetCause 4 else s1

/-- RESET_ALL (R529): on the root, in RUN or HALT. -/
def resetAll (s : State) : State :=
  if s.domOn 73 = false then s
  else if s.isRoot = true ∧ (s.dev.st = .run ∨ s.dev.st = .halt) then ((s.casCmdSts 1 1).ctlDown [10]).resetCause 4
  else s.casCmdSts 1 2

/-! ### The end of boot -/

/-- Insert a TASKS entry in task-number order, after its equals. -/
def taskInsert (e : List Byte) : List (List Byte) → List (List Byte)
  | [] => [e]
  | x :: t => if leAt e 0 4 % 4096 < leAt x 0 4 % 4096 then e :: x :: t else x :: taskInsert e t

/-- Step 10: one TASKS entry is placed, or counted (R551). -/
def State.bootTask (s : State) (e : List Byte) : State :=
  let d : List Word := (chunks 4 16 (e.take 64)).map fun (w : List Byte) => w32 (ofLe w)
  let (st, s1) := s.placeTask d (argQueues (leAt e 64 8)) (leAt e 72 2 % 2048) 0 none
  if st = 0 then s1 else (s.addSat F.BOOT_SKIP_tasks 1).raise 0x0E5 (unitOf 7 (dTask d)) st

/-- The system streams begin with an EPOCH record (R109), and queues join their memory rings. -/
def State.startStreams (s : State) : State :=
  let s1 := (natsFrom 0 1280).foldl (fun (t : State) q => if t.bit F.QUE_Q_CFG_en q ∧ t.fd F.QUE_Q_CFG_cons q = 3 then t.ringJoin q else t) s
  let sys := distinct ((if s.bit F.QUE_SYSQ_FLT_en then [s.fd F.QUE_SYSQ_FLT_queue] else []) ++
    (if s.bit F.QUE_SYSQ_LNK_en then [s.fd F.QUE_SYSQ_LNK_queue] else []) ++ (if s.bit F.QUE_SYSQ_LVL_en then [s.fd F.QUE_SYSQ_LVL_queue] else []))
  sys.foldl (fun (t : State) q => (t.pushPkt q prodRouter .rtr [t.epochRec]).1) s1

/-- BOOT_COMPLETE: step 10 and entry to RUN. It waits for the time base, for a member's join, and for whatever stops boot. -/
def bootComplete (s : State) : State :=
  if s.dev.st ≠ .boot ∨ s.dev.bootStep ≠ 9 ∨ s.dev.trans ≠ .none ∨ s.dev.pfBoot = true ∨ s.dev.pinsTaken = true ∨ s.tb.on = false ∨
      (s.isMember = true ∧ s.cascState = 1) then s
  else
    let es := (chunks 80 (s.boot.tasks.length / 80) s.boot.tasks).foldl (fun (l : List (List Byte)) e => taskInsert e l) []
    let s1 := es.foldl (fun (t : State) e => t.bootTask e) ((s.atStep 10).startStreams)
    let (ms, s2) := ((((s1.enter .run).atStep 11).setDev fun v => { v with runAt := s.time })).free
    let s3 := (s2.setFd F.BOOT_TIME_ms (ms % 65536)).assertOnce 304
    if s3.bit F.BOOT_STS_fallback ∨ s3.bit F.BOOT_STS_diverge ∨ s3.bit F.BOOT_STS_other_bad ∨ s3.rg .BOOT_SKIP ≠ 0 then s3.assertOnce 305 else s3

/-- BOOT_STEP_TIMEOUT: BOOT_SLOW, and boot continues (R542). -/
def bootStepTimeout (step : Nat) (s : State) : State :=
  if s.dev.st = .boot ∧ 1 ≤ step ∧ step ≤ 10 then (s.setFd F.BOOT_TIME_slow_step step).raise 0x006 0 step else s

/-- BOOT_LOOP_CLEAR: due 10 s after the entry to RUN. -/
def bootLoopClear (s : State) : State :=
  if s.dev.st = .run ∧ s.due (s.dev.runAt + msTicks 10000) = true then (s.setFd F.BOOT_CNT_fails 0).setDev fun v => { v with early := false } else s

/-! ### BOOT_CMD (R555, R560) -/

/-- Outcome of a BOOT_CMD. -/
def State.bootCmdSts (s : State) (op result : Nat) : State :=
  ((s.setFd F.BOOT_CMD_STS_last_op op).setFd F.BOOT_CMD_STS_result result).incFd F.BOOT_CMD_STS_seq

/-- SOFT_RESET. -/
def softReset (s : State) : State :=
  if s.bit F.BOOT_LOCK_soft_en then (s.bootCmdSts 1 1).resetCause 2 else s.bootCmdSts 1 2

/-- Whether boot is held, and nothing else stops it. -/
def State.heldBoot (s : State) : Bool :=
  s.dev.st == .boot && s.bit F.BOOT_STS_hold && s.dev.trans == .none && ! s.dev.pfBoot && ! s.dev.pinsTaken

/-- A held boot goes on with step 4. -/
def State.leaveHold (s : State) (e : BootEnv) : State := ((s.setRg .BOOT_STS (setBits 0 7 2 2)).setRg .BOOT_IMG_OTHER 0).stepFour e

/-- CONTINUE: out of a strap hold. -/
def continueBoot (e : BootEnv) (s : State) : State :=
  if s.heldBoot = true ∧ s.fd F.BOOT_STS_err = 3 then (s.bootCmdSts 2 1).leaveHold e else s.bootCmdSts 2 2

/-- RESTART: step 4 again, with fails at zero (R549). -/
def restartBoot (e : BootEnv) (s : State) : State :=
  if s.heldBoot then ((s.bootCmdSts 3 1).setFd F.BOOT_CNT_fails 0).leaveHold e else s.bootCmdSts 3 2

/-- OTP_DIGEST fuses the first 32 bytes of the page buffer. -/
def otpDigest (s : State) : State :=
  if s.bit F.BOOT_LOCK_lock ∨ s.boot.otp.digest.isSome = true then s.bootCmdSts 4 2
  else
    let d := Memory.readN 0 s.boot.page 0 32
    let s1 := { s with boot := { s.boot with otp := { s.boot.otp with digest := some d } } }
    let s2 := (natsFrom 0 8).foldl (fun (t : State) i => t.setRg .BOOT_OTP_DIG (w32 (leAt d (4 * i) 4)) i) s1
    ((s2.setFd F.BOOT_OTP_STS_dig_set 1).setFd F.BOOT_OTP_STS_pending 1).bootCmdSts 4 1

/-- OTP_DIG_EN. -/
def otpDigEn (s : State) : State :=
  if s.bit F.BOOT_LOCK_lock ∨ s.boot.otp.digest = none then s.bootCmdSts 5 2
  else (({ s with boot := { s.boot with otp := { s.boot.otp with digEn := true } } }).setFd F.BOOT_OTP_STS_pending 1).bootCmdSts 5 1

/-- OTP_JTAG raises the level. -/
def otpJtag (level : Nat) (s : State) : State :=
  if s.bit F.BOOT_LOCK_lock ∨ level % 4 ≤ s.boot.otp.jtag then s.bootCmdSts 6 2
  else (({ s with boot := { s.boot with otp := { s.boot.otp with jtag := level % 4 } } }).setFd F.BOOT_OTP_STS_pending 1).bootCmdSts 6 1

/-! ### Flash commands (R557) -/

/-- A flash command of `n` bytes starts, or is refused: with the lock, while one is busy, misaligned, beyond the flash, or over the copy in use. -/
def State.flashCmd (s : State) (op n : Nat) : State :=
  let a := s.fd F.BOOT_FL_ADDR_addr
  let copy := s.fd F.BOOT_STS_copy
  let s1 := s.incFd F.BOOT_FL_STS_seq
  if s.bit F.BOOT_LOCK_fl_lock ∨ s.boot.flash.isSome = true ∨ a % n ≠ 0 ∨ 2 ^ s.boot.flashLog < a + n ∨ (op ≠ 1 ∧ copy < 2 ∧ a / 2 ^ 26 = copy) then
    s1.setFd F.BOOT_FL_STS_result 2
  else ({ s1 with boot := { s1.boot with flash := some (op, a) } }).setRg .BOOT_FL_STS (setBits (s1.rg .BOOT_FL_STS) 0 3 1)

/-- FLASH_READ, FLASH_PROGRAM, FLASH_ERASE. -/
def flashReadCmd (s : State) : State := s.flashCmd 1 256
def flashProgram (s : State) : State := s.flashCmd 2 256
def flashErase (s : State) : State := s.flashCmd 3 65536

/-- FLASH_COMMAND_DONE: a command that fails leaves free values. -/
def flashDone (ok : Bool) (s : State) : State :=
  match s.boot.flash with
  | none => s
  | some (op, a) =>
    let s1 := ({ s with boot := { s.boot with flash := none } }).setRg .BOOT_FL_STS (setBits (s.rg .BOOT_FL_STS) 0 3 (if ok then 2 else 6))
    if op = 1 then
      if ok then { s1 with boot := { s1.boot with page := Memory.writeN 0 s1.boot.page 0 (s.flashRead a 256) } }
      else
        (natsFrom 0 256).foldl (fun (t : State) i =>
          let (f, t1) := t.free
          { t1 with boot := { t1.boot with page := Memory.write 0 t1.boot.page i (BitVec.ofNat 8 f) } }) s1
    else if op = 2 then
      if ok then { s1 with flash := Memory.writeN 0xFF s1.flash a (Memory.readN 0 s1.boot.page 0 256) } else s1.scramble 256 a
    else if ok then { s1 with flash := s1.flash.filter fun (e : Nat × Byte) => ! decide (a ≤ e.1 ∧ e.1 < a + 65536) }
    else s1.scramble 65536 a

/-- BOOT_FL_DATA_ACCESS: word BOOT_FL_IDX of the page buffer, and the index counts on (R559); a write discards its requester's held word (R12). -/
def flDataAccess (who : Requester) (write : Option Word) (s : State) : State :=
  let i := s.fd F.BOOT_FL_IDX_idx
  let s1 := match write with
    | some w => let s := s.dropHeld who; { s with boot := { s.boot with page := Memory.writeN 0 s.boot.page (4 * i) (leBytes 4 w.toNat) } }
    | none => s.emit (.readData who (regAddr .BOOT_FL_DATA 0 0) (w32 (ofLe (Memory.readN 0 s.boot.page (4 * i) 4))))
  s1.incFd F.BOOT_FL_IDX_idx

/-- A write of BOOT_LOCK: fl_lock and soft_en while unlocked, and the lock, which sticks (R560). -/
def bootLockSet (w : Word) (s : State) : State := s.putFields .BOOT_LOCK w 0 0 (s.rwlLocked .BOOT_LOCK)

/-! ### JTAG (R611–R613) -/

/-- The instruction that an opcode loads at a lock level (R554, R611): one that is not listed or not available acts as BYPASS. -/
def jtagEffective (level op : Nat) : Nat :=
  if level = 0 then (if op ≤ 6 ∨ (0x80 ≤ op ∧ op ≤ 0xFE) then op else 0xFF)
  else if level = 1 then (if op ≤ 6 then op else 0xFF)
  else if op = 2 then 2 else 0xFF

/-- EXTEST, CLAMP, HIGHZ, EXTEST_PULSE and EXTEST_TRAIN take the pins. -/
def takesPins (op : Nat) : Bool := [0, 3, 4, 5, 6].contains op

/-- The standard of a ball's cells in the boundary register (R612): 1 IEEE 1149.1, 6 IEEE 1149.6; a port leg, VIN and GND have none. -/
def BallKind.standard : BallKind → Option Nat
  | .digital => some 1 | .lvds => some 1 | .hcsl => some 1 | .ddr5 => some 1
  | .pcie => some 6 | .nvme => some 6 | .lorren => some 6 | .cascade => some 6
  | .portLeg => none | .vin => none | .gnd => none

/-- The data register that an instruction selects (R611). -/
def tapReg (op : Nat) : TapReg :=
  if [0, 1, 5, 6].contains op then .boundary else if op = 2 then .idcode else .bypass

/-- The IDCODE register (R611). -/
def idcode : Nat := 0x1196056F

/-- What drives the pins (R613): HIGHZ lets them float, the other instructions that take them drive them from the boundary register's cells. -/
def State.pinSource (s : State) : PinSource :=
  if s.dev.pinsTaken && takesPins s.dev.jtagIr then (if s.dev.jtagIr = 4 then .highZ else .cells) else .system

/-- Scans under the instruction that the TAP leaves have loaded the boundary register's cells, in the order that the BSDL gives them; the scans
themselves are no command of the table. -/
def State.loadCells (s : State) (scan : List Bool) : State :=
  if tapReg s.dev.jtagIr = .boundary ∧ scan ≠ [] then s.setDev fun v => { v with cells := scan } else s

/-- The pins are taken as the state asks (R613). -/
def State.takePins (s : State) : State :=
  if s.dev.st = .run ∨ s.dev.st = .watch then (s.setDev fun v => { v with pinsWait := true }).askHalt 3
  else if s.dev.st = .powerup then s
  else s.setDev fun v => { v with pinsTaken := true, pinsWait := false }

/-- The pins return to system function; a boot that they stopped is to restart from step 3. -/
def State.returnPins (s : State) : State := s.setDev fun v => { v with pinsTaken := false, pinsWait := false }

/-- JTAG_UPDATE_IR. In BOOT, a boot that was abandoned restarts with the next RESET_TAKES_EFFECT once the pins are free (assumption log 53). -/
def jtagUpdateIr (opcode : Nat) (scan : List Bool) (s : State) : State :=
  let op := jtagEffective (s.fd F.BOOT_OTP_STS_jtag) (opcode % 256)
  let s1 := (s.loadCells scan).setDev fun v => { v with jtagIr := op }
  if takesPins op then s1.takePins
  else if s.dev.st = .boot ∧ s.dev.pinsTaken = true ∧ s.dev.trans = .none then
    (s1.returnPins.begin .reset).setDev fun v => { v with causes := 0, finalDone := true }
  else s1.returnPins

/-- TAP_RELEASE: Test-Logic-Reset; the TAP loads IDCODE. -/
def tapRelease (e : BootEnv) (s : State) : State :=
  let s1 := (s.returnPins).setDev fun v => { v with jtagIr := 2 }
  if s.dev.st = .boot ∧ s.dev.pinsTaken = true ∧ s.dev.trans = .none then ((s1.clear 0).beginBoot).stepThree e else s1

def execPowerFailSequenceEnd (micros : Nat) (s : State) : Host.Outcome State Fault Refusal := .next (powerFailEnd micros s)
def execPorNLow (s : State) : Host.Outcome State Fault Refusal := .next (porLow s)
def execVinUndervoltage (s : State) : Host.Outcome State Fault Refusal := .next (undervoltage s)
def execPowerStageUp (env : BootEnv) (s : State) : Host.Outcome State Fault Refusal := .next (powerStageUp env s)
def execBootComplete (s : State) : Host.Outcome State Fault Refusal := .next (bootComplete s)
def execBootStepTimeout (step : Nat) (s : State) : Host.Outcome State Fault Refusal := .next (bootStepTimeout step s)
def execBootPfRestart (env : BootEnv) (s : State) : Host.Outcome State Fault Refusal := .next (bootPfRestart env s)
def execBootLoopClear (s : State) : Host.Outcome State Fault Refusal := .next (bootLoopClear s)
def execPerstNFall (s : State) : Host.Outcome State Fault Refusal := .next (perstFall s)
def execPerstNRise (s : State) : Host.Outcome State Fault Refusal := .next (perstRise s)
def execFunctionLevelReset (s : State) : Host.Outcome State Fault Refusal := .next (functionLevelReset s)
def execResetTakesEffect (env : BootEnv) (s : State) : Host.Outcome State Fault Refusal := .next (resetTakesEffect env s)
def execCascadeResetFlit (flit : Flit) (s : State) : Host.Outcome State Fault Refusal := .next (cascadeReset flit s)
def execResetAll (s : State) : Host.Outcome State Fault Refusal := .next (resetAll s)
def execSoftReset (s : State) : Host.Outcome State Fault Refusal := .next (softReset s)
def execContinue (env : BootEnv) (s : State) : Host.Outcome State Fault Refusal := .next (continueBoot env s)
def execRestart (env : BootEnv) (s : State) : Host.Outcome State Fault Refusal := .next (restartBoot env s)
def execOtpDigest (s : State) : Host.Outcome State Fault Refusal := .next (otpDigest s)
def execOtpDigEn (s : State) : Host.Outcome State Fault Refusal := .next (otpDigEn s)
def execOtpJtag (level : Nat) (s : State) : Host.Outcome State Fault Refusal := .next (otpJtag level s)
def execFlashRead (s : State) : Host.Outcome State Fault Refusal := .next (flashReadCmd s)
def execFlashProgram (s : State) : Host.Outcome State Fault Refusal := .next (flashProgram s)
def execFlashErase (s : State) : Host.Outcome State Fault Refusal := .next (flashErase s)
def execFlashCommandDone (ok : Bool) (s : State) : Host.Outcome State Fault Refusal := .next (flashDone ok s)
def execBootFlDataAccess (who : Requester) (write : Option Word) (s : State) : Host.Outcome State Fault Refusal :=
  .next (flDataAccess who write s)
def execBootLockSet (value : Word) (s : State) : Host.Outcome State Fault Refusal := .next (bootLockSet value s)
def execTapRelease (env : BootEnv) (s : State) : Host.Outcome State Fault Refusal := .next (tapRelease env s)

/-- JTAG_UPDATE_IR: an opcode that the manual reserves to the manufacturer has no stated effect, and stops the run (R611). -/
def execJtagUpdateIr (update : TapUpdate) (s : State) : Host.Outcome State Fault Refusal :=
  let op := jtagEffective (s.fd F.BOOT_OTP_STS_jtag) (update.opcode % 256)
  if 0x80 ≤ op ∧ op ≤ 0xFE then .fault .privateJtag else .next (jtagUpdateIr update.opcode update.scan s)

end Sys2Proof.Machine
end

