-- ==== Sys2Proof/Machine/BusRead.lean ====
section
/-! DEFINITION. Reads of registers: which registers answer (R39, R477, R503), what a register shows that the block forms from its state, the
64-bit pairs (R12), the RC fields (R7) and the registers whose read acts. -/

namespace Sys2Proof.Machine

/-- The power domain that holds a copy of a register (R580); none where it lies in AON, which stays on. -/
def regDomain (r : Reg) (i : Nat) : Option Nat :=
  let b := (regShape r).base
  if b < 0x100000 then none
  else if b < 0x160000 then some (i / 4)
  else if b < 0x200000 then (if b < 0x160080 then some i else none)
  else if b < 0x300000 then some 77
  else if b < 0x400000 then some (69 + i / 4)
  else if b < 0x600000 then (if (regShape r).n1 = 208 then some (28 + i / 8) else none)
  else if b < 0x700000 then some 75
  else if b < 0x760000 then (if b = 0x700000 then some (54 + i) else if b < 0x710000 then none else some (54 + decBank i))
  else if b < 0x760100 then some (24 + i / 2)
  else if b < 0x760200 then some (24 + i / 3)
  else if b < 0x800000 then none
  else if b < 0x900000 then some 74
  else if b < 0xA00000 then (if b = 0x900010 then some (58 + i) else if b < 0x910000 then none else some (58 + sliceOf i))
  else if b < 0xB00000 then some 62
  else if b < 0xC00000 then (if (regShape r).n1 = 2 then some (66 + i) else some 66)
  else if b < 0xC10000 then some 68
  else if b < 0xD00000 then none
  else if b < 0xE00000 then some 73
  else none

/-- Whether a register lies in the blocks that answer before RUN has been reached: GLB_, EVT_, BOOT_, FLT_, PWR_ and RPR_. -/
def bootReg (r : Reg) : Bool :=
  let b := (regShape r).base
  decide (b < 0x100000) || decide (0xC10000 ≤ b ∧ b < 0xD00000) || decide (0xE00000 ≤ b)

/-- Whether the decimation registers outside the contexts answer (R39, R268): the coefficients and the header of a bank lie in the domain of
the decimation bank that DEC_COEF_ADDR names; its address, its status and the half-band constants stand in all four domains. -/
def State.domReg (s : State) (r : Reg) : Bool :=
  let b := (regShape r).base
  if b = 0x700014 ∨ b = 0x700018 then s.domOn (54 + s.fd F.DEC_COEF_ADDR_bank / 64)
  else if 0x700010 ≤ b ∧ b < 0x710000 then (natsFrom 54 4).any s.domOn
  else true

/-- Whether a register answers: in POWERUP and BOOT those of `bootReg` only, later every one whose power domain is on (R39, R481, R503). -/
def State.answers (s : State) (r : Reg) (i : Nat) : Bool :=
  match s.dev.st with
  | .powerup => bootReg r
  | .boot => bootReg r
  | _ => s.domReg r && match regDomain r i with | some d => s.domOn d | none => true

/-- Whether a request of this requester reaches the registers: PCIe is answered from BOOT on, in D0 and with PERST_N high (R475, R537). -/
def State.reaches (s : State) : Requester → Bool
  | .smbus => true
  | .pcie _ => s.dev.st != .powerup && ! s.evt.d3hot && ! s.dev.perstLow

/-- A host request in WATCH returns the link to L0 (R476). -/
def State.hostTouch (s : State) : Requester → State
  | .smbus => s
  | .pcie _ => if s.bit F.HST_LINK_l1 then s.setFd F.HST_LINK_l1 0 else s

/-! ### What registers show -/

/-- The record that FLT_SEL names. -/
def State.fltSel (s : State) : Option FaultRec := s.frec (s.fd F.FLT_SEL_index)

/-- A figure of the record that FLT_SEL names, zero where it is not open. -/
def State.fltShow (s : State) (f : FaultRec → Nat) : Word := match s.fltSel with | some r => w32 (f r) | none => 0

/-- FLT_REC_STS (R363, R591). -/
def State.fltRecSts (s : State) : Word :=
  let o := b2n (s.fd F.FLT_SEL_index == 63)
  s.fltShow fun r => r.unit + 2 ^ 16 * b2n r.live + 2 ^ 17 * b2n r.ack + 2 ^ 18 * b2n r.esc + 2 ^ 19 * o + 2 ^ 20

/-- Microseconds left on the timer of the record that FLT_SEL names. -/
def State.fltTmr (s : State) : Word :=
  s.fltShow fun r => match r.deadline with | some d => (d - s.time + 624) / 625 | none => 0

/-- FLT_STS (R592). -/
def State.fltSts (s : State) : Word :=
  let l := s.openRecs
  w32 (l.length + 2 ^ 7 * b2n (s.frec 63).isSome + 2 ^ 8 * l.foldl (fun m r => max m r.cls) 0 +
    2 ^ 10 * b2n (l.any fun r => decide (1 ≤ r.cls) && ! r.ack))

/-- Open records as a mask of 64 bits. -/
def State.fltOpen (s : State) : Nat := (natsFrom 0 64).foldl (fun m i => m + b2n (s.frec i).isSome * 2 ^ i) 0

/-- A mask of `n` bits. -/
def maskOf (n : Nat) (f : Nat → Bool) : Nat := (natsFrom 0 n).foldl (fun m i => m + b2n (f i) * 2 ^ i) 0

/-- The repair summaries (R595). -/
def State.rprShow (s : State) : Reg → Word
  | .RPR_LANE => w32 (((natsFrom 0 24).filter fun q => s.laneState (spareOf q) == 3).length +
      2 ^ 8 * ((natsFrom 0 221).filter fun l => s.laneState l == 5).length)
  | .RPR_NOSPARE => w32 (maskOf 24 s.noSpare)
  | .RPR_ENG => w32 (s.engCount 1 + 2 ^ 8 * s.engCount 4 + 2 ^ 16 * s.boot.reserve)
  | .RPR_MADC => w32 (maskOf 4 (fun t => (natsFrom (3 * t) 3).any fun c => s.madcState c == 1 && (s.madc c).passed) +
      2 ^ 8 * ((natsFrom 0 12).filter fun c => s.madcState c == 2).length)
  | .RPR_QROW =>
    w32 ((natsFrom 0 4).foldl (fun m k => min m (s.fd F.QUE_SLICE_STS_spares k)) 256 +
      2 ^ 16 * maskOf 4 (fun k => (natsFrom 0 1280).any fun q => sliceOf q == k && (s.queue q).bad))
  | .RPR_LDG => w32 (s.fd F.LDG_SPARE_spares)
  | .RPR_DRAM => w32 (4096 - s.fd F.DRM_RETIRE_pages)
  | .RPR_DEC => w32 ((natsFrom 0 4608).filter fun n => (s.dctx n).st == 0).length
  | _ => 0

/-- DEC_CTX_STS (R281): `staged` while the staging registers differ from the running configuration, whose bank is the current one. -/
def State.decStsShow (s : State) (n : Nat) : Word :=
  let c := s.dctx n
  let run : DecCfg := { c.cfg with bank := c.cur }
  let j := match c.fade with | some f => f.j | none => 0
  w32 ((s.rg .DEC_CTX_STS n).toNat / 16 % 2 ^ 12 * 16 + c.st % 4 + 4 * b2n c.supp.isSome + 8 * b2n (c.st != 0 && s.staged n != run) + 2 ^ 16 * (j % 4096))

/-- DEC_CTX_COEF (R281). -/
def State.decCoefShow (s : State) (n : Nat) : Word :=
  let c := s.dctx n
  let p := match c.req with | some r => r.bank | none => 0
  w32 (s.fd F.DEC_CTX_COEF_bank n + 2 ^ 8 * (c.cur % 256) + 2 ^ 16 * (p % 256) + 2 ^ 24 * b2n c.fade.isSome + 2 ^ 25 * b2n c.req.isSome)

/-- DEC_BANK_STS (R280). -/
def State.decBankShow (s : State) (b : Nat) : Word := w32 (s.bankCost b % 2 ^ 16 + 2 ^ 16 * (s.bankCtxs b).length)

/-- QUE_Q_COUNT (R373). -/
def State.queCountShow (s : State) (q : Nat) : Word :=
  let u := s.queue q
  w32 (u.depth (isXq q) % 2 ^ 13 + 2 ^ 13 * b2n u.marker.isSome + 2 ^ 14 * b2n u.opn.isSome + 2 ^ 15 * b2n (! u.disc.isEmpty) +
    2 ^ 16 * s.fd F.QUE_Q_COUNT_drops q)

/-- ENG_CTXx (R441). -/
def State.engCtxShow (s : State) (e x : Nat) : Word :=
  let c := s.ctx e x
  w32 (c.task % 4096 + 2 ^ 12 * b2n c.valid + 2 ^ 13 * b2n c.blocked + 2 ^ 14 * b2n c.opn + 2 ^ 15 * b2n (c.valid && (c.moving || s.taskInMove c.task)) +
    2 ^ 16 * s.fd F.ENG_CTX_drops e x)

/-- Contexts of an engine in use. -/
def State.ctxsUsed (s : State) (e : Nat) : Nat := ((natsFrom 0 32).filter fun x => (s.ctx e x).valid).length

/-- The word of the control store that an engine's ENG_CS_ADDR names. -/
def State.csWord (s : State) (e : Nat) : Nat := (Tab.get 0 s.eng.store (s.fd F.ENG_CS_ADDR_word e)).toNat

/-- Parity bit of a quarter: odd over the quarter and its bit (R415). -/
def quarterParity (w q : Nat) : Nat := ((natsFrom (32 * q) 32).foldl (fun p i => p + b2n (natBit w i)) 1) % 2

/-- ENG_TASK_INFO (R439). -/
def State.taskInfo (s : State) : Word :=
  match s.task (s.fd F.ENG_TASK_SEL_task) with
  | some k => w32 (k.eng % 256 + 2 ^ 8 * (k.ctx % 32) + 2 ^ 13 + 2 ^ 14 * b2n (k.moving || s.taskInMove (s.fd F.ENG_TASK_SEL_task)) + 2 ^ 16 * (k.outq % 2048))
  | none => 0

/-- EVT_ALERT (R507). -/
def State.evtAlertShow (s : State) : Word :=
  let a := match s.alertSrc with | some i => i + 2 ^ 15 | none => 0
  w32 (a + 2 ^ 16 * b2n s.evt.alertPin)

/-- QUE_Q_CFG: for XQ0 to XQ47 en reads 1 and the other fields zero (R371). -/
def State.queCfgShow (s : State) (q : Nat) : Word := if 1024 ≤ q ∧ q < 1072 then 1 else s.rg .QUE_Q_CFG q

/-- Word of the Ledger that LDG_RD_ADDR names. -/
def State.ldgWord (s : State) : Word := w32 (leAt (s.physLine (s.fd F.LDG_RD_ADDR_line)) (4 * s.fd F.LDG_RD_ADDR_word) 4)

/-- TB_TBL_DATA: an entry of a calibration table (R136). -/
def State.tblShow (s : State) : Word :=
  let l := s.fd F.TB_TBL_ADDR_lane
  if 220 < l then 0 else w32 (s.tableEntry l (s.fd F.TB_TBL_ADDR_entry))

/-- What the coefficient that DEC_COEF_ADDR names reads as. -/
def State.coefShow (s : State) : Word := w32 (s.coef (s.fd F.DEC_COEF_ADDR_bank) (s.fd F.DEC_COEF_ADDR_index)).toNat

/-- What a register that the block forms from its state shows; every other one shows what it stores. -/
def State.shown (s : State) (r : Reg) (i j : Nat) : Word :=
  match r with
  | .GLB_HZN_D_LO => loWord (stamp (s.hD * 512))
  | .GLB_HZN_D_HI => hiWord (stamp (s.hD * 512))
  | .GLB_HZN_R_LO => loWord (stamp (s.hR * 512))
  | .GLB_HZN_R_HI => hiWord (stamp (s.hR * 512))
  | .PRT_LVL => s.lvlWord i
  | .PRT_LVL_ALL => s.lvlAll i
  | .TB_NOW_LO => loWord (stamp (s.nowTick * 512))
  | .TB_NOW_HI => hiWord (stamp (s.nowTick * 512))
  | .TB_EPOCH => w32 (s.nowTick / epochTicks % 2 ^ 16)
  | .TB_TBL_DATA => s.tblShow
  | .TLY_STS => w32 (s.countInexact + 2 ^ 16 * s.countBound)
  | .LDG_STS => setBits (s.rg .LDG_STS) 0 2 s.ldgWr
  | .LDG_MIG => w32 s.ldgMig
  | .LDG_RD_DATA => s.ldgWord
  | .DEC_BANK_STS => s.decBankShow i
  | .DEC_COEF_DATA => s.coefShow
  | .DEC_COEF_HDR => s.coefHdr (s.fd F.DEC_COEF_ADDR_bank)
  | .DEC_HB_COEF => w32 (uNat 24 (hbAt i))
  | .DEC_CTX_STS => s.decStsShow i
  | .DEC_CTX_COEF => s.decCoefShow i
  | .DEC_CTX_SEQ => w32 (s.dctx i).seq
  | .DEC_CTX_SETTLE => w32 (sat 65535 (s.decSmax (s.dctx i)) + 2 ^ 16 * s.fd F.DEC_CTX_SETTLE_last i)
  | .TRG_STS =>
    let differs := match (s.pip i).cfg with | some c => s.fd F.TRG_STS_state i == 1 && c != s.pipStaged i | none => false
    setBits (s.rg .TRG_STS i) 2 1 (b2n differs)
  | .QUE_Q_CFG => s.queCfgShow i
  | .QUE_Q_COUNT => s.queCountShow i
  | .ENG_POOL => w32 (s.engCount 0 + 2 ^ 8 * s.engCount 1 + 2 ^ 16 * s.engCount 4)
  | .ENG_TASK_INFO => s.taskInfo
  | .ENG_STS => setBits (s.rg .ENG_STS i) 4 6 (s.ctxsUsed i)
  | .ENG_USE => w32 (s.frameUsed i % 2 ^ 17 + 2 ^ 17 * (s.binsUsed i % 2 ^ 11))
  | .ENG_CS_DATA => w32 (natBits (s.csWord i) (32 * s.fd F.ENG_CS_ADDR_quarter i) 32)
  | .ENG_CS_PAR => w32 ((natsFrom 0 4).foldl (fun m q => m + quarterParity (s.csWord i) q * 2 ^ q) 0)
  | .ENG_CTX => s.engCtxShow i j
  | .HST_LINK => setBits (setBits (s.rg .HST_LINK) 9 1 (b2n s.evt.bme)) 10 1 (b2n s.evt.msixEn)
  | .EVT_ALERT => s.evtAlertShow
  | .BOOT_FL_DATA => w32 (ofLe (Memory.readN 0 s.boot.page (4 * s.fd F.BOOT_FL_IDX_idx) 4))
  | .FLT_STS => s.fltSts
  | .FLT_OPEN_LO => loWord s.fltOpen
  | .FLT_OPEN_HI => hiWord s.fltOpen
  | .FLT_REC_HDR => s.fltShow fun f => s.fd F.FLT_SEL_index + 2 ^ 6 * f.cls + 2 ^ 8 * f.merges + 2 ^ 16 * f.code
  | .FLT_REC_STS => s.fltRecSts
  | .FLT_REC_CAUSE => s.fltShow fun f => f.cause
  | .FLT_REC_DETAIL => s.fltShow fun f => f.detail
  | .FLT_REC_T0_LO => s.fltShow fun f => stamp f.opened % 2 ^ 32
  | .FLT_REC_T0_HI => s.fltShow fun f => stamp f.opened / 2 ^ 32
  | .FLT_REC_TL_LO => s.fltShow fun f => stamp f.seen % 2 ^ 32
  | .FLT_REC_TL_HI => s.fltShow fun f => stamp f.seen / 2 ^ 32
  | .FLT_REC_TMR => s.fltTmr
  | .RPR_LANE => s.rprShow .RPR_LANE
  | .RPR_NOSPARE => s.rprShow .RPR_NOSPARE
  | .RPR_ENG => s.rprShow .RPR_ENG
  | .RPR_MADC => s.rprShow .RPR_MADC
  | .RPR_QROW => s.rprShow .RPR_QROW
  | .RPR_LDG => s.rprShow .RPR_LDG
  | .RPR_DRAM => s.rprShow .RPR_DRAM
  | .RPR_DEC => s.rprShow .RPR_DEC
  | _ => s.rg r i j

/-! ### Reads -/

/-- Offset of the low word of a pair's copy. -/
def pairOff (lo : Reg) (i j : Nat) : Nat := regAddr lo i j

/-- A read of one register that answers, as a state and the word returned (R7, R12, R280, R370, R558). The registers whose read acts on
more than their own fields stand in `regReadAct`. -/
def State.regRead (s : State) (who : Requester) (r : Reg) (i j : Nat) : State × Word :=
  let v := s.shown r i j
  match pairHigh r with
  | some hi => ((s.noteShadow who (pairOff r i j) (s.shown hi i j)), v)
  | none => match pairLow r with
    | some lo => s.takeShadow who (pairOff lo i j) v
    | none => if hasRc r then (s.clearRc r i j, v) else (s, v)

/-- A read of a register, with its completion. What PWR_VIN and PWR_RAIL measure nothing in the
state decides: a free value (R577, R593). -/
def State.regReadAct (s : State) (who : Requester) (r : Reg) (i j : Nat) : State :=
  match r with
  | .QUE_POP_W => if i = 0 then quePopW0Read who s else s.emit (.readData who (regAddr r i j) (s.shown r i j))
  | .BOOT_FL_DATA => flDataAccess who none s
  | .DEC_COEF_DATA => (decCoefDataAccess none s).emit (.readData who (regAddr r i j) (s.shown r i j))
  | .PWR_VIN => let x := s.free; x.2.emit (.readData who (regAddr r i j) (w32 x.1))
  | .PWR_RAIL => let x := s.free; x.2.emit (.readData who (regAddr r i j) (w32 x.1))
  | _ => let x := s.regRead who r i j; x.1.emit (.readData who (regAddr r i j) x.2)

/-- An Unsupported Request, or a Completer Abort, is given and counted. -/
def State.unsupported (s : State) : State := ((s.addSat F.HST_ERR_CNT_ur 1).hstSts F.HST_STS_req_err).emit .unsupported
def State.completerAbort (s : State) : State := ((s.addSat F.HST_ERR_CNT_ca 1).hstSts F.HST_STS_req_err).emit .completerAbort

/-- A read at a BAR0 offset (R11, R39, R478, R503); one that no aligned word answers to is no access of whole words. A register that does not answer reads zero. -/
def busRead (who : Requester) (off : Nat) (s : State) : State :=
  if s.reaches who = false then s
  else
    let s1 := s.hostTouch who
    match regAt off with
    | some (r, i, j) => if s1.answers r i then s1.regReadAct who r i j else s1.emit (.readData who off 0)
    | none => if who.isPcie = true ∧ off % 4 ≠ 0 then s1.completerAbort else s1.emit (.readData who off 0)

/-- What a read of BAR4 returns (R508): the MSI-X table, the PBA, and zero elsewhere. -/
def State.bar4Word (s : State) (off : Nat) : Word :=
  if off < 0x2000 then s.msixWord (off / 16) (off / 4 % 4)
  else if off < 0x2040 then w32 (maskOf 32 fun i => s.evt.pba.contains (8 * (off - 0x2000) + i))
  else 0

/-- A read by a host or by the SMBus target; a host's offset at or above 2^24 names BAR4 (R477, R508). -/
def windowRead (who : Requester) (off : Nat) (s : State) : State :=
  if off < 2 ^ 24 ∨ who.isPcie = false then busRead who off s
  else if s.reaches who = false then s
  else (s.hostTouch who).emit (.readData who off (s.bar4Word (off - 2 ^ 24)))

/-- RC_FIELD_READ (R8). -/
def rcFieldRead (who : Requester) (off : Nat) (s : State) : State := windowRead who off s
/-- PAIR_LOW_READ (R12). -/
def pairLowRead (who : Requester) (off : Nat) (s : State) : State := windowRead who off s
/-- PAIR_HIGH_READ (R12). -/
def pairHighRead (who : Requester) (off : Nat) (s : State) : State := windowRead who off s

/-! ### BAR2 (R478, R479) -/

/-- DRAM address of an offset in the BAR2 window: bits of base below the window's size are taken as zero. -/
def State.bar2Addr (s : State) (off : Nat) : Nat :=
  let units := 2 ^ (s.evt.bar2 - 28)
  2 ^ 28 * (s.fd F.HST_BAR2_BASE_base / units * units) + off

/-- BAR2_READ: data from DRAM below the reserve, poisoned with EP, or Unsupported Request. -/
def bar2Read (off len : Nat) (s : State) : State :=
  if s.reaches (.pcie 0) = false then s
  else
    let s1 := s.hostTouch (.pcie 0)
    let a := s1.bar2Addr off
    if s1.ddrUsed.isEmpty = true ∨ s1.dramOn = false ∨ s1.dev.st = .boot ∨ 2 ^ s1.evt.bar2 < off + len ∨ s1.reserveBase < a + len then
      s1.unsupported
    else
      (s1.notePoison a len).emit (.bar2Data a (Memory.readN 0 s1.dram a len) (decide (s1.poisonIn a len ≠ 0)))

def execRcFieldRead (who : Requester) (off : Nat) (s : State) : Host.Outcome State Fault Refusal := .next (rcFieldRead who off s)
def execPairLowRead (who : Requester) (off : Nat) (s : State) : Host.Outcome State Fault Refusal := .next (pairLowRead who off s)
def execPairHighRead (who : Requester) (off : Nat) (s : State) : Host.Outcome State Fault Refusal := .next (pairHighRead who off s)
def execBar2Read (off len : Nat) (s : State) : Host.Outcome State Fault Refusal := .next (bar2Read off len s)

end Sys2Proof.Machine
end

