-- ==== Sys2Proof/Machine/Bus.lean ====
section
/-! DEFINITION. Writes of registers (R7–R12): each by its access codes and with the effect that its chapter gives it; the host's other
windows, the SMBus target (R502–R504), configuration requests and events. -/

namespace Sys2Proof.Machine

/-- A field of a written word. -/
def wf (w : Word) (f : Fld) : Nat := bitsOf w f.lo f.w

/-! ### Commands written to a register -/

/-- GLB_CMD (R42). Whether VIN is below the threshold at a RESUME is outside what the block stores: a free value. -/
def glbCmdWrite (w : Word) (s : State) : State :=
  match wf w F.GLB_CMD_cmd with
  | 1 => enterWatch s
  | 2 => let x := s.free; resumeCmd (x.1 % 2 == 1) x.2
  | 3 => haltCmd s
  | _ => s

/-- TB_OUT_CFG. -/
def outCfgWrite (w : Word) (s : State) : State := s.putOut ((s.putFields .TB_OUT_CFG w).rg .TB_OUT_CFG)

/-- PRT_CHK_CTL (R83, R86, R99): with both bits set, the abort comes first (assumption log 128). -/
def chkCtlWrite (p : Nat) (w : Word) (s : State) : State :=
  let s1 := s.putFields .PRT_CHK_CTL w p
  let s2 := if wf w F.PRT_CHK_CTL_abort = 1 then checkAbort p s1 else s1
  if wf w F.PRT_CHK_CTL_run = 1 then checkRun p s2 else s2

/-- TB_CAL_CMD (R136). -/
def calCmdWrite (w : Word) (s : State) : State :=
  let l := wf w F.TB_CAL_CMD_lane
  if 220 < l then s
  else match wf w F.TB_CAL_CMD_op with
    | 1 => tbCalibrate l s
    | 2 => tbRetry l s
    | 3 => tbHandover l s
    | 4 => tbReturn l s
    | _ => s

/-- TLY_CMD (R231): a reserved slot number is refused with result 2 by the operation itself; ops 4 to 7 are no command (R10). -/
def tlyCmdWrite (w : Word) (s : State) : State :=
  let sl := wf w F.TLY_CMD_slot
  match wf w F.TLY_CMD_op with
    | 1 => clearInexact sl s
    | 2 => tlyZero sl s
    | 3 => tlyPreset sl s
    | _ => s

/-- LDG_CMD (R233). -/
def ldgCmdWrite (w : Word) (s : State) : State :=
  match wf w F.LDG_CMD_op with
  | 1 => checkpointCmd s
  | 2 => releaseHold s
  | _ => s

/-- DEC_CTX_CMD (R281): a FADE with at = 0 takes effect at the next output. -/
def decCmdWrite (n : Nat) (w : Word) (s : State) : State :=
  let named := wf w F.DEC_CTX_CMD_at == 1
  match wf w F.DEC_CTX_CMD_op with
  | 1 => s.decStart n (s.decPoint n named)
  | 2 => s.decStop n (s.decPoint n named)
  | 3 => s.decApply n (s.decPoint n named) 0
  | 4 => s.decFade n (wf w F.DEC_CTX_CMD_bank) (wf w F.DEC_CTX_CMD_code) (if named then s.decPoint n true else 0) 0
  | _ => s

/-- A write to a staging register of a context: DEC_CTX_CFG.preset loads the stage fields, and a write to one makes the preset custom
(R263). -/
def decStageWrite (r : Reg) (n : Nat) (w : Word) (s : State) : State :=
  (s.putFields r w n).presetRule s r 0xFFFFFFFF w n

/-- MADC_CMD (R282). -/
def madcCmdWrite (w : Word) (s : State) : State :=
  let c := wf w F.MADC_CMD_conv
  if 11 < c then s
  else match wf w F.MADC_CMD_op with
    | 1 => madcSubstitute c s
    | 2 => madcCheckCmd c s
    | 3 => madcRetry c s
    | _ => s

/-- TRG_CMD (R324). -/
def trgCmdWrite (n : Nat) (w : Word) (s : State) : State :=
  let at_ := s.trgAt n (wf w F.TRG_CMD_at == 1)
  if s.pipUnit n = false then s
  else match wf w F.TRG_CMD_op with
    | 1 => s.pipEnable n at_ 0
    | 2 => s.pipDisable n at_ 0
    | 3 => s.pipApply n at_ 0
    | 4 => s.pipSoft n (wf w F.TRG_CMD_soft_mask) at_
    | _ => s

/-- ACQ_CMD (R326). -/
def acqCmdWrite (a : Nat) (w : Word) (s : State) : State :=
  let at_ := s.acqAt a (wf w F.ACQ_CMD_at == 1)
  match wf w F.ACQ_CMD_op with
  | 1 => s.acqArm a at_
  | 2 => s.acqStop a at_
  | _ => s

/-- A configuration register of an acquisition unit, which it ignores while armed (R306). -/
def acqCfgWrite (r : Reg) (a j : Nat) (w : Word) (s : State) : State :=
  if s.acqArmed a then s.setFd F.ACQ_STS_cfg_err 1 a else s.putFields r w a j

/-- QUE_CMD (R372). How many rows of a tested queue are faulty is a property of the silicon: a free value. -/
def queCmdWrite (w : Word) (s : State) : State :=
  match wf w F.QUE_CMD_op with
  | 1 => let x := s.free; queTest (wf w F.QUE_CMD_queue) x.1 x.2
  | 2 => queLevel s
  | _ => s

/-- QUE_CTL (R371, R373): skip_pkt only for consumer 4. -/
def queCtlWrite (q : Nat) (w : Word) (s : State) : State :=
  let s1 := if wf w F.QUE_CTL_skip_pkt = 0 then s
    else if s.fd F.QUE_Q_CFG_cons q = 4 ∧ (q < 1024 ∨ 1072 ≤ q) then skipPkt q s else s.setFd F.QUE_Q_STS_cfg_err 1 q
  if wf w F.QUE_CTL_flush = 1 then queFlush q s1 else s1

/-- The queues of the system packets that are enabled (R372). -/
def State.sysQueues (s : State) : List Nat :=
  (if s.bit F.QUE_SYSQ_FLT_en then [s.fd F.QUE_SYSQ_FLT_queue] else []) ++
    (if s.bit F.QUE_SYSQ_LNK_en then [s.fd F.QUE_SYSQ_LNK_queue] else []) ++ (if s.bit F.QUE_SYSQ_LVL_en then [s.fd F.QUE_SYSQ_LVL_queue] else [])

/-- QUE_SYSQ_x: a queue that becomes a stream begins with an EPOCH record (R109). -/
def sysqWrite (r : Reg) (w : Word) (s : State) : State :=
  let s1 := s.putFields r w
  let fresh := (distinct s1.sysQueues).filter fun q => ! s.sysQueues.contains q
  fresh.foldl (fun (t : State) q => (t.pushPkt q prodRouter .rtr [t.epochRec]).1) s1

/-- LNK_CFG and CAS_LNK_CFG: en starts or stops the link; a rate waits for the next training (R406). -/
def linkCfgWrite (r : Reg) (i l : Nat) (w : Word) (s : State) : State :=
  let was := natBit (s.rg r i).toNat 0
  let s1 := s.putFields r w i
  let now := natBit (s1.rg r i).toNat 0
  if was == now then s1 else if now then s1.linkStart l else s1.linkOff l

/-- LNK_CMD (R406). -/
def lnkCmdWrite (l : Nat) (w : Word) (s : State) : State :=
  match wf w F.LNK_CMD_op with
  | 1 => lnkRetrain l s
  | 2 => lnkAudit l s
  | _ => s

/-- ENG_CMD (R439). -/
def engCmdWrite (w : Word) (s : State) : State :=
  match wf w F.ENG_CMD_op with
  | 1 => engHandover (wf w F.ENG_CMD_task) (wf w F.ENG_CMD_eng) s
  | 2 => evacuate (wf w F.ENG_CMD_eng) (wf w F.ENG_CMD_tgt) s
  | 3 => engRetry (wf w F.ENG_CMD_eng) s
  | _ => s

/-- DRM_CMD (R470). -/
def drmCmdWrite (w : Word) (s : State) : State :=
  match wf w F.DRM_CMD_op with
  | 1 => drmRetire s
  | 2 => drmScrubNow s
  | 3 => resetRing (wf w F.DRM_CMD_region) s
  | _ => s

/-- A drive that NVS_CFG.en no longer names: ABSENT, with the extents it was writing given back (R458, R472). -/
def State.driveOff (s : State) (d : Nat) : State := (s.driveLost d).setDrv d 0

/-- NVS_CFG: a drive newly in use is initialised (R461), and wrap restarts a full one (R463). -/
def nvsCfgWrite (w : Word) (s : State) : State :=
  let was := s.fd F.NVS_CFG_en
  let s1 := s.putFields .NVS_CFG w
  let now := s1.fd F.NVS_CFG_en
  let s2 := (natsFrom 0 2).foldl (fun (t : State) d =>
    if natBit now d && ! natBit was d then t.setDrv d 1 else if natBit was d && ! natBit now d then t.driveOff d else t) s1
  s2.nvNone.spillGive

/-- NVS_CMD (R472). -/
def nvsCmdWrite (w : Word) (s : State) : State :=
  match wf w F.NVS_CMD_op with
  | 1 => nvsReinit (wf w F.NVS_CMD_drive) s
  | 2 => nvsFlush (wf w F.NVS_CMD_drive) s
  | 3 => nvsFormat (wf w F.NVS_CMD_drive) s
  | _ => s

/-- HST_CQ_CFG (R505); what was fetched of a group is dropped with the queue. -/
def cqCfgWrite (w : Word) (s : State) : State :=
  let was := s.bit F.HST_CQ_CFG_en
  let s1 := s.putFields .HST_CQ_CFG w
  if was then
    let s2 := s1.setFd F.HST_CQ_CFG_size (s.fd F.HST_CQ_CFG_size)
    if wf w F.HST_CQ_CFG_size = s.fd F.HST_CQ_CFG_size then s2 else s2.hstSts F.HST_STS_cq_err
  else if s1.bit F.HST_CQ_CFG_en then (s1.setRg .HST_CQ_PTR 0).setHst fun h => { h with group := [] } else s1

/-- HST_CPL_CFG (R496, R505): the phase starts at 1. -/
def cplCfgWrite (w : Word) (s : State) : State :=
  let was := s.bit F.HST_CPL_CFG_en
  let s1 := s.putFields .HST_CPL_CFG w
  if was then
    let s2 := s1.setFd F.HST_CPL_CFG_size (s.fd F.HST_CPL_CFG_size)
    if wf w F.HST_CPL_CFG_size = s.fd F.HST_CPL_CFG_size then s2 else s2.hstSts F.HST_STS_cq_err
  else if s1.bit F.HST_CPL_CFG_en then (s1.setRg .HST_CPL_PTR 0).setHst fun h => { h with phase := true, cpls := [] } else s1

/-- EVT_ROUTE: a source active now that is newly routed to the alert drives the pin, and the pin goes when no such source is left (R504). -/
def evtRouteWrite (src : Nat) (w : Word) (s : State) : State :=
  let was := s.bit F.EVT_ROUTE_alert src
  let s1 := s.putFields .EVT_ROUTE w src
  let s2 := if s1.bit F.EVT_ROUTE_alert src && ! was && s1.evActive src then { s1 with evt := { s1.evt with alertPin := true } } else s1
  s2.alertRefresh

/-- CAS_CMD (R534). -/
def casCmdWrite (w : Word) (s : State) : State :=
  match wf w F.CAS_CMD_op with
  | 1 => resetAll s
  | 2 => resync s
  | _ => s

/-- BOOT_CMD (R560). CONTINUE and RESTART boot on what the world showed at the last boot. -/
def bootCmdWrite (w : Word) (s : State) : State :=
  match wf w F.BOOT_CMD_op with
  | 1 => softReset s
  | 2 => match s.boot.env with | some e => continueBoot e s | none => s.bootCmdSts 2 2
  | 3 => match s.boot.env with | some e => restartBoot e s | none => s.bootCmdSts 3 2
  | 4 => otpDigest s
  | 5 => otpDigEn s
  | 6 => otpJtag (wf w F.BOOT_CMD_level) s
  | _ => s

/-- BOOT_FL_CMD (R560). -/
def flCmdWrite (w : Word) (s : State) : State :=
  match wf w F.BOOT_FL_CMD_op with
  | 1 => flashReadCmd s
  | 2 => flashProgram s
  | 3 => flashErase s
  | _ => s

/-- FLT_CTL (R572, R592): esc_en while unlocked, and the lock, which sticks. A record of a class that no longer runs timers stops its own. -/
def fltCtlWrite (w : Word) (s : State) : State :=
  let s1 := s.putFields .FLT_CTL w 0 0 (s.rwlLocked .FLT_CTL)
  (natsFrom 0 64).foldl (fun (t : State) i => match t.frec i with
    | some r => if t.escOn r.cls then t else t.setFrec i (some { r with deadline := none })
    | none => t) s1

/-- FLT_ACK (R592). -/
def fltAckWrite (w : Word) (s : State) : State :=
  match wf w F.FLT_ACK_op with
  | 1 => fltAck (wf w F.FLT_ACK_index) s
  | 2 => fltClear (wf w F.FLT_ACK_index) s
  | _ => s

/-- PWR_DOM_REQ (R594). -/
def domReqWrite (w : Word) (s : State) : State :=
  let d := wf w F.PWR_DOM_REQ_dom
  if 80 ≤ d then s
  else match wf w F.PWR_DOM_REQ_op with
    | 1 => domainOff d s
    | 2 => domainOn d s
    | _ => s

/-- PWR_TEMP_THR: limits in ascending order, trip 100 to 125 (R594). -/
def tempThrWrite (w : Word) (s : State) : State :=
  if bitsOf w 0 8 < bitsOf w 8 8 ∧ bitsOf w 8 8 < bitsOf w 16 8 ∧ 100 ≤ bitsOf w 16 8 ∧ bitsOf w 16 8 ≤ 125 then
    s.putFields .PWR_TEMP_THR w
  else s

/-! ### One register -/

/-- A write of one register that answers and is no half of a writable pair: its access codes and its own effect. -/
def State.regWrite (s : State) (who : Requester) (r : Reg) (i j : Nat) (w : Word) : State :=
  match r with
  | .GLB_CMD => glbCmdWrite w s
  | .PRT_CFG => prtCfgWrite i w s
  | .PRT_WIN => prtWinWrite i w s
  | .PRT_HYST => prtHystWrite i w s
  | .PRT_FILT => prtFiltWrite i w s
  | .PRT_PSC => prtPscWrite i w s
  | .PRT_EVT_EN => (s.putFields r w i).portEvents i
  | .PRT_EVT_STS => (s.putFields r w i).portEvents i
  | .PRT_CHK_CTL => chkCtlWrite i w s
  | .TB_REF_CFG => s.putFields r w 0 0 (s.rwlLocked r)
  | .TB_OUT_CFG => outCfgWrite w s
  | .TB_CAL_CMD => calCmdWrite w s
  | .TLY_CMD => tlyCmdWrite w s
  | .TLY_CFG => tlyCfgWrite i false w.toNat s
  | .LDG_CMD => ldgCmdWrite w s
  | .DEC_COEF_DATA => decCoefDataAccess (some w) s
  | .DEC_COEF_HDR => decCoefHdrWrite w s
  | .DEC_CTX_CFG => decStageWrite r i w s
  | .DEC_CTX_CIC => decStageWrite r i w s
  | .DEC_CTX_SHIFT_A => decStageWrite r i w s
  | .DEC_CTX_SHIFT_B => decStageWrite r i w s
  | .DEC_CTX_COEF => decStageWrite r i w s
  | .DEC_CTX_OUTQ => if s.fabricQueue (wf w F.DEC_CTX_OUTQ_queue) then s.putFields r w i else s
  | .DEC_CTX_CMD => decCmdWrite i w s
  | .MADC_TAP => madcTapWrite i w s
  | .MADC_CMD => madcCmdWrite w s
  | .TRG_CFG => (s.putFields r w i).pipEvt i
  | .TRG_OUTQ => if s.fabricQueue (wf w F.TRG_OUTQ_queue) then s.putFields r w i else s
  | .TRG_CMD => trgCmdWrite i w s
  | .TRG_STS => (s.putFields r w i).pipEvt i
  | .TRG_PIN => trgPinWrite i w s
  | .ACQ_CMD => acqCmdWrite i w s
  | .ACQ_STS => (s.putFields r w i).pipEvt i
  | .ACQ_SEG_RD => acqSegRdWrite i w.toNat s
  | .ACQ_CFG => acqCfgWrite r i j w s
  | .ACQ_PRE => acqCfgWrite r i j w s
  | .ACQ_POST => acqCfgWrite r i j w s
  | .ACQ_POST_T => acqCfgWrite r i j w s
  | .ACQ_NSEG => acqCfgWrite r i j w s
  | .ACQ_HOLDOFF => acqCfgWrite r i j w s
  | .ACQ_REGION => acqCfgWrite r i j w s
  | .ACQ_STAGE => acqCfgWrite r i j w s
  | .ACQ_CHMASK => acqCfgWrite r i j w s
  | .ACQ_RRANGE => acqCfgWrite r i j w s
  | .QUE_CMD => queCmdWrite w s
  | .QUE_SYSQ_FLT => sysqWrite r w s
  | .QUE_SYSQ_LNK => sysqWrite r w s
  | .QUE_SYSQ_LVL => sysqWrite r w s
  | .QUE_Q_CFG => queQCfgWrite i w s
  | .QUE_Q_PRI => if i < 1024 then s.putFields r w i else s
  | .QUE_CTL => queCtlWrite i w s
  | .LNK_CFG => linkCfgWrite r i i w s
  | .LNK_STS => (s.putFields r w i).linkLevel i
  | .LNK_CMD => lnkCmdWrite i w s
  | .ENG_CMD => engCmdWrite w s
  | .DRM_CMD => drmCmdWrite w s
  | .NVS_CFG => nvsCfgWrite w s
  | .NVS_CMD => nvsCmdWrite w s
  | .NVS_XR_CMD => if wf w F.NVS_XR_CMD_go = 1 then extentRead s else s
  | .HST_STS => (s.putFields r w).hstLevel
  | .HST_CQ_CFG => cqCfgWrite w s
  | .HST_CPL_CFG => cplCfgWrite w s
  | .HST_CPL_PTR => hstCplPtrWrite w s
  | .HST_RING_NTF0 => (s.putFields r w).hstLevel
  | .HST_RING_NTF1 => (s.putFields r w).hstLevel
  | .HST_RING_CFG => hstRingCfgWrite i w s
  | .EVT_PEND => s.clearPending i w
  | .EVT_MASK => s.writeMask i w
  | .EVT_ROUTE => evtRouteWrite i w s
  | .CAS_STS => (s.putFields r w).linkLevel 16
  | .CAS_CMD => casCmdWrite w s
  | .CAS_LNK_CFG => linkCfgWrite r i (16 + i) w s
  | .CAS_LNK_STS => (s.putFields r w i).linkLevel (16 + i)
  | .CAS_TUNOUT_CFG => casTunnelEnable false i w s
  | .CAS_TUNIN_CFG => casTunnelEnable true i w s
  | .BOOT_CMD => bootCmdWrite w s
  | .BOOT_LOCK => bootLockSet w s
  | .BOOT_FL_DATA => flDataAccess who (some w) s
  | .BOOT_FL_CMD => flCmdWrite w s
  | .FLT_CTL => fltCtlWrite w s
  | .FLT_ESC => s.putFields r w i j (s.rwlLocked r)
  | .FLT_ACK => fltAckWrite w s
  | .FLT_INJ => fltInj (wf w F.FLT_INJ_unit) (wf w F.FLT_INJ_code) s
  | .PWR_STS => (s.putFields r w).pwrLevel
  | .PWR_DOM_REQ => domReqWrite w s
  | .PWR_TMR_CFG => s.putTmr i ((s.putFields r w i).rg r i)
  | .PWR_TEMP_THR => tempThrWrite w s
  | _ => s.putFields r w i j

/-! ### Pairs (R12) -/

/-- Whether a low word belongs to a pair that software writes. -/
def pairWritable : Reg → Bool
  | .TLY_PRESET_LO | .TLY_Q_LO | .DEC_CTX_AT_LO | .TRG_LL_LO | .TRG_UL_LO | .TRG_AT_LO | .ACQ_AT_LO | .DRM_RG_RD_LO | .NVS_XR_ADDR_LO => true
  | .HST_CQ_BASE_LO | .HST_CPL_BASE_LO | .HST_RING_BASE_LO | .HST_RING_WB_LO | .HST_RING_TAIL_LO => true
  | _ => false

/-- Both words of a pair take effect at once. -/
def State.pairCommit (s : State) (lo hi : Reg) (i j v : Nat) : State :=
  match lo with
  | .TLY_Q_LO => tlyCfgWrite i true v s
  | .DRM_RG_RD_LO => drmRgRdWrite i v s
  | .HST_CQ_BASE_LO => if s.bit F.HST_CQ_CFG_en then s.hstSts F.HST_STS_cq_err else s.setPair lo hi v i j
  | .HST_CPL_BASE_LO => if s.bit F.HST_CPL_CFG_en then s.hstSts F.HST_STS_cq_err else s.setPair lo hi v i j
  | .HST_RING_BASE_LO => if s.bit F.HST_RING_CFG_en i then s.setFd F.HST_RING_STS_cfg_err 1 i else s.setPair lo hi v i j
  | .HST_RING_WB_LO => if s.bit F.HST_RING_CFG_en i then s.setFd F.HST_RING_STS_cfg_err 1 i else s.setPair lo hi v i j
  | .HST_RING_TAIL_LO => hstRingTailWrite i v s
  | _ => s.setPair lo hi v i j

/-- A write of a high word: with the low word held for it, or with the present one. -/
def State.highWrite (s : State) (who : Requester) (lo hi : Reg) (i j : Nat) (w : Word) : State :=
  let x := s.takeHeldLow who (pairOff lo i j)
  let l := match x.2 with | some v => v | none => s.rg lo i j
  x.1.pairCommit lo hi i j (pairNat l w)

/-- A write of a register that answers, half of a pair or not. -/
def State.regPut (s : State) (who : Requester) (r : Reg) (i j : Nat) (w : Word) : State :=
  if pairWritable r then s.holdLow who (pairOff r i j) w
  else match pairLow r with
    | some lo => if pairWritable lo then s.highWrite who lo r i j w else (s.dropHeld who).regWrite who r i j w
    | none => (s.dropHeld who).regWrite who r i j w

/-- A write at a BAR0 offset (R11, R39, R503): a register that does not answer ignores it. -/
def busWrite (who : Requester) (off : Nat) (w : Word) (s : State) : State :=
  if s.reaches who = false then s
  else
    let s1 := s.hostTouch who
    match regAt off with
    | some (r, i, j) => if s1.answers r i then s1.regPut who r i j w else s1.dropHeld who
    | none => if who.isPcie = true ∧ off % 4 ≠ 0 then s1.unsupported else s1

/-- A write of BAR4 (R501, R508): the MSI-X table, whose vector control is masked after reset, and the doorbells; the PBA is read only, and other
offsets hold nothing (R478, R508). -/
def bar4Write (off : Nat) (w : Word) (s : State) : State :=
  if off < 0x2000 then
    let v := if off / 4 % 4 = 3 then (w &&& 1) ^^^ 1 else w
    ({ s with evt := { s.evt with table := Tab.set 0 s.evt.table (off / 4) v } }).pbaRelease
  else if off = 0x8000 then hstCqDb w.toNat s
  else if 0x8040 ≤ off ∧ off < 0x8068 ∧ off % 4 = 0 then hstDb ((off - 0x8040) / 4) w s
  else if off < 0x2040 then s
  else s.unsupported

/-- Whether an offset in BAR4 holds a register that is written (R508). -/
def bar4Reg (off : Nat) : Bool := decide (off < 0x2000) || off == 0x8000 || (decide (0x8040 ≤ off ∧ off < 0x8068) && off % 4 == 0)

/-- What a write of BAR4 does first: the link returns to L0, and a write of a register there discards a held low word too (R12). -/
def State.bar4Touch (s : State) (who : Requester) (off : Nat) : State :=
  let s1 := s.hostTouch who
  if bar4Reg off then s1.dropHeld who else s1

/-- A write by a host or by the SMBus target; a host's offset at or above 2^24 names BAR4. -/
def windowWrite (who : Requester) (off : Nat) (w : Word) (s : State) : State :=
  if off < 2 ^ 24 ∨ who.isPcie = false then busWrite who off w s
  else if s.reaches who = false then s
  else bar4Write (off - 2 ^ 24) w (s.bar4Touch who (off - 2 ^ 24))

/-- REGISTER_WRITE (R7). -/
def registerWrite (who : Requester) (off : Nat) (w : Word) (s : State) : State := windowWrite who off w s
/-- PAIR_LOW_WRITE (R12). -/
def pairLowWrite (who : Requester) (off : Nat) (w : Word) (s : State) : State := windowWrite who off w s
/-- PAIR_HIGH_WRITE (R12). -/
def pairHighWrite (who : Requester) (off : Nat) (w : Word) (s : State) : State := windowWrite who off w s
/-- EVT_PEND_CLEAR (R498). -/
def evtPendClear (k : Nat) (mask : Word) (s : State) : State := if k < 10 then s.clearPending k mask else s
/-- FLT_CTL_LOCK (R592). -/
def fltCtlLock (w : Word) (s : State) : State := fltCtlWrite w s

/-! ### Events -/

/-- EVENT_SOURCE_ASSERT (R498). -/
def eventSourceAssert (src : Nat) (s : State) : State := if src < 320 then s.setPending src else s

/-- HOLDOFF_END (R500): due EVT_VEC.holdoff microseconds after the vector's last message. -/
def holdoffEnd (v : Nat) (s : State) : State :=
  let x := s.vec v
  if 512 ≤ v ∨ x.running = false ∨ s.time < x.since + 625 * s.fd F.EVT_VEC_holdoff v then s
  else if x.held = true ∧ s.evt.msixEn = true ∧ s.evt.bme = true ∧ s.evt.d3hot = false then (s.msiOut v).setVec v ⟨true, false, s.time⟩
  else s.setVec v { x with running := false, held := false }

/-! ### The host link (R474–R476, R506) -/

/-- D3HOT_TRANSITION: no device state changes (R475). -/
def d3hotTransition (enter : Bool) (s : State) : State :=
  if s.dev.st = .powerup ∨ s.dev.perstLow = true then s else ({ s with evt := { s.evt with d3hot := enter } }).pbaRelease

/-- A dword of the function's configuration space (R1, R473): identity, class code and revision. What the others hold is PCIe's, and a free value
(assumption log 129). -/
def State.cfgWord (s : State) (off : Nat) : Word × State :=
  if off = 0 then (0x19601C5E, s)
  else if off = 8 then (0x118000B1, s)
  else let (f, s1) := s.free; (w32 f, s1)

/-- CONFIGURATION_REQUEST (R1, R473, R474, R477, R482, R499). -/
def configurationRequest (c : CfgChange) (s : State) : State :=
  if s.dev.st = .powerup ∨ s.dev.perstLow = true then s
  else
    let t := s.hostTouch (.pcie 0)
    match c with
    | .mps code => if 2 < code then t else
        let u := t.setFd F.HST_LINK_mps code
        if code = 0 then u.hstSts F.HST_STS_mps_err else u
    | .bme on => { t with evt := { t.evt with bme := on } }
    | .msix en fm => ({ t with evt := { t.evt with msixEn := en, funcMask := fm } }).pbaRelease
    | .roEnable on => { t with evt := { t.evt with roCap := on } }
    | .aspmL1 on => { t with evt := { t.evt with aspmL1 := on } }
    | .read who off => let (w, u) := t.cfgWord off; u.emit (.cfgData who off w)
    | .bar2 log => if 28 ≤ log ∧ log ≤ 36 then { t with evt := { t.evt with bar2 := log } } else t

/-- HOST_LINK_CHANGE: generation 0 is a link that is down (R506). -/
def hostLinkChange (gen width : Nat) (s : State) : State :=
  let ok := decide (gen ≤ 5) && (gen == 0 || width == 1 || width == 2 || width == 4 || width == 8)
  if ok = false ∨ (gen ≠ 0 ∧ (s.dev.st = .powerup ∨ s.dev.perstLow = true)) then s
  else
    let s1 := (s.setFd F.HST_LINK_gen gen).setFd F.HST_LINK_width (if gen = 0 then 0 else width)
    (s1.setFd F.HST_LINK_l1 0).hstSts F.HST_STS_link

/-! ### SMBus (R502–R504) -/

/-- SMB_READ_STATUS. -/
def smbReadStatus (s : State) : State :=
  let st := if s.dev.st = .powerup then 0 else s.fd F.GLB_STATE_state
  s.emit (.smbByte (st + 8 * b2n s.evt.alertPin + 16 * b2n s.severeOpen))

/-- Whether a write carries the PEC that pec_req asks for. -/
def State.pecOk (s : State) (pec : SmbPec) : Bool := pec != .absent || ! s.bit F.HST_SMB_CFG_pec_req

/-- SMB_BAR0_WRITE. -/
def smbBar0Write (off : Nat) (w : Word) (pec : SmbPec) (s : State) : State :=
  if pec = .bad then s.emit .smbNack
  else if s.bit F.HST_SMB_CFG_bar0_wr = false ∨ s.pecOk pec = false then s
  else busWrite .smbus off w s

/-- SMB_BAR0_READ: the process call returns the register's word. -/
def smbBar0Read (off : Nat) (s : State) : State := busRead .smbus off s

/-- SMB_DOORBELL: as R501, with the value zero. -/
def smbDoorbell (i : Nat) (pec : SmbPec) (s : State) : State :=
  if pec = .bad ∨ 9 < i then s.emit .smbNack
  else if s.pecOk pec = false ∨ s.dev.st = .powerup ∨ s.dev.st = .boot then s
  else (s.dropHeld .smbus).doorbell i 0

/-- ALERT_RESPONSE (R504): the target that drives SMB_ALERT_N answers with its address and releases the pin. -/
def alertResponse (s : State) : State :=
  if s.evt.alertPin then ({ s with evt := { s.evt with alertPin := false } }).emit (.smbAddress (s.fd F.HST_SMB_CFG_addr)) else s

/-- SMBUS_TIMEOUT (R502): what the target keeps of a transfer is dropped. A command reaches the model whole, so nothing else changes. -/
def smbusTimeout (s : State) : State := s

def execRegisterWrite (who : Requester) (off : Nat) (value : Word) (s : State) : Host.Outcome State Fault Refusal :=
  .next (registerWrite who off value s)
def execPairLowWrite (who : Requester) (off : Nat) (value : Word) (s : State) : Host.Outcome State Fault Refusal :=
  .next (pairLowWrite who off value s)
def execPairHighWrite (who : Requester) (off : Nat) (value : Word) (s : State) : Host.Outcome State Fault Refusal :=
  .next (pairHighWrite who off value s)
def execEvtPendClear (k : Nat) (mask : Word) (s : State) : Host.Outcome State Fault Refusal := .next (evtPendClear k mask s)
def execFltCtlLock (value : Word) (s : State) : Host.Outcome State Fault Refusal := .next (fltCtlLock value s)
def execEventSourceAssert (src : Nat) (s : State) : Host.Outcome State Fault Refusal := .next (eventSourceAssert src s)
def execHoldoffEnd (v : Nat) (s : State) : Host.Outcome State Fault Refusal := .next (holdoffEnd v s)
def execD3hotTransition (enter : Bool) (s : State) : Host.Outcome State Fault Refusal := .next (d3hotTransition enter s)
def execConfigurationRequest (change : CfgChange) (s : State) : Host.Outcome State Fault Refusal := .next (configurationRequest change s)
def execHostLinkChange (gen width : Nat) (s : State) : Host.Outcome State Fault Refusal := .next (hostLinkChange gen width s)
def execSmbReadStatus (s : State) : Host.Outcome State Fault Refusal := .next (smbReadStatus s)
def execSmbBar0Write (off : Nat) (value : Word) (pec : SmbPec) (s : State) : Host.Outcome State Fault Refusal :=
  .next (smbBar0Write off value pec s)
def execSmbBar0Read (off : Nat) (s : State) : Host.Outcome State Fault Refusal := .next (smbBar0Read off s)
def execSmbDoorbell (i : Nat) (pec : SmbPec) (s : State) : Host.Outcome State Fault Refusal := .next (smbDoorbell i pec s)
def execAlertResponse (s : State) : Host.Outcome State Fault Refusal := .next (alertResponse s)
def execSmbusTimeout (s : State) : Host.Outcome State Fault Refusal := .next (smbusTimeout s)

end Sys2Proof.Machine
end

