-- ==== Sys2Proof/Machine/Tick.lean ====
section
/-! DEFINITION. One tick period: the tick counter and the horizons advance (R28, R108), the ports run on to the tick boundary (R49, R54), the TRIG pins turn (R605), and every
direct edge that H_D passes reaches the router (R29). -/

namespace Sys2Proof.Machine

/-- Whether a record or packet lies below the direct horizon. -/
def State.belowHd (s : State) (rs : List Rec) : Bool := decide (s.recEnd rs < s.hD * 512)

/-- A port island sends the packets that the direct horizon passes, and what comes before them (R29). -/
def State.islandFlush (s0 : State) (i : Nat) : State :=
  let s := if s0.tb.loss.isEmpty then s0 else s0.closeLosses i
  let l := Tab.get [] s.tb.held i
  let n := (natsFrom 1 l.length).foldl (fun (m : Nat) k => if s.belowHd (nth ⟨221, [], 0, false⟩ l (k - 1)).recs then k else m) 0
  if n = 0 then s
  else (l.take n).foldl (fun (t : State) h => (t.pushPkt (islandQueue i) (0x20 + i) .rtr h.recs).1)
    (s.setTb fun t => { t with held := Tab.set [] t.held i (l.drop n) })

/-- The router takes from a cross-island queue while a record below the direct horizon is in it. -/
def State.pullDirect (q : Nat) : Nat → State → State
  | 0, s => s
  | f + 1, s =>
    let u := s.queue q
    if u.cur.any (fun r => s.belowHd [r]) || u.pkts.any (fun k => s.belowHd k.recs) then
      State.pullDirect q f ((s.setQueue q { u with vis := u.pkts.length }).routerPop q)
    else s

/-- Records of a queue. -/
def Queue.recCount (u : Queue) : Nat := u.cur.length + u.pkts.length + sumNat (u.pkts.map fun k => k.recs.length)

/-- Direct edges below H_D have reached the router (R29). -/
def State.reachRouter (s : State) : State :=
  (natsFrom 0 24).foldl (fun (t : State) i =>
    let t1 := t.islandFlush i
    State.pullDirect (islandQueue i) (t1.queue (islandQueue i)).recCount t1) s

/-- The service lanes whose buffers have room again report what they lost (R25, R132). -/
def State.serviceLosses (s : State) : State :=
  ((natsFrom 216 5).foldl (fun (t : State) l => t.closeLoss 40 l (1600 * s.time)) s).svcRelease

/-- A tick boundary. -/
def tickAdvance (s : State) : State := if s.tb.on then (((s.countTick.runPorts).turnPins).serviceLosses).reachRouter else s

/-- HORIZON_ADVANCE. -/
def horizonAdvance (s : State) : State := tickAdvance s

/-- EPOCH_WRAP: due at the last tick of an epoch. -/
def epochWrap (s : State) : State := if s.tick = epochTicks - 1 then tickAdvance s else s

def execHorizonAdvance (s : State) : Host.Outcome State Fault Refusal := .next (horizonAdvance s)
def execEpochWrap (s : State) : Host.Outcome State Fault Refusal := .next (epochWrap s)

end Sys2Proof.Machine
end

