-- ==== Sys2Proof/Machine/Dispatch.lean ====
section
/-! DEFINITION. One arm per command. -/

namespace Sys2Proof.Machine

def exec (i : Instr) (s : State) : Host.Outcome State Fault Refusal :=
  match i with
  | .porNLow => Sys2Proof.Machine.execPorNLow s
  | .vinUndervoltage => Sys2Proof.Machine.execVinUndervoltage s
  | .powerStageUp env => Sys2Proof.Machine.execPowerStageUp env s
  | .bootComplete => Sys2Proof.Machine.execBootComplete s
  | .bootStepTimeout step => Sys2Proof.Machine.execBootStepTimeout step s
  | .bootPfRestart env => Sys2Proof.Machine.execBootPfRestart env s
  | .bootLoopClear => Sys2Proof.Machine.execBootLoopClear s
  | .perstNFall => Sys2Proof.Machine.execPerstNFall s
  | .functionLevelReset => Sys2Proof.Machine.execFunctionLevelReset s
  | .resetTakesEffect env => Sys2Proof.Machine.execResetTakesEffect env s
  | .enterWatch => Sys2Proof.Machine.execEnterWatch s
  | .watchEntryDone => Sys2Proof.Machine.execWatchEntryDone s
  | .resume vinLow => Sys2Proof.Machine.execResume vinLow s
  | .halt => Sys2Proof.Machine.execHalt s
  | .wakeEvent cause chan => Sys2Proof.Machine.execWakeEvent cause chan s
  | .wakeDone badEngines => Sys2Proof.Machine.execWakeDone badEngines s
  | .powerFailWarning vin pin => Sys2Proof.Machine.execPowerFailWarning vin pin s
  | .powerFailSequenceEnd micros => Sys2Proof.Machine.execPowerFailSequenceEnd micros s
  | .horizonAdvance => Sys2Proof.Machine.execHorizonAdvance s
  | .prtCfgWrite p value => Sys2Proof.Machine.execPrtCfgWrite p value s
  | .holdEnd p => Sys2Proof.Machine.execHoldEnd p s
  | .prtWinWrite p value => Sys2Proof.Machine.execPrtWinWrite p value s
  | .thrSettleEnd p => Sys2Proof.Machine.execThrSettleEnd p s
  | .prtHystWrite p value => Sys2Proof.Machine.execPrtHystWrite p value s
  | .prtFiltWrite p value => Sys2Proof.Machine.execPrtFiltWrite p value s
  | .prtPscWrite p value => Sys2Proof.Machine.execPrtPscWrite p value s
  | .confirmedTransition input => Sys2Proof.Machine.execConfirmedTransition input s
  | .stateEstablished p lower level => Sys2Proof.Machine.execStateEstablished p lower level s
  | .serviceTransition ix rising slot code => Sys2Proof.Machine.execServiceTransition ix rising slot code s
  | .vttOverload q => Sys2Proof.Machine.execVttOverload q s
  | .vttOverloadClear q => Sys2Proof.Machine.execVttOverloadClear q s
  | .checkRun p => Sys2Proof.Machine.execCheckRun p s
  | .checkAbort p => Sys2Proof.Machine.execCheckAbort p s
  | .scheduledCheck p => Sys2Proof.Machine.execScheduledCheck p s
  | .selfCheckEnd p obs => Sys2Proof.Machine.execSelfCheckEnd p obs s
  | .readbackSlotStart conv => Sys2Proof.Machine.execReadbackSlotStart conv s
  | .readbackSlotEnd conv => Sys2Proof.Machine.execReadbackSlotEnd conv s
  | .pllLock => Sys2Proof.Machine.execPllLock s
  | .refLockTimeout => Sys2Proof.Machine.execRefLockTimeout s
  | .refNoEdge => Sys2Proof.Machine.execRefNoEdge s
  | .refFreqWindowEnd ppm => Sys2Proof.Machine.execRefFreqWindowEnd ppm s
  | .relock => Sys2Proof.Machine.execRelock s
  | .epochWrap => Sys2Proof.Machine.execEpochWrap s
  | .epochRecord => Sys2Proof.Machine.execEpochRecord s
  | .timeCheckWord island upset => Sys2Proof.Machine.execTimeCheckWord island upset s
  | .tbCalibrate lane => Sys2Proof.Machine.execTbCalibrate lane s
  | .tbRetry lane => Sys2Proof.Machine.execTbRetry lane s
  | .tbHandover lane => Sys2Proof.Machine.execTbHandover lane s
  | .tbReturn lane => Sys2Proof.Machine.execTbReturn lane s
  | .scheduledCalibration turn => Sys2Proof.Machine.execScheduledCalibration turn s
  | .calibrationPassEnd lane hist => Sys2Proof.Machine.execCalibrationPassEnd lane hist s
  | .verifyEnd q => Sys2Proof.Machine.execVerifyEnd q s
  | .detachDone q => Sys2Proof.Machine.execDetachDone q s
  | .gateClose task => Sys2Proof.Machine.execGateClose task s
  | .taskStartPoint task => Sys2Proof.Machine.execTaskStartPoint task s
  | .switchTakeEffect point => Sys2Proof.Machine.execSwitchTakeEffect point s
  | .tlyCfgWrite slot isQ value => Sys2Proof.Machine.execTlyCfgWrite slot isQ value s
  | .clearInexact slot => Sys2Proof.Machine.execClearInexact slot s
  | .zero slot => Sys2Proof.Machine.execZero slot s
  | .preset slot => Sys2Proof.Machine.execPreset slot s
  | .periodicCheckpoint => Sys2Proof.Machine.execPeriodicCheckpoint s
  | .checkpoint => Sys2Proof.Machine.execCheckpoint s
  | .finalCheckpointSnapshot => Sys2Proof.Machine.execFinalCheckpointSnapshot s
  | .frameWriteDone failed corrected => Sys2Proof.Machine.execFrameWriteDone failed corrected s
  | .releaseHold => Sys2Proof.Machine.execReleaseHold s
  | .migrationStart => Sys2Proof.Machine.execMigrationStart s
  | .migrationDone verified => Sys2Proof.Machine.execMigrationDone verified s
  | .gridPointEval n => Sys2Proof.Machine.execGridPointEval n s
  | .modulatorCode conv code clip => Sys2Proof.Machine.execModulatorCode conv code clip s
  | .madcTapWrite v value => Sys2Proof.Machine.execMadcTapWrite v value s
  | .checkSlotStart conv => Sys2Proof.Machine.execCheckSlotStart conv s
  | .spareSelfCheck conv => Sys2Proof.Machine.execSpareSelfCheck conv s
  | .madcSubstitute conv => Sys2Proof.Machine.execMadcSubstitute conv s
  | .madcCheckCmd conv => Sys2Proof.Machine.execMadcCheckCmd conv s
  | .madcRetry conv => Sys2Proof.Machine.execMadcRetry conv s
  | .decStart n named => Sys2Proof.Machine.execDecStart n named s
  | .decStop n named => Sys2Proof.Machine.execDecStop n named s
  | .decApply n named => Sys2Proof.Machine.execDecApply n named s
  | .decFade n bank code named => Sys2Proof.Machine.execDecFade n bank code named s
  | .contextRun n => Sys2Proof.Machine.execContextRun n s
  | .outputInstant n => Sys2Proof.Machine.execOutputInstant n s
  | .fadeBegin n => Sys2Proof.Machine.execFadeBegin n s
  | .samplePacketTimeout n => Sys2Proof.Machine.execSamplePacketTimeout n s
  | .decCoefDataAccess write => Sys2Proof.Machine.execDecCoefDataAccess write s
  | .decCoefHdrWrite value => Sys2Proof.Machine.execDecCoefHdrWrite value s
  | .pipJudgeTick n => Sys2Proof.Machine.execPipJudgeTick n s
  | .pipEnable n named => Sys2Proof.Machine.execPipEnable n named s
  | .pipDisable n named => Sys2Proof.Machine.execPipDisable n named s
  | .pipApply n named => Sys2Proof.Machine.execPipApply n named s
  | .pipSoft n mask named => Sys2Proof.Machine.execPipSoft n mask named s
  | .pipPointReached n => Sys2Proof.Machine.execPipPointReached n s
  | .lineEvent l time => Sys2Proof.Machine.execLineEvent l time s
  | .pinPulseStart ix => Sys2Proof.Machine.execPinPulseStart ix s
  | .pinPulseEnd ix => Sys2Proof.Machine.execPinPulseEnd ix s
  | .trgPinWrite ix value => Sys2Proof.Machine.execTrgPinWrite ix value s
  | .acqArm a named => Sys2Proof.Machine.execAcqArm a named s
  | .acqStop a named => Sys2Proof.Machine.execAcqStop a named s
  | .acqArmPoint a => Sys2Proof.Machine.execAcqArmPoint a s
  | .acqRelease a => Sys2Proof.Machine.execAcqRelease a s
  | .segmentClose a => Sys2Proof.Machine.execSegmentClose a s
  | .acqSegRdWrite a value => Sys2Proof.Machine.execAcqSegRdWrite a value s
  | .queuePush q prod cls record last => Sys2Proof.Machine.execQueuePush q prod cls record last s
  | .queuePop q => Sys2Proof.Machine.execQueuePop q s
  | .packetRewind q prod => Sys2Proof.Machine.execPacketRewind q prod s
  | .skipPkt q => Sys2Proof.Machine.execSkipPkt q s
  | .queFlush q => Sys2Proof.Machine.execQueFlush q s
  | .xqCommitVisible q => Sys2Proof.Machine.execXqCommitVisible q s
  | .xqFreeVisible q => Sys2Proof.Machine.execXqFreeVisible q s
  | .quePopW0Read who => Sys2Proof.Machine.execQuePopW0Read who s
  | .queQCfgWrite q value => Sys2Proof.Machine.execQueQCfgWrite q value s
  | .queTest q faulty => Sys2Proof.Machine.execQueTest q faulty s
  | .queLevel => Sys2Proof.Machine.execQueLevel s
  | .queueDrainEnd => Sys2Proof.Machine.execQueueDrainEnd s
  | .flitLock link => Sys2Proof.Machine.execFlitLock link s
  | .flitLockLoss link => Sys2Proof.Machine.execFlitLockLoss link s
  | .reportFlit link flit => Sys2Proof.Machine.execReportFlit link flit s
  | .idleFlit link flit => Sys2Proof.Machine.execIdleFlit link flit s
  | .nakFlit link flit => Sys2Proof.Machine.execNakFlit link flit s
  | .badCrcFlit link => Sys2Proof.Machine.execBadCrcFlit link s
  | .hello link flit => Sys2Proof.Machine.execHello link flit s
  | .echo link flit t4 => Sys2Proof.Machine.execEcho link flit t4 s
  | .arsp link flit => Sys2Proof.Machine.execArsp link flit s
  | .ahigh link flit => Sys2Proof.Machine.execAhigh link flit s
  | .badType link kind flit => Sys2Proof.Machine.execBadType link kind flit s
  | .treqPeriod link => Sys2Proof.Machine.execTreqPeriod link s
  | .timePeriod link => Sys2Proof.Machine.execTimePeriod link s
  | .areqPeriod link => Sys2Proof.Machine.execAreqPeriod link s
  | .arspTimeout link => Sys2Proof.Machine.execArspTimeout link s
  | .silenceTimeout link => Sys2Proof.Machine.execSilenceTimeout link s
  | .ackTimeout link => Sys2Proof.Machine.execAckTimeout link s
  | .creditGrant link => Sys2Proof.Machine.execCreditGrant link s
  | .trainTryTimeout link => Sys2Proof.Machine.execTrainTryTimeout link s
  | .trainingComplete link => Sys2Proof.Machine.execTrainingComplete link s
  | .retrainTimer link => Sys2Proof.Machine.execRetrainTimer link s
  | .lnkRetrain link => Sys2Proof.Machine.execLnkRetrain link s
  | .lnkAudit link => Sys2Proof.Machine.execLnkAudit link s
  | .linkEvtGapEnd link code => Sys2Proof.Machine.execLinkEvtGapEnd link code s
  | .add eng x => Sys2Proof.Machine.execAdd eng x s
  | .sub eng x => Sys2Proof.Machine.execSub eng x s
  | .and eng x => Sys2Proof.Machine.execAnd eng x s
  | .or eng x => Sys2Proof.Machine.execOr eng x s
  | .xor eng x => Sys2Proof.Machine.execXor eng x s
  | .shl eng x => Sys2Proof.Machine.execShl eng x s
  | .shr eng x => Sys2Proof.Machine.execShr eng x s
  | .sar eng x => Sys2Proof.Machine.execSar eng x s
  | .min eng x => Sys2Proof.Machine.execMin eng x s
  | .max eng x => Sys2Proof.Machine.execMax eng x s
  | .minu eng x => Sys2Proof.Machine.execMinu eng x s
  | .maxu eng x => Sys2Proof.Machine.execMaxu eng x s
  | .mov eng x => Sys2Proof.Machine.execMov eng x s
  | .movh eng x => Sys2Proof.Machine.execMovh eng x s
  | .cmp eng x => Sys2Proof.Machine.execCmp eng x s
  | .adds eng x => Sys2Proof.Machine.execAdds eng x s
  | .sel eng x => Sys2Proof.Machine.execSel eng x s
  | .mul eng x => Sys2Proof.Machine.execMul eng x s
  | .mulhs eng x => Sys2Proof.Machine.execMulhs eng x s
  | .mulhu eng x => Sys2Proof.Machine.execMulhu eng x s
  | .amac eng x => Sys2Proof.Machine.execAmac eng x s
  | .amsb eng x => Sys2Proof.Machine.execAmsb eng x s
  | .aclr eng x => Sys2Proof.Machine.execAclr eng x s
  | .ald eng x => Sys2Proof.Machine.execAld eng x s
  | .ardl eng x => Sys2Proof.Machine.execArdl eng x s
  | .ardh eng x => Sys2Proof.Machine.execArdh eng x s
  | .ashl eng x => Sys2Proof.Machine.execAshl eng x s
  | .ashr eng x => Sys2Proof.Machine.execAshr eng x s
  | .amulw eng x => Sys2Proof.Machine.execAmulw eng x s
  | .aadd eng x => Sys2Proof.Machine.execAadd eng x s
  | .axch eng x => Sys2Proof.Machine.execAxch eng x s
  | .divs eng x => Sys2Proof.Machine.execDivs eng x s
  | .divu eng x => Sys2Proof.Machine.execDivu eng x s
  | .rems eng x => Sys2Proof.Machine.execRems eng x s
  | .remu eng x => Sys2Proof.Machine.execRemu eng x s
  | .rdiv eng x => Sys2Proof.Machine.execRdiv eng x s
  | .adiv eng x => Sys2Proof.Machine.execAdiv eng x s
  | .fadd eng x => Sys2Proof.Machine.execFadd eng x s
  | .fsub eng x => Sys2Proof.Machine.execFsub eng x s
  | .fmul eng x => Sys2Proof.Machine.execFmul eng x s
  | .fdiv eng x => Sys2Proof.Machine.execFdiv eng x s
  | .fsqrt eng x => Sys2Proof.Machine.execFsqrt eng x s
  | .frcp eng x => Sys2Proof.Machine.execFrcp eng x s
  | .fcvt eng x => Sys2Proof.Machine.execFcvt eng x s
  | .fcvta eng x => Sys2Proof.Machine.execFcvta eng x s
  | .fcmp eng x => Sys2Proof.Machine.execFcmp eng x s
  | .fint eng x => Sys2Proof.Machine.execFint eng x s
  | .ld eng x ecc => Sys2Proof.Machine.execLd eng x ecc s
  | .st eng x ecc => Sys2Proof.Machine.execSt eng x ecc s
  | .ldw eng x ecc => Sys2Proof.Machine.execLdw eng x ecc s
  | .ldws eng x ecc => Sys2Proof.Machine.execLdws eng x ecc s
  | .stw eng x ecc => Sys2Proof.Machine.execStw eng x ecc s
  | .spld eng x => Sys2Proof.Machine.execSpld eng x s
  | .spst eng x => Sys2Proof.Machine.execSpst eng x s
  | .hcfg eng x => Sys2Proof.Machine.execHcfg eng x s
  | .hadd eng x => Sys2Proof.Machine.execHadd eng x s
  | .hrd eng x => Sys2Proof.Machine.execHrd eng x s
  | .hruo eng x => Sys2Proof.Machine.execHruo eng x s
  | .hclr eng x => Sys2Proof.Machine.execHclr eng x s
  | .evpop eng x => Sys2Proof.Machine.execEvpop eng x s
  | .eventRelease eng x => Sys2Proof.Machine.execEventRelease eng x s
  | .evrd eng x => Sys2Proof.Machine.execEvrd eng x s
  | .skip eng x => Sys2Proof.Machine.execSkip eng x s
  | .out eng x => Sys2Proof.Machine.execOut eng x s
  | .outr eng x => Sys2Proof.Machine.execOutr eng x s
  | .time eng x => Sys2Proof.Machine.execTime eng x s
  | .desc eng x => Sys2Proof.Machine.execDesc eng x s
  | .tlyr eng x => Sys2Proof.Machine.execTlyr eng x s
  | .tlyw eng x => Sys2Proof.Machine.execTlyw eng x s
  | .nop eng x => Sys2Proof.Machine.execNop eng x s
  | .csr eng x => Sys2Proof.Machine.execCsr eng x s
  | .fault eng x => Sys2Proof.Machine.execFault eng x s
  | .seqJump eng x => Sys2Proof.Machine.execSeqJump eng x s
  | .seqCall eng x => Sys2Proof.Machine.execSeqCall eng x s
  | .seqRet eng x => Sys2Proof.Machine.execSeqRet eng x s
  | .seqDisp eng x => Sys2Proof.Machine.execSeqDisp eng x s
  | .seqStop eng x => Sys2Proof.Machine.execSeqStop eng x s
  | .stopTimeout eng x => Sys2Proof.Machine.execStopTimeout eng x s
  | .machineCheck eng x quarters => Sys2Proof.Machine.execMachineCheck eng x quarters s
  | .immediateMoveDone src => Sys2Proof.Machine.execImmediateMoveDone src s
  | .scrubParityError eng word => Sys2Proof.Machine.execScrubParityError eng word s
  | .controlStoreLoadDone eng verified => Sys2Proof.Machine.execControlStoreLoadDone eng verified s
  | .engCmdHandover task eng => Sys2Proof.Machine.execEngCmdHandover task eng s
  | .evacuate src tgt => Sys2Proof.Machine.execEvacuate src tgt s
  | .engRetry eng => Sys2Proof.Machine.execEngRetry eng s
  | .handoverShadow tgt => Sys2Proof.Machine.execHandoverShadow tgt s
  | .handoverDrain tgt => Sys2Proof.Machine.execHandoverDrain tgt s
  | .evacuationRetry src => Sys2Proof.Machine.execEvacuationRetry src s
  | .dramCorrectedError addr => Sys2Proof.Machine.execDramCorrectedError addr s
  | .dramUncorrectable addr => Sys2Proof.Machine.execDramUncorrectable addr s
  | .patrolScrub ecc => Sys2Proof.Machine.execPatrolScrub ecc s
  | .retire => Sys2Proof.Machine.execRetire s
  | .scrubNow => Sys2Proof.Machine.execScrubNow s
  | .resetRing r => Sys2Proof.Machine.execResetRing r s
  | .extentCloseTimeout r => Sys2Proof.Machine.execExtentCloseTimeout r s
  | .extentWriteComplete d slot => Sys2Proof.Machine.execExtentWriteComplete d slot s
  | .drmRgRdWrite r value => Sys2Proof.Machine.execDrmRgRdWrite r value s
  | .nvmeCompletion d id status => Sys2Proof.Machine.execNvmeCompletion d id status s
  | .nvmeCommandTimeout d id ready => Sys2Proof.Machine.execNvmeCommandTimeout d id ready s
  | .nvmeLinkLoss d => Sys2Proof.Machine.execNvmeLinkLoss d s
  | .driveInitDone d env => Sys2Proof.Machine.execDriveInitDone d env s
  | .smartPoll d warning => Sys2Proof.Machine.execSmartPoll d warning s
  | .nvsReinit d => Sys2Proof.Machine.execNvsReinit d s
  | .nvsFlush d => Sys2Proof.Machine.execNvsFlush d s
  | .nvsFormat d => Sys2Proof.Machine.execNvsFormat d s
  | .extentRead => Sys2Proof.Machine.execExtentRead s
  | .extentReadDone ok data => Sys2Proof.Machine.execExtentReadDone ok data s
  | .bar2Read off len => Sys2Proof.Machine.execBar2Read off len s
  | .registerWrite who off value => Sys2Proof.Machine.execRegisterWrite who off value s
  | .rcFieldRead who off => Sys2Proof.Machine.execRcFieldRead who off s
  | .pairLowRead who off => Sys2Proof.Machine.execPairLowRead who off s
  | .pairHighRead who off => Sys2Proof.Machine.execPairHighRead who off s
  | .pairLowWrite who off value => Sys2Proof.Machine.execPairLowWrite who off value s
  | .pairHighWrite who off value => Sys2Proof.Machine.execPairHighWrite who off value s
  | .hstCqDb value => Sys2Proof.Machine.execHstCqDb value s
  | .commandFetch entry => Sys2Proof.Machine.execCommandFetch entry s
  | .taskStart entry => Sys2Proof.Machine.execTaskStart entry s
  | .taskStop entry => Sys2Proof.Machine.execTaskStop entry s
  | .taskSwitch entry => Sys2Proof.Machine.execTaskSwitch entry s
  | .gate entry => Sys2Proof.Machine.execGate entry s
  | .dec entry => Sys2Proof.Machine.execDec entry s
  | .pip entry => Sys2Proof.Machine.execPip entry s
  | .acq entry => Sys2Proof.Machine.execAcq entry s
  | .fence entry => Sys2Proof.Machine.execFence entry s
  | .fenceComplete => Sys2Proof.Machine.execFenceComplete s
  | .completionTimeout retryFailed => Sys2Proof.Machine.execCompletionTimeout retryFailed s
  | .ringPacketWrite r => Sys2Proof.Machine.execRingPacketWrite r s
  | .hstRingTailWrite r value => Sys2Proof.Machine.execHstRingTailWrite r value s
  | .hstRingCfgWrite r value => Sys2Proof.Machine.execHstRingCfgWrite r value s
  | .hstCplPtrWrite value => Sys2Proof.Machine.execHstCplPtrWrite value s
  | .hstDb ix value => Sys2Proof.Machine.execHstDb ix value s
  | .eventSourceAssert src => Sys2Proof.Machine.execEventSourceAssert src s
  | .holdoffEnd v => Sys2Proof.Machine.execHoldoffEnd v s
  | .evtPendClear k mask => Sys2Proof.Machine.execEvtPendClear k mask s
  | .d3hotTransition enter => Sys2Proof.Machine.execD3hotTransition enter s
  | .smbReadStatus => Sys2Proof.Machine.execSmbReadStatus s
  | .smbBar0Write off value pec => Sys2Proof.Machine.execSmbBar0Write off value pec s
  | .smbBar0Read off => Sys2Proof.Machine.execSmbBar0Read off s
  | .smbDoorbell ix pec => Sys2Proof.Machine.execSmbDoorbell ix pec s
  | .alertResponse => Sys2Proof.Machine.execAlertResponse s
  | .smbusTimeout => Sys2Proof.Machine.execSmbusTimeout s
  | .join link flit => Sys2Proof.Machine.execJoin link flit s
  | .accept flit => Sys2Proof.Machine.execAccept flit s
  | .refuse flit => Sys2Proof.Machine.execRefuse flit s
  | .cascadeResetFlit flit => Sys2Proof.Machine.execCascadeResetFlit flit s
  | .leave link flit => Sys2Proof.Machine.execLeave link flit s
  | .dly flit => Sys2Proof.Machine.execDly flit s
  | .lineFlit link flit => Sys2Proof.Machine.execLineFlit link flit s
  | .fwdFlit link flit => Sys2Proof.Machine.execFwdFlit link flit s
  | .casTimeFlit flit own => Sys2Proof.Machine.execCasTimeFlit flit own s
  | .offsetStep => Sys2Proof.Machine.execOffsetStep s
  | .joinTimeout => Sys2Proof.Machine.execJoinTimeout s
  | .childLinkLost link => Sys2Proof.Machine.execChildLinkLost link s
  | .resetAll => Sys2Proof.Machine.execResetAll s
  | .resync => Sys2Proof.Machine.execResync s
  | .c0SignalDetect => Sys2Proof.Machine.execC0SignalDetect s
  | .casTunnelEnable inbound t value => Sys2Proof.Machine.execCasTunnelEnable inbound t value s
  | .softReset => Sys2Proof.Machine.execSoftReset s
  | .continueCmd env => Sys2Proof.Machine.execContinue env s
  | .restart env => Sys2Proof.Machine.execRestart env s
  | .otpDigest => Sys2Proof.Machine.execOtpDigest s
  | .otpDigEn => Sys2Proof.Machine.execOtpDigEn s
  | .otpJtag level => Sys2Proof.Machine.execOtpJtag level s
  | .flashRead => Sys2Proof.Machine.execFlashRead s
  | .flashProgram => Sys2Proof.Machine.execFlashProgram s
  | .flashErase => Sys2Proof.Machine.execFlashErase s
  | .flashCommandDone ok => Sys2Proof.Machine.execFlashCommandDone ok s
  | .bootFlDataAccess who write => Sys2Proof.Machine.execBootFlDataAccess who write s
  | .bootLockSet value => Sys2Proof.Machine.execBootLockSet value s
  | .ack ix => Sys2Proof.Machine.execAck ix s
  | .clear ix => Sys2Proof.Machine.execClear ix s
  | .fltInj unit code => Sys2Proof.Machine.execFltInj unit code s
  | .escalation ix => Sys2Proof.Machine.execEscalation ix s
  | .faultPacketTimer ix => Sys2Proof.Machine.execFaultPacketTimer ix s
  | .fltCtlLock value => Sys2Proof.Machine.execFltCtlLock value s
  | .railOutOfRegulation r mv => Sys2Proof.Machine.execRailOutOfRegulation r mv s
  | .railCurrentLimit r ma10 => Sys2Proof.Machine.execRailCurrentLimit r ma10 s
  | .vinHigh mv => Sys2Proof.Machine.execVinHigh mv s
  | .domainOff d => Sys2Proof.Machine.execDomainOff d s
  | .domainOn d => Sys2Proof.Machine.execDomainOn d s
  | .powerGoodTimeout d => Sys2Proof.Machine.execPowerGoodTimeout d s
  | .generalTimerExpiry ix => Sys2Proof.Machine.execGeneralTimerExpiry ix s
  | .tempSample t0 t1 t2 t3 => Sys2Proof.Machine.execTempSample t0 t1 t2 t3 s
  | .jtagUpdateIr update => Sys2Proof.Machine.execJtagUpdateIr update s
  | .tapRelease env => Sys2Proof.Machine.execTapRelease env s
  | .perstNRise => Sys2Proof.Machine.execPerstNRise s
  | .configurationRequest change => Sys2Proof.Machine.execConfigurationRequest change s
  | .hostLinkChange gen width => Sys2Proof.Machine.execHostLinkChange gen width s
  | .checkSlotEnd conv => Sys2Proof.Machine.execCheckSlotEnd conv s
  | .treq flit t2 => Sys2Proof.Machine.execTreq flit t2 s
  | .areq link flit => Sys2Proof.Machine.execAreq link flit s
  | .powerConditionClear cond mv => Sys2Proof.Machine.execPowerConditionClear cond mv s

end Sys2Proof.Machine
end

