-- ==== Sys2Proof/Safety.lean ====
section
/-! DEFINITION. What a safe run is, and the invariants that claims are stated with: the canonical form of the memories, the table of
requesters of R12, the fuses (R554), and what no command does to a state. -/

namespace Sys2Proof.Machine

/-- A step goes on: it neither faults nor is refused. -/
def StepSafe (s : State) : Prop := ∃ t, step s = .next t

/-- The fuses are as R554 and R560 let them be: dig_en only with a digest, which is 32 bytes, and a JTAG level of 0 to 3. -/
def Otp.ok (o : Otp) : Prop :=
  (o.digEn = true → o.digest.isSome = true) ∧ (∀ d, o.digest = some d → d.length = 32) ∧ o.jtag ≤ 3

/-- Fuses only ever go one way (R554): a digest that is fused stays, dig_en stays, and the JTAG level does not fall. -/
def Otp.grows (a b : Otp) : Prop :=
  (∀ d, a.digest = some d → b.digest = some d) ∧ (a.digEn = true → b.digEn = true) ∧ a.jtag ≤ b.jtag

/-- The table of requesters (R12): one entry for each, and at most 16 of PCIe requesters. -/
def pairsOk (l : List PairEntry) : Prop := (l.map fun e => e.who).Nodup ∧ (l.filter fun e => e.who.isPcie).length ≤ 16

/-- What every state of the block satisfies: registers, DRAM and flash in canonical form, the table of requesters, and the fuses. -/
structure State.Inv (s : State) : Prop where
  regs : Tab.wf 0 s.regs = true
  dram : Memory.wf 0 s.dram = true
  flash : Memory.wf 0xFF s.flash = true
  pairs : pairsOk s.pairs
  fuses : Otp.ok s.boot.otp

/-- What no command does: it leaves the queue of waiting commands alone, takes back nothing that was sent, uses no free value twice, breaks no
part of the invariant and unblows no fuse. -/
structure Evolves (s t : State) : Prop where
  queue : t.pending = s.pending
  sent : ∃ l, t.out = s.out ++ l
  fresh : s.freeCtr ≤ t.freeCtr
  inv : s.Inv → t.Inv
  fuses : Otp.grows s.boot.otp t.boot.otp

/-! ### What a word of an engine does (R415, R416) -/

/-- Context `x` of engine `e` issues word `w` of class `cls` and op `op`: it may issue, the word is allowed, and its condition holds. -/
abbrev Issues (s : State) (e x cls op w : Nat) (c : Ctx) : Prop :=
  s.ctx e x = c ∧ s.canIssue e c = true ∧ s.fetchWord c = w ∧ wordLegal w = true ∧ wCls w = cls ∧ wOp w = op ∧ c.fl.holds (wPred w) = true

/-- The flags after a result with zero bit `z` and sign `n`: unchanged where the word's fl is 0; otherwise Z and N as the result says, and
nothing is said of C and V (assumption log 23). -/
def FlagsAfter (w : Nat) (f g : CFlags) (z n : Bool) : Prop :=
  (wFl w = false → g = f) ∧ (wFl w = true → g = { f with z := z, n := n, c := g.c, v := g.v })

/-- A word of context `c` answers a next state in which g[rd] holds `r` and the context has gone on; the rest of the state, but for the
counter of free values, is as before. -/
def Writes (s : State) (e x w : Nat) (c : Ctx) (r : BitVec 64) (o : Host.Outcome State Fault Refusal) : Prop :=
  ∃ n f, FlagsAfter w c.fl f (r == 0) r.msb ∧
    o = .next (({ s with freeCtr := n } : State).setCtx e x (({ c.setR (wRd w) r with fl := f } : Ctx).advance w))

/-- The same of a word whose result is its accumulator. -/
def WritesAcc (s : State) (e x w : Nat) (c : Ctx) (r : BitVec 128) (o : Host.Outcome State Fault Refusal) : Prop :=
  ∃ n f, FlagsAfter w c.fl f (r == 0) r.msb ∧
    o = .next (({ s with freeCtr := n } : State).setCtx e x (({ c.setAcc w r with fl := f } : Ctx).advance w))

/-- A sequencer operation `q` is due on context `c`, whose word is `w`, and its condition holds. -/
abbrev SeqActs (s : State) (e x q w : Nat) (c : Ctx) : Prop :=
  s.ctx e x = c ∧ s.fetchWord c = w ∧ s.seqDue e q c = true ∧ c.fl.holds (wCond w) = true

end Sys2Proof.Machine
end

