-- ==== Sys2Proof/Certificates/Slice0/Obligations.lean ====
section
/-! DEFINITION. The statements for the provers. Most are equations of whole states: what such an equation does not write is unchanged. -/

open Sys2Proof Sys2Proof.Machine

/-- A step with a command at the front of the queue is that command on the rest. -/
def Obligations.StepTakesFront : Prop :=
  ∀ (c : Instr) (rest : List Instr) (s : State), step { s with pending := c :: rest } = exec c { s with pending := rest }

/-- On an empty queue a step changes nothing (the model's choice, assumption log 1), and nothing but the queue's front leaves the queue. -/
def Obligations.IdleOnEmpty : Prop :=
  ∀ s t : State, step s = .next t → (s.pending = [] → t = s) ∧ t.pending = s.pending.tail

/-- Every step keeps `State.Inv`: the canonical form of the memories, the table of requesters of R12 and the fuses of R554. -/
def Obligations.StepKeepsInvariant : Prop :=
  ∀ s t : State, s.Inv → step s = .next t → t.Inv

/-- The state after reset satisfies the invariant that every step keeps. -/
def Obligations.ResetInvariant : Prop := State.reset.Inv

/-- No command touches the queue of commands, takes back what the device has sent, or reuses a free value. -/
def Obligations.NothingTakenBack : Prop :=
  ∀ (c : Instr) (s t : State), exec c s = .next t →
    t.pending = s.pending ∧ (∃ l, t.out = s.out ++ l) ∧ s.freeCtr ≤ t.freeCtr

/-- R554, whole: what the fuses hold, that no step programs one back, and what each JTAG level leaves available. -/
def Obligations.FusesOneWay : Prop :=
  (∀ s t : State, step s = .next t →
    (∀ d, s.boot.otp.digest = some d → t.boot.otp.digest = some d) ∧ (s.boot.otp.digEn = true → t.boot.otp.digEn = true) ∧
    s.boot.otp.jtag ≤ t.boot.otp.jtag) ∧
  (∀ s : State, s.Inv → (∀ d, s.boot.otp.digest = some d → 8 * d.length = 256) ∧ s.boot.otp.jtag < 4) ∧
  (∀ op, op ≤ 6 ∨ (0x80 ≤ op ∧ op ≤ 0xFF) → jtagEffective 0 op = op) ∧
  (∀ op, op ≤ 6 ∨ op = 0xFF → jtagEffective 1 op = op) ∧
  (∀ op, 0x80 ≤ op → op ≤ 0xFE → jtagEffective 1 op = 0xFF) ∧
  (∀ level op, 2 ≤ level → level ≤ 3 → jtagEffective level op = if op = 2 then 2 else 0xFF)

/-- Every command goes on, in every state and with every operand, but for the private JTAG opcodes. -/
def Obligations.EveryCommandRuns : Prop :=
  (∀ (c : Instr) (s : State), (∀ op scan, c ≠ .jtagUpdateIr ⟨op, scan⟩) → ∃ t, exec c s = .next t) ∧
  (∀ (op : Nat) (scan : List Bool) (s : State),
    ¬ (0x80 ≤ jtagEffective (s.fd F.BOOT_OTP_STS_jtag) (op % 256) ∧ jtagEffective (s.fd F.BOOT_OTP_STS_jtag) (op % 256) ≤ 0xFE) →
    ∃ t, exec (.jtagUpdateIr ⟨op, scan⟩) s = .next t)

/-- R611, R612, R613: JTAG_UPDATE_IR and TAP_RELEASE; `u` is the state with the cells that the scans have loaded. -/
def Obligations.JtagCommands : Prop :=
  (∀ (s : State) (op : Nat) (scan : List Bool), s.fd F.BOOT_OTP_STS_jtag = 0 → 0x80 ≤ op % 256 → op % 256 ≤ 0xFE →
    exec (.jtagUpdateIr ⟨op, scan⟩) s = .fault .privateJtag) ∧
  (∀ (s : State) (scan : List Bool), s.loadCells scan =
    if s.dev.jtagIr ∈ [0, 1, 5, 6] ∧ scan ≠ [] then { s with dev := { s.dev with cells := scan } } else s) ∧
  (∀ (s u : State) (op : Nat) (scan : List Bool), s.loadCells scan = u → s.dev.st = .halt → s.fd F.BOOT_OTP_STS_jtag ≤ 1 → op % 256 ∈ [0, 3, 4, 5, 6] →
    exec (.jtagUpdateIr ⟨op, scan⟩) s = .next { u with dev := { u.dev with jtagIr := op % 256, pinsTaken := true, pinsWait := false } }) ∧
  (∀ (s u : State) (op : Nat) (scan : List Bool), s.loadCells scan = u → s.dev.st = .halt → s.fd F.BOOT_OTP_STS_jtag ≤ 1 → op % 256 ∈ [1, 2, 0xFF] →
    exec (.jtagUpdateIr ⟨op, scan⟩) s = .next { u with dev := { u.dev with jtagIr := op % 256, pinsTaken := false, pinsWait := false } }) ∧
  (∀ (s u : State) (op : Nat) (scan : List Bool), s.loadCells scan = u → s.dev.st = .halt → 2 ≤ s.fd F.BOOT_OTP_STS_jtag → op % 256 ≠ 2 →
    exec (.jtagUpdateIr ⟨op, scan⟩) s = .next { u with dev := { u.dev with jtagIr := 0xFF, pinsTaken := false, pinsWait := false } }) ∧
  (∀ (s u : State) (op : Nat) (scan : List Bool), s.loadCells scan = u → s.dev.st = .run ∨ s.dev.st = .watch → s.fd F.BOOT_OTP_STS_jtag ≤ 1 →
    op % 256 ∈ [0, 3, 4, 5, 6] →
    exec (.jtagUpdateIr ⟨op, scan⟩) s = .next (({ u with dev := { u.dev with jtagIr := op % 256, pinsWait := true } } : State).askHalt 3)) ∧
  (∀ s : State, s.dev.pinsTaken = true → (s.dev.jtagIr = 4 → s.pinSource = .highZ) ∧ (s.dev.jtagIr ∈ [0, 3, 5, 6] → s.pinSource = .cells)) ∧
  (∀ s : State, s.dev.pinsTaken = false → s.pinSource = .system) ∧
  (∀ (s : State) (env : BootEnv), s.dev.st ≠ .boot →
    exec (.tapRelease env) s = .next { s with dev := { s.dev with pinsTaken := false, pinsWait := false, jtagIr := 2 } })

/-- R569, R570, R564, R592: what ACK, CLEAR, FLT_INJ and the FAULT packet timer do where the manual lets them act. -/
def Obligations.FaultCommands : Prop :=
  (∀ (s : State) (i : Nat) (r : FaultRec), s.frec i = some r →
    exec (.ack i) s = .next (((s.setFrec i (some { r with ack := true, deadline := none })).faultPkt i).ackSts i 1)) ∧
  (∀ (s : State) (i : Nat) (r : FaultRec), s.frec i = some r → r.live = false → (r.cls = 0 ∨ r.ack = true) →
    exec (.clear i) s = .next (((s.faultPkt i).setFrec i none).ackSts i 1)) ∧
  (∀ (s : State) (unit code c : Nat), faultClass (code % 65536) = some c → s.bit F.FLT_CTL_lock = false → unit % 65536 / 4096 < 12 →
    exec (.fltInj unit code) s =
      .next ((s.raiseAs c (code % 65536) (unit % 65536) (2 ^ (code % 32) + 2 ^ 30) 0 false).ackSts 0 1)) ∧
  (∀ (s : State) (i : Nat) (r : FaultRec), s.frec i = some r → r.mergeDue = true →
    exec (.faultPacketTimer i) s = .next (if s.due (r.sent + msTicks 1) then s.faultPkt i else s))

/-- R569, whole: ACK marks the record and stops its timer (read from the record before its packet is formed); CLEAR frees it, is refused while LIVE is 1
and, for class 1 to 3, while the record is not acknowledged; a merge leaves an acknowledged record acknowledged unless it raises its class. -/
def Obligations.ClearRefused : Prop :=
  (∀ (s : State) (i : Nat) (r : FaultRec), s.frec i = some r →
    exec (.ack i) s = .next (((s.setFrec i (some { r with ack := true, deadline := none })).faultPkt i).ackSts i 1)) ∧
  (∀ (s : State) (i : Nat) (r : FaultRec), s.frec i = some r →
    exec (.clear i) s = .next
      (if r.live = true ∨ (1 ≤ r.cls ∧ r.ack = false) then s.ackSts i 2 else ((s.faultPkt i).setFrec i none).ackSts i 1)) ∧
  (∀ (s : State) (i cls cause detail : Nat) (conds : List Nat) (r : FaultRec), s.frec i = some r → r.ack = true → cls ≤ r.cls →
    ∃ r1, r1.ack = true ∧ (s.mergeRec i cls cause detail conds = s.setFrec i (some r1) ∨
      s.mergeRec i cls cause detail conds = (s.setFrec i (some r1)).faultPkt i)) ∧
  (∀ (s : State) (i cls cause detail : Nat) (conds : List Nat) (r : FaultRec), s.frec i = some r → r.cls < cls →
    ∃ r1, r1.ack = false ∧ s.mergeRec i cls cause detail conds =
      (((s.setFrec i (some r1)).assertOnce (283 + cls)).faultLog i 3).faultPkt i)

/-- R564, R565, R574: where a raised fault goes. -/
def Obligations.FaultRaised : Prop :=
  (∀ (s : State) (code unit detail c i : Nat) (live : Bool), faultClass code = some c → s.recOfUnit unit = some i →
    s.raise code unit detail live = s.mergeRec i c (2 ^ (code % 32)) (detail % 2 ^ 32) (if live then [code] else [])) ∧
  (∀ (s : State) (code unit detail c : Nat) (live : Bool), faultClass code = some c → s.recOfUnit unit = none → (∃ i, i < 63 ∧ s.frec i = none) →
    ∃ i r, i < 63 ∧ s.frec i = none ∧ (∀ j, j < i → s.frec j ≠ none) ∧ s.raise code unit detail live = s.openRec i r ∧
      r.cls = c ∧ r.code = code ∧ r.unit = unit ∧ r.cause = 2 ^ (code % 32) ∧ r.detail = detail % 2 ^ 32 ∧ r.merges = 1 ∧
      r.opened = s.now ∧ r.seen = s.now ∧ r.live = live ∧ r.ack = false ∧ r.esc = false) ∧
  (∀ (s : State) (code unit detail c : Nat) (live : Bool), faultClass code = some c → s.recOfUnit unit = none → (∀ i, i < 63 → s.frec i ≠ none) →
    s.frec 63 = none → ∃ r, s.raise code unit detail live = s.openRec 63 r ∧ r.cls = c ∧ r.code = 0x011 ∧ r.cause = 2 ^ (unit / 4096) ∧
      r.detail = code ∧ r.merges = 1)

/-- R191 (but for the switch of R159) and R231: writes to TLY_CFG and TLY_Q. -/
def Obligations.TallySetup : Prop :=
  ∀ (s : State) (sl v : Nat), sl < 4192 →
    (s.bit F.TLY_FLG_bound sl = false →
      exec (.tlyCfgWrite sl false v) s = .next (s.setRg .TLY_CFG (w32 (v % 8)) sl) ∧
      exec (.tlyCfgWrite sl true v) s = .next (s.setPair .TLY_Q_LO .TLY_Q_HI v sl)) ∧
    (s.bit F.TLY_FLG_bound sl = true → ∀ isQ, exec (.tlyCfgWrite sl isQ v) s = .next (s.setFd F.TLY_FLG_cfg_err 1 sl))

/-- R207, R231: the commands of TLY_CMD and where they are refused. -/
def Obligations.TallyCommands : Prop :=
  (∀ (s : State) (sl : Nat), sl < 4192 → s.causeHolds sl = false →
    exec (.clearInexact sl) s =
      .next (((s.setRg .TLY_FLG (setBits (s.rg .TLY_FLG sl) 0 8 0) sl).writeLatches).tlyCmdSts sl 1 1)) ∧
  (∀ (s : State) (sl : Nat), sl < 4192 → s.bit F.TLY_FLG_bound sl = false →
    exec (.zero sl) s = .next (((s.setPair .TLY_NT_LO .TLY_NT_HI 0 sl).writeLatches).tlyCmdSts sl 2 1) ∧
    exec (.preset sl) s =
      .next (((s.setPair .TLY_NT_LO .TLY_NT_HI (s.pair .TLY_PRESET_LO .TLY_PRESET_HI) sl).writeLatches).tlyCmdSts sl 3 1)) ∧
  (∀ (s : State) (sl : Nat), sl < 4192 → s.causeHolds sl = true → exec (.clearInexact sl) s = .next (s.tlyCmdSts sl 1 2)) ∧
  (∀ (s : State) (sl : Nat), sl < 4192 → s.bit F.TLY_FLG_bound sl = true →
    exec (.zero sl) s = .next (s.tlyCmdSts sl 2 2) ∧ exec (.preset sl) s = .next (s.tlyCmdSts sl 3 2)) ∧
  (∀ (s : State) (sl : Nat), 4192 ≤ sl → exec (.clearInexact sl) s = .next (s.tlyCmdSts sl 1 2) ∧
    exec (.zero sl) s = .next (s.tlyCmdSts sl 2 2) ∧ exec (.preset sl) s = .next (s.tlyCmdSts sl 3 2))

/-- R211, R218, R225 to R227, R233: the Ledger's commands where they act. -/
def Obligations.LedgerCommands : Prop :=
  (∀ s u : State, s.dev.st = .run → s.ldg.wr = none → s.ldg.lastDue + msTicks (s.fd F.LDG_CTL_interval) ≤ s.time →
    { s with ldg := { s.ldg with lastDue := s.time } } = u → exec .periodicCheckpoint s = .next (u.beginCkpt 1 0 false)) ∧
  (∀ (s : State) (k : Ckpt), s.dev.st = .run → s.ldg.wr = some k → s.ldg.lastDue + msTicks (s.fd F.LDG_CTL_interval) ≤ s.time →
    exec .periodicCheckpoint s = .next { s with ldg := { s.ldg with lastDue := s.time, due := s.ldg.due ++ [false] } }) ∧
  (∀ s : State, s.dev.st ≠ .watch → s.dev.st ≠ .halt → s.ldg.wr = none →
    exec .checkpoint s = .next ((s.beginCkpt 1 0 true).ldgCmdSts 1 0)) ∧
  (∀ (s : State) (k : Ckpt), s.dev.st ≠ .watch → s.dev.st ≠ .halt → s.ldg.wr = some k →
    exec .checkpoint s = .next (({ s with ldg := { s.ldg with due := s.ldg.due ++ [true] } } : State).ldgCmdSts 1 0)) ∧
  (∀ s : State, s.bit F.LDG_STS_hold = true →
    exec .releaseHold s = .next (((s.setFd F.LDG_STS_hold 0).ldgCmdSts 2 0).assertOnce 281)) ∧
  (∀ (s : State) (b p : Nat) (w : List Nat), s.ldg.mig = none → s.ldg.migQ = b :: w → s.ldg.migTarget = 0 → s.ldg.migStop = false →
    s.fd F.LDG_SPARE_spares ≠ 0 → s.nextSpare = some p →
    exec .migrationStart s = .next ((({ s with ldg := { s.ldg with migQ := w, migTarget := 0 } } : State).migCopy b p 0).assertOnce 282)) ∧
  (∀ (s : State) (m : Migration), s.ldg.mig = some m → s.ldg.migStop = false → 2 ≤ m.tries →
    exec (.migrationDone false) s = .next (((s.useSpare m.target).migClear).raise 0x023 (unitOf 1 m.lblock) m.target)) ∧
  (∀ (s : State) (m : Migration), s.ldg.mig = some m → s.ldg.migStop = true → ∀ ok, exec (.migrationDone ok) s = .next s) ∧
  (∀ (s : State) (m : Migration), s.ldg.mig = some m → s.ldg.migStop = false →
    ∃ u : State, exec (.migrationDone true) s = .next ((u.retireBlock m.lblock (s.physBlock m.lblock) m.target).migClear) ∧
      u.ldg.bmap = Tab.set 0 s.ldg.bmap m.lblock (m.target + 1) ∧ u.ldg.mapNext = s.ldg.mapNext + 1 ∧ u.regs = s.regs ∧ u.dram = s.dram)

/-- R28: the horizons, in full ticks: `u` is the state as the tick begins. No programmable field enters them; the fine part is zero. -/
def Obligations.TickAdvances : Prop :=
  (∀ s u : State, s.tb.on = true → 0 ≤ s.casc.base + s.casc.off → s.countTick = u →
    exec .horizonAdvance s = .next ((((u.runPorts).turnPins).serviceLosses).reachRouter) ∧ u.nowTick = s.nowTick + 1 ∧ u.up = s.up + 1 ∧
      (s.tb.keep ≤ s.nowTick → u.tb.keep = u.nowTick) ∧ s.tb.keep ≤ u.tb.keep ∧ s.hD ≤ u.hD ∧ s.hR ≤ u.hR ∧
      (1250 ≤ s.up → s.tb.keep = s.nowTick → s.hD = s.nowTick - 1250 ∧ u.hD = u.nowTick - 1250 ∧ (1250 ≤ s.nowTick → u.hD = s.hD + 1)) ∧
      (12500 ≤ s.up → s.tb.keep = s.nowTick → s.hR = s.nowTick - 12500 ∧ u.hR = u.nowTick - 12500 ∧ (12500 ≤ s.nowTick → u.hR = s.hR + 1)) ∧
      (s.up < 1250 → s.hD = 0) ∧ (s.up < 12500 → s.hR = 0) ∧
      u = { s with time := s.time + 1, up := s.up + 1, tb := { s.tb with keep := u.tb.keep, epochDue := u.tb.epochDue } }) ∧
  (∀ s : State, s.tb.on = false → exec .horizonAdvance s = .next s) ∧
  (∀ s : State, ∃ t, exec .offsetStep s = .next t ∧ t.hD = s.hD ∧ t.hR = s.hR)

/-- R108: the wrap of the tick count, and the epoch that TB_EPOCH shows (its low 16 bits). EPOCH records become due (R109). -/
def Obligations.EpochWraps : Prop :=
  ∀ s u : State, s.tb.on = true → 0 ≤ s.casc.base + s.casc.off → s.tick = 2 ^ 55 - 1 → s.countTick = u →
    exec .epochWrap s = .next ((((u.runPorts).turnPins).serviceLosses).reachRouter) ∧ u.tick = 0 ∧
      u.now / 2 ^ 64 % 2 ^ 16 = (s.now / 2 ^ 64 + 1) % 2 ^ 16 ∧ u.tb.epochDue = true ∧ u.now = s.now + 512

/-- R104 to R107, R603: lock, loss and relock. `setLock` asserts event source 301 where TB_PLL_STS.lock changes; `refSeen` writes the field `refBack`. -/
def Obligations.Reference : Prop :=
  (∀ s : State, s.dev.st = .boot → s.tb.on = false →
    exec .pllLock s = .next (({ s with time := 0, up := 0, tb := { s.tb with on := true, keep := ({ s with time := 0, up := 0 } : State).nowTick } } : State).setLock true)) ∧
  (∀ s : State, s.dev.st = .boot → s.tb.on = false →
    ∃ u : State, exec .refLockTimeout s = .next (u.raise 0x000 0 (u.fd F.TB_PLL_STS_loss_cnt) true) ∧
      u = { (({ s with time := 0, up := 0 } : State).setFd F.TB_PLL_STS_holdover 1) with
            tb := { s.tb with on := true, keep := ({ s with time := 0, up := 0 } : State).nowTick, refBack := false,
                              holdovers := s.tb.holdovers ++ [(0, none)] } }) ∧
  (∀ (s : State) (ppm : Int), s.tb.on = true → s.tb.refBack = true → 200 < ppm.natAbs →
    ∃ u v w : State, u = (s.refSeen false).setLock false ∧
      v = (if u.bit F.TB_PLL_STS_holdover then u
           else (u.setFd F.TB_PLL_STS_holdover 1).setTb fun b => { b with holdovers := b.holdovers ++ [(s.nowTick, none)] }) ∧
      w = (v.setFd F.TB_PLL_STS_ref_loss 1).incFd F.TB_PLL_STS_loss_cnt ∧
      exec .refNoEdge s = .next (w.raise 0x000 0 (w.fd F.TB_PLL_STS_loss_cnt) true) ∧
      exec (.refFreqWindowEnd ppm) s = .next (w.raise 0x000 0 (w.fd F.TB_PLL_STS_loss_cnt) true)) ∧
  (∀ (s : State) (ppm : Int), s.tb.on = true → s.tb.refBack = false → 200 < ppm.natAbs →
    exec .refNoEdge s = .next s ∧ exec (.refFreqWindowEnd ppm) s = .next s) ∧
  (∀ (s : State) (ppm : Int), s.tb.on = true → ppm.natAbs ≤ 200 →
    exec (.refFreqWindowEnd ppm) s = .next { s with tb := { s.tb with refBack := true } }) ∧
  (∀ s : State, s.tb.on = true → s.bit F.TB_PLL_STS_holdover = true →
    exec .relock s = .next (((((s.refSeen true).endHoldover).setLock true).setFd F.TB_PLL_STS_relock 1).dropLive 0 0x000)) ∧
  (∀ s : State, (s.bit F.TB_OUT_CFG_en = false → s.refclkOut = .low) ∧ (s.bit F.TB_OUT_CFG_en = true → s.bit F.TB_OUT_CFG_src = false → s.refclkOut = .refclk) ∧
    (s.bit F.TB_OUT_CFG_en = true → s.bit F.TB_OUT_CFG_src = true → s.refclkOut = .pll))

/-- R121 to R130, R137: the lane commands where they begin their work, and where they are refused. -/
def Obligations.LaneCommands : Prop :=
  (∀ (s : State) (l : Nat), 216 ≤ l → l < 221 → s.bit F.TB_CAL_STS_busy = false → s.laneState l ≠ 5 →
    ∃ u : State, u = (s.calStart l 1).setLane l 2 0 ∧
      exec (.tbCalibrate l) s = .next { u with tb := { u.tb with svcCal := Tab.set 0 u.tb.svcCal l (u.time + 1) } }) ∧
  (∀ (s : State) (l : Nat), l < 216 → s.bit F.TB_CAL_STS_busy = false → s.laneState l ≠ 5 → (192 ≤ l ∨ s.noSpare (l / 8) = false) →
    exec (.tbCalibrate l) s = .next ((s.calStart l 1).askWork l 1)) ∧
  (∀ (s : State) (l : Nat), l < 221 → s.bit F.TB_CAL_STS_busy = false → s.laneState l = 5 →
    exec (.tbRetry l) s = .next ((s.calStart l 2).askWork l 2)) ∧
  (∀ (s : State) (l : Nat), l < 192 → s.bit F.TB_CAL_STS_busy = false → s.laneState (192 + l / 8) = 3 →
    exec (.tbHandover l) s = .next ((s.calStart l 3).askWork l 3)) ∧
  (∀ (s : State) (l : Nat), l < 192 → s.bit F.TB_CAL_STS_busy = false → s.laneState (192 + l / 8) = 4 →
    s.fd F.TB_LANE_STS_partner (192 + l / 8) = l → exec (.tbReturn l) s = .next ((s.calStart l 4).askWork l 4)) ∧
  (∀ (s : State) (l : Nat), l < 221 → s.bit F.TB_CAL_STS_busy = true →
    exec (.tbCalibrate l) s = .next (s.calRefuse l 1) ∧ exec (.tbRetry l) s = .next (s.calRefuse l 2) ∧
    exec (.tbHandover l) s = .next (s.calRefuse l 3) ∧ exec (.tbReturn l) s = .next (s.calRefuse l 4)) ∧
  (∀ (s : State) (l op q : Nat) (c : QuadCal), l < 216 → quadOfLane l = q → s.quadCal q = c →
    (c.phase ≠ .idle ∨ s.workReady q l op = false → s.askWork l op = s.setQuadCal q { c with wait := c.wait ++ [(l, op)] }) ∧
    (c.phase = .idle → s.workReady q l op = true →
      ((op = 1 ∨ op = 5) → (192 ≤ l ∨ s.bit F.PRT_CFG_en (l / 2) = false) → s.askWork l op =
        (s.setLane l 2 0).setQuadCal q { QuadCal.init with phase := .inPlace, lane := l, op := op, wait := c.wait }) ∧
      ((op = 1 ∨ op = 5) → l < 192 → s.bit F.PRT_CFG_en (l / 2) = true → s.askWork l op =
        s.beginHandover q { QuadCal.init with lane := l, op := op, wait := c.wait }) ∧
      (op = 2 → s.askWork l op =
        (s.setFd F.TB_LANE_STS_state 2 l).setQuadCal q { QuadCal.init with phase := .inPlace, lane := l, op := 2, wait := c.wait }) ∧
      (op = 3 → s.askWork l op = s.beginHandover q { QuadCal.init with lane := l, op := 3, wait := c.wait }) ∧
      (op = 4 → s.askWork l op = s.beginHandover q { QuadCal.init with lane := l, op := 4, ret := true, wait := c.wait }))) ∧
  (∀ (s : State) (l q i moved : Nat), s.dev.st = .run → s.bit F.TB_CAL_CTL_sched_en = true → l < 216 → quadOfLane l = q → s.laneState l ≠ 5 →
    s.noSpare q = false → s.laneBusy q l = false → moved < s.fd F.TB_CAL_CTL_dtemp ∨ s.fd F.TB_CAL_CTL_dtemp = 0 → s.rotDue q = some i → rotLane q i = l →
    exec (.scheduledCalibration ⟨l, moved⟩) s = .next ((s.setTb fun t => { t with rot := Tab.set 0 t.rot q ((i + 1) % 9) }).askWork l 5)) ∧
  (∀ (s : State) (l q moved : Nat) (c : QuadCal), s.dev.st = .run → s.bit F.TB_CAL_CTL_sched_en = true → l < 216 → quadOfLane l = q → s.laneState l ≠ 5 →
    s.noSpare q = false → s.laneBusy q l = false → s.fd F.TB_CAL_CTL_dtemp ≠ 0 → s.fd F.TB_CAL_CTL_dtemp ≤ moved → s.quadCal q = c →
    exec (.scheduledCalibration ⟨l, moved⟩) s = .next
      (if c.phase = .idle ∧ s.workReady q l 5 = true then s.beginWork q l 5 else s.setQuadCal q { c with wait := (l, 5) :: c.wait }))

/-- R121, R124, R125, R127 to R129, R131: the rest of a hand-over, and a service lane's pass. -/
def Obligations.LaneHandover : Prop :=
  (∀ (s : State) (q : Nat) (c : QuadCal), s.quadCal q = c → c.phase = .shadow → c.maxDiff ≤ 8 → (s.port (c.lane / 2)).hold = none →
    (16 ≤ c.pairs ∨ c.started + 6250 ≤ s.time) →
    ∃ u : State, u = ((s.setRg .TB_LANE_SER (s.rg .PRT_SER (c.lane / 2)) c.lane).setRg .TB_LANE_SER (s.rg .PRT_SER (c.lane / 2)) (192 + q)).incFd
        F.TB_LANE_HCNT_done c.lane ∧
      exec (.verifyEnd q) s =
        .next ((if c.ret then u.setLane c.lane 0 0 else u.setLane (192 + q) 4 c.lane).setQuadCal q { c with phase := .detach })) ∧
  (∀ (s : State) (q : Nat) (c : QuadCal), s.quadCal q = c → c.phase = .shadow → c.maxDiff ≤ 8 → (s.port (c.lane / 2)).hold ≠ none →
    exec (.verifyEnd q) s = .next (s.setQuadCal q { c with phase := .hold })) ∧
  (∀ (s : State) (p : Nat) (c : QuadCal), s.quadCal (p / 4) = c → c.phase = .hold → c.lane / 2 = p → s.holdOver p = s.switchLane (p / 4) c) ∧
  (∀ (s : State) (q : Nat) (c : QuadCal), s.quadCal q = c → c.phase = .shadow → 16 ≤ c.pairs → 8 < c.maxDiff → c.ret = false →
    exec (.verifyEnd q) s =
      .next (((((s.setLane (192 + q) 3 0).incFd F.TB_LANE_HCNT_aborted c.lane).raise 0x081 (unitOf 4 c.lane) (192 + q)).calEnd c.lane c.op 3).quadIdle q)) ∧
  (∀ (s : State) (q x : Nat) (c : QuadCal), s.quadCal q = c → c.phase = .detach → (if c.ret then 192 + q else c.lane) = x →
    (Tab.get 0 s.tb.bufs x ≤ 1600 * s.time → Tab.get none s.tb.loss x = none → (∀ h ∈ Tab.get [] s.tb.held q, h.lane ≠ x) →
      (c.ret = false → exec (.detachDone q) s = .next (((s.setLane c.lane 2 (192 + q)).setQuadCal q { c with phase := .relieved }).nextChk q)) ∧
      (c.ret = true → exec (.detachDone q) s = .next (((s.setLane (192 + q) 3 0).calEnd c.lane c.op 1).quadIdle q))) ∧
    (1600 * s.time < Tab.get 0 s.tb.bufs x → exec (.detachDone q) s = .next s)) ∧
  (∀ (s : State) (l : Nat) (h : List Nat), 216 ≤ l → l < 221 → s.laneState l = 2 → (densityPass h).isSome = true →
    ∃ u v : State, u = (s.passLane l h).1.setLane l 0 0 ∧
      v = { u with tb := { u.tb with
        svcCal := Tab.set 0 u.tb.svcCal l 0,
        held := if natBit ((s.passLane l h).1.fd F.TB_SVC_EN_en) (l - 216) then Tab.set [] u.tb.held 40 (Tab.get [] u.tb.held 40 ++
          [⟨221, gapPacket (0x60 + (l - 216)) 1 3 ((s.passLane l h).1.fuOf (Tab.get 0 (s.passLane l h).1.tb.svcCal l))
            ((s.passLane l h).1.fuOf (s.passLane l h).1.time) 0, 0, true⟩]) else u.tb.held } } ∧
      exec (.calibrationPassEnd l h) s = .next ((v.calEnd l 1 1).svcRelease))

/-- R49 to R59, R67 to R70, R76, R77, R82: the writes of a port's settings (`schedule`), and their coming into force (`takeSet`); `u` there is the port with the
settings and nothing that waits. -/
def Obligations.PortSettings : Prop :=
  (∀ (s : State) (p : Nat) (v : Word), p < 96 → s.domOn (p / 4) = true → bitsOf v 4 2 ≠ 3 →
    (bitsOf v 1 1 = s.fd F.PRT_CFG_class p ∨ (s.fd F.PRT_CFG_en p = 0 ∧ bitsOf v 0 1 = 0) →
      exec (.prtCfgWrite p v) s =
        .next ((s.setRg .PRT_CFG (w32 (bitsOf v 0 1 + 2 * bitsOf v 1 1 + 4 * bitsOf v 2 1 + 16 * bitsOf v 4 2)) p).schedule p)) ∧
    (bitsOf v 1 1 ≠ s.fd F.PRT_CFG_class p → s.fd F.PRT_CFG_en p + bitsOf v 0 1 ≠ 0 →
      exec (.prtCfgWrite p v) s = .next (((s.setFd F.PRT_STS_cfg_err 1 p).setRg .PRT_CFG
        (w32 (bitsOf v 0 1 + 2 * s.fd F.PRT_CFG_class p + 4 * bitsOf v 2 1 + 16 * bitsOf v 4 2)) p).schedule p))) ∧
  (∀ (s : State) (p : Nat) (v : Word), p < 96 → s.domOn (p / 4) = true → bitsOf v 0 12 ≤ bitsOf v 16 12 →
    exec (.prtWinWrite p v) s =
      .next (((s.setFd F.PRT_WIN_thr_lo (bitsOf v 0 12) p).setFd F.PRT_WIN_thr_hi (bitsOf v 16 12) p).schedule p)) ∧
  (∀ (s : State) (p : Nat) (v : Word), p < 96 → s.domOn (p / 4) = true → bitsOf v 16 12 < bitsOf v 0 12 →
    exec (.prtWinWrite p v) s = .next (s.setFd F.PRT_STS_win_err 1 p)) ∧
  (∀ (s : State) (p : Nat) (v : Word), p < 96 → s.domOn (p / 4) = true →
    exec (.prtHystWrite p v) s =
      .next (((s.setFd F.PRT_HYST_hyst_hi (bitsOf v 0 7) p).setFd F.PRT_HYST_hyst_lo (bitsOf v 8 7) p).schedule p)) ∧
  (∀ (s : State) (p : Nat) (v : Word), p < 96 → s.domOn (p / 4) = true → bitsOf v 0 6 % 2 = 1 → bitsOf v 8 6 % 2 = 1 →
    exec (.prtFiltWrite p v) s =
      .next (((s.setFd F.PRT_FILT_win_hi (bitsOf v 0 6) p).setFd F.PRT_FILT_win_lo (bitsOf v 8 6) p).schedule p)) ∧
  (∀ (s : State) (p : Nat) (v : Word), p < 96 → s.domOn (p / 4) = true → exec (.prtPscWrite p v) s = .next ((s.setRg .PRT_PSC v p).schedule p)) ∧
  (∀ (s : State) (p : Nat) (x : Port), s.port p = x →
    (x.chk = none → s.schedule p = s.setPort p { x with next := if s.asked p = x.set then none else some (s.time + 1, s.asked p) }) ∧
    (∀ n, x.chk ≠ none → { x.set with en := (s.asked p).en, div := (s.asked p).div } = n →
      s.schedule p = s.setPort p { x with next := if n = x.set then none else some (s.time + 1, n) })) ∧
  (∀ (s : State) (p k t : Nat) (n : PortSet), (s.port p).next = some (t, n) → 4 * t ≤ k → 4 * t ≤ (s.port p).k →
    s.portStep p k = some (s.takeSet p t n)) ∧
  (∀ (s u : State) (p t : Nat) (n : PortSet) (x : Port), s.port p = x → s.setPort p { x with set := n, next := none } = u → x.set.thr = n.thr →
    (x.set.en = false → n.en = true →
      s.takeSet p t n = (u.setPort p { (u.port p).restart (max (4 * t) x.k) with lastEdge := t }).recompare p t) ∧
    (x.set.en = true → n.en = false → s.takeSet p t n = (u.disablePort p t).recompare p t) ∧
    (x.set.en = true → n.en = true → x.set.win = n.win → x.set.div = n.div → x.set.mode ≠ n.mode ∨ x.set.term ≠ n.term →
      s.takeSet p t n = (u.startHold p t).recompare p t)) ∧
  (∀ (s u : State) (p t : Nat) (n : PortSet) (x : Port), s.port p = x → s.setPort p { x with set := n, next := none } = u →
    { x.set with thr := n.thr } = n → x.set.thr ≠ n.thr → s.takeSet p t n = (u.settleFrom p t n.thr).recompare p t) ∧
  (∀ (s : State) (p t : Nat), s.startHold p t =
    s.setPort p { s.port p with hold := some (match (s.port p).hold with | some h => h.1 | none => t, t + 625) }) ∧
  (∀ (s : State) (p e : Nat), p < 96 → (s.port p).settle = some e → e ≤ s.time →
    exec (.thrSettleEnd p) s = .next ((s.setPort p { s.port p with settle := none }).setFd F.PRT_STS_thr_settle 0 p)) ∧
  (∀ (s u : State) (p a b : Nat), p < 96 → s.runTo p (4 * s.time) = u → (u.port p).hold = some (a, b) → b ≤ s.time →
    exec (.holdEnd p) s =
      .next (((((u.setPort p { (u.port p).restart (4 * b) with hold := none }).oosGap p 1 a b).holdOver p)).runTo p (4 * s.time)))

/-- R54 to R57, R61, R62, R65, R67, R72, R78: samples, confirmed transitions and established states. -/
def Obligations.PortEdges : Prop :=
  (∀ (s : State) (i : PortInput), i.port < 96 → ∃ u : State, ∃ z : Port,
    u = s.runTo i.port (4 * s.time) ∧
    (∀ y, i.segs.foldl (fun (y : Port) g => y.input (u.portPowered i.port) (1600 * s.time + g.ps % 1600) g)
        { u.port i.port with seen := (s.time, (u.port i.port).hi.state, (u.port i.port).lo.state) } = y → { y with seen := z.seen } = z) ∧
    exec (.confirmedTransition i) s = .next ((u.setPort i.port z).runTo i.port (4 * s.time + min 4 i.samples))) ∧
  (∀ (c d : Comp) (w k : Nat) (raw : Bool), ((c.absorb (400 * k)).push (sampled raw (c.upTo (400 * k)).length)) = d →
    (c.absorb (400 * k)).raw = some raw → w ≠ 0 →
    (d.state = none → (c.sample 1 w k).2 = none ∧ ((c.sample 1 w k).1.state = some true ↔ countEq true (d.hist.take w) = w) ∧
      ((c.sample 1 w k).1.state ≠ some true → ((c.sample 1 w k).1.state = some false ↔ countEq false (d.hist.take w) = w))) ∧
    (∀ b, d.state = some b → (w + 1) / 2 ≤ countEq (! b) (d.hist.take w) → countEq b (d.hist.take w) < (w + 1) / 2 →
      (c.sample 1 w k).1.state = some (! b) ∧ ∃ m, (c.sample 1 w k).2 = some ⟨! b, false, m⟩) ∧
    (∀ b, d.state = some b → countEq (! b) (d.hist.take w) < (w + 1) / 2 → c.sample 1 w k = (d, none))) ∧
  (∀ (s : State) (p k : Nat) (u l : Hit),
    s.confirmBoth p k (some u) (some l) =
      if (s.markStamps (2 * p) u.mark).1 ≤ (s.markStamps (2 * p + 1) l.mark).1 then (s.confirm p k false u).confirm p k true l
      else (s.confirm p k true l).confirm p k false u) ∧
  (∀ (s : State) (p k : Nat) (lower : Bool) (h : Hit), s.Inv → p < 96 → s.dev.st = .run →
    s.pair .PRT_CNTU_LO .PRT_CNTU_HI p < 2 ^ 64 - 2 → s.pair .PRT_CNTL_LO .PRT_CNTL_HI p < 2 ^ 64 - 2 → s.rg .PRT_EVT_EN p = 0 →
    ∃ t, s.confirm p k lower h = t ∧ t.rg .PRT_SER p = s.rg .PRT_SER p + 1 ∧
      t.pair .PRT_CNTU_LO .PRT_CNTU_HI p = s.pair .PRT_CNTU_LO .PRT_CNTU_HI p + (if lower then 0 else 1) ∧
      t.pair .PRT_CNTL_LO .PRT_CNTL_HI p = s.pair .PRT_CNTL_LO .PRT_CNTL_HI p + (if lower then 1 else 0) ∧
      t.ports = Tab.set Port.init s.ports p { s.port p with lastEdge := k / 4 } ∧
      t.dram = s.dram ∧ t.flash = s.flash ∧ t.flt = s.flt ∧ t.evt = s.evt ∧ t.dev = s.dev ∧ t.ldg = s.ldg ∧ t.q = s.q) ∧
  (∀ (s u : State) (p : Nat) (lower level : Bool), p < 96 → s.portPowered p = true → s.runTo p (4 * s.time) = u → ((u.port p).comp lower).level ≠ none →
    exec (.stateEstablished p lower level) s = .next u) ∧
  (∀ (s u : State) (p : Nat) (lower level : Bool), p < 96 → s.portPowered p = true → s.runTo p (4 * s.time) = u → ((u.port p).comp lower).level = none →
    ∃ c, exec (.stateEstablished p lower level) s = .next (u.setPort p ((u.port p).setComp lower c)) ∧ c.raw = some level)

/-- R48, R79 to R87, R99: self-checks and VTT. -/
def Obligations.PortChecks : Prop :=
  (∀ (s : State) (p : Nat), p < 96 → s.bit F.PRT_CFG_en p = true → s.bit F.PRT_CFG_class p = false → s.fd F.PRT_CHK_CTL_mode p ≠ 0 →
    (s.port p).chk = none → s.bit F.PRT_CHK_STS_pending p = false → s.quadChecking (p / 4) = false → s.handingOver p = false →
    exec (.checkRun p) s = .next (s.startChk p)) ∧
  (∀ (s : State) (p : Nat), p < 96 → (s.bit F.PRT_CFG_en p = false ∨ s.bit F.PRT_CFG_class p = true ∨ s.fd F.PRT_CHK_CTL_mode p = 0) →
    exec (.checkRun p) s = .next (s.setFd F.PRT_CHK_STS_refused 1 p)) ∧
  (∀ x : PortSet, (x.mode = 1 → ∀ step, (x.checking step).thr = (0x400, 0x200)) ∧ (x.mode = 0 → (x.checking 4).thr = (0x500, 0x300)) ∧
    (x.mode = 0 → ∀ step, step ≠ 4 → (x.checking step).thr = (0x800, 0x600)) ∧ ∀ step, (x.checking step).div = (0, 0) ∧ (x.checking step).hyst = x.hyst ∧
    (x.checking step).win = x.win ∧ (x.checking step).mode = x.mode) ∧
  (∀ (s : State) (p a : Nat), p < 96 → (s.port p).chk = some ⟨a, none⟩ →
    exec (.checkAbort p) s = .next ((s.setPort p { s.port p with chk := some ⟨a, some (min (a + 12759) (max (s.time + 1) a + 625))⟩ }).setFd
      F.PRT_CHK_STS_result 3 p)) ∧
  (∀ (s : State) (p : Nat), p < 96 → (s.port p).chk = none → s.bit F.PRT_CHK_STS_pending p = true →
    exec (.checkAbort p) s = .next ((s.setFd F.PRT_CHK_STS_pending 0 p).setFd F.PRT_CHK_STS_result 3 p)) ∧
  (∀ (s : State) (p : Nat), p < 96 → s.bit F.PRT_CFG_en p = true → s.bit F.PRT_CFG_class p = false → s.fd F.PRT_CHK_CTL_mode p = 2 →
    (s.port p).chk = none → s.bit F.PRT_CHK_STS_pending p = false → (s.port p).lastEdge + s.fd F.PRT_CHK_IDLE_ticks ≤ s.time →
    (s.port p).everChk = false → s.quadChecking (p / 4) = false → s.handingOver p = false →
    exec (.scheduledCheck p) s = .next (s.startChk p)) ∧
  (∀ (s : State) (p a : Nat) (o : ChkObs), p < 96 → (s.port p).chk = some ⟨a, none⟩ → s.chkFail p o = 0 → a + 12759 ≤ s.time →
    exec (.selfCheckEnd p o) s = .next (s.finishChk p (a + 12759) 1 0)) ∧
  (∀ (s : State) (p a e f : Nat) (o : ChkObs), p < 96 → (s.port p).chk = some ⟨a, none⟩ → s.chkFail p o = f → f ≠ 0 →
    a + chkBefore f + s.chkStop p f o + 625 = e → e ≤ s.time →
    exec (.selfCheckEnd p o) s = .next ((s.finishChk p e 2 f).raise 0x061 (unitOf 3 p) f)) ∧
  (∀ (s : State) (p a e : Nat) (o : ChkObs), p < 96 → (s.port p).chk = some ⟨a, some e⟩ →
    exec (.selfCheckEnd p o) s = .next (if e ≤ s.time then s.finishChk p e 3 0 else s)) ∧
  (∀ (s : State) (p a : Nat) (o : ChkObs), p < 96 → (s.port p).chk = some ⟨a, none⟩ → s.time < a + 626 → exec (.selfCheckEnd p o) s = .next s) ∧
  (∀ (s : State) (q : Nat), q < 24 → exec (.vttOverload q) s = .next ((s.setFd F.PRT_VTT_ovld 1 q).raise 0x060 (unitOf 3 (4 * q)) q true)) ∧
  (∀ (s : State) (q : Nat), q < 24 → s.bit F.PRT_VTT_ovld q = true →
    exec (.vttOverloadClear q) s = .next ((s.setFd F.PRT_VTT_ovld 0 q).dropLive (unitOf 3 (4 * q)) 0x060))

/-- R112, R330, R396: TIME_CHECK_WORD; `upset` is what a fault of the island makes of its copy until the next word. -/
def Obligations.CheckWords : Prop :=
  ∀ (s : State) (i : Nat) (upset : Int) (good : Bool), i < 40 → (s.copyOff i == 0) = good →
    ∃ (u v w : State) (leave stay : List HeldPkt), (leave, stay) = leaveBy (1600 * s.time) [] ((Tab.get [] (s.closeLosses i).tb.held i).map fun h => h.checked good) ∧
      u = (s.closeLosses i).setTb (fun t => { t with held := Tab.set [] t.held i stay }) ∧
      v = (if good then u
           else (((((u.setFd F.TB_DIST_STS_mism 1).setFd F.TB_DIST_STS_island i).incFd F.TB_DIST_STS_count).raise 0x001 0 i).assertOnce 302)) ∧
      w = v.setTb (fun t => { t with copies := Tab.set 0 t.copies i upset }) ∧
      exec (.timeCheckWord i upset) s =
        .next ((leave.map fun h => h.recs).foldl (fun t rs => (t.pushPkt (1024 + i) (0x20 + i) .rtr rs).1) (if i < 24 then w else w.freeBuffers (i - 24)))

/-- R145, R148, R159, R425: the start of a task, and its next gate event. -/
def Obligations.GateEvents : Prop :=
  (∀ (s : State) (t : Nat) (k : Task), s.task t = some k → k.started = false → k.startAt ≤ s.now →
    ∃ k1 : Task, k1 = { k with started := true, gates := k.gates.begin k.desc k.startAt (s.fullTime (dOrigin k.desc)) } ∧
      exec (.taskStartPoint t) s = .next ((s.setTask t (some k1)).pushPkt k.outq prodRouter .rtr [s.epochRec]).1) ∧
  (∀ (s : State) (t : Nat) (k : Task) (g : GStep), s.task t = some k → s.nextStep k = some g → g.closes = true → g.time ≤ 2 ^ 64 + s.now →
    exec (.gateClose t) s = .next (s.applyStep t k g)) ∧
  (∀ (s : State) (t : Nat) (k : Task) (g : GStep), s.task t = some k → s.nextStep k = some g → g.desc ≠ [] → k.pend ≠ [] →
    g.time ≤ 2 ^ 64 + s.now → exec (.switchTakeEffect ⟨t, none⟩) s = .next (s.applyStep t k g)) ∧
  (∀ (s s1 : State) (t : Nat) (x : Nat × Nat) (k k1 : Task) (g : GStep), s.task t = some k → k1 = { k with pend := setTly x k.pend } →
    s1 = s.setTask t (some k1) → s1.task t = some k1 → s1.nextStep k1 = some g → g.desc ≠ [] → k.pend ≠ [] →
    g.time ≤ 2 ^ 64 + s.now → exec (.switchTakeEffect ⟨t, some x⟩) s = .next (s1.applyStep t k1 g)) ∧
  (∀ (s : State) (k : Task), k.started = true → k.gates.run = true → k.gates.phase = .opened → dGsrc k.desc = 0 → k.pend = [] →
    k.stopAt = none → s.dev.cut = none → gridFrom k.gates.orig (dGateLen k.desc) (k.gates.start + 1) ≤ s.taskHor k.desc →
    s.nextStep k = some (plainStep k.desc k.gates (gridFrom k.gates.orig (dGateLen k.desc) (k.gates.start + 1))))

/-- R143, R419, R420: the release of the next event. -/
def Obligations.EventRelease : Prop :=
  (∀ (s : State) (e x : Nat) (c : Ctx) (k : Task), s.ctx e x = c → c.valid = true → c.blocked = true → c.moving = false → s.engState e = 0 →
    s.task c.task = some k → k.started = true → s.dev.st = .run → s.dev.shed = false →
    (∀ u p, dFunc k.meas.desc < 18 → s.nextEntry c.task = (u, some p) → exec (.eventRelease e x) s = .next (u.releaseNative c.task p)) ∧
    (∀ u, dFunc k.meas.desc < 18 → s.nextEntry c.task = (u, none) → exec (.eventRelease e x) s = .next u) ∧
    (∀ r roles sub rest, 18 ≤ dFunc k.meas.desc → c.rest = (r, roles, sub) :: rest →
      ∃ d : Ctx, exec (.eventRelease e x) s = .next (s.setCtx e x d) ∧
        d = { c with ev := some ⟨r, roles, sub, 0⟩, rest := rest, blocked := false,
                     fl := { c.fl with ev := true, mark := natBit roles 5, sel := decide (roles % 32 ≠ 0) } })) ∧
  (∀ (s : State) (t : Nat) (u : State) (p : PortRec), s.nextEntry t = (u, some p) →
    ∃ (v : State) (k : Task) (pre rest : List PortRec), v.task t = some k ∧ k.port = pre ++ p :: rest ∧
      (∀ q ∈ pre, k.lateWaits q = true) ∧ k.lateWaits p = false ∧ p.ready (v.taskHor k.desc) = true ∧
      (∀ th, v.heldFrom t = some th → p.late = true ∨ p.time < th) ∧
      u = v.setTask t (some { k with port := pre ++ rest }))

/-- R416, R417, class 0. `Writes` says what else holds: flags, and that nothing else changes. -/
def Obligations.EngineInteger : Prop :=
  ∀ (s : State) (e x w : Nat) (c : Ctx),
    (Issues s e x 0 2 w c → Writes s e x w c (c.a w &&& c.b w) (exec (.and e x) s)) ∧
    (Issues s e x 0 3 w c → Writes s e x w c (c.a w ||| c.b w) (exec (.or e x) s)) ∧
    (Issues s e x 0 4 w c → Writes s e x w c (c.a w ^^^ c.b w) (exec (.xor e x) s)) ∧
    (Issues s e x 0 5 w c → Writes s e x w c (c.a w <<< ((c.b w).toNat % 64)) (exec (.shl e x) s)) ∧
    (Issues s e x 0 6 w c → Writes s e x w c (c.a w >>> ((c.b w).toNat % 64)) (exec (.shr e x) s)) ∧
    (Issues s e x 0 7 w c → Writes s e x w c ((c.a w).sshiftRight ((c.b w).toNat % 64)) (exec (.sar e x) s)) ∧
    (Issues s e x 0 8 w c → Writes s e x w c (BitVec.ofInt 64 (min (c.a w).toInt (c.b w).toInt)) (exec (.min e x) s)) ∧
    (Issues s e x 0 9 w c → Writes s e x w c (BitVec.ofInt 64 (max (c.a w).toInt (c.b w).toInt)) (exec (.max e x) s)) ∧
    (Issues s e x 0 10 w c → Writes s e x w c (BitVec.ofNat 64 (min (c.a w).toNat (c.b w).toNat)) (exec (.minu e x) s)) ∧
    (Issues s e x 0 11 w c → Writes s e x w c (BitVec.ofNat 64 (max (c.a w).toNat (c.b w).toNat)) (exec (.maxu e x) s)) ∧
    (Issues s e x 0 12 w c → Writes s e x w c (c.b w) (exec (.mov e x) s)) ∧
    (Issues s e x 0 13 w c → Writes s e x w c (BitVec.ofInt 32 (wImm w) ++ (c.r (wRd w)).setWidth 32) (exec (.movh e x) s)) ∧
    (Issues s e x 0 16 w c → Writes s e x w c (if c.fl.z then c.a w else c.b w) (exec (.sel e x) s))

/-- R416, R417: the sums of class 0, and what C and V mean. -/
def Obligations.EngineSums : Prop :=
  ∀ (s : State) (e x w : Nat) (c : Ctx),
    (∃ f : CFlags,
      f = { c.fl with z := c.a w + c.b w == 0, n := (c.a w + c.b w).msb, c := decide (2 ^ 64 ≤ (c.a w).toNat + (c.b w).toNat),
                      v := decide ((c.a w + c.b w).toInt ≠ (c.a w).toInt + (c.b w).toInt) } ∧
      (Issues s e x 0 0 w c → exec (.add e x) s =
        .next (s.setCtx e x (({ c.setR (wRd w) (c.a w + c.b w) with fl := if wFl w then f else c.fl } : Ctx).advance w)))) ∧
    (∃ f : CFlags,
      f = { c.fl with z := c.a w - c.b w == 0, n := (c.a w - c.b w).msb, c := decide ((c.a w).toNat < (c.b w).toNat),
                      v := decide ((c.a w - c.b w).toInt ≠ (c.a w).toInt - (c.b w).toInt) } ∧
      (Issues s e x 0 1 w c → exec (.sub e x) s =
        .next (s.setCtx e x (({ c.setR (wRd w) (c.a w - c.b w) with fl := if wFl w then f else c.fl } : Ctx).advance w))) ∧
      (Issues s e x 0 14 w c → exec (.cmp e x) s = .next (s.setCtx e x (({ c with fl := f } : Ctx).advance w)))) ∧
    (∀ r h : Int, r = (c.a w).toInt + (c.b w).toInt → h = max (-2 ^ 63) (min (2 ^ 63 - 1) r) → Issues s e x 0 15 w c →
      Writes s e x w { c with fl := { c.fl with sat := c.fl.sat || decide (h ≠ r) } } (BitVec.ofInt 64 h) (exec (.adds e x) s))

/-- R417, class 1. -/
def Obligations.EngineAccumulators : Prop :=
  ∀ (s : State) (e x w : Nat) (c : Ctx),
    (Issues s e x 1 0 w c → Writes s e x w c (c.a w * c.b w) (exec (.mul e x) s)) ∧
    (Issues s e x 1 1 w c → Writes s e x w c (BitVec.ofInt 64 ((c.a w).toInt * (c.b w).toInt / 2 ^ 64)) (exec (.mulhs e x) s)) ∧
    (Issues s e x 1 2 w c → Writes s e x w c (BitVec.ofNat 64 ((c.a w).toNat * (c.b w).toNat / 2 ^ 64)) (exec (.mulhu e x) s)) ∧
    (Issues s e x 1 3 w c → WritesAcc s e x w c (c.acc w + BitVec.ofInt 128 ((c.a w).toInt * (c.b w).toInt)) (exec (.amac e x) s)) ∧
    (Issues s e x 1 4 w c → WritesAcc s e x w c (c.acc w - BitVec.ofInt 128 ((c.a w).toInt * (c.b w).toInt)) (exec (.amsb e x) s)) ∧
    (Issues s e x 1 5 w c → WritesAcc s e x w c (0) (exec (.aclr e x) s)) ∧
    (Issues s e x 1 6 w c → WritesAcc s e x w c (c.r (wRa w) ++ c.r (wRb w)) (exec (.ald e x) s)) ∧
    (Issues s e x 1 7 w c → Writes s e x w c ((c.acc w).extractLsb' 0 64) (exec (.ardl e x) s)) ∧
    (Issues s e x 1 8 w c → Writes s e x w c ((c.acc w).extractLsb' 64 64) (exec (.ardh e x) s)) ∧
    (Issues s e x 1 9 w c → WritesAcc s e x w c (c.acc w <<< wAux w) (exec (.ashl e x) s)) ∧
    (∀ q : Int, (wAux w = 0 → q = (c.acc w).toInt) → (wAux w ≠ 0 → q = ((c.acc w).toInt + 2 ^ (wAux w - 1)) / 2 ^ wAux w) →
      Issues s e x 1 10 w c → WritesAcc s e x w c (BitVec.ofInt 128 q) (exec (.ashr e x) s)) ∧
    (∀ p q : Int, p = (c.wide (wRa w) ((wRa w + 1) % 32)).toInt → q = (c.wide (wRb w) ((wRb w + 1) % 32)).toInt → Issues s e x 1 11 w c →
      WritesAcc s e x w c (c.acc w + BitVec.ofInt 128 (rdiv (p * q) (2 ^ (64 + wAux w)))) (exec (.amulw e x) s)) ∧
    (Issues s e x 1 12 w c → WritesAcc s e x w c (c.acc w + (c.r (wRa w) ++ c.r (wRb w))) (exec (.aadd e x) s)) ∧
    (Issues s e x 1 13 w c → ∃ n f, (wFl w = false → f = c.fl) ∧
      exec (.axch e x) s = .next (({ s with freeCtr := n } : State).setCtx e x (({ c with acc0 := c.acc1, acc1 := c.acc0, fl := { c.fl with z := f.z, n := f.n, c := f.c, v := f.v } } : Ctx).advance w)))

/-- R417, class 2, and what the rounding of R417 means. -/
def Obligations.EngineDivision : Prop :=
  (∀ (s : State) (e x w : Nat) (c d : Ctx), d = { c with fl := { c.fl with dvz := c.fl.dvz || c.b w == 0 } } →
    (Issues s e x 2 0 w c → Writes s e x w d (if c.b w = 0 then 0 else BitVec.ofInt 64 ((c.a w).toInt.tdiv (c.b w).toInt)) (exec (.divs e x) s)) ∧
    (Issues s e x 2 1 w c → Writes s e x w d (if c.b w = 0 then 0 else BitVec.ofNat 64 ((c.a w).toNat / (c.b w).toNat)) (exec (.divu e x) s)) ∧
    (Issues s e x 2 2 w c → Writes s e x w d (if c.b w = 0 then 0 else BitVec.ofInt 64 ((c.a w).toInt.tmod (c.b w).toInt)) (exec (.rems e x) s)) ∧
    (Issues s e x 2 3 w c → Writes s e x w d (if c.b w = 0 then 0 else BitVec.ofNat 64 ((c.a w).toNat % (c.b w).toNat)) (exec (.remu e x) s)) ∧
    (Issues s e x 2 4 w c → Writes s e x w d (if c.b w = 0 then 0 else BitVec.ofInt 64 (rdivInt (c.a w).toInt (c.b w).toInt)) (exec (.rdiv e x) s)) ∧
    (Issues s e x 2 5 w c → WritesAcc s e x w d (if c.b w = 0 then 0 else BitVec.ofInt 128 (rdivInt (c.acc w).toInt (c.b w).toInt)) (exec (.adiv e x) s))) ∧
  (∀ a b : Int, b ≠ 0 → 2 * (a - b * rdivInt a b).natAbs ≤ b.natAbs ∧
    (2 * (a - b * rdivInt a b).natAbs = b.natAbs → a.natAbs < (b * rdivInt a b).natAbs))

/-- R417, class 3. `f` is a free value, which only a NaN takes (assumption log 25). -/
def Obligations.EngineBinary64 : Prop :=
  (∀ (s : State) (e x w : Nat) (c : Ctx),
    (Issues s e x 3 0 w c → ∃ f, Writes s e x w c (BitVec.ofNat 64 (f64Add f (c.a w).toNat (c.b w).toNat)) (exec (.fadd e x) s)) ∧
    (Issues s e x 3 1 w c → ∃ f, Writes s e x w c (BitVec.ofNat 64 (f64Add f (c.a w).toNat (f64Negate (c.b w).toNat))) (exec (.fsub e x) s)) ∧
    (Issues s e x 3 2 w c → ∃ f, Writes s e x w c (BitVec.ofNat 64 (f64Mul f (c.a w).toNat (c.b w).toNat)) (exec (.fmul e x) s)) ∧
    (Issues s e x 3 3 w c → ∃ f, Writes s e x w { c with fl := { c.fl with dvz := c.fl.dvz || f64Zero (c.b w).toNat } }
      (if f64Zero (c.b w).toNat then 0 else BitVec.ofNat 64 (f64Div f (c.a w).toNat (c.b w).toNat)) (exec (.fdiv e x) s)) ∧
    (Issues s e x 3 4 w c → ∃ f, Writes s e x w c (BitVec.ofNat 64 (f64Root f (c.a w).toNat)) (exec (.fsqrt e x) s)) ∧
    (Issues s e x 3 5 w c → ∃ f, Writes s e x w { c with fl := { c.fl with dvz := c.fl.dvz || f64Zero (c.a w).toNat } }
      (if f64Zero (c.a w).toNat then 0 else BitVec.ofNat 64 (f64Div f (f64OfInt 1 1) (c.a w).toNat)) (exec (.frcp e x) s)) ∧
    (Issues s e x 3 6 w c → Writes s e x w c (BitVec.ofNat 64 (f64OfInt (c.a w).toInt 1)) (exec (.fcvt e x) s)) ∧
    (Issues s e x 3 7 w c → Writes s e x w c (BitVec.ofNat 64 (f64OfInt (c.acc w).toInt (2 ^ wAux w))) (exec (.fcvta e x) s)) ∧
    (∀ z n v, f64Cmp (c.a w).toNat (c.b w).toNat = (z, n, v) → Issues s e x 3 8 w c → ∃ k cy, (wFl w = false → cy = c.fl.c) ∧
      exec (.fcmp e x) s = .next (({ s with freeCtr := k } : State).setCtx e x (({ c with fl := { c.fl with z := z, n := n, v := v, c := cy } } : Ctx).advance w))) ∧
    (∀ h : Int, f64Fin (c.a w).toNat = true → h = max (-2 ^ 63) (min (2 ^ 63 - 1) (f64Round (c.a w).toNat)) → Issues s e x 3 9 w c →
      Writes s e x w { c with fl := { c.fl with sat := c.fl.sat || decide (h ≠ f64Round (c.a w).toNat) } } (BitVec.ofInt 64 h) (exec (.fint e x) s))) ∧
  (∀ f g p q : Nat, f64Fin p = true → f64Fin q = true → f64Add f p q = f64Add g p q ∧ f64Mul f p q = f64Mul g p q)

/-- R412, R417, R453: loads and stores. -/
def Obligations.EngineMemory : Prop :=
  ∀ (s : State) (e x w a : Nat) (c : Ctx),
    (Issues s e x 4 0 w c → a = (c.a w + BitVec.ofInt 64 (wImm w)).toNat → a + 8 ≤ s.frameBytes c → a % 8 = 0 →
      Writes s e x w c (BitVec.ofNat 64 (c.rd a 8)) (exec (.ld e x .good) s)) ∧
    (Issues s e x 4 2 w c → a = (c.a w + BitVec.ofInt 64 (wImm w)).toNat → a + 4 ≤ s.frameBytes c → a % 4 = 0 →
      Writes s e x w c (BitVec.ofNat 64 (c.rd a 4)) (exec (.ldw e x .good) s)) ∧
    (Issues s e x 4 3 w c → a = (c.a w + BitVec.ofInt 64 (wImm w)).toNat → a + 4 ≤ s.frameBytes c → a % 4 = 0 →
      Writes s e x w c (BitVec.ofInt 64 (sInt 32 (c.rd a 4))) (exec (.ldws e x .good) s)) ∧
    (Issues s e x 4 1 w c → a = (c.a w + BitVec.ofInt 64 (wImm w)).toNat → a + 8 ≤ s.frameBytes c → a % 8 = 0 →
      exec (.st e x .good) s = .next (s.setCtx e x (({ c with frame := Memory.writeN 0 c.frame a (leBytes 8 ((c.r (wRb w)).toNat)) } : Ctx).advance w))) ∧
    (Issues s e x 4 4 w c → a = (c.a w + BitVec.ofInt 64 (wImm w)).toNat → a + 4 ≤ s.frameBytes c → a % 4 = 0 →
      exec (.stw e x .good) s = .next (s.setCtx e x (({ c with frame := Memory.writeN 0 c.frame a (leBytes 4 ((c.r (wRb w)).toNat % 2 ^ 32)) } : Ctx).advance w))) ∧
    (Issues s e x 4 0 w c → a = (c.a w + BitVec.ofInt 64 (wImm w)).toNat → s.frameBytes c < a + 8 ∨ a % 8 ≠ 0 →
      exec (.ld e x .good) s = .next (s.abortCtx e x false) ∧ exec (.ld e x .uncorrectable) s = .next (s.abortCtx e x false)) ∧
    (Issues s e x 4 0 w c → a = (c.a w + BitVec.ofInt 64 (wImm w)).toNat → a + 8 ≤ s.frameBytes c → a % 8 = 0 →
      exec (.ld e x .uncorrectable) s = .next (s.abortCtx e x true) ∧
      Writes (s.addSat F.ENG_ECC 1 e) e x w c (BitVec.ofNat 64 (c.rd a 8)) (exec (.ld e x .corrected) s)) ∧
    (∀ k : Task, Issues s e x 4 5 w c → a = (c.a w + BitVec.ofInt 64 (wImm w)).toNat → s.task c.task = some k → a + 8 ≤ k.spill.2 → a % 8 = 0 →
      s.poisonIn (k.spill.1 + a) 8 = 0 →
      Writes s e x w c (BitVec.ofNat 64 (ofLe (Memory.readN 0 s.dram (k.spill.1 + a) 8))) (exec (.spld e x) s)) ∧
    (∀ k : Task, s.Inv → Issues s e x 4 6 w c → a = (c.a w + BitVec.ofInt 64 (wImm w)).toNat → s.task c.task = some k → a + 8 ≤ k.spill.2 →
      a % 8 = 0 →
      ∃ m, exec (.spst e x) s = .next (({ s with dram := m } : State).setCtx e x (c.advance w)) ∧
        (∀ b, b < k.spill.1 + a ∨ k.spill.1 + a + 8 ≤ b → Memory.read 0 m b = Memory.read 0 s.dram b) ∧
        (∀ i, i < 8 → Memory.read 0 m (k.spill.1 + a + i) = (c.r (wRb w)).extractLsb' (8 * i) 8))

/-- R180, R413, R417: the histogram unit. -/
def Obligations.EngineHistogram : Prop :=
  ∀ (s : State) (e x w : Nat) (c : Ctx),
    (c.r (wRb w) ≠ 0 → Issues s e x 5 0 w c →
      exec (.hcfg e x) s = .next (s.setCtx e x (({ c with origin := (c.a w).toInt, width := (c.r (wRb w)).toNat } : Ctx).advance w))) ∧
    (c.r (wRb w) = 0 → Issues s e x 5 0 w c → exec (.hcfg e x) s = .next (s.abortCtx e x false)) ∧
    (∀ i : Int, 0 < c.width → i = ((c.a w).toInt - c.origin) / c.width → 0 ≤ i → i < s.binCount c → Issues s e x 5 1 w c →
      ∃ k n sat, n = min (2 ^ 32 - 1) (Tab.get 0 c.bins i.toNat + 1) ∧ sat = decide (Tab.get 0 c.bins i.toNat + 1 ≠ n) ∧
        exec (.hadd e x) s = .next (({ s with freeCtr := k } : State).setCtx e x
          (({ c with bins := Tab.set 0 c.bins i.toNat n, fl := { c.fl with sat := c.fl.sat || sat } } : Ctx).advance w))) ∧
    (∀ i : Int, 0 < c.width → i = ((c.a w).toInt - c.origin) / c.width → i < 0 → Issues s e x 5 1 w c →
      ∃ k n sat, n = min (2 ^ 32 - 1) (c.below + 1) ∧ sat = decide (c.below + 1 ≠ n) ∧
        exec (.hadd e x) s = .next (({ s with freeCtr := k } : State).setCtx e x
          (({ c with below := n, fl := { c.fl with sat := c.fl.sat || sat } } : Ctx).advance w))) ∧
    (∀ i : Int, 0 < c.width → i = ((c.a w).toInt - c.origin) / c.width → (s.binCount c : Int) ≤ i → 0 ≤ i → Issues s e x 5 1 w c →
      ∃ k n sat, n = min (2 ^ 32 - 1) (c.above + 1) ∧ sat = decide (c.above + 1 ≠ n) ∧
        exec (.hadd e x) s = .next (({ s with freeCtr := k } : State).setCtx e x
          (({ c with above := n, fl := { c.fl with sat := c.fl.sat || sat } } : Ctx).advance w))) ∧
    ((c.a w).toNat < s.binCount c → Issues s e x 5 2 w c → Writes s e x w c (BitVec.ofNat 64 (Tab.get 0 c.bins (c.a w).toNat)) (exec (.hrd e x) s)) ∧
    (Issues s e x 5 3 w c → c.below < 2 ^ 32 → Writes s e x w c (BitVec.ofNat 32 c.above ++ BitVec.ofNat 32 c.below) (exec (.hruo e x) s)) ∧
    (Issues s e x 5 4 w c → exec (.hclr e x) s = .next (s.setCtx e x (({ c with bins := [], below := 0, above := 0 } : Ctx).advance w)))

/-- R417, R420, R422: class 6. -/
def Obligations.EnginePort : Prop :=
  ∀ (s : State) (e x w : Nat) (c : Ctx),
    (Issues s e x 6 0 w c → c.opn = false → exec (.evpop e x) s = .next (s.setCtx e x (({ c with blocked := true } : Ctx).advance w))) ∧
    (Issues s e x 6 0 w c → c.opn = true → exec (.evpop e x) s = .next (s.abortCtx e x false)) ∧
    (∀ v : CEvent, Issues s e x 6 1 w c → c.ev = some v →
      (wAux w = 0 → Writes s e x w c (v.record.w0.setWidth 64) (exec (.evrd e x) s)) ∧
      (wAux w = 1 → Writes s e x w c (v.record.w2 ++ v.record.w1) (exec (.evrd e x) s)) ∧
      (wAux w = 2 → Writes s e x w c (v.record.w3.setWidth 64) (exec (.evrd e x) s)) ∧
      (wAux w = 3 → Writes s e x w c (BitVec.ofNat 64 v.roles) (exec (.evrd e x) s)) ∧
      (wAux w = 4 → Writes s e x w c (BitVec.ofNat 64 v.sub) (exec (.evrd e x) s)) ∧
      (wAux w = 5 → Writes s e x w c (BitVec.ofNat 64 v.drops) (exec (.evrd e x) s))) ∧
    (∀ (v : CEvent) (k : Task) (u : Sub), Issues s e x 6 2 w c → c.ev = some v → s.task c.task = some k → k.subs[v.sub]? = some u → c.rest = [] →
      exec (.skip e x) s = .next ((s.skipQ u.queue).setCtx e x (c.advance w))) ∧
    (∀ (k : Task) (r : Rec), Issues s e x 6 3 w c → s.task c.task = some k →
      r = ⟨(c.a w).extractLsb' 0 32, (c.r (wRb w)).extractLsb' 0 32, (c.r (wRb w)).extractLsb' 32 32, (c.a w).extractLsb' 32 32⟩ →
      exec (.out e x) s = .next ((s.push k.outq (prodTask c.task) .eng r (wAux w == 1)).1.setCtx e x (({ c with opn := ! (wAux w == 1) } : Ctx).advance w))) ∧
    (∀ k : Task, Issues s e x 6 4 w c → s.task c.task = some k →
      exec (.outr e x) s = .next ((s.rewindQ k.outq (prodTask c.task)).setCtx e x (({ c with opn := false } : Ctx).advance w))) ∧
    (Issues s e x 6 5 w c → (wAux w = 0 → Writes s e x w c (BitVec.ofNat 64 (stamp s.now)) (exec (.time e x) s)) ∧
      (wAux w = 1 → Writes s e x w c (BitVec.ofNat 64 (stamp (s.hD * 512))) (exec (.time e x) s)) ∧
      (wAux w = 2 → Writes s e x w c (BitVec.ofNat 64 (stamp (s.hR * 512))) (exec (.time e x) s)) ∧
      (wAux w = 3 → Writes s e x w c (BitVec.ofNat 64 (stamp (s.taskHor (s.ctxDesc c)))) (exec (.time e x) s))) ∧
    (∀ k : Task, Issues s e x 6 6 w c → s.task c.task = some k →
      Writes s e x w c (nth 0 k.meas.desc (2 * wAux w + 1) ++ nth 0 k.meas.desc (2 * wAux w)) (exec (.desc e x) s)) ∧
    (∀ sl : Nat, Issues s e x 6 7 w c → s.boundSlot c = some sl →
      (wAux w = 0 → Writes s e x w c (BitVec.ofNat 64 (s.quantum sl)) (exec (.tlyr e x) s)) ∧
      (wAux w = 1 → Writes s e x w c ((s.rg .TLY_CFG sl).setWidth 64) (exec (.tlyr e x) s)) ∧
      (wAux w = 2 → Writes s e x w c ((s.rg .TLY_FLG sl).setWidth 64) (exec (.tlyr e x) s))) ∧
    (∀ sl : Nat, Issues s e x 6 8 w c → s.boundSlot c = some sl →
      (wAux w = 0 → exec (.tlyw e x) s = .next ((s.setPair .TLY_NT_LO .TLY_NT_HI (c.a w).toNat sl).setCtx e x (c.advance w))) ∧
      (wAux w = 1 → exec (.tlyw e x) s = .next ((s.setRg .TLY_FRAC (w32 (c.a w).toNat) sl).setCtx e x (c.advance w))) ∧
      (wAux w = 2 → exec (.tlyw e x) s = .next ((s.setFd F.TLY_FLG_tflags (c.a w).toNat sl).setCtx e x (c.advance w)))) ∧
    (s.boundSlot c = none → (Issues s e x 6 7 w c → exec (.tlyr e x) s = .next (s.abortCtx e x false)) ∧
      (Issues s e x 6 8 w c → exec (.tlyw e x) s = .next (s.abortCtx e x false)))

/-- R415, R416, R417, R422, R426: class 7 and the sequencer. -/
def Obligations.EngineControl : Prop :=
  ∀ (s : State) (e x w : Nat) (c : Ctx),
    (Issues s e x 7 0 w c → exec (.nop e x) s = .next (s.setCtx e x (c.advance w))) ∧
    (Issues s e x 7 1 w c → (wAux w = 0 → Writes s e x w c (BitVec.ofNat 64 c.task) (exec (.csr e x) s)) ∧
      (wAux w = 1 → Writes s e x w c (BitVec.ofNat 64 x) (exec (.csr e x) s)) ∧ (wAux w = 2 → Writes s e x w c (BitVec.ofNat 64 e) (exec (.csr e x) s)) ∧
      (wAux w = 3 → Writes s e x w c (BitVec.ofNat 64 (s.frameBytes c)) (exec (.csr e x) s)) ∧
      (∀ k : Task, s.task c.task = some k → wAux w = 4 → Writes s e x w c (BitVec.ofNat 64 k.spill.1) (exec (.csr e x) s))) ∧
    (Issues s e x 7 2 w c → exec (.fault e x) s = .next ((s.raise 0x0E3 (unitOf 7 c.task) (BitVec.ofInt 32 (wImm w)).toNat).setCtx e x (c.advance w))) ∧
    (s.ctx e x = c → s.canIssue e c = true → wordLegal (s.fetchWord c) = false → exec (.nop e x) s = .next (s.abortCtx e x false)) ∧
    (s.ctx e x = c → s.canIssue e c = true → s.fetchWord c = w → wordLegal w = true → wCls w = 7 → wOp w = 2 → c.fl.holds (wPred w) = false →
      exec (.fault e x) s = .next (s.setCtx e x (c.advance w))) ∧
    (SeqActs s e x 1 w c → exec (.seqJump e x) s = .next (s.setCtx e x { c with seqPend := false, pc := wTgt w })) ∧
    (SeqActs s e x 2 w c → c.stack.length < 8 →
      exec (.seqCall e x) s = .next (s.setCtx e x { c with seqPend := false, stack := (c.pc + 1) % 4096 :: c.stack, pc := wTgt w })) ∧
    (SeqActs s e x 2 w c → 8 ≤ c.stack.length → exec (.seqCall e x) s = .next (s.abortCtx e x false)) ∧
    (∀ p t, SeqActs s e x 3 w c → c.stack = p :: t → exec (.seqRet e x) s = .next (s.setCtx e x { c with seqPend := false, stack := t, pc := p })) ∧
    (SeqActs s e x 3 w c → c.stack = [] → exec (.seqRet e x) s = .next (s.abortCtx e x false)) ∧
    (SeqActs s e x 4 w c → exec (.seqDisp e x) s = .next (s.setCtx e x { c with seqPend := false, pc := (wTgt w + (c.r (wRd w)).toNat % 16) % 4096 })) ∧
    (s.ctx e x = c → s.fetchWord c = w → s.seqDue e 1 c = true → c.fl.holds (wCond w) = false →
      exec (.seqJump e x) s = .next (s.setCtx e x { c with seqPend := false, pc := (c.pc + 1) % 4096 })) ∧
    (∀ k : Task, SeqActs s e x 5 w c → s.task c.task = some k →
      ∃ u, u = (if c.opn then s.rewindQ k.outq (prodTask c.task) else s) ∧ exec (.seqStop e x) s = .next ((u.dropMovesOf c.task).freeTask c.task)) ∧
    (∀ t : Nat, s.ctx e x = c → c.valid = true → c.stopSeen = some t → t + msTicks 1 ≤ s.time → exec (.stopTimeout e x) s = .next (s.abortCtx e x false))

/-- R268 to R277: the commands of a decimation context. -/
def Obligations.DecimatorCommands : Prop :=
  (∀ (s : State) (n : Nat) (c : DecCtx) (f : DecCfg), s.dctx n = c → s.staged n = f →
    (c.st = 0 → s.decCheck n f ≠ 1 → exec (.decStart n false) s = .next (s.decDone n (s.decCheck n f))) ∧
    (c.st = 0 → s.decCheck n f = 1 →
      ∃ t, t = gridCeil (max s.now ((if f.kind = 1 ∧ isRemChan f.src = true then s.hR else s.hD) * 512)) ∧
        exec (.decStart n false) s =
          .next ((s.setDctx n { (({ DecCtx.init with st := 1 } : DecCtx).fresh f t (s.bankDf f.bank)) with
            spans := ⟨0, t, some t, false⟩ :: s.muxSpan f t }).decDone n 1)) ∧
    (c.st ≠ 0 → exec (.decStart n false) s = .next (s.decDone n 2)) ∧
    (c.st = 0 → exec (.decStop n false) s = .next (s.decDone n 2)) ∧
    (c.st = 1 → gridCeil s.now ≤ c.anchor → exec (.decStop n false) s = .next ((s.setDctx n DecCtx.init).decDone n 1)) ∧
    (c.st = 2 → exec (.decStop n false) s =
      .next ((s.decDone n 1).setDctx n { c with stopAt := some (max (gridCeil s.now) (c.anchor + c.i * gridFu)), req := none })) ∧
    (c.st ≠ 2 ∨ c.apply ≠ none → exec (.decApply n false) s = .next (s.decDone n 2)) ∧
    (c.st = 2 → c.apply = none → s.decCheck n f = 1 →
      exec (.decApply n false) s = .next ((s.setDctx n { c with apply := some ⟨f, gridCeil s.now, 0⟩ }).decDone n 1))) ∧
  (∀ (s : State) (n b code : Nat) (c : DecCtx), s.dctx n = c → code ≤ 11 → c.st = 2 → b / 64 = decBank n → s.bankValid b = true →
    (c.fade = none → c.req = none → code = 0 ∨ s.bankDf b = s.bankDf (s.bankThen c 0) →
      exec (.decFade n b code false) s = .next ((s.setDctx n { c with req := some ⟨b, code, 0, 0⟩ }).decDone n 1)) ∧
    (code ≠ 0 → s.bankDf b ≠ s.bankDf (s.bankThen c 0) → exec (.decFade n b code false) s = .next (s.decDone n 7)) ∧
    (∀ g r, c.fade = some g → c.req = some r → code = 0 ∨ s.bankDf b = s.bankDf (s.bankThen c 0) →
      exec (.decFade n b code false) s =
        .next (((s.addSat F.DEC_CTX_CNT_replaced 1 n).setDctx n { c with req := some ⟨b, code, 0, 0⟩ }).decDone n 8))) ∧
  (∀ (s : State) (c : DecCtx) (p : Nat), (c.apply = none → c.fade = none → s.bankThen c p = c.cur) ∧
    (∀ g, c.apply = none → c.fade = some g → s.bankThen c p = g.bank) ∧
    (∀ a, c.apply = some a → a.point ≤ s.reqInstant c p → s.bankThen c p = a.cfg.bank)) ∧
  (∀ (s : State) (v w : Word) (b i : Nat), s.fd F.DEC_COEF_ADDR_bank = b → s.fd F.DEC_COEF_ADDR_index = i →
    exec (.decCoefDataAccess none) s = .next (s.incFd F.DEC_COEF_ADDR_index) ∧
    (b % 64 < 60 → s.bankBusy b = false →
      exec (.decCoefDataAccess (some v)) s = .next ((s.setDec fun d => { d with
        coefs := Tab.set 0 d.coefs (256 * b + i) (v.setWidth 24) }).incFd F.DEC_COEF_ADDR_index) ∧
      (1 ≤ bitsOf w 0 9 → bitsOf w 0 9 ≤ 256 → 1 ≤ bitsOf w 16 5 → bitsOf w 16 5 ≤ 16 →
        exec (.decCoefHdrWrite w) s = .next (s.setDec fun d => { d with
          hdrs := Tab.set 0 d.hdrs b (w32 (bitsOf w 0 9 + bitsOf w 16 5 * 65536 + 2147483648)) }))) ∧
    (60 ≤ b % 64 → exec (.decCoefHdrWrite w) s = .next ((s.setFd F.DEC_COEF_STS_ro_err 1).assertOnce (254 + b / 64))))

/-- R237 to R239, R257, R261, R265, R266, R271, R275, R276: a context at work. -/
def Obligations.DecimatorRuns : Prop :=
  (∀ (s : State) (n : Nat) (c : DecCtx), s.dctx n = c → c.st = 1 → c.anchor ≤ s.now → s.decLive n = true →
    ∃ u v d, u = (s.pushPkt c.cfg.outq prodRouter .rtr [s.epochRec]).1 ∧
      u.beginSupp n { c with st := 2, spans := c.spans.map fun w => if w.cause = 0 then { w with seen := true } else w } 0 = (v, d) ∧
      exec (.contextRun n) s = .next (v.setDctx n d)) ∧
  (∀ (s : State) (n : Nat) (c : DecCtx), s.dctx n = c → c.st = 2 → c.cfg.kind = 1 → s.decLive n = true → s.outputDue c = false → c.stopAt = none →
    c.apply = none → c.spans = [] → s.oosNow c.cfg.src = none → c.gridPt (c.i + 1) ≤ (if isRemChan c.cfg.src then s.hR else s.hD) * 512 →
    exec (.gridPointEval n) s = .next (s.setDctx n ((s.resample c).1.feed (s.decD (s.resample c).1) (s.resample c).2))) ∧
  (∀ (s : State) (c : DecCtx) (v : Int), c.cPrev = some v → c.edges = [] → c.noChain (c.gridPt (c.i + 1)) = false →
    (s.resample c).2 = max (-(2 ^ 31)) (min (2 ^ 31 - 1) (c.countAt (c.gridPt (c.i + 1)) - v + c.excess)) ∧
    (s.resample c).2 + (s.resample c).1.excess = c.countAt (c.gridPt (c.i + 1)) - v + c.excess) ∧
  (∀ (s : State) (n : Nat) (c : DecCtx), s.dctx n = c → s.outputDue c = true → s.decLive n = true → c.req = none → c.fade = none → 0 < c.coefSup →
    ∃ u d, s.suppressNow n c (s.nextInstant c) (s.outLen c) = (u, d) ∧ (c.supp ≠ none → u = s ∧ d = c.suppress (s.nextInstant c)) ∧
      exec (.outputInstant n) s = .next (u.setDctx n { d with m := d.m + 1, seq := (d.seq + 1) % 2 ^ 32 })) ∧
  (∀ (s : State) (n : Nat) (c : DecCtx), s.dctx n = c → s.outputDue c = true → s.decLive n = true → c.req = none → c.fade = none → c.coefSup = 0 →
    c.spans = [] → c.supp = none → c.cfg.fmt = false →
    ∃ s1 v y z fl u d, s.outValue c (s.nextInstant c) (s.fir c.cur c.d3) = (s1, v) ∧
      (c.openTo ≤ s.nextInstant c → s1 = s ∧ v = s.fir c.cur c.d3) ∧ y = shiftUp v (c.cfg.shift 5) ∧ z = max (-(2 ^ 31)) (min (2 ^ 31 - 1) y) ∧
      fl = Nat.lor (s.sampleFlags c (s.nextInstant c) false) (16 * b2n (decide (y ≠ z))) ∧
      s1.addSample n c (s.nextInstant c) fl (BitVec.ofInt 32 z) = (u, d) ∧
      exec (.outputInstant n) s = .next ((if natBit fl 4 then u.addSat F.DEC_CTX_CNT_sat 1 n else u).setDctx n
        { d with m := d.m + 1, seq := (d.seq + 1) % 2 ^ 32 })) ∧
  (∀ (s u : State) (n : Nat) (c d : DecCtx) (r : FadeReq), s.dctx n = c → s.outputDue c = true → s.decLive n = true → s.reqDue c = some r →
    s.beginReq n c r = (u, d) → exec (.fadeBegin n) s = .next (u.setDctx n d)) ∧
  (∀ (s : State) (n : Nat) (c : DecCtx) (r : FadeReq), c.fade = none → r.bank ≠ c.cur → r.code ≠ 0 → c.supp = none → c.pkt = none →
    ∃ u, s.beginReq n c r = (u, { c with req := none, fade := some ⟨r.bank, r.code + 1, 0⟩ })) ∧
  (∀ (s u : State) (n : Nat) (c d : DecCtx) (p : SamplePkt), s.dctx n = c → c.pkt = some p → p.formed + 625000 ≤ s.time → s.closeSamples n c = (u, d) →
    exec (.samplePacketTimeout n) s = .next (u.setDctx n d) ∧ d = { c with pkt := none })

/-- R88 to R91, R244 to R250, R282: the monitor converters. -/
def Obligations.MonitorConverters : Prop :=
  (∀ (s : State) (c d : Nat) (clip : Bool) (m : Madc), s.madc c = m → s.madcLive c = true → d < 16 → s.madcState c ≠ 3 → m.left = 0 →
    ∃ u, u = s.setMadc c { m with codes := (d :: m.codes).take 4096, slot := m.slot.map fun p => p.take d } ∧
      exec (.modulatorCode c d clip) s =
        .next (if s.madcState c = 0 then u.feedConverter (s.madcSet c) (((d : Int) - 8) * 2 ^ 21) false (clip && ! m.slot.isSome) else u)) ∧
  (∀ (s : State) (v c : Nat) (w : Word), v ≤ 7 → bitsOf w 0 6 ≤ 45 → s.servingConv v = some c →
    ((s.madc c).slot = none → exec (.madcTapWrite v w) s = .next ((s.setFd F.MADC_TAP_tap (bitsOf w 0 6) v).muxEvent v 2)) ∧
    ((s.madc c).slot ≠ none →
      exec (.madcTapWrite v w) s = .next (s.setDec fun d => { d with heldTap := Tab.set 0 d.heldTap v (bitsOf w 0 6 + 1) }))) ∧
  (∀ (s : State) (c d : Nat), s.slotFree c = true → s.madcState c = 0 →
    exec (.checkSlotStart c) s = .next (s.slotBegin c none 0 false) ∧
    (s.bit F.PRT_RB_CTL_en = true → Tab.get 0 s.dec.lastRb (s.madcSet c) = 0 ∨
        Tab.get 0 s.dec.lastRb (s.madcSet c) + 6250000 * s.fd F.PRT_RB_CTL_interval ≤ s.time + 1 → s.nextDac (s.madcSet c) = some d →
      exec (.readbackSlotStart c) s =
        .next ((s.setDec fun q => { q with
            next := Tab.set 0 q.next (s.madcSet c) ((d + 1) % 24), lastRb := Tab.set 0 q.lastRb (s.madcSet c) (s.time + 1) }).slotBegin c (some (24 * s.madcSet c + d)) 0
          (s.bit F.PRT_STS_thr_settle (12 * s.madcSet c + d / 2))))) ∧
  (∀ (s : State) (c : Nat), s.slotFree c = true → s.madcState c = 1 → exec (.spareSelfCheck c) s = .next (s.slotBegin c none 0 false)) ∧
  (∀ (s u : State) (c d : Nat) (uv : Int) (p : MadcSlot), (s.madc c).slot = some p → p.dac = some (2 * d) → 11719 ≤ p.k → s.madcLive c = true →
    p.discard = false → Tab.get [] s.thrs d = [] → s.bit F.PRT_STS_thr_settle d = false → (s.slotOver c).readUv p = (u, uv) →
    ∃ w, w = ((u.setFd F.MADC_RB_tap (12 + 2 * (d % 12)) c).setFd F.MADC_RB_uv (uNat 24 uv) c).setFd F.PRT_RB_err_hi
        (uNat 8 (max (-128) (min 127 (rdiv (s.readErr p (2 * d)) (15625 * readDen))))) d ∧
      exec (.readbackSlotEnd c) s =
        .next (if 3 * 15625 * readDen < (s.readErr p (2 * d)).natAbs then (w.setFd F.PRT_RB_mis_hi 1 d).raiseRb d else w)) ∧
  (∀ (s u : State) (c : Nat) (uv : Int) (p : MadcSlot), (s.madc c).slot = some p → p.dac = none → 11719 ≤ p.k → s.madcLive c = true → p.why = 0 →
    (s.slotOver c).readUv p = (u, uv) →
    ∃ (ok : Bool) (v w : State), ok = decide ((p.reading - 3500000 * (readDen : Int)).natAbs ≤ 2000 * readDen) ∧ v = u.setFd F.MADC_CHK_uv (uNat 24 uv) c ∧
      w = v.setMadc c { v.madc c with passed := ok } ∧
      exec (.checkSlotEnd c) s = .next (if ok then w.incFd F.MADC_CHK_passes c
        else ((w.setFd F.MADC_STS_chk_fail 1 c).raise 0x100 (unitOf 8 c) (uNat 32 uv)).assertOnce (258 + c))) ∧
  (∀ (s : State) (c : Nat), c < 12 →
    (∀ sp, s.madcState c = 0 → s.readySpare (c / 3) = some sp →
      exec (.madcSubstitute c) s = .next (((s.substitute c sp 2).slotBegin c none 3 false).madcCmdSts c 1 1)) ∧
    (s.madcState c ≠ 0 ∨ s.readySpare (c / 3) = none → exec (.madcSubstitute c) s = .next (s.madcCmdSts c 1 2)) ∧
    (s.madcState c ≠ 2 → s.slotFree c = true → exec (.madcCheckCmd c) s = .next ((s.slotBegin c none 1 false).madcCmdSts c 2 0)) ∧
    (s.madcState c = 2 → s.slotFree c = true → exec (.madcRetry c) s = .next ((s.slotBegin c none 2 false).madcCmdSts c 3 0)) ∧
    (s.slotFree c = false → exec (.madcCheckCmd c) s = .next (s.madcCmdSts c 2 2) ∧ exec (.madcRetry c) s = .next (s.madcCmdSts c 3 2)))

/-- R375, R389 to R392, R406: training and loss of a link. -/
def Obligations.LinkTraining : Prop :=
  (∀ (s : State) (l : Nat), s.lstate l = 1 → (s.link l).step = 1 →
    exec (.flitLock l) s = .next ((s.modLink l fun k => { k with step := 2 }).sendHello l)) ∧
  (∀ (s : State) (l : Nat) (f : Flit), l < 16 → s.lstate l = 1 → (s.link l).step = 2 → nth 0 f.slots 1 % 256 = 1 → natBit (nth 0 f.slots 2) 8 = true →
    ∃ u : State, u = s.notePeer l f ∧
      exec (.hello l f) s =
        .next (((u.setLink l { (s.link l).resume (nth 0 f.slots 2) with heard := s.time }).stepCredit l).stepSync l)) ∧
  (∀ (s : State) (l : Nat), s.lstate l = 2 → (s.link l).step = 6 →
    ∃ u : State, u = ((s.setLink l { s.link l with
        step := 0, tries := 0, high := none, downAt := none, heard := s.time, treqAt := some s.time, timeAt := some s.time, areqAt := some s.time }).setLstate l 3).incLfd
        F.LNK_STS_trains F.CAS_LNK_STS_trains l ∧
      exec (.trainingComplete l) s = .next ((u.dropLive (linkUnit l) 0x0A0).linkEvt l 13 (u.lfd F.LNK_STS_rate_act F.CAS_LNK_STS_rate_act l)
        (u.lfd F.LNK_RTT_rtt F.CAS_LNK_RTT_rtt l) (u.lfd F.LNK_DELAY_d F.CAS_LNK_DELAY_d l))) ∧
  (∀ (s : State) (l : Nat), s.lstate l = 1 ∨ s.lstate l = 2 → (s.link l).step ≠ 0 →
    ∃ u : State, u = s.setLink l { s.link l with tries := (s.link l).tries + 1 } ∧
      exec (.trainTryTimeout l) s = .next (if (s.link l).tries < 7 then u.train l
        else ((u.modLink l fun k => { k with step := 0, downAt := some s.time }).setLstate l 1).raise 0x0A0 (linkUnit l) ((s.link l).tries + 1) true)) ∧
  (∀ (s : State) (l : Nat), s.lstate l = 3 ∨ s.lstate l = 2 → exec (.flitLockLoss l) s = .next (s.linkDown l 0)) ∧
  (∀ (s : State) (l : Nat), l < 16 → s.lstate l = 3 ∨ s.lstate l = 2 → (s.link l).heard + usTicks (s.fd F.LNK_TMO_loss l) ≤ s.time →
    exec (.silenceTimeout l) s = .next (s.linkDown l 1)) ∧
  (∀ (s : State) (l : Nat) (f : Flit), s.lstate l = 3 →
    exec (.hello l f) s = .next ((s.modLink l fun k => { k with heard := s.time, good := true }).linkDown l 2)) ∧
  (∀ (s : State) (l t : Nat), l < 16 → s.lstate l = 4 → (s.link l).downAt = some t → t + msTicks (s.fd F.LNK_TMO_retrain l) ≤ s.time →
    exec (.retrainTimer l) s = .next (s.train l)) ∧
  (∀ (s : State) (l : Nat), s.bit F.LNK_CFG_en l = true → s.linkDom l = true → s.dev.st = .run →
    exec (.lnkRetrain l) s =
      .next (((((s.modLink l fun k => { k with tries := 0 }).train l).setFd F.LNK_STS_chg 1 l).linkLevel l).lnkCmdSts l 1 1)) ∧
  (∀ (s : State) (l : Nat), s.bit F.LNK_CFG_en l = true → s.linkDom l = false ∨ s.dev.st ≠ .run →
    exec (.lnkRetrain l) s = .next (((s.setFd F.LNK_STS_chg 1 l).linkLevel l).lnkCmdSts l 1 1)) ∧
  (∀ (s : State) (l : Nat), s.bit F.LNK_CFG_en l = false → exec (.lnkRetrain l) s = .next (s.lnkCmdSts l 1 2))

/-- R376 to R384, R393 to R398, R401: received flits. `ok` is whether the flit is accepted. -/
def Obligations.LinkReceives : Prop :=
  (∀ (s : State) (l : Nat) (f : Flit), s.receives l = true →
    exec (.idleFlit l f) s = .next (s.takeHeader l f) ∧
    exec (.nakFlit l f) s = .next ((s.takeHeader l f).replay l (f.anchor % 256)) ∧
    ((s.accept l f).2 = true ↔ f.seq % 256 = ((s.takeHeader l f).link l).rx)) ∧
  (∀ (s : State) (l : Nat) (k : Link), s.receives l = true → s.link l = k → k.naks = 0 ∨ k.good = true → k.naks < 7 →
    ∃ u, u = ((s.setLink l { k with naks := k.naks + 1, good := false }).linkEvt l 1 k.rx (k.naks + 1) 0).incLfd F.LNK_RETRY_naks F.CAS_LNK_RETRY_naks l ∧
      exec (.badCrcFlit l) s = .next (u.sendFlit l 2 0 0 k.rx [])) ∧
  (∀ (s : State) (l : Nat) (k : Link), s.receives l = true → s.link l = k → k.naks ≠ 0 → k.good = false →
    exec (.badCrcFlit l) s = .next ((s.setLink l { k with good := false }).linkEvt l 1 k.rx k.naks 0)) ∧
  (∀ (s u : State) (l kind : Nat) (f : Flit), s.accept l f = (u, true) → kind < 16 → f.seq < 256 → f.ack < 256 → f.nrep < 16 → f.credit < 256 →
    exec (.badType l kind f) s =
      .next (u.linkEvt l 16 (kind + 16 * f.seq + 4096 * f.ack + 1048576 * f.nrep + 16777216 * f.credit) (nth 0 f.slots 0) 0)) ∧
  (∀ (s u : State) (l : Nat) (f : Flit), s.accept l f = (u, true) → u.lstate l = 3 →
    exec (.ahigh l f) s = .next (u.modLink l fun k => { k with high := some (nth 0 f.slots 1 % 2 ^ 23) })) ∧
  (∀ (s u v : State) (l : Nat) (f : Flit), l < 16 → s.lstate l = 3 → s.accept l f = (u, true) →
    v = u.setPair .LNK_FLITS_LO .LNK_FLITS_HI (u.pair .LNK_FLITS_LO .LNK_FLITS_HI l + 1) l →
    (64 ≤ v.lU l + v.lO l → exec (.reportFlit l f) s = .next ((v.setLink l { v.link l with ovr := true, lastA := some (v.anchorTick (v.link l) f.anchor) }).linkEvt l 3 f.seq f.nrep 0)) ∧
    (∀ (w : State) (a : Nat), v.lU l + v.lO l < 64 → w = v.setUO l (v.lU l) (v.lO l + 1) → a = v.anchorTick (v.link l) f.anchor →
      (v.link l).lastA.getD 0 ≤ a → a ≤ w.linkNow l / 512 → w.linkNow l / 512 < a + 2 ^ 54 →
      exec (.reportFlit l f) s =
        .next (State.reports l a 14 0 (f.slots.take (min f.nrep 13)) (w.setLink l { w.link l with lastA := some a })))) ∧
  (∀ (s : State) (l i kind t : Nat), s.reportFault l i t = 0 →
    ∃ c, c = 0x100 + 256 * l + i ∧
      s.edgeReport l i kind t = (((s.holdPkt l [mkRec 0x01 c (4 + kind) 0 (stamp t) (s.rg .LNK_CNT_LO l i).toNat]).countRemote l i t 1).noteTime l i t))

/-- R385 to R387, R393 to R399, R406: time, credits and acks. -/
def Obligations.LinkTime : Prop :=
  (∀ (s : State) (l : Nat), s.lstate l = 3 → l ≠ 16 →
    (∀ k : Link, k = { s.link l with treqAt := some s.time } → l < 16 → s.past (s.link l).treqAt (625000 * s.fd F.LNK_SYNC_CFG_period l) = true →
      ((s.link l).t1 = none → exec (.treqPeriod l) s = .next ((s.setLink l k).sendCtl l [2])) ∧
      ((s.link l).t1 ≠ none →
        ∃ u, u = s.setLfd F.LNK_STS_time_ok F.CAS_LNK_STS_time_ok 0 l ∧ exec (.treqPeriod l) s = .next ((u.setLink l k).sendCtl l [2]))) ∧
    (∀ k : Link, k = { s.link l with timeAt := some s.time } → s.past (s.link l).timeAt 65536 = true →
      exec (.timePeriod l) s = .next ((s.setLink l k).sendCtl l [4]))) ∧
  (∀ (s : State) (l : Nat), s.lstate l = 3 →
    ∃ s1 u v : State, s1 = s.setLink l { s.link l with areqAt := some s.time } ∧
      u = (s1.modLink l fun k => { k with areq := some s.time }).sendCtl l [5, (s1.link l).g % 2 ^ 16] ∧ v = (s.modLink l fun k => { k with areq := some s.time }).sendCtl l [5, (s.link l).g % 2 ^ 16] ∧
      (s.past (s.link l).areqAt 625000 = true → exec (.areqPeriod l) s = .next u) ∧ exec (.lnkAudit l) s = .next (v.lnkCmdSts l 2 1)) ∧
  (∀ (s : State) (t n : Nat), s.past none n = true ∧ (s.past (some t) n = true ↔ t + n ≤ s.time)) ∧
  (∀ (s : State) (l : Nat), s.lstate l ≠ 3 → exec (.lnkAudit l) s = .next (s.lnkCmdSts l 2 2)) ∧
  (∀ (s : State) (l : Nat), s.lstate l = 3 → s.lU l ≠ 0 →
    exec (.creditGrant l) s = .next ((s.modLink l fun k => { k with g := k.g + 1 }).setUO l (s.lU l - 1) (s.lO l))) ∧
  (∀ (s u : State) (l t1 t4 : Nat) (f : Flit), s.accept l f = (u, true) → (u.link l).t1 = some t1 → u.lstate l = 2 → (u.link l).step = 5 →
    exec (.echo l f t4) s = .next (u.trainExchange l (((t4 : Int) - t1) -
      sInt 64 (nth 0 f.slots 3 + 2 ^ 32 * nth 0 f.slots 4 + 2 ^ 64 - (nth 0 f.slots 1 + 2 ^ 32 * nth 0 f.slots 2) % 2 ^ 64)))) ∧
  (∀ (s u : State) (l bb rb : Nat) (f : Flit), l < 16 → s.accept l f = (u, true) → u.lstate l = 3 → (u.link l).areq ≠ none →
    rb = nth 0 f.slots 2 % 2 ^ 16 → bb = nth 0 f.slots 3 % 128 →
    (u.flitsAcc l = nth 0 f.slots 1 % 2 ^ 16 → bb + ((u.link l).g + 2 ^ 16 - rb) % 2 ^ 16 + u.lU l + u.lO l = 64 → (u.link l).ovr = false →
      exec (.arsp l f) s = .next ((u.setLink l { u.link l with areq := none }).incLfd F.LNK_AUDIT_passed F.CAS_LNK_AUDIT_passed l)) ∧
    (u.flitsAcc l ≠ nth 0 f.slots 1 % 2 ^ 16 ∨ bb + ((u.link l).g + 2 ^ 16 - rb) % 2 ^ 16 + u.lU l + u.lO l ≠ 64 →
      exec (.arsp l f) s = .next (u.auditFail l (u.flitsAcc l) (bb + ((u.link l).g + 2 ^ 16 - rb) % 2 ^ 16 + u.lU l + u.lO l) bb))) ∧
  (∀ (s : State) (l t : Nat), s.lstate l = 3 → (s.link l).areq = some t → t + 625000 ≤ s.time →
    exec (.arspTimeout l) s = .next (s.auditFail l (s.flitsAcc l) 0 0)) ∧
  (∀ (s : State) (l : Nat) (f : TxFlit) (r : List TxFlit), l < 16 → s.receives l = true → (s.link l).kept = f :: r →
    (s.link l).since + usTicks (s.fd F.LNK_TMO_ack l) ≤ s.time → exec (.ackTimeout l) s = .next (s.replay l f.seq)) ∧
  (∀ (s : State) (l code : Nat) (e : LinkEvt) (d : Nat × Nat × Nat × Nat), Tab.get LinkEvt.init (s.link l).evts code = e → e.held = some d →
    e.until_ ≤ s.time →
    ∃ x : LinkEvt, x = { until_ := s.time + s.evtGap l, count := 0, held := none } ∧
      exec (.linkEvtGapEnd l code) s =
        .next ((s.setLink l { s.link l with evts := Tab.set LinkEvt.init (s.link l).evts code x }).linkEvtPkt l code d e.count))

/-- R300, R301: the commands of a Pip unit. -/
def Obligations.PipCommands : Prop :=
  (∀ (s : State) (n : Nat) (nm : Bool), s.pipUnit n = true →
    (s.pipRunning n = false → s.pipCheck (s.pipStaged n) = 1 →
      exec (.pipEnable n nm) s = .next ((s.pipAccept n 1 0 (s.trgAt n nm)).pipResult n 1)) ∧
    (s.pipRunning n = true → s.pipCheck (s.pipStaged n) = 1 →
      exec (.pipApply n nm) s = .next ((s.pipAccept n 3 0 (s.trgAt n nm)).pipResult n 1)) ∧
    (s.pipRunning n = true → exec (.pipDisable n nm) s = .next ((s.pipAccept n 2 0 (s.trgAt n nm)).pipResult n 1)) ∧
    (s.pipRunning n = true → exec (.pipEnable n nm) s = .next (s.pipResult n 2)) ∧
    (s.pipRunning n = false → exec (.pipDisable n nm) s = .next (s.pipResult n 2) ∧ exec (.pipApply n nm) s = .next (s.pipResult n 2) ∧
      (∀ m, exec (.pipSoft n m nm) s = .next (s.pipResult n 2))) ∧
    (s.pipRunning n = false → s.pipCheck (s.pipStaged n) ≠ 1 → exec (.pipEnable n nm) s = .next (s.pipResult n (s.pipCheck (s.pipStaged n)))) ∧
    (∀ m, s.pipRunning n = true → ((s.pipCfgNext n).used.any fun k => natBit m k && ((s.pipCfgNext n).cond k).kind == 6) = true →
      exec (.pipSoft n m nm) s = .next ((s.setPip n ((s.pip n).take ⟨s.pipPoint n (s.trgAt n nm), 9, 0, .soft m⟩)).pipResult n 1)) ∧
    (∀ m, s.pipRunning n = true → ((s.pipCfgNext n).used.any fun k => natBit m k && ((s.pipCfgNext n).cond k).kind == 6) = false →
      exec (.pipSoft n m nm) s = .next (s.pipResult n 5))) ∧
  (∀ (s : State) (n op tag : Nat) (at_ : Option Nat), s.pipLive = false →
    ∃ c : PipCmd, c = ⟨s.pipPoint n at_ / 512, op, s.pipPoint n at_, tag, if op = 2 then none else some (s.pipStaged n)⟩ ∧
      s.pipAccept n op tag at_ = s.setPip n { s.pip n with cmds := (s.pip n).cmds ++ [c] }) ∧
  (∀ (s : State) (n : Nat) (c : PipCmd), s.pipLive = true → (s.pip n).cmds = [c] →
    (s.pipDue n c = true → exec (.pipPointReached n) s = .next ((s.setPip n { s.pip n with cmds := [] }).pipEffect n c)) ∧
    (s.pipDue n c = false → exec (.pipPointReached n) s = .next s))

/-- R286 to R291, R297: judgement. -/
def Obligations.PipTriggers : Prop :=
  (∀ (s : State) (n : Nat) (cfg : PipCfg), (s.pip n).cfg = some cfg → s.pipLive = true → (s.pip n).cmds = [] → (s.pip n).items = [] →
    cfg.auto = false → (s.pip n).j < s.pipJ cfg / 512 →
    exec (.pipJudgeTick n) s = .next ((s.setPip n (s.pip n)).setJ n (s.pipJ cfg / 512))) ∧
  (∀ (s : State) (n T : Nat) (cfg : PipCfg) (e : PItem) (r : List PItem), (s.pip n).cfg = some cfg → s.pipLive = true → (s.pip n).cmds = [] →
    (s.pip n).items = e :: r → (s.pip n).j ≤ e.time / 512 → (s.pip n).nextTick cfg = some T → T < s.pipJ cfg / 512 → (s.pip n).j < s.pipJ cfg / 512 →
    exec (.pipJudgeTick n) s = .next ((s.setPip n (s.pip n)).judgeTick n T (s.pipJ cfg / 512 * 512) cfg)) ∧
  (∀ (s : State) (n T lim : Nat) (cfg : PipCfg) (u v : Pip) (es : List PEv), Pip.tickEvents cfg T lim (s.pip n).items (s.pip n) [] = (u, es) →
    (∀ e, u.expression cfg T es = (v, some e) →
      s.judgeTick n T lim cfg = ((s.setPip n v).setJ n (T + 1)).fire n e.time (causeOf es) (some e)) ∧
    (u.expression cfg T es = (v, none) → cfg.auto = true → (v.tref + cfg.tmo * 512) / 512 = T →
      s.judgeTick n T lim cfg = ((s.setPip n v).setJ n (T + 1)).fire n (v.tref + cfg.tmo * 512) 0 none) ∧
    (u.expression cfg T es = (v, none) → cfg.auto = false → s.judgeTick n T lim cfg = (s.setPip n v).setJ n (T + 1)) ∧
    (cfg.op = 1 → u.expression cfg T es = (u, es.head?))) ∧
  (∀ (s : State) (l t : Nat), l < 8 → s.dev.st = .run → exec (.lineEvent l t) s = .next (s.lineTaken l (s.fullTime t)).1)

/-- R295, R296, R605: pins. -/
def Obligations.TrigPins : Prop :=
  (∀ (s : State) (i : Nat) (d : Option Bool) (x : Pulse) (r : List Pulse), s.trigPin i = ⟨true, d, x :: r⟩ →
    (x.begun = false → x.start ≤ s.now → s.pipLive = true →
      exec (.pinPulseStart i) s = .next ((s.setTrigPin i ⟨true, d, { x with begun := true } :: r⟩).emit (.pin i (! x.low)))) ∧
    (x.begun = true → x.stop ≤ s.now → exec (.pinPulseEnd i) s = .next ((s.setTrigPin i ⟨true, d, r⟩).emit (.pin i x.low)))) ∧
  (∀ (s : State) (i : Nat) (w : Word), i < 4 → s.domOn 74 = true → bitsOf w 8 16 ≠ 0 → (natBit w.toNat 2 = true → bitsOf w 3 4 < 8) →
    ∃ u : State, u = s.setRg .TRG_PIN (w32 (bitsOf w 0 3 + bitsOf w 3 4 * 8 + bitsOf w 8 16 * 256)) i ∧
      exec (.trgPinWrite i w) s = .next (u.setTrigPin i { s.trigPin i with turn := some (natBit w.toNat 0) })) ∧
  (∀ (s : State) (i : Nat) (p : TrigPin) (out : Bool), (i, p) ∈ s.trg.pins → p.turn = some out →
    (out = p.drives → (i, { p with turn := none }) ∈ s.turnPins.trg.pins) ∧
    (out ≠ p.drives → (i, ⟨out, none, []⟩) ∈ s.turnPins.trg.pins))

/-- R305 to R315, R320, R321, R326: acquisition units. -/
def Obligations.Acquisition : Prop :=
  (∀ (s : State) (a : Nat) (nm : Bool), s.pipUnit a = true →
    (s.acqCheck a ≠ 1 → exec (.acqArm a nm) s = .next (s.acqResult a (s.acqCheck a))) ∧
    (∀ arm, s.acqCheck a = 1 → arm = ((match s.acqAt a nm with | some t => s.fullTime t | none => s.releasePoint a) + 511) / 512 * 512 →
      ∃ u v : State, u = (((((s.setRg .ACQ_SEGS 0 a).setRg .ACQ_SEG_RD 0 a).setPair .ACQ_LOST_LO .ACQ_LOST_HI 0 a).setRg .ACQ_SKIP 0 a).setRg
          .ACQ_OVW 0 a).setAcqU a { Acq.init with arm := arm } ∧
        v = (if u.acqMode a = 0 then ((u.setFd F.ACQ_SLOTS_k (u.slotCount a) a).setRg .ACQ_SLOT_SZ (w32 (u.slotBytes a / 4096)) a).controlPage a
             else u.setWriter (u.acqRegion a) (1 + a)) ∧
        exec (.acqArm a nm) s = .next ((v.setFd F.ACQ_STS_state 1 a).acqResult a 1)) ∧
    (s.acqArmed a = false → exec (.acqStop a nm) s = .next (s.acqResult a 2)) ∧
    (s.acqArmed a = true → exec (.acqStop a nm) s =
      .next ((s.acqStopAt a (match s.acqAt a nm with | some t => s.fullTime t | none => s.releasePoint a) 2).acqResult a 1)) ∧
    (s.Inv → s.fd F.ACQ_STS_state a = 1 → (s.acqU a).arm ≤ s.now → s.acqMode a ≠ 1 → exec (.acqArmPoint a) s = .next (s.setFd F.ACQ_STS_state 2 a)) ∧
    (∀ i, s.fd F.ACQ_STS_state a = 2 → s.acqArmed a = true → s.acqNext a = some (.inl i) → s.segDue a i.due = none →
      exec (.acqRelease a) s = .next (((s.setAcqU a { s.acqU a with buf := (s.acqU a).buf.drop 1 }).acqDeliver a i).acqTryStop a)) ∧
    (∀ t, s.fd F.ACQ_STS_state a = 2 → s.acqArmed a = true → s.acqNext a = some (.inr t) → s.segDue a (some t.time) = none → s.acqMode a ≠ 1 →
      exec (.acqRelease a) s = .next (((s.setAcqU a { s.acqU a with trigs := (s.acqU a).trigs.drop 1 }).acqTrigger a t).acqTryStop a)) ∧
    (∀ t why, s.fd F.ACQ_STS_state a = 3 → s.acqNext a = none → s.segDue a none = some (t, why) →
      exec (.segmentClose a) s = .next ((s.closeSegment a t why).acqTryStop a)) ∧
    (∀ v, a < 16 → v % 2 ^ 25 ≤ s.fd F.ACQ_SEGS_segs a → exec (.acqSegRdWrite a v) s = .next (s.setFd F.ACQ_SEG_RD_consumed v a)) ∧
    (∀ v, a < 16 → s.fd F.ACQ_SEGS_segs a < v % 2 ^ 25 → exec (.acqSegRdWrite a v) s = .next (s.setFd F.ACQ_STS_cfg_err 1 a))) ∧
  (∀ (s : State) (a : Nat) (t : ATrig), (s.acqU a).arm ≤ t.time →
    ((s.acqU a).seg ≠ none ∨ t.time < (s.acqU a).rearm →
      s.acqTrigger a t = (s.setAcqU a { s.acqU a with skipped := (s.acqU a).skipped + 1 }).addSat F.ACQ_SKIP_skipped 1 a) ∧
    ((s.acqU a).seg = none → (s.acqU a).rearm ≤ t.time → s.acqMode a ≠ 0 → s.acqTrigger a t = s.openSegment a t))

/-- R447 to R459: external memory. -/
def Obligations.ExternalMemory : Prop :=
  (∀ (s t : State) (a : Nat), a < s.dramSize → s.dramOn = true →
    t = ((s.dramErr a F.DRM_ERR_ce).addSat F.DRM_CE_CNT 1).setStore
      (fun v => { v with ce := Tab.set 0 v.ce (a / 4096) (Tab.get 0 s.store.ce (a / 4096) + 1) }) →
    (t.fd F.DRM_SCRUB_retire_thr = 0 ∨ Tab.get 0 s.store.ce (a / 4096) + 1 < t.fd F.DRM_SCRUB_retire_thr →
      exec (.dramCorrectedError a) s = .next t) ∧
    (t.fd F.DRM_SCRUB_retire_thr ≠ 0 → t.fd F.DRM_SCRUB_retire_thr ≤ Tab.get 0 s.store.ce (a / 4096) + 1 →
      exec (.dramCorrectedError a) s = .next (t.retirePage a))) ∧
  (∀ (s : State) (a : Nat), a < s.dramSize → s.dramOn = true →
    exec (.dramUncorrectable a) s = .next (((((s.dramErr a F.DRM_ERR_ue).addSat F.DRM_UE_CNT 1).raise 0x141 (unitOf 10 (s.ddrOf a).1)
      (a / 4096)).poisonLine a).retirePage a)) ∧
  (∀ (s t : State) (a : Nat), s.store.retired.contains (a / 4096) = false →
    (s.store.retired.length + 1 < 4096 →
      t = (s.setStore fun v => { v with retired := v.retired ++ [a / 4096], ce := Tab.set 0 v.ce (a / 4096) 0 }).setFd F.DRM_RETIRE_pages
        (s.store.retired.length + 1) →
      s.retirePage a = (t.logRetire s.store.retired.length a).assertOnce (274 + (t.ddrOf a).1)) ∧
    (4096 ≤ s.store.retired.length →
      s.retirePage a = (s.setFd F.DRM_RETIRE_full 1).raise 0x142 (unitOf 10 (s.ddrOf a).1) (a / 4096) true)) ∧
  (∀ (s : State) (a : Nat), s.store.retired.contains (a / 4096) = true → s.retirePage a = s) ∧
  (∀ (s t : State) (ecc : Ecc), s.scrubs = true →
    (s.store.poison.contains s.store.scrub = true ∨ ecc = .uncorrectable → exec (.dramUncorrectable (s.store.scrub * 64)) s = .next t) →
    (s.store.poison.contains s.store.scrub = false →
      (ecc = .good → t = s) ∧ (ecc = .corrected → exec (.dramCorrectedError (s.store.scrub * 64)) s = .next t)) →
    exec (.patrolScrub ecc) s = .next (t.setStore fun v =>
      { v with scrub := if s.dramSize ≤ s.store.scrub * 64 + 64 then 0 else v.scrub + 1,
               pass := v.pass && ! decide (s.dramSize ≤ s.store.scrub * 64 + 64),
               passAt := if s.store.scrub = 0 then s.time + msTicks (3600000 * s.fd F.DRM_SCRUB_period) else s.store.passAt })) ∧
  (∀ (s : State) (ecc : Ecc), s.scrubs = false → exec (.patrolScrub ecc) s = .next s) ∧
  (∀ s : State,
    (s.bit F.DRM_RETIRE_full = false →
      exec .retire s = .next ((s.retirePage (s.pair .DRM_ERR_ADDR_LO .DRM_ERR_ADDR_HI)).drmCmdSts 1 1)) ∧
    (s.bit F.DRM_RETIRE_full = true → exec .retire s = .next (s.drmCmdSts 1 2)) ∧
    exec .scrubNow s = .next ((s.setStore fun v => { v with pass := true, scrub := 0 }).drmCmdSts 2 1)) ∧
  (∀ (s : State) (r : Nat), r < 256 → s.fd F.DRM_RG_CFG_kind r = 2 →
    ((s.ring r).writer = 0 →
      exec (.resetRing r) s = .next (((((((s.setWr r 0).setPair .DRM_RG_RD_LO .DRM_RG_RD_HI 0 r).setPair .DRM_RG_SP_LO .DRM_RG_SP_HI 0 r).setRing r
        Ring.init).dropWriting 0 r).dropWriting 1 r).drmCmdSts 3 1)) ∧
    ((s.ring r).writer ≠ 0 → exec (.resetRing r) s = .next (s.drmCmdSts 3 2)) ∧
    (∀ t0, (s.ring r).first = some t0 → s.dramOn = true → t0 + msTicks (s.fd F.DRM_RG_CFG_flush_ms r) ≤ s.time → exec (.extentCloseTimeout r) s = .next (s.closeExtent r).spillGive)) ∧
  (∀ (s : State) (r v : Nat), r < 256 →
    (s.ringRd r ≤ v → v ≤ s.ringWr r → v % 16 = 0 →
      exec (.drmRgRdWrite r v) s = .next (s.setPair .DRM_RG_RD_LO .DRM_RG_RD_HI v r).spillGive) ∧
    (v < s.ringRd r ∨ s.ringWr r < v ∨ v % 16 ≠ 0 → exec (.drmRgRdWrite r v) s = .next (s.setFd F.DRM_RG_STS_cfg_err 1 r)))

/-- R461 to R466: the NVMe record store. -/
def Obligations.RecordStore : Prop :=
  (∀ (s t : State) (d slot r xs : Nat), ((s.drive d).writing.find? fun w => w.2.2 == slot) = some (r, xs, slot) →
    ((s.drive d).cmds.any fun c => c.opcode == 1 && c.slot == slot && c.region == r && c.xseq == xs) = false →
    t = (s.setDrive d { s.drive d with writing := (s.drive d).writing.filter fun w => w.2.2 != slot }).dirWrite d slot (some (s.dirEntry r xs)) →
    ∃ u : State, u = t.setPair .NVS_DRV_EXT_LO .NVS_DRV_EXT_HI (t.pair .NVS_DRV_EXT_LO .NVS_DRV_EXT_HI d + 1) d ∧
      exec (.extentWriteComplete d slot) s = .next (State.spAdvance r ((u.ring r).done.length + 1)
        (u.setRing r { u.ring r with done := (u.ring r).done ++ [xs] })).spillGive) ∧
  (∀ (s : State) (d id : Nat) (c : NvCmd), ((s.drive d).cmds.find? fun c => c.id == id) = some c →
    exec (.nvmeCompletion d id 0) s = .next (s.setDrive d { s.drive d with cmds := (s.drive d).cmds.filter fun c => c.id != id }).spillGive ∧
    exec (.nvmeCompletion d id 1) s = .next ((s.setDrive d { s.drive d with cmds := (s.drive d).cmds.filter fun c => c.id != id }).degrade d) ∧
    (∀ (t : State) (ready : Bool), c.since + msTicks (1000 * s.fd F.NVS_CFG_tmo) ≤ s.time →
      t = (s.setFd F.NVS_DRV_ERR_timeouts (s.fd F.NVS_DRV_ERR_timeouts d + 1) d).raise 0x161 (unitOf 11 d) c.opcode →
      ((s.drive d).resetAt = none → c.aborted = false →
        exec (.nvmeCommandTimeout d id ready) s = .next (((t.incFd F.NVS_DRV_ERR_aborts d).setDrive d { s.drive d with
          cmds := (s.drive d).cmds.map fun y => if y.id = id then { y with aborted := true, since := s.time } else y }).emit (.nvme d 8 [id]))) ∧
      ((s.drive d).resetAt = none → c.aborted = true →
        exec (.nvmeCommandTimeout d id true) s = .next ((s.drive d).cmds.foldl (fun (t : State) y => t.emit (.nvme d y.opcode [y.id]))
          ((t.incFd F.NVS_DRV_ERR_resets d).setDrive d { s.drive d with
            cmds := (s.drive d).cmds.map fun y => { y with aborted := false, since := s.time }, resetAt := some s.time })) ∧
        exec (.nvmeCommandTimeout d id false) s = .next ((t.incFd F.NVS_DRV_ERR_resets d).degrade d)) ∧
      (∀ r0, (s.drive d).resetAt = some r0 → s.time < r0 + msTicks 60000 → exec (.nvmeCommandTimeout d id ready) s = .next (t.degrade d)))) ∧
  (∀ (s : State) (d : Nat), d < 2 → s.domOn (66 + d) = true → s.drvState d = 2 ∨ s.drvState d = 5 →
    exec (.nvmeLinkLoss d) s = .next (((s.setFd F.NVS_DRV_STS_gen 0 d).setFd F.NVS_DRV_STS_width 0 d).degrade d)) ∧
  (∀ (s : State) (d : Nat) (env : DriveEnv), d < 2 → s.domOn (66 + d) = true → s.drvState d = 1 →
    (env.ok = false → ∃ (c : Nat) (t : State),
      (((s.setFd F.NVS_DRV_STS_gen env.gen d).setFd F.NVS_DRV_STS_width env.width d).setFd F.NVS_DRV_STS_qpairs (min 8 env.qpairs) d).free = (c, t) ∧
      exec (.driveInitDone d env) s = .next ((t.setDrv d 4).raise 0x160 (unitOf 11 d) (c % 2 ^ 32) true).nvNone) ∧
    (env.ok = true → env.qpairs = 8 → env.blocks = 2 ^ 20 → env.entries = [] → ∃ t : State,
      t = ((((((((s.setFd F.NVS_DRV_STS_gen env.gen d).setFd F.NVS_DRV_STS_width env.width d).setFd F.NVS_DRV_STS_qpairs 8 d).setDrive d
        { Drive.init with n := 2048, k := 1, gen := env.storeGen, chunk := min 131072 env.mdts, dir := [] }).setFd F.NVS_DRV_SLOTS_n 2046 d).dropLive
          (unitOf 11 d) 0x160).dropLive (unitOf 11 d) 0x162).dropLive 0 0x004) ∧
      exec (.driveInitDone d env) s = .next ((t.setFd F.NVS_DRV_NEXT_slot 2 d).setDrv d 2).spillGive)) ∧
  (∀ (s t : State) (d w : Nat), d < 2 → s.domOn (66 + d) = true → s.drvState d = 2 ∨ s.drvState d = 3 → s.fd F.NVS_DRV_STS_gen d ≠ 0 →
    (s.drive d).smartAt ≤ s.time → t = (s.setDrive d { s.drive d with smartAt := s.time + msTicks 60000 }).setFd F.NVS_DRV_STS_smart w d →
    (w % 256 = 0 → exec (.smartPoll d w) s = .next (t.dropLive (unitOf 11 d) 0x164)) ∧
    (w % 256 ≠ 0 → exec (.smartPoll d w) s = .next (t.raise 0x164 (unitOf 11 d) (w % 256) true))) ∧
  (∀ (s : State) (d : Nat), d < 2 →
    (s.drvState d = 3 ∨ s.drvState d = 4 → exec (.nvsReinit d) s = .next (((s.driveLost d).setDrv d 1).nvsCmdSts d 1 1).spillGive) ∧
    (s.drvState d = 2 → exec (.nvsReinit d) s = .next (s.nvsCmdSts d 1 2)) ∧
    (s.drvState d = 2 → exec (.nvsFlush d) s = .next ((s.nvIssue d 0 0 0 0 0 []).nvsCmdSts d 2 1)) ∧
    (s.drvState d = 2 → ((natsFrom 0 256).any fun r => s.fd F.DRM_RG_CFG_kind r == 2 && s.bit F.DRM_RG_CFG_spill r && (s.ring r).writer != 0) = false →
      ∃ u t : State, u = s.giveBack d (fun c => c.opcode == 2) ∧
        t = ((u.setDrive d { u.drive d with dir := [], gen := ((u.drive d).gen + 1) % 2 ^ 32 }).setFd F.NVS_DRV_NEXT_slot
          ((u.drive d).k + 1) d).nvIssue d 1 256 0 0 0 [0, (u.drive d).n, (u.drive d).k, (u.drive d).gen + 1] ∧
        (t.drvState d = 2 → exec (.nvsFormat d) s = .next (t.nvsCmdSts d 3 1).spillGive)) ∧
    (((natsFrom 0 256).any fun r => s.fd F.DRM_RG_CFG_kind r == 2 && s.bit F.DRM_RG_CFG_spill r && (s.ring r).writer != 0) = true →
      exec (.nvsFormat d) s = .next (s.nvsCmdSts d 3 2))) ∧
  (∀ (s : State) (d slot a : Nat), s.fd F.NVS_XR_SLOT_drive = d → s.fd F.NVS_XR_SLOT_slot = slot → s.pair .NVS_XR_ADDR_LO .NVS_XR_ADDR_HI = a →
    (∀ e : DirEntry, Tab.get none (s.drive d).dir slot = some e → s.bit F.NVS_XR_STS_busy = false → s.drvState d = 2 ∨ s.drvState d = 3 →
      s.fd F.NVS_DRV_STS_gen d ≠ 0 → (s.drive d).k < slot → slot < (s.drive d).n →
      ∃ t : State, t = ((((s.incFd F.NVS_XR_STS_seq).setFd F.NVS_XR_STS_busy 1).setFd F.NVS_XR_STS_result 0).setFd F.NVS_XR_STS_poison e.poison) ∧
        exec .extentRead s = .next ((t.setStore fun v => { v with xr := some (d, slot, a / 4096 * 4096) }).nvIssue d 2 0 0 slot 0 [slot * 512, t.xrBase])) ∧
    (Tab.get none (s.drive d).dir slot = none → s.bit F.NVS_XR_STS_busy = false →
      exec .extentRead s = .next (((s.incFd F.NVS_XR_STS_seq).setFd F.NVS_XR_STS_result 2).assertOnce (278 + d)))) ∧
  (∀ (s t : State) (d slot a : Nat) (data : List Byte), s.store.xr = some (d, slot, a) →
    t = ((s.setDrive d { s.drive d with cmds := (s.drive d).cmds.filter fun c => c.opcode != 2 }).setStore fun v => { v with xr := none }).setFd
      F.NVS_XR_STS_busy 0 →
    exec (.extentReadDone false data) s = .next ((t.setFd F.NVS_XR_STS_result 3).assertOnce (278 + d)).spillGive ∧
    (∀ e : DirEntry, Tab.get none (s.drive d).dir slot = some e → s.mayRequest.2 = true →
      exec (.extentReadDone true data) s = .next (((((t.dramWrite t.xrBase data).emit (.hostWrite a data t.relaxed)).setFd F.NVS_XR_STS_result
        (if crc32c data = e.crc then 1 else 4)).assertOnce (278 + d)).spillGive)))

/-- R512 to R514, R523, R527, R529 to R531, R534: the members of a cascade. -/
def Obligations.CascadeMembers : Prop :=
  (∀ (s t : State) (l dev level u : Nat) (f : Flit) (a : List Nat), isChild l = true → s.accept l f = (t, true) → t.isRoot = true →
    f.slots = 9 :: a → natBits (nth 0 a 0) 0 6 = dev → natBits (nth 0 a 0) 8 3 = level → nth 0 a 1 = u →
    (∀ v, t.joinVerdict l dev level = v → v ≠ 0 → exec (.join l f) s = .next (t.sendCtl l [9, dev + v * 65536])) ∧
    (t.joinVerdict l dev level = 0 → ∃ w : State,
      w = (((t.setCasc fun c => { c with us := Tab.set 0 c.us dev u }).setMem
        (Nat.lor (t.pair .CAS_MEM_LO .CAS_MEM_HI) (2 ^ dev))).lineDly).linkEvt l 17 dev level u ∧
      exec (.join l f) s = .next ((w.sendCtl l [8, dev + 256 * level, w.fd F.CAS_LINE_DLY_ticks]).childJoined l dev))) ∧
  (∀ (s t : State) (l : Nat) (f : Flit), isChild l = true → s.accept l f = (t, true) → t.isRoot = false → t.isMember = true → t.cascState = 2 →
    exec (.join l f) s = .next ((t.setCasc fun c => { c with via := Tab.set 0 c.via (natBits (nth 0 f.slots 1) 0 6) l }).sendCtl 16 f.slots)) ∧
  (∀ (s t : State) (f : Flit), s.accept 16 f = (t, true) → t.isMember = true → natBits (nth 0 f.slots 1) 0 6 = t.ownDev →
    ((t.link 16).step = 3 → exec (.accept f) s =
      .next ((((t.setFd F.CAS_STS_level (natBits (nth 0 f.slots 1) 8 3)).setFd F.CAS_LINE_DLY_ticks (nth 0 f.slots 2)).stepCredit 16).stepSync 16)) ∧
    exec (.refuse f) s = .next ((((t.setFd F.CAS_STS_refuse (natBits (nth 0 f.slots 1) 16 3)).linkOff 16).detach t.casc.err).raise 0x00D 0
      (natBits (nth 0 f.slots 1) 16 3))) ∧
  (∀ (s t : State) (l : Nat) (f : Flit), isChild l = true → s.accept l f = (t, true) →
    (t.isRoot = true → exec (.leave l f) s = .next (t.membersLost l (nth 0 f.slots 1 % 2 ^ 32 + nth 0 f.slots 2 % 2 ^ 32 * 2 ^ 32)))) ∧
  (∀ (s : State) (l m : Nat), ∃ w : State,
    w = ((s.setMem (s.pair .CAS_MEM_LO .CAS_MEM_HI - Nat.land (s.pair .CAS_MEM_LO .CAS_MEM_HI) m)).modLink l fun k =>
      { k with devs := k.devs.filter fun d => ! natBit m d }).lineDly ∧
    s.membersLost l m = (w.raise 0x010 0 (m % 2 ^ 32)).linkEvt l 18 (m % 2 ^ 32) (m / 2 ^ 32 % 2 ^ 32) 0) ∧
  (∀ (s : State) (l t m : Nat), isChild l = true → s.lstate l ≠ 3 → (s.link l).downAt = some t → t + msTicks 100 ≤ s.time →
    m = (s.link l).devs.foldl (fun (m : Nat) d => Nat.lor m (2 ^ d)) 0 → m ≠ 0 →
    (s.isRoot = true → exec (.childLinkLost l) s = .next (s.membersLost l m)) ∧
    (s.isRoot = false → s.lstate 16 = 3 →
      exec (.childLinkLost l) s = .next ((s.setLink l { s.link l with devs := [] }).sendCtl 16 [11, m % 2 ^ 32, m / 2 ^ 32]))) ∧
  (∀ (s t : State) (f : Flit), s.accept 16 f = (t, true) → t.isMember = true →
    exec (.dly f) s = .next ((t.setFd F.CAS_LINE_DLY_ticks (nth 0 f.slots 1 % 2 ^ 24)).ctlDown [12, nth 0 f.slots 1 % 2 ^ 24]) ∧
    exec (.cascadeResetFlit f) s = .next ((t.ctlDown [10]).resetCause 4)) ∧
  (∀ s : State, s.domOn 73 = true →
    (s.isRoot = true → s.dev.st = .run → exec .resetAll s = .next (((s.casCmdSts 1 1).ctlDown [10]).resetCause 4)) ∧
    (s.isRoot = false → exec .resetAll s = .next (s.casCmdSts 1 2))) ∧
  (∀ s : State, s.isMember = true →
    (s.cascState = 1 → s.casc.begun + 62500000 * s.fd F.CAS_CFG_join_tmo ≤ s.time → exec .joinTimeout s = .next (((s.linkOff 16).detach s.casc.err).raise 0x00E 0 0)) ∧
    exec .c0SignalDetect s = .next (s.wakeStart .cascade)) ∧
  (∀ (s : State) (inbound : Bool) (t : Nat) (w w1 mask : Word) (r : Reg), t < 16 → s.domOn 73 = true →
    r = (if inbound then .CAS_TUNIN_CFG else .CAS_TUNOUT_CFG) → mask = (if inbound then 0x003F07FF else 0x0F3F07FF) →
    w1 = (if 1280 ≤ bitsOf w 0 11 then setBits w 0 11 (bitsOf (s.rg r t) 0 11) else w) →
    natBit (s.rg r t).toNat 31 = false → natBit w.toNat 31 = true → natBit w.toNat 30 = true →
    ((if inbound then s.tunInOk t (bitsOf w 0 11) else s.tunOutOk (bitsOf w 0 11) (bitsOf w 16 6)) = true →
      exec (.casTunnelEnable inbound t w) s = .next (s.setRg r ((w1 &&& mask) ||| 0 ||| 0x80000000) t)) ∧
    ((if inbound then s.tunInOk t (bitsOf w 0 11) else s.tunOutOk (bitsOf w 0 11) (bitsOf w 16 6)) = false →
      exec (.casTunnelEnable inbound t w) s = .next (s.setRg r ((w1 &&& mask) ||| 0x40000000 ||| 0) t)))

/-- R386, R513, R518 to R522, R526, R527, R532: what a cascade carries. -/
def Obligations.CascadeTraffic : Prop :=
  (∀ (s t : State) (f : Flit) (own T : Nat), s.accept 16 f = (t, true) → t.isMember = true →
    T = nth 0 f.slots 1 % 2 ^ 32 + nth 0 f.slots 2 % 2 ^ 32 * 2 ^ 32 →
    (t.lstate 16 = 2 → (t.modLink 16 fun k => { k with step := 6 }).cascState = 1 →
      exec (.casTimeFlit f own) s = .next (((t.modLink 16 fun k => { k with step := 6 }).loadTime T own).joined)) ∧
    (∀ (e : Int) (u : State), t.lstate 16 ≠ 2 → t.cascState = 2 → e = sInt 64 (T + 2 ^ 64 - own % 2 ^ 64) →
      u = (t.setCasc fun c => { c with err := e }).noteErr 16 e →
      (512 < e.natAbs → u.linkTol 16 < e.natAbs → exec (.casTimeFlit f own) s =
        .next (((u.linkEvt 16 14 (uNat 32 e) (u.linkTol 16) 0).detach e).raise 0x00F 0 (uNat 32 e) true)) ∧
      (e.natAbs ≤ 512 → e.natAbs ≤ u.linkTol 16 → ∃ v : State,
        v = (u.setCasc fun c => { c with target := c.off + e }) ∧
        ((v.setFd F.CAS_LNK_STS_time_ok (b2n (decide (e.natAbs ≤ v.linkTol 16))) 0).cascState = 2 →
          exec (.casTimeFlit f own) s = .next (v.setFd F.CAS_LNK_STS_time_ok (b2n (decide (e.natAbs ≤ v.linkTol 16))) 0))))) ∧
  (∀ s : State, s.isMember = true → s.cascState = 2 → s.past s.casc.stepAt 64 = true → ∃ o : Int,
    exec .offsetStep s = .next (s.setCasc fun c => { c with stepAt := some s.time, off := o }) ∧ (s.casc.off < s.casc.target → o = s.casc.off + 1) ∧
      (s.casc.target < s.casc.off → o = s.casc.off - 1) ∧ (s.casc.off = s.casc.target → o = s.casc.off)) ∧
  (∀ s : State, s.domOn 73 = true →
    (((natsFrom 16 4).all fun l => s.lstate l != 3) = true → exec .resync s = .next (s.casCmdSts 2 2)) ∧
    (((natsFrom 16 4).all fun l => s.lstate l != 3) = false →
      exec .resync s = .next (((natsFrom 17 3).foldl (fun (t : State) l =>
        if t.lstate l = 3 then (t.modLink l fun k => { k with more := 16 }).sendCtl l [2] else t) s).casCmdSts 2 1))) ∧
  (∀ (s t : State) (f : Flit) (t2 : Nat), s.accept 16 f = (t, true) → t.isMember = true → t.lstate 16 = 2 ∨ t.lstate 16 = 3 →
    exec (.treq f t2) s = .next (t.sendCtl 16 [3, t2 % 2 ^ 32, t2 / 2 ^ 32 % 2 ^ 32, 0, 0, uNat 32 t.casc.err])) ∧
  (∀ (s t : State) (l : Nat) (f : Flit), 16 ≤ l → l ≤ 19 → s.accept l f = (t, true) → t.lstate l = 3 →
    exec (.areq l f) s = .next (t.sendCtl l [6, 0, 0, 0])) ∧
  (∀ (s t : State) (l : Nat) (f : Flit), s.accept l f = (t, true) →
    (isChild l = true → t.isRoot = true → exec (.lineFlit l f) s =
      .next ((lineEvents t (min 4 f.nrep) f.slots).foldl (fun (t : State) e => (t.lineAtRoot e.1 e.2.1 e.2.2.1 e.2.2.2).1) t)) ∧
    (isChild l = true → t.isRoot = false → t.isMember = true → t.cascState = 2 → t.lstate 16 = 3 →
      exec (.lineFlit l f) s = .next (t.sendSeq 16 4 f.nrep f.slots)) ∧
    (l = 16 → t.isMember = true → t.cascState = 2 → exec (.lineFlit l f) s =
      .next ((natsFrom 17 3).foldl (fun (t : State) c => if t.lstate c = 3 then t.sendSeq c 4 f.nrep f.slots else t)
        ((lineEvents t (min 4 f.nrep) f.slots).foldl (fun (t : State) e =>
          if e.2.1 = t.fd F.CAS_CFG_group then (t.lineTaken e.1 e.2.2.2).1 else t) t)))) ∧
  (∀ (s t u v : State) (l : Nat) (f : Flit) (tag : FwdTag) (rs : List Rec), 16 ≤ l → l ≤ 19 → s.accept l f = (t, true) → t.lstate l = 3 →
    tag = ⟨natBits (nth 0 f.slots 12) 0 6, natBits (nth 0 f.slots 12) 6 6, natBits (nth 0 f.slots 12) 12 4, natBit (nth 0 f.slots 12) 16⟩ →
    rs = ((natsFrom 0 (min 3 f.nrep)).map fun i =>
        (⟨w32 (nth 0 f.slots (4 * i)), w32 (nth 0 f.slots (4 * i + 1)), w32 (nth 0 f.slots (4 * i + 2)), w32 (nth 0 f.slots (4 * i + 3))⟩ : Rec)) →
    u = (t.modLink l fun k => { k with acc := k.acc + 1 }) → v = u.setUO l (u.lU l) (u.lO l + 1) →
    (linkBufs l ≤ u.lU l + u.lO l → exec (.fwdFlit l f) s = .next ((u.modLink l fun k => { k with ovr := true }).linkEvt l 3 f.seq f.nrep 0)) ∧
    (u.lU l + u.lO l < linkBufs l → tag.dst = v.ownDev → v.tunTakes tag = false →
      exec (.fwdFlit l f) s = .next ((v.tunOff l tag).setUO l (v.lU l + 1) (v.lO l - 1))) ∧
    (u.lU l + u.lO l < linkBufs l → tag.dst ≠ v.ownDev ∨ v.tunTakes tag = true →
      exec (.fwdFlit l f) s = .next (State.rxDrain l 128 (v.modLink l fun k => { k with rxBuf := k.rxBuf ++ [(rs, [tag])] }))))

/-- R484 to R490, R495, R496, R501, R506: the host path. -/
def Obligations.HostPath : Prop :=
  (∀ (s : State) (r q : Nat), r < 64 → s.bit F.HST_RING_CFG_en r = true → s.ringsRun = true → s.ringBlocked r = false →
    ((s.ringQueues r).find? fun q => decide (0 < (s.queue q).headLen (isXq q)) && s.queueOn q) = some q → s.evt.d3hot = false →
    (s.evt.bme = false → exec (.ringPacketWrite r) s = .next (s.hstSts F.HST_STS_bme_off)) ∧
    (∀ (t u : State) (rs : List Rec), s.evt.bme = true → s.fd F.HST_LINK_mps ≠ 0 → State.popPacket q 4200 s [] = (t, rs) → rs.length ≠ 0 →
      (s.hCap r < s.hHead r - s.hTail r + rs.length → exec (.ringPacketWrite r) s = .next (s.ringWait r rs.length)) ∧
      (s.hHead r - s.hTail r + rs.length ≤ s.hCap r → u = ((t.ringData r rs).setPair .HST_RING_HEAD_LO .HST_RING_HEAD_HI (s.hHead r + rs.length) r).ringBack r →
        (u.fd F.HST_RING_CFG_thr r = 0 → exec (.ringPacketWrite r) s = .next (u.setHring r { u.hring r with want := 0, turn := q })) ∧
        (u.fd F.HST_RING_CFG_thr r ≠ 0 → (u.hring r).noted + u.fd F.HST_RING_CFG_thr r ≤ u.hHead r →
          exec (.ringPacketWrite r) s = .next ((u.setHring r { u.hring r with want := 0, turn := q, noted := u.hHead r }).ringNotice r))))) ∧
  (∀ (s : State) (r : Nat), s.ringBlocked r = true → exec (.ringPacketWrite r) s = .next s) ∧
  (∀ (s : State) (r v : Nat), r < 64 →
    (v < s.hTail r ∨ s.hHead r < v → exec (.hstRingTailWrite r v) s = .next (s.setFd F.HST_RING_STS_cfg_err 1 r)) ∧
    (s.hTail r ≤ v → v ≤ s.hHead r → ∃ t : State, t = s.setPair .HST_RING_TAIL_LO .HST_RING_TAIL_HI v r ∧
      (t.hHead r - v + (t.hring r).want ≤ t.hCap r → exec (.hstRingTailWrite r v) s = .next (t.setHring r { t.hring r with want := 0 })))) ∧
  (∀ (s : State) (r : Nat) (w : Word), r < 64 →
    (s.bit F.HST_RING_CFG_en r = true → natBit w.toNat 0 = true → exec (.hstRingCfgWrite r w) s = .next (s.setFd F.HST_RING_STS_cfg_err 1 r)) ∧
    (s.bit F.HST_RING_CFG_en r = false → (s.putFields .HST_RING_CFG w r).bit F.HST_RING_CFG_en r = true →
      exec (.hstRingCfgWrite r w) s = .next ((((s.putFields .HST_RING_CFG w r).setPair .HST_RING_HEAD_LO .HST_RING_HEAD_HI 0 r).setPair
        .HST_RING_TAIL_LO .HST_RING_TAIL_HI 0 r).setHring r HRing.init))) ∧
  (∀ (s : State) (w : Word) (n h t v : Nat), n = s.cplCap → h = s.fd F.HST_CPL_PTR_head → t = s.fd F.HST_CPL_PTR_tail → v = bitsOf w 16 16 →
    (v < n → (v + n - h) % n ≤ (t + n - h) % n → ∃ u : State, u = s.setFd F.HST_CPL_PTR_head v ∧
      (s.hst.cpls = [] → exec (.hstCplPtrWrite w) s = .next u) ∧
      (∀ (c : CplEntry) (rest : List CplEntry), s.hst.cpls = c :: rest →
        (u.cplFull = true → exec (.hstCplPtrWrite w) s = .next u) ∧
        (u.cplFull = false → exec (.hstCplPtrWrite w) s = .next ((u.cplWrite c).cplDrain rest)))) ∧
    (n ≤ v ∨ (t + n - h) % n < (v + n - h) % n → exec (.hstCplPtrWrite w) s = .next (s.hstSts F.HST_STS_cq_err))) ∧
  (∀ (s : State) (i : Nat) (w : Word), s.doorOpen = true → i < 10 →
    exec (.hstDb i w) s = .next (((s.wakeStart .doorbell).setRg .HST_DB_VAL w i).assertOnce (310 + i))) ∧
  (∀ (s t : State) (v : Nat), s.doorOpen = true → t = s.wakeStart .doorbell →
    (v % 65536 < 2 ^ t.fd F.HST_CQ_CFG_size → exec (.hstCqDb v) s = .next (t.setFd F.HST_CQ_PTR_tail (v % 65536))) ∧
    (2 ^ t.fd F.HST_CQ_CFG_size ≤ v % 65536 → exec (.hstCqDb v) s = .next (t.hstSts F.HST_STS_cq_err))) ∧
  (∀ s : State, s.mayFetch = true →
    exec (.completionTimeout false) s = .next s.fetchReq ∧
    exec (.completionTimeout true) s = .next ((s.setFd F.HST_CQ_CFG_en 0).hstSts F.HST_STS_cq_err) ∧
    (∀ (e : CmdEntry) (t : State), s.evt.d3hot = false → s.evt.bme = true → s.fd F.HST_LINK_mps ≠ 0 →
      t = s.fetchReq.setFd F.HST_CQ_PTR_head ((s.fd F.HST_CQ_PTR_head + 1) % 2 ^ s.fd F.HST_CQ_CFG_size) →
      (natBit e.flags 2 = true → exec (.commandFetch e) s =
        .next (t.setHst fun h => { h with group := t.hst.group ++ [{ e with flags := e.flags % 4 + e.flags / 8 * 8 }] })) ∧
      (natBit e.flags 2 = false → exec (.commandFetch e) s =
        .next ((t.setHst fun h => { h with group := [] }).cmdGroup (t.hst.group ++ [{ e with flags := e.flags % 4 + e.flags / 8 * 8 }]))))) ∧
  (∀ (s : State) (e : CmdEntry) (rest : List CmdEntry), s.hst.fences = e :: rest → s.cplFull = false → s.evt.d3hot = false → s.evt.bme = true →
    s.fd F.HST_LINK_mps ≠ 0 →
    (s.hst.live.all (fun c => s.inEffect c) = true →
      exec .fenceComplete s = .next ((s.setHst fun h => { h with fences := rest, live := [] }).complete e.tag 8 0 0 0)) ∧
    (s.hst.live.all (fun c => s.inEffect c) = false → exec .fenceComplete s = .next s))

/-- R491 to R496: a command by itself; `e` is the entry as it runs. -/
def Obligations.HostCommands : Prop :=
  ∀ (s : State) (e0 e : CmdEntry) (op : Nat) (time : Option Nat), e = { e0 with op := op, flags := e0.flags % 4 + e0.flags / 8 * 8 } → e.bad true = false →
    s.cmdPoint e e = some (time, none) →
    (op = 1 → dTask e.payload = e.obj →
      (∀ (t : State) (k : Task), s.placeTask e.payload (argQueues e.arg) (e.outq % 2048) (time.getD 0) none = (0, t) → t.task e.obj = some k →
        exec (.taskStart e0) s = .next ((t.noteLive e k.startAt).complete e.tag 1 0 0 k.startAt)) ∧
      (∀ (t : State) (c : Nat), s.placeTask e.payload (argQueues e.arg) (e.outq % 2048) (time.getD 0) none = (c, t) → c ≠ 0 →
        exec (.taskStart e0) s = .next (s.complete e.tag 1 4 c 0))) ∧
    (∀ k : Task, op = 2 → s.task e.obj = some k →
      ((k.started && k.gates.run) = false →
        exec (.taskStop e0) s = .next (((((s.dropMovesOf e.obj).freeTask e.obj)).noteLive e s.now).complete e.tag 2 0 0 s.now)) ∧
      ((k.started && k.gates.run) = true → k.stopAt = none → ∃ p : Nat, p = s.abovePoint k.desc (time.getD 0) ∧
        exec (.taskStop e0) s = .next (((s.setTask e.obj (some { k with stopAt := some p })).noteLive e p).complete e.tag 2 0 0 p))) ∧
    (∀ k : Task, op = 3 → s.task e.obj = some k → dTask e.payload = e.obj → s.checkDesc e.payload [] (some e.obj) ≠ 0 →
      exec (.taskSwitch e0) s = .next (s.complete e.tag 3 4 (s.checkDesc e.payload [] (some e.obj)) 0)) ∧
    (∀ (k : Task) (subs : List Sub) (sp : Nat × Nat) (p : Nat), op = 3 → s.task e.obj = some k → dTask e.payload = e.obj →
      s.checkDesc e.payload [] (some e.obj) = 0 → ((s.namedChans e.payload).filter fun c => ! (k.subs.any fun u => u.chan == c)) = [] →
      p = s.abovePoint e.payload (time.getD s.now) → s.assignQueues p [] [] [] = some subs → s.spillArea (s.spillNeed e.payload) = some sp →
      s.roomFor k e.payload = true → ∃ t : State,
        t = (((s.setTask e.obj (some { k with subs := k.subs ++ subs, spill := if k.spill.2 < sp.2 then sp else k.spill,
                                              pend := k.pend ++ [⟨p, none, e.payload, e.tag, none⟩] })).bindSubs subs k.eng).openStreams subs) ∧
        exec (.taskSwitch e0) s = .next ((t.noteLive e p).complete e.tag 3 0 0 p)) ∧
    (∀ (k : Task) (t : Nat), op = 4 → s.task e.obj = some k → time = some t → dGsrc k.desc = 4 →
      ((∀ x, k.gates.last = some x → x < t) → s.taskHor k.desc ≤ t →
        exec (.gate e0) s = .next (((s.setTask e.obj (some { k with gates := { k.gates with bounds := boundInsert t k.gates.bounds } })).noteLive e t).complete
          e.tag 4 0 0 t)) ∧
      (t < s.taskHor k.desc → exec (.gate e0) s = .next (s.complete e.tag 4 2 0 0))) ∧
    (∀ t : State, op = 5 → e.obj < 4608 → natBits e.arg 0 3 = 1 → t = s.decStart e.obj (time.getD s.now) →
      (t.fd F.DEC_CTX_STS_result e.obj = 1 →
        exec (.dec e0) s = .next ((t.noteLive e (t.dctx e.obj).anchor).complete e.tag 5 0 0 (t.dctx e.obj).anchor)) ∧
      (∀ c, t.fd F.DEC_CTX_STS_result e.obj = c → c ≠ 1 → c ≠ 8 → exec (.dec e0) s = .next (t.complete e.tag 5 4 c 0))) ∧
    (∀ t : State, op = 6 → e.obj < 16 → natBits e.arg 0 3 = 1 → t = s.pipEnable e.obj (time.map stamp) e.tag →
      (t.fd F.TRG_STS_result e.obj = 1 →
        exec (.pip e0) s = .next ((t.noteLive e (s.pipPoint e.obj (time.map stamp))).complete e.tag 6 0 0 (s.pipPoint e.obj (time.map stamp)))) ∧
      (∀ c, t.fd F.TRG_STS_result e.obj = c → c ≠ 1 → exec (.pip e0) s = .next (t.complete e.tag 6 4 c 0))) ∧
    (∀ t : State, op = 7 → e.obj < 16 → natBits e.arg 0 2 = 1 → t = s.acqArm e.obj (time.map stamp) →
      (t.fd F.ACQ_STS_result e.obj = 1 →
        exec (.acq e0) s = .next ((t.noteLive e (t.acqU e.obj).arm).complete e.tag 7 0 0 (t.acqU e.obj).arm)) ∧
      (∀ c, t.fd F.ACQ_STS_result e.obj = c → c ≠ 1 → exec (.acq e0) s = .next (t.complete e.tag 7 4 c 0))) ∧
    (op = 8 → exec (.fence e0) s = .next (s.setHst fun h => { h with fences := h.fences ++ [e] })) ∧
    (∀ f : CmdEntry, f = { e0 with op := 8, flags := e0.flags % 4 + e0.flags / 8 * 8 } → f.bad true = true →
      exec (.fence e0) s = .next (s.complete f.tag 8 1 0 0)) ∧
    (∀ f : CmdEntry, f = { e0 with op := 1, flags := e0.flags % 4 + e0.flags / 8 * 8 } → f.bad true = false → s.cmdPoint f f = none →
      exec (.taskStart e0) s = .next (s.complete f.tag 1 2 0 0))

/-- R430 to R437, R439, R621: moves of tasks between engines. -/
def Obligations.EngineMoves : Prop :=
  (∀ (s t u : State) (e x mask : Nat), s.engState e = 0 → (s.ctx e x).valid = true → mask % 16 ≠ 0 →
    t = (((s.setFd F.ENG_MCHK_pc (s.ctx e x).pc e).setFd F.ENG_MCHK_quarters mask e).setFd F.ENG_MCHK_ctx x e).setFd F.ENG_MCHK_valid 1 e →
    t.moveFrom e = none → t.moveTo e = none → u = ((t.addSat F.ENG_STS_mchk 1 e).setEngState e 3).raise 0x0C0 (unitOf 6 e) (s.ctx e x).pc true →
    u.moveFrom e = none → exec (.machineCheck e x mask) s = .next (u.immediateMove e)) ∧
  (∀ (s t : State) (src tgt : Nat) (m : Move), s.moveFrom src = some (tgt, m) → m.imm = true → 2 ≤ m.step → m.cmd = none →
    t = ((m.tasks.foldl (fun st t => st.exportTask t tgt ((s.nowTick + 1) * 512)) (s.setEngState tgt 0)).setMove tgt none).showMove tgt →
    (t.tasksOn src).isEmpty = true → exec (.immediateMoveDone src) s = .next ((t.dropLive (unitOf 6 src) 0x0C0).startLoad src .afterMchk)) ∧
  (∀ (s : State) (e w : Nat), e < nEngines → w < 4096 → s.engState e ≠ 4 →
    exec (.scrubParityError e w) s = .next ((s.setFd F.ENG_STS_scrub 1 e).raise 0x0C3 (unitOf 6 e) w)) ∧
  (∀ (s : State) (e n : Nat) (why : LoadWhy), s.load e = some (why, n) →
    (n = 0 → exec (.controlStoreLoadDone e false) s = .next (s.setLoad e (some (why, 1)))) ∧
    (∀ c, n ≠ 0 → why = .retry c →
      exec (.controlStoreLoadDone e false) s = .next ((((s.setLoad e none).setEngState e 4).raise 0x0C1 (unitOf 6 e) 0).engCmdEnd c 1)) ∧
    (n ≠ 0 → why = .afterMove → exec (.controlStoreLoadDone e false) s = .next (((s.setLoad e none).setEngState e 4).raise 0x0C1 (unitOf 6 e) 0)) ∧
    (∀ c, why = .retry c → exec (.controlStoreLoadDone e true) s = .next (((s.setLoad e none).setEngState e 1).engCmdEnd c 1)) ∧
    (∀ (src : Nat) (m : Move), why = .forMove src → (s.setLoad e none).moveTo e = some m →
      exec (.controlStoreLoadDone e true) s = .next (((s.setLoad e none).setMove e (some { m with step := 2 })).showMove e))) ∧
  (∀ (s u : State) (t : Nat) (k : Task), u = s.engCmdTaken 1 → u.task t = some k →
    (∀ e, u.taskInMove t = false → u.inMove k.eng = false →
      (u.placed.any fun p => p.1 != t && p.2.subs.any fun v => (k.subs.map fun v => v.queue).contains v.queue) = false →
      (u.chooseEngine k.desc k.outq (k.subs.map fun v => v.queue) (fun e => e == k.eng || u.inMove e) = some e →
        exec (.engCmdHandover t 0xFF) s = .next (u.startMove k.eng e [t] false 0 (some (u.engCmd [e])))) ∧
      (u.chooseEngine k.desc k.outq (k.subs.map fun v => v.queue) (fun e => e == k.eng || u.inMove e) = none →
        exec (.engCmdHandover t 0xFF) s = .next (u.engCmdEnd (u.engCmd [k.eng]) 5)) ∧
      (e ≠ 0xFF → e ≠ k.eng → e < nEngines → u.inMove e = false → u.qualifies e k.desc k.outq (k.subs.map fun v => v.queue) = true →
        exec (.engCmdHandover t e) s = .next (u.startMove k.eng e [t] false 0 (some (u.engCmd [e]))))) ∧
    (∀ e, e ≠ 0xFF → u.taskInMove t = true → exec (.engCmdHandover t e) s = .next (u.engCmdEnd (u.engCmd [e]) 3))) ∧
  (∀ (s u : State) (src : Nat), u = s.engCmdTaken 2 → src < nEngines →
    (u.engState src ≠ 0 → ∀ tgt, exec (.evacuate src tgt) s = .next (u.engCmdEnd (u.engCmd [src, tgt]) 2)) ∧
    (u.engState src = 0 → u.inMove src = true → ∀ tgt, exec (.evacuate src tgt) s = .next (u.engCmdEnd (u.engCmd [src, tgt]) 3)) ∧
    (u.engState src = 0 → u.inMove src = false →
      (∀ e, u.pickSpare src = some e → exec (.evacuate src 0xFF) s = .next (u.evacuateTo src e 0 (some (u.engCmd [src, 0xFF])))) ∧
      (u.pickSpare src = none → exec (.evacuate src 0xFF) s = .next (u.engCmdEnd (u.engCmd [src, 0xFF]) 5)) ∧
      (∀ e, e < nEngines → u.spareOk src e = true → u.inMove e = false → exec (.evacuate src e) s = .next (u.evacuateTo src e 0 (some (u.engCmd [src, e])))))) ∧
  (∀ (s u : State) (e : Nat), u = s.engCmdTaken 3 → e < nEngines →
    (u.engState e = 4 → exec (.engRetry e) s = .next (u.startLoad e (.retry (u.engCmd [e])))) ∧
    (u.engState e ≠ 4 → exec (.engRetry e) s = .next (u.engCmdEnd (u.engCmd [e]) 2))) ∧
  (∀ (s t : State) (tgt : Nat) (m : Move), s.moveTo tgt = some m → m.imm = false →
    (m.step = 2 → t = (s.setMove tgt (some { m with step := 3, th := (s.nowTick + 2) * 512 })).markMoving m.tasks false →
      exec (.handoverShadow tgt) s = .next ((t.setPair .ENG_HO_T_LO .ENG_HO_T_HI (stamp ((s.nowTick + 2) * 512))).showMove tgt)) ∧
    (m.step = 3 → m.spare = true → m.cmd = none → m.whole = true → t = m.tasks.foldl (fun st t => st.drainTask t) s →
      (m.tasks.all fun k => t.drained k m.th) = true →
      exec (.handoverDrain tgt) s = .next ((((m.tasks.foldl (fun st t => (st.importTask t m).exportTask t tgt m.th) (t.setEngState tgt 0)).setMove
        tgt none).showMove tgt).startLoad m.src .afterMove))) ∧
  (∀ (s t : State) (src e tries due : Nat), Tab.get (0, 0) s.eng.retries src = (tries, due) → tries ≠ 0 →
    (s.time < due → exec (.evacuationRetry src) s = .next s) ∧
    (due ≤ s.time → t = s.setEng (fun g => { g with retries := Tab.set (0, 0) g.retries src (0, 0) }) →
      t.engState src = 0 → t.inMove src = false → t.pickSpare src = some e →
      exec (.evacuationRetry src) s = .next (t.evacuateTo src e (tries + 1) none)))

/-- R332 to R345: one queue. -/
def Obligations.QueueRecords : Prop :=
  (∀ (s t : State) (q prod : Nat) (cls : PClass) (r : Rec) (u : Queue), q < 1280 → s.queue q = u → u.waiting.any (fun w => w.prod == prod) = false →
    u.disc.find? (fun e => e.1 == prod) = none → u.disc.any (fun e => e.1 == prod && e.2) = false →
    (u.opn = none → s.queueOn q = true → u.occupancy < queueCap q →
      (t = (s.setQueue q { u with pkts := u.pkts ++ [⟨[r], s.queuePri q cls⟩], marker := u.marker.map fun m => { m with late := true } }).countIn q 1 →
        exec (.queuePush q prod cls r true) s = .next (t.drainWaiting (t.queue q).waiting.length q)) ∧
      (t = s.setQueue q { u with opn := some ⟨prod, cls, [r]⟩ } →
        exec (.queuePush q prod cls r false) s = .next (t.drainWaiting (t.queue q).waiting.length q))) ∧
    (∀ rs : List Rec, u.opn = some ⟨prod, cls, rs⟩ → s.queueOn q = true → u.occupancy < queueCap q →
      t = (s.setQueue q { u with
        opn := none, pkts := u.pkts ++ [⟨rs ++ [r], s.queuePri q cls⟩], marker := u.marker.map fun m => { m with late := true } }).countIn q (rs.length + 1) →
      exec (.queuePush q prod cls r true) s = .next (t.drainWaiting (t.queue q).waiting.length q)) ∧
    (u.opn = none → s.queueOn q = false ∨ queueCap q ≤ u.occupancy →
      t = ((s.setQueue q (u.lose 1 0 1 0 false)).countIn q 1).addSat F.QUE_Q_COUNT_drops 1 q →
      exec (.queuePush q prod cls r true) s = .next (t.drainWaiting (t.queue q).waiting.length q)) ∧
    (∀ o last, u.opn = some o → o.prod ≠ prod → t = s.setQueue q { u with waiting := u.waiting ++ [⟨prod, cls, r, last⟩] } →
      exec (.queuePush q prod cls r last) s = .next (t.drainWaiting (t.queue q).waiting.length q)) ∧
    (∀ o, u.opn = some o → o.prod = prod → t = s.setQueue q { u with opn := none } →
      exec (.packetRewind q prod) s = .next (t.drainWaiting (t.queue q).waiting.length q))) ∧
  (∀ (s : State) (q k : Nat), (s.queue q).waiting = [] → s.drainWaiting k q = s) ∧
  (∀ (u : Queue) (x : Bool), u.pop1 x false = (u, Popped.nothing) ∧
    (∀ r t, u.cur = r :: t → u.pop1 x true = ({ u with cur := t, hidden := if x then u.hidden + 1 else u.hidden }, ⟨r, t.isEmpty, true, true⟩)) ∧
    (∀ m, u.cur = [] → u.marker = some m → u.markReady x = true → u.pop1 x true = ({ u with marker := none }, ⟨m.toRec, true, true, false⟩)) ∧
    (∀ p rest r rs, u.cur = [] → u.marker = none → takeBest u.pkts = some (p, rest) → p.recs = r :: rs →
      u.pop1 false true = ({ u with pkts := rest, cur := rs }, ⟨r, rs.isEmpty, true, true⟩)) ∧
    (∀ p rest r rs, u.cur = [] → u.marker = none → u.pkts = p :: rest → u.vis ≠ 0 → p.recs = r :: rs →
      u.pop1 true true = ({ u with pkts := rest, cur := rs, vis := u.vis - 1, hidden := u.hidden + 1 }, ⟨r, rs.isEmpty, true, true⟩)) ∧
    (u.cur = [] → u.marker = none → u.pkts = [] → u.pop1 x true = (u, Popped.nothing))) ∧
  (∀ (l : List QPkt) (p : QPkt) (rest : List QPkt), takeBest l = some (p, rest) →
    ∃ a b : List QPkt, l = a ++ p :: b ∧ rest = a ++ b ∧ (∀ y ∈ a, p.pri < y.pri) ∧ (∀ y ∈ b, p.pri ≤ y.pri)) ∧
  (∀ (l : List QPkt), takeBest l = none ↔ l = []) ∧
  (∀ (s : State) (q : Nat) (u : Queue), q < 1280 → s.queue q = u →
    (u.cur = [] → exec (.skipPkt q) s = .next (s.setFd F.QUE_Q_STS_skip_none 1 q)) ∧
    (u.cur ≠ [] → exec (.skipPkt q) s = .next ((s.setQueue q { u with cur := [], hidden := if isXq q then u.hidden + u.cur.length else u.hidden }).setRg
      .QUE_Q_SKIP (w32 (sat (2 ^ 32 - 1) ((s.rg .QUE_Q_SKIP q).toNat + u.cur.length))) q)) ∧
    (u.opn = none → u.disc = [] → u.marker = none → q < 1024 → ∃ (t : State) (m : Marker),
      m = (Marker.fresh true 0).add 0 u.committed 0 (u.pkts.length + if u.cur.isEmpty then 0 else 1) false ∧
      t = s.setQueue q { u with pkts := [], cur := [], vis := 0, marker := some { m with flush := true, after := 0, committed := true } } ∧
      exec (.queFlush q) s = .next ((((t.countIn q 0).setFd F.QUE_Q_STS_flushed 1 q).assertOnce (270 + sliceOf q)).drainWaiting
        ((((t.countIn q 0).setFd F.QUE_Q_STS_flushed 1 q).assertOnce (270 + sliceOf q)).queue q).waiting.length q)))

/-- R109, R133, R335, R348, R353, R354, R365, R370 to R372: the use of queues. -/
def Obligations.QueueUse : Prop :=
  (∀ (s t : State) (q : Nat) (p : Popped), q < 1280 → s.domOn (58 + sliceOf q) = true → s.popOnce q = (t, p) →
    (q < 1024 ∨ 1072 ≤ q → s.fd F.QUE_Q_CFG_cons q = 1 → p.valid = true → exec (.queuePop q) s = .next (t.portTake q p.record)) ∧
    (q < 1024 ∨ 1072 ≤ q → s.fd F.QUE_Q_CFG_cons q = 4 → exec (.queuePop q) s = .next (((((t.setRg .QUE_POP_W p.record.w0 0).setRg .QUE_POP_W
      p.record.w1 1).setRg .QUE_POP_W p.record.w2 2).setRg .QUE_POP_W p.record.w3 3).setRg .QUE_POP_STS
        (w32 (b2n (p.valid && p.eop) + 2 * b2n (! p.valid))))) ∧
    (1024 ≤ q → q < 1064 → p.valid = true → p.data = true →
      (p.eop = true → exec (.queuePop q) s =
        .next ((t.setEng fun e => { e with parts := Tab.set [] e.parts q [] }).route (Tab.get [] t.eng.parts q ++ [p.record]))) ∧
      (p.eop = false → exec (.queuePop q) s =
        .next (t.setEng fun e => { e with parts := Tab.set [] e.parts q (Tab.get [] t.eng.parts q ++ [p.record]) })))) ∧
  (∀ (s t u : State) (q : Nat) (rs : List Rec), q < 1024 → s.domOn (58 + sliceOf q) = true → s.fd F.QUE_Q_CFG_cons q = 3 →
    (s.ring (s.fd F.QUE_Q_CFG_cidx q)).writer = 256 + q → State.popPacket q 4200 s [] = (t, rs) → rs ≠ [] →
    (t.ringWrite (s.fd F.QUE_Q_CFG_cidx q) rs = (u, true) → exec (.queuePop q) s = .next u) ∧
    (t.ringWrite (s.fd F.QUE_Q_CFG_cidx q) rs = (u, false) →
      exec (.queuePop q) s = .next ((s.closeExtent (s.fd F.QUE_Q_CFG_cidx q)).ringFull (s.fd F.QUE_Q_CFG_cidx q)))) ∧
  (∀ (s : State) (who : Requester) (q : Nat), s.fd F.QUE_POP_SEL_queue = q → s.dev.st = .run → s.domOn (58 + sliceOf q) = true →
    (q < 1024 → s.fd F.QUE_Q_CFG_cons q = 4 →
      exec (.quePopW0Read who) s = .next ((s.barPop q).emit (.readData who (regAddr .QUE_POP_W 0 0) ((s.barPop q).rg .QUE_POP_W 0)))) ∧
    (s.fd F.QUE_Q_CFG_cons q ≠ 4 →
      exec (.quePopW0Read who) s = .next ((s.setFd F.QUE_POP_STS_wrong 1).emit (.readData who (regAddr .QUE_POP_W 0 0) 0)))) ∧
  (∀ (s : State) (q : Nat) (u : Queue), 1024 ≤ q → q < 1280 → s.queue q = u →
    (u.vis < u.pkts.length → exec (.xqCommitVisible q) s = .next (s.setQueue q { u with vis := u.vis + 1 })) ∧
    (0 < u.hidden → exec (.xqFreeVisible q) s = .next (s.setQueue q { u with hidden := u.hidden - 1 }))) ∧
  (∀ (s : State) (q : Nat) (w n : Word), 1072 ≤ q → q < 1280 → n = (s.putFields .QUE_Q_CFG w q).rg .QUE_Q_CFG q →
    (natBit (s.rg .QUE_Q_CFG q).toNat 0 = false → bitsOf n 1 3 ≠ 3 ∨ natBit n.toNat 0 = false →
      exec (.queQCfgWrite q w) s = .next (s.setRg .QUE_Q_CFG n q)) ∧
    (natBit (s.rg .QUE_Q_CFG q).toNat 0 = true → natBit n.toNat 0 = true → bindBits n ≠ bindBits (s.rg .QUE_Q_CFG q) →
      exec (.queQCfgWrite q w) s = .next (s.setFd F.QUE_Q_STS_cfg_err 1 q)) ∧
    (natBit (s.rg .QUE_Q_CFG q).toNat 0 = true → natBit n.toNat 0 = false → bindBits n = bindBits (s.rg .QUE_Q_CFG q) →
      exec (.queQCfgWrite q w) s = .next ((s.ringQuit q).setRg .QUE_Q_CFG n q))) ∧
  (∀ (s t : State) (q k n faulty : Nat), q < 1024 → s.bit F.QUE_Q_CFG_en q = false → k = sliceOf q → n = s.fd F.QUE_SLICE_STS_spares k → faulty ≠ 0 →
    t = ((s.setFd F.QUE_SLICE_STS_spares (n - min n faulty) k).setFd F.QUE_SLICE_STS_repaired
      (s.fd F.QUE_SLICE_STS_repaired k + min n faulty) k).assertOnce (270 + k) →
    (n < faulty → ∃ u : State, u = ((t.setQueue q { t.queue q with bad := true }).setFd F.QUE_Q_STS_bad 1 q).raise 0x120 (unitOf 9 q) k true ∧
      exec (.queTest q faulty) s = .next (u.queCmdSts q 1 (if (u.queue q).bad then 3 else 1))) ∧
    (faulty ≤ n → (t.queue q).bad = false → exec (.queTest q faulty) s = .next (t.queCmdSts q 1 1))) ∧
  (∀ (s : State) (q faulty : Nat), q < 1280 → s.bit F.QUE_Q_CFG_en q = true → exec (.queTest q faulty) s = .next (s.queCmdSts q 1 2)) ∧
  (∀ s : State,
    (s.bit F.QUE_SYSQ_LVL_en = true → s.queueOn (s.fd F.QUE_SYSQ_LVL_queue) = true → exec .queLevel s = .next ((s.levelPkt 2).queCmdSts 0 2 1)) ∧
    (s.bit F.QUE_SYSQ_LVL_en = false → exec .queLevel s = .next (s.queCmdSts 0 2 2)) ∧
    (s.dev.finalDone = true → s.dev.drained = false → s.dev.st = .halt →
      exec .queueDrainEnd s = .next (s.flushAll.setDev fun v => { v with drained := true })) ∧
    (∀ t : State, s.tb.epochDue = true → s.nowTick / epochTicks * epochTicks < s.hR → t = (s.setTb fun t => { t with epochDue := false }).closeAllSamples →
      exec .epochRecord s = .next ((t.streamQueues.foldl (fun (u : State) q => (u.pushPkt q prodRouter .rtr [t.epochRec]).1) t).acqEpoch t.epochRec))) ∧
  (∀ (s s0 u : State) (i slot code t ps : Nat) (r : Rec) (rising : Bool), i < 5 → s.tb.on = true → s.dev.portsOff = false →
    t = s.stampOf (216 + i) (216 + i) s.time (slot % 4) (code % 256) → s0 = s.setRg .TB_SVC_SER (s.rg .TB_SVC_SER i + 1) i →
    s0.pair .TB_SVC_CNT_LO .TB_SVC_CNT_HI i < 2 ^ 64 - 2 →
    ps = 1600 * s.time + 400 * (slot % 4) → r = mkRec 0x01 (0x60 + i) (b2n (! rising)) 0 (stamp t) (s.rg .TB_SVC_SER i).toNat →
    u = ((s0.setPair .TB_SVC_CNT_LO .TB_SVC_CNT_HI (s0.pair .TB_SVC_CNT_LO .TB_SVC_CNT_HI i + 1) i).noteCount (192 + i) t 1).svcRelease →
    (natBit (s.fd F.TB_SVC_EN_en) i = true → s.dev.st = .run → s.laneState (216 + i) ≠ 2 →
      (u.bufRoom (216 + i) ps = true →
        exec (.serviceTransition i rising slot code) s = .next (((u.closeLoss 40 (216 + i) ps).bufTake (216 + i) ps).1.svcRelease.route [r])) ∧
      (u.bufRoom (216 + i) ps = false → exec (.serviceTransition i rising slot code) s = .next (u.bufLose (216 + i) (0x60 + i) t 0))) ∧
    (natBit (s.fd F.TB_SVC_EN_en) i = false → exec (.serviceTransition i rising slot code) s = .next u))

/-- R38, R44, R45, R212, R220 to R222, R582 to R586: the device states. -/
def Obligations.PowerStates : Prop :=
  (∀ s : State, s.dev.trans ≠ .none →
    exec .halt s = .next (s.glbSts 3 3) ∧ exec .enterWatch s = .next (s.glbSts 1 3) ∧ (∀ v, exec (.resume v) s = .next (s.glbSts 2 3))) ∧
  (∀ s : State, s.dev.trans = .none →
    (s.dev.st = .run → exec .halt s = .next ((((s.glbSts 3 0).beginFinal (.toHalt 3) 4).acqHold 3).pipHold)) ∧
    (s.dev.st = .run → s.faultLive 0x003 0 = false →
      exec .enterWatch s = .next (((((s.glbSts 1 0).beginFinal .toWatch 3).acqHold 2).pipHold).decHold (s.nowTick + 1))) ∧
    (s.dev.st = .run → s.faultLive 0x003 0 = true → exec .enterWatch s = .next (s.glbSts 1 2)) ∧
    (s.dev.st = .run → ∀ v, exec (.resume v) s = .next (s.glbSts 2 1)) ∧
    (s.dev.st = .boot → exec .halt s = .next (s.glbSts 3 1) ∧ exec .enterWatch s = .next (s.glbSts 1 1)) ∧
    (s.dev.st = .halt → s.dev.pinsTaken = false → s.severeOpen = true → ∀ v, exec (.resume v) s = .next (s.glbSts 2 2)) ∧
    (s.dev.st = .halt → s.dev.pinsTaken = false → s.severeOpen = false → s.dev.portsOff = false →
      (exec (.resume false) s = .next ((s.glbSts 2 0).runAgain 1)) ∧
      (s.fd F.GLB_STATE_halt_cause = 2 → exec (.resume true) s = .next (s.glbSts 2 2)))) ∧
  (∀ (s t : State) (c : Nat), s.dev.cut = some c → s.dev.snapTaken = false → s.ldg.wr = none → s.dev.shed = false →
    t = { s with ldg := { s.ldg with wr := none } } →
    (s.dev.st = .run → s.talliesClosed = true → s.dev.trans = .toWatch → ((t.latchCut c).beginCkpt 2 s.dev.finalCause false).dev.shed = false →
      exec .finalCheckpointSnapshot s = .next (((t.latchCut c).beginCkpt 2 s.dev.finalCause false).setDev fun v => { v with snapTaken := true })) ∧
    (s.dev.st = .run → s.talliesClosed = false → exec .finalCheckpointSnapshot s = .next s)) ∧
  (∀ (s t u : State) (failed corrected : List Nat) (cause : Nat), frameWriteDone failed corrected s = t →
    (t.dev.trans = .none → exec (.frameWriteDone failed corrected) s = .next t) ∧
    (t.dev.trans = .toHalt cause → t.dev.finalDone = true → t.dev.st = .run → u = ((t.linksOff).abandonAll).madcHalt →
      exec (.frameWriteDone failed corrected) s = .next (((((u.decHold u.nowTick).enter .halt).setFd
        F.GLB_STATE_halt_cause cause).setDev fun v =>
          { v with cut := none, bridging := ! v.portsOff, pinsTaken := v.pinsTaken || v.pinsWait, pinsWait := false }).afterTransition))) ∧
  (∀ (s t : State), s.dev.trans = .toWatch → s.dev.finalDone = true → s.ldg.wr = none → s.dev.drained = true → t = (((s.linksOff).abandonAll).madcHalt).drivesLost →
    exec .watchEntryDone s = .next ((((t.enter .watch).domsDown t.watchOff).setFd F.HST_LINK_l1 (b2n t.evt.aspmL1)).setDev
      (fun v => { v with cut := none, bridging := true, drained := true })).afterTransition) ∧
  (∀ s : State, s.dev.st = .watch → s.dev.trans = .none →
    (∀ c : WakeCause, s.wakeStart c = ((((s.setFd F.GLB_STATE_wake_cause c.code).begin (.waking c)).domsUp allDoms).setFd F.HST_LINK_l1 0).logFlush) ∧
    (∀ n, exec (.wakeEvent .doorbell n) s = .next (s.wakeStart .doorbell)) ∧
    (∀ n, s.isMember = true → exec (.wakeEvent .cascade n) s = .next (s.wakeStart .cascade)) ∧
    (∀ n, n < 8 → s.bit F.PWR_TMR_CFG_en n = true → s.bit F.PWR_TMR_CFG_wake n = true → exec (.wakeEvent .timer n) s = .next (s.wakeStart .timer)) ∧
    (∀ n, n < 96 → exec (.wakeEvent .window n) s = .next (s.runTo n (4 * s.time))) ∧
    (∀ n v, s.windowWake n v = (((s.setFd F.PRT_WAKE_SRC_port n).setFd F.PRT_WAKE_SRC_level v).setFd F.PRT_WAKE_SRC_valid 1).wakeStart .window)) ∧
  (∀ (s : State) (c : WakeCause) (bad : List Nat), s.dev.trans = .waking c → s.dev.st = .watch →
    exec (.wakeDone bad) s = .next ((((bad.foldl (fun (t : State) e => t.wakeLoss e) s).portsUnknown false).runAgain 0).afterTransition)) ∧
  (∀ (s t u : State) (vin pin : Bool) (src : Nat), src = b2n (vin && s.bit F.LDG_PF_CFG_vin_en) + 2 * b2n (pin && s.bit F.LDG_PF_CFG_pin_en) →
    (src = 0 → exec (.powerFailWarning vin pin) s = .next s) ∧
    (src ≠ 0 → s.dev.st = .run → s.dev.trans = .none →
      t = ((((s.raise 0x040 (unitOf 2 0xFFF) src).pwrSts F.PWR_STS_pf).setDev (fun v => { v with pfAct := true })).setFd F.LDG_PF_STS_warned 1).setFd
        F.LDG_PF_STS_src src →
      u = ((t.stopWriter false).setFd F.LDG_PF_STS_done 0).domUp 75 →
      exec (.powerFailWarning vin pin) s = .next ((u.setDev (fun v =>
        { v with heldWake := none, waitHalt := none, pinsWait := false })).beginFinal .powerFail 1).shedLoad)) ∧
  (∀ (s t : State) (us : Nat), s.dev.trans = .powerFail → s.dev.finalDone = true → s.dev.waitFault = false → s.dev.waitReset = false → s.dev.waitPor = false →
    t = (((((s.setFd F.LDG_PF_STS_done 1).setFd F.LDG_PF_STS_dur (sat 65535 us)).abandonAll).madcHalt).shedPorts) →
    exec (.powerFailSequenceEnd us) s = .next (((t.enter .halt).setFd F.GLB_STATE_halt_cause 2).setDev fun v =>
      { v with cut := none, bridging := false, pfAct := false, dimmPwr := false })) ∧
  (∀ (s : State) (us : Nat), s.dev.trans = .powerFail → s.dev.finalDone = true → s.dev.waitPor = true → exec (.powerFailSequenceEnd us) s = .next s.por) ∧
  (∀ (s t : State) (i t0 t1 : Nat), s.tmr i = some t0 → t1 = t0 + msTicks (s.fd F.PWR_TMR_PER i) →
    (s.due t1 = false → exec (.generalTimerExpiry i) s = .next s) ∧
    (s.due t1 = true → t = (s.setTmr i (if s.bit F.PWR_TMR_CFG_periodic i then some t1 else none)).assertOnce (293 + i) →
      exec (.generalTimerExpiry i) s = .next (if s.bit F.PWR_TMR_CFG_wake i then t.wakeStart .timer else t)))

/-- R567 to R588, R592: escalation and the power stage. -/
def Obligations.PowerStage : Prop :=
  (∀ (s t : State) (i c d : Nat) (r : FaultRec), s.frec i = some r → r.deadline = some d → s.due d = true → r.ack = false → r.cls = c → t = s.markEsc i r →
    (c = 1 → exec (.escalation i) s = .next (t.reactions i r)) ∧
    (c = 2 → s.dev.st = .run → s.dev.trans = .none → exec (.escalation i) s = .next ((t.reactions i r).askHalt 1)) ∧
    (c = 2 → s.dev.st = .halt ∨ s.dev.trans = .powerFail → exec (.escalation i) s = .next t) ∧
    (c = 3 → exec (.escalation i) s = .next (t.faultReset i)) ∧
    (c = 0 → exec (.escalation i) s = .next s)) ∧
  (∀ (s : State) (r x : Nat) (mv : Int), r < 12 →
    (railOff r mv = true → exec (.railOutOfRegulation r mv) s =
      .next ((s.raise 0x042 (unitOf 2 (0x100 + r)) (uNat 32 mv) true).pwrSts F.PWR_STS_rail)) ∧
    exec (.railCurrentLimit r x) s = .next ((s.raise 0x043 (unitOf 2 (0x100 + r)) x true).pwrSts F.PWR_STS_oc) ∧
    (s.vinLimit < x → exec (.vinHigh x) s = .next ((s.raise 0x041 (unitOf 2 0xFFF) x true).pwrSts F.PWR_STS_vin_hi)) ∧
    (mv ≤ (s.vinLimit : Int) → exec (.powerConditionClear .vinHigh mv) s = .next (s.dropLive (unitOf 2 0xFFF) 0x041)) ∧
    (railOff r mv = false → exec (.powerConditionClear (.rail r) mv) s = .next (s.dropLive (unitOf 2 (0x100 + r)) 0x042)) ∧
    exec (.powerConditionClear (.current r) mv) s = .next (s.dropLive (unitOf 2 (0x100 + r)) 0x043)) ∧
  (∀ (s t : State) (d : Nat),
    (s.domIdle d = false → exec (.domainOff d) s = .next (s.domSts d 2)) ∧
    (s.domIdle d = true → s.domReq.contains d = false →
      exec (.domainOff d) s = .next (((({ s with domReq := s.domReq ++ [d] }).setDom d false).domSts d 1).sparesFrom (s.engCount 1))) ∧
    (s.domReq.contains d = false → exec (.domainOn d) s = .next (s.domSts d 2)) ∧
    (s.domReq.contains d = true → s.dev.st ≠ .watch → exec (.domainOn d) s =
      .next ((((({ s with domReq := s.domReq.filter fun x => x != d }).setDom d true).domSts d 1).dropLive (unitOf 2 d) 0x044).sparesFrom (s.engCount 1))) ∧
    (d < 80 → s.domReq.contains d = true → t = ({ s with domReq := s.domReq }).setDom d false →
      (s.fd F.PWR_DOM_STS_dom = d → s.fd F.PWR_DOM_STS_result = 1 →
        exec (.powerGoodTimeout d) s = .next ((((t.setFd F.PWR_DOM_STS_result 3).raise 0x044 (unitOf 2 d) 0 true).pwrSts F.PWR_STS_dom).sparesFrom (s.engCount 1))) ∧
      (s.fd F.PWR_DOM_STS_dom ≠ d →
        exec (.powerGoodTimeout d) s = .next (((t.raise 0x044 (unitOf 2 d) 0 true).pwrSts F.PWR_STS_dom).sparesFrom (s.engCount 1))))) ∧
  (∀ (s : State) (t0 t1 t2 t3 : Int), exec (.tempSample t0 t1 t2 t3) s = .next ((((s.readSensor 0 t0).readSensor 1 t1).readSensor 2 t2).readSensor 3 t3)) ∧
  (∀ (s u : State) (i z : Nat) (t : Int), s.fd F.PWR_TEMP_zone i = z →
    (s.zoneOf z t = z → s.readSensor i t = (s.setFd F.PWR_TEMP_t (uNat 10 t) i).setFd F.PWR_TEMP_zone z i) ∧
    (u = ((s.setFd F.PWR_TEMP_t (uNat 10 t) i).setFd F.PWR_TEMP_zone 1 i).assertOnce (306 + i) → z = 0 → s.zoneOf z t = 1 →
      s.readSensor i t = u.raise 0x045 (unitOf 2 (0x200 + i)) (uNat 32 t) true)) ∧
  (∀ (s : State) (w : Word), exec (.fltCtlLock w) s = .next ((natsFrom 0 64).foldl (fun (t : State) i => match t.frec i with
    | some r => if t.escOn r.cls then t else t.setFrec i (some { r with deadline := none })
    | none => t) (s.putFields .FLT_CTL w 0 0 (s.bit F.FLT_CTL_lock))))

/-- R36, R38, R535 to R556: resets and boot. -/
def Obligations.Resets : Prop :=
  (∀ s : State,
    ((s.dev.trans = .powerFail ∨ (s.dev.trans = .reset ∧ s.dev.pfAct = true)) ∧ 2 ≤ s.fd F.LDG_PF_STS_src ∧ s.dev.finalDone = false →
      exec .porNLow s = .next (s.setDev fun v => { v with waitPor := true })) ∧
    (¬ ((s.dev.trans = .powerFail ∨ (s.dev.trans = .reset ∧ s.dev.pfAct = true)) ∧ 2 ≤ s.fd F.LDG_PF_STS_src ∧ s.dev.finalDone = false) →
      exec .porNLow s = .next s.por) ∧ exec .vinUndervoltage s = .next s.por ∧ s.por.dev.st = .powerup ∧ s.por.ldg.lines = s.ldg.lines ∧
    s.por.boot.otp = s.boot.otp ∧ (s.boot.flash = none → s.por.flash = s.flash) ∧ s.por.dram = [] ∧ s.por.dev.trans = .none) ∧
  (∀ (s : State) (e : BootEnv), s.dev.st = .powerup → exec (.powerStageUp e) s = .next (((s.beginBoot).latchStraps e).stepThree e)) ∧
  (∀ (s t : State) (e : BootEnv), t = (({ s with boot := { s.boot with env := some e } }).role).atStep 3 →
    t.dev.pfBoot = false → t.dev.pinsTaken = false →
    (t.fd F.BOOT_STRAP_boot_src = 3 → s.stepThree e = t.holdBoot 3) ∧ (t.fd F.BOOT_STRAP_boot_src ≠ 3 → s.stepThree e = t.stepFour e)) ∧
  (∀ s : State,
    exec .perstNFall s = .next ((s.setDev fun v => { v with perstLow := true }).resetCause 1) ∧
    exec .perstNRise s = .next (s.setDev fun v => { v with perstLow := false }) ∧
    exec .functionLevelReset s = .next (s.resetCause 2) ∧
    (s.bit F.BOOT_LOCK_soft_en = true → exec .softReset s = .next ((s.bootCmdSts 1 1).resetCause 2)) ∧
    (s.bit F.BOOT_LOCK_soft_en = false → exec .softReset s = .next (s.bootCmdSts 1 2))) ∧
  (∀ (s : State) (b : Nat),
    (s.dev.st = .powerup → s.resetCause b = s) ∧
    (s.dev.st = .run → s.dev.trans = .none → s.dev.waitReset = false → s.resetCause b = ((s.setDev fun v => { v with causes := 2 ^ b }).domUp 75).beginFinal .reset 2) ∧
    (s.dev.st = .run → s.dev.trans = .reset → s.resetCause b = s.setDev fun v => { v with causes := Nat.lor v.causes (2 ^ b) }) ∧
    (s.dev.st = .run → s.dev.trans = .powerFail → s.dev.waitReset = false →
      s.resetCause b = (s.setDev fun v => { v with causes := 2 ^ b }).setDev fun v => { v with waitReset := true })) ∧
  (∀ (s : State) (e : BootEnv), s.dev.trans = .reset → s.dev.finalDone = true → s.dev.causes = 2 → s.dev.waitPor = false →
    exec (.resetTakesEffect e) s = .next ((((s.clear 2).setRg .BOOT_CAUSE (w32 (2 + 0))).beginBoot).stepThree e)) ∧
  (∀ (s : State) (m : Nat), (s.clear m).ldg.lines = s.ldg.lines ∧ (s.clear m).boot.otp = s.boot.otp ∧ (s.clear m).dram = [] ∧ (s.clear m).time = 0 ∧
    (s.clear m).dev.st = .boot) ∧
  (∀ (s : State) (e : BootEnv), s.dev.st = .boot → s.dev.pfBoot = true → s.dev.trans = .none →
    exec (.bootPfRestart e) s =
      .next (((((s.clear 0).setDev fun v => { v with pfBoot := false }).setFd F.BOOT_CAUSE_pf_restart 1).beginBoot).stepThree e)) ∧
  (∀ (s t u v : State) (ms : Nat), s.dev.st = .boot → s.dev.bootStep = 9 → s.dev.trans = .none → s.dev.pfBoot = false → s.dev.pinsTaken = false → s.tb.on = true →
    s.isMember = false → t = ((chunks 80 (s.boot.tasks.length / 80) s.boot.tasks).foldl (fun (l : List (List Byte)) e => taskInsert e l) []).foldl
      (fun (t : State) e => t.bootTask e) ((s.atStep 10).startStreams) → (((t.enter .run).atStep 11).setDev fun v => { v with runAt := s.time }).free = (ms, u) →
    v = (u.setFd F.BOOT_TIME_ms (ms % 65536)).assertOnce 304 →
    exec .bootComplete s = .next (if v.bit F.BOOT_STS_fallback ∨ v.bit F.BOOT_STS_diverge ∨ v.bit F.BOOT_STS_other_bad ∨ v.rg .BOOT_SKIP ≠ 0
      then v.assertOnce 305 else v)) ∧
  (∀ (s : State) (n : Nat), s.dev.st = .boot → 1 ≤ n → n ≤ 10 → exec (.bootStepTimeout n) s = .next ((s.setFd F.BOOT_TIME_slow_step n).raise 0x006 0 n)) ∧
  (∀ s : State, s.dev.st = .run → s.due (s.dev.runAt + msTicks 10000) = true → exec .bootLoopClear s = .next ((s.setFd F.BOOT_CNT_fails 0).setDev fun v => { v with early := false })) ∧
  (∀ s : State, s.due (s.dev.runAt + msTicks 10000) = false → exec .bootLoopClear s = .next s) ∧
  (∀ (s : State) (e : BootEnv),
    (s.heldBoot = true → s.fd F.BOOT_STS_err = 3 → exec (.continueCmd e) s = .next ((s.bootCmdSts 2 1).leaveHold e)) ∧
    (s.heldBoot = true → exec (.restart e) s = .next (((s.bootCmdSts 3 1).setFd F.BOOT_CNT_fails 0).leaveHold e)) ∧
    (s.heldBoot = false → exec (.continueCmd e) s = .next (s.bootCmdSts 2 2) ∧ exec (.restart e) s = .next (s.bootCmdSts 3 2)))

/-- R554, R555, R557, R559, R560: fuses and flash. -/
def Obligations.FlashAndFuses : Prop :=
  (∀ s : State, s.bit F.BOOT_LOCK_lock = true → exec .otpDigest s = .next (s.bootCmdSts 4 2) ∧ exec .otpDigEn s = .next (s.bootCmdSts 5 2) ∧
    ∀ l, exec (.otpJtag l) s = .next (s.bootCmdSts 6 2)) ∧
  (∀ (s : State) (d : List Byte), s.bit F.BOOT_LOCK_lock = false → d = Memory.readN 0 s.boot.page 0 32 →
    (s.boot.otp.digest = none → exec .otpDigest s = .next (((((natsFrom 0 8).foldl (fun (t : State) i => t.setRg .BOOT_OTP_DIG (w32 (leAt d (4 * i) 4)) i)
      { s with boot := { s.boot with otp := { s.boot.otp with digest := some d } } }).setFd F.BOOT_OTP_STS_dig_set 1).setFd F.BOOT_OTP_STS_pending
        1).bootCmdSts 4 1)) ∧
    (∀ x, s.boot.otp.digest = some x → exec .otpDigest s = .next (s.bootCmdSts 4 2) ∧ exec .otpDigEn s =
      .next ((({ s with boot := { s.boot with otp := { s.boot.otp with digEn := true } } }).setFd F.BOOT_OTP_STS_pending 1).bootCmdSts 5 1)) ∧
    (s.boot.otp.digest = none → exec .otpDigEn s = .next (s.bootCmdSts 5 2)) ∧
    (∀ l, s.boot.otp.jtag < l → l < 4 → exec (.otpJtag l) s =
      .next ((({ s with boot := { s.boot with otp := { s.boot.otp with jtag := l } } }).setFd F.BOOT_OTP_STS_pending 1).bootCmdSts 6 1)) ∧
    (∀ l, l ≤ s.boot.otp.jtag → l < 4 → exec (.otpJtag l) s = .next (s.bootCmdSts 6 2))) ∧
  (∀ (s t : State) (a : Nat), s.fd F.BOOT_FL_ADDR_addr = a → t = s.incFd F.BOOT_FL_STS_seq →
    (s.bit F.BOOT_LOCK_fl_lock = false → s.boot.flash = none →
      (a % 256 = 0 → a + 256 ≤ 2 ^ s.boot.flashLog →
        exec .flashRead s = .next (({ t with boot := { t.boot with flash := some (1, a) } }).setRg .BOOT_FL_STS (setBits (t.rg .BOOT_FL_STS) 0 3 1)) ∧
        (a / 2 ^ 26 ≠ s.fd F.BOOT_STS_copy ∨ 2 ≤ s.fd F.BOOT_STS_copy →
          exec .flashProgram s = .next (({ t with boot := { t.boot with flash := some (2, a) } }).setRg .BOOT_FL_STS (setBits (t.rg .BOOT_FL_STS) 0 3 1)))) ∧
      (a % 65536 = 0 → a + 65536 ≤ 2 ^ s.boot.flashLog → a / 2 ^ 26 ≠ s.fd F.BOOT_STS_copy ∨ 2 ≤ s.fd F.BOOT_STS_copy →
        exec .flashErase s = .next (({ t with boot := { t.boot with flash := some (3, a) } }).setRg .BOOT_FL_STS (setBits (t.rg .BOOT_FL_STS) 0 3 1)))) ∧
    (a / 2 ^ 26 = s.fd F.BOOT_STS_copy → s.fd F.BOOT_STS_copy < 2 → exec .flashProgram s = .next (t.setFd F.BOOT_FL_STS_result 2) ∧
      exec .flashErase s = .next (t.setFd F.BOOT_FL_STS_result 2)) ∧
    (s.boot.flash.isSome = true ∨ a % 256 ≠ 0 → exec .flashRead s = .next (t.setFd F.BOOT_FL_STS_result 2) ∧
      exec .flashProgram s = .next (t.setFd F.BOOT_FL_STS_result 2))) ∧
  (∀ (s t : State) (op a : Nat), s.boot.flash = some (op, a) →
    t = ({ s with boot := { s.boot with flash := none } }).setRg .BOOT_FL_STS (setBits (s.rg .BOOT_FL_STS) 0 3 2) →
    (op = 1 → exec (.flashCommandDone true) s = .next { t with boot := { t.boot with page := Memory.writeN 0 t.boot.page 0 (s.flashRead a 256) } }) ∧
    (op = 2 → exec (.flashCommandDone true) s = .next { t with flash := Memory.writeN 0xFF t.flash a (Memory.readN 0 t.boot.page 0 256) }) ∧
    (op = 3 → s.Inv → ∃ m : Memory, exec (.flashCommandDone true) s = .next { t with flash := m } ∧
      (∀ b, a ≤ b → b < a + 65536 → Memory.read 0xFF m b = 0xFF) ∧
      (∀ b, b < a ∨ a + 65536 ≤ b → Memory.read 0xFF m b = Memory.read 0xFF s.flash b))) ∧
  (∀ (s : State) (who : Requester) (i : Nat), s.fd F.BOOT_FL_IDX_idx = i →
    (∀ w t, t = s.dropHeld who → exec (.bootFlDataAccess who (some w)) s =
      .next (({ t with boot := { t.boot with page := Memory.writeN 0 t.boot.page (4 * i) (leBytes 4 w.toNat) } }).incFd F.BOOT_FL_IDX_idx)) ∧
    exec (.bootFlDataAccess who none) s =
      .next ((s.emit (.readData who (regAddr .BOOT_FL_DATA 0 0) (w32 (ofLe (Memory.readN 0 s.boot.page (4 * i) 4))))).incFd F.BOOT_FL_IDX_idx)) ∧
  (∀ (s : State) (w : Word), exec (.bootLockSet w) s = .next (s.setRg .BOOT_LOCK
    ((regFields .BOOT_LOCK).foldl (fun old f => f.write (s.bit F.BOOT_LOCK_lock) w old) (s.rg .BOOT_LOCK))))

/-- R7 to R12, R39, R478 to R481, R503: how BAR0 is read and written. -/
def Obligations.BusAccess : Prop :=
  (∀ (s u : State) (who : Requester) (off : Nat), off < 2 ^ 24 → s.reaches who = true → u = s.hostTouch who →
    (regAt off = none →
      (who.isPcie = false ∨ off % 4 = 0 →
        exec (.rcFieldRead who off) s = .next (u.emit (.readData who off 0)) ∧ ∀ w, exec (.registerWrite who off w) s = .next u) ∧
      (who.isPcie = true → off % 4 ≠ 0 →
        exec (.rcFieldRead who off) s = .next u.completerAbort ∧ ∀ w, exec (.registerWrite who off w) s = .next u.unsupported)) ∧
    (∀ (r : Reg) (i j : Nat), regAt off = some (r, i, j) →
      regAddr r i j = off ∧
      (u.answers r i = false →
        exec (.rcFieldRead who off) s = .next (u.emit (.readData who off 0)) ∧ exec (.pairLowRead who off) s = .next (u.emit (.readData who off 0)) ∧
        exec (.pairHighRead who off) s = .next (u.emit (.readData who off 0)) ∧ (∀ w, exec (.registerWrite who off w) s = .next (u.dropHeld who)) ∧
        (∀ w, exec (.pairLowWrite who off w) s = .next (u.dropHeld who)) ∧ ∀ w, exec (.pairHighWrite who off w) s = .next (u.dropHeld who)) ∧
      (u.answers r i = true →
        (∀ w, pairWritable r = false → pairLow r = none → exec (.registerWrite who off w) s = .next ((u.dropHeld who).regWrite who r i j w)) ∧
        (hasRc r = true → pairHigh r = none → pairLow r = none →
          exec (.rcFieldRead who off) s = .next ((u.clearRc r i j).emit (.readData who off (u.shown r i j)))) ∧
        (∀ hi, pairHigh r = some hi → exec (.pairLowRead who off) s =
          .next ((u.touchPair { u.pairEntry who with shadow := some (off, u.shown hi i j) }).emit (.readData who off (u.shown r i j)))) ∧
        (∀ lo, pairLow r = some lo →
          (∀ v, (u.pairEntry who).shadow = some (regAddr lo i j, v) → exec (.pairHighRead who off) s =
            .next ((u.setPairEntry { u.pairEntry who with shadow := none }).emit (.readData who off v))) ∧
          ((∀ v, (u.pairEntry who).shadow ≠ some (regAddr lo i j, v)) → exec (.pairHighRead who off) s =
            .next (u.emit (.readData who off (u.shown r i j))))) ∧
        (∀ w, pairWritable r = true → exec (.pairLowWrite who off w) s = .next (u.touchPair { u.pairEntry who with held := some (off, w) })) ∧
        (∀ (lo : Reg) (w : Word), pairLow r = some lo → pairWritable lo = true →
          (∀ l, (u.pairEntry who).held = some (regAddr lo i j, l) → exec (.pairHighWrite who off w) s =
            .next ((u.setPairEntry { u.pairEntry who with held := none }).pairCommit lo r i j (pairNat l w))) ∧
          ((u.pairEntry who).held = none → exec (.pairHighWrite who off w) s = .next (u.pairCommit lo r i j (pairNat (u.rg lo i j) w))))))) ∧
  (∀ (f : FieldDef) (locked : Bool) (w old : Word), f.lo + f.w ≤ 32 →
    (∀ k, k < 32 → k < f.lo ∨ f.lo + f.w ≤ k → natBit (f.write locked w old).toNat k = natBit old.toNat k) ∧
    (f.acc = .rw → bitsOf (f.write locked w old) f.lo f.w = if f.legal.ok (bitsOf w f.lo f.w) then bitsOf w f.lo f.w else bitsOf old f.lo f.w) ∧
    (f.acc = .rwl → bitsOf (f.write locked w old) f.lo f.w =
      if locked = false ∧ f.legal.ok (bitsOf w f.lo f.w) = true then bitsOf w f.lo f.w else bitsOf old f.lo f.w) ∧
    (∀ k, f.lo ≤ k → k < f.lo + f.w → f.acc = .w1c → natBit (f.write locked w old).toNat k = (natBit old.toNat k && ! natBit w.toNat k)) ∧
    (∀ k, f.lo ≤ k → k < f.lo + f.w → f.acc = .w1s → natBit (f.write locked w old).toNat k = (natBit old.toNat k || natBit w.toNat k)) ∧
    (f.acc = .ro ∨ f.acc = .wo ∨ f.acc = .rc → f.write locked w old = old)) ∧
  (∀ (s : State) (e : PairEntry), (s.touchPair e).pairEntry e.who = e ∧ (pairsOk s.pairs → pairsOk (s.touchPair e).pairs) ∧
    ∀ x ∈ s.pairs, x.who ≠ e.who → x.who.isPcie = false ∨ e.who.isPcie = false → (s.touchPair e).pairEntry x.who = s.pairEntry x.who)

/-- R474 to R479, R482, R498 to R504, R506: the host link, events and the SMBus target. -/
def Obligations.HostBus : Prop :=
  (∀ (s u : State) (off len a : Nat), s.reaches (.pcie 0) = true → u = s.hostTouch (.pcie 0) → a = u.bar2Addr off →
    (u.ddrUsed ≠ [] → u.dramOn = true → u.dev.st ≠ .boot → off + len ≤ 2 ^ u.evt.bar2 → a + len ≤ u.reserveBase →
      exec (.bar2Read off len) s = .next ((u.notePoison a len).emit (.bar2Data a ((natsFrom a len).map fun b => Memory.read 0 u.dram b)
        (decide (u.poisonIn a len ≠ 0))))) ∧
    (u.ddrUsed = [] ∨ u.reserveBase < a + len ∨ u.dramOn = false ∨ u.dev.st = .boot ∨ 2 ^ u.evt.bar2 < off + len → exec (.bar2Read off len) s =
      .next (((u.addSat F.HST_ERR_CNT_ur 1).hstSts F.HST_STS_req_err).emit .unsupported))) ∧
  (∀ s u : State, s.dev.st ≠ .powerup → s.dev.perstLow = false → u = s.hostTouch (.pcie 0) →
    exec (.configurationRequest (.mps 0)) s = .next ((u.setFd F.HST_LINK_mps 0).hstSts F.HST_STS_mps_err) ∧
    (∀ code, 1 ≤ code → code ≤ 2 → exec (.configurationRequest (.mps code)) s = .next (u.setFd F.HST_LINK_mps code)) ∧
    (∀ on, exec (.configurationRequest (.bme on)) s = .next { u with evt := { u.evt with bme := on } }) ∧
    (∀ en, u.evt.pba = [] ∨ en = false ∨ u.evt.bme = false →
      exec (.configurationRequest (.msix en false)) s = .next { u with evt := { u.evt with msixEn := en, funcMask := false } }) ∧
    (∀ en, exec (.configurationRequest (.msix en true)) s = .next { u with evt := { u.evt with msixEn := en, funcMask := true } }) ∧
    (∀ v, u.evt.pba = [v] → u.evt.bme = true → u.evt.d3hot = false → (u.msixWord v 3).toNat % 2 = 0 → ∃ t : State, exec (.configurationRequest (.msix true false)) s = .next t ∧
      t.evt.pba = [] ∧
      t.out = u.out ++ [.msix v (pairNat (u.msixWord v 0) (u.msixWord v 1)) (u.msixWord v 2)]) ∧
    (∀ on, exec (.configurationRequest (.roEnable on)) s = .next { u with evt := { u.evt with roCap := on } } ∧
      exec (.configurationRequest (.aspmL1 on)) s = .next { u with evt := { u.evt with aspmL1 := on } }) ∧
    (∀ log, 28 ≤ log → log ≤ 36 → exec (.configurationRequest (.bar2 log)) s = .next { u with evt := { u.evt with bar2 := log } }) ∧
    (∀ who, exec (.configurationRequest (.read who 0)) s = .next (u.emit (.cfgData who 0 0x19601C5E)) ∧
      exec (.configurationRequest (.read who 8)) s = .next (u.emit (.cfgData who 8 0x118000B1))) ∧
    exec (.d3hotTransition true) s = .next { s with evt := { s.evt with d3hot := true } } ∧
    exec (.d3hotTransition false) s = .next ({ s with evt := { s.evt with d3hot := false } } : State).pbaRelease ∧
    (∀ gen width, 1 ≤ gen → gen ≤ 5 → width = 1 ∨ width = 2 ∨ width = 4 ∨ width = 8 → exec (.hostLinkChange gen width) s =
      .next ((((s.setFd F.HST_LINK_gen gen).setFd F.HST_LINK_width width).setFd F.HST_LINK_l1 0).hstSts F.HST_STS_link)) ∧
    exec (.hostLinkChange 0 0) s = .next ((((s.setFd F.HST_LINK_gen 0).setFd F.HST_LINK_width 0).setFd F.HST_LINK_l1 0).hstSts F.HST_STS_link)) ∧
  (∀ (s t : State) (k : Nat), k < 320 → t = s.setEvBit .EVT_PEND k true →
    (s.evBit .EVT_PEND k = true → exec (.eventSourceAssert k) s = .next s) ∧
    (s.evBit .EVT_PEND k = false → t.evBit .EVT_MASK k = true → exec (.eventSourceAssert k) s = .next t) ∧
    (∀ a : State, s.evBit .EVT_PEND k = false → t.evBit .EVT_MASK k = false →
      a = (if t.bit F.EVT_ROUTE_msix k then t.msiDue (t.fd F.EVT_ROUTE_vector k) else t) →
      exec (.eventSourceAssert k) s = .next (if t.bit F.EVT_ROUTE_alert k then { a with evt := { a.evt with alertPin := true } } else a))) ∧
  (∀ (s : State) (v : Nat),
    (s.evt.msixEn = false ∨ s.evt.bme = false → s.msiDue v = s) ∧
    (s.evt.msixEn = true → s.evt.bme = true → s.evt.d3hot = false →
      (s.fd F.EVT_VEC_holdoff v = 0 → s.msiDue v = s.msiOut v) ∧
      (s.fd F.EVT_VEC_holdoff v ≠ 0 → (s.vec v).running = true → s.msiDue v = s.setVec v { s.vec v with held := true }) ∧
      (s.fd F.EVT_VEC_holdoff v ≠ 0 → (s.vec v).running = false → s.msiDue v = (s.msiOut v).setVec v ⟨true, false, s.time⟩) ∧
      (v < 512 → (s.vec v).running = true → (s.vec v).held = true → (s.vec v).since + 625 * s.fd F.EVT_VEC_holdoff v ≤ s.time →
        exec (.holdoffEnd v) s = .next ((s.msiOut v).setVec v ⟨true, false, s.time⟩))) ∧
    (v < 512 → (s.vec v).running = true → (s.vec v).held = false → (s.vec v).since + 625 * s.fd F.EVT_VEC_holdoff v ≤ s.time →
      exec (.holdoffEnd v) s = .next (s.setVec v { s.vec v with running := false })) ∧
    (s.evt.funcMask = false → (s.msixWord v 3).toNat % 2 = 0 →
      s.msiOut v = (s.setFd F.HST_LINK_l1 0).emit (.msix v (pairNat (s.msixWord v 0) (s.msixWord v 1)) (s.msixWord v 2))) ∧
    (s.evt.funcMask = true ∨ (s.msixWord v 3).toNat % 2 = 1 → s.evt.pba.contains v = false →
      s.msiOut v = { s with evt := { s.evt with pba := s.evt.pba ++ [v] } })) ∧
  (∀ (s : State) (k : Nat) (m : Word), k < 10 → s.Inv → ∃ t : State, exec (.evtPendClear k m) s = .next t ∧
    t.rg .EVT_PEND k = (s.rg .EVT_PEND k &&& ~~~m) ||| (s.rg .EVT_RAW k &&& m &&& s.rg .EVT_PEND k) ∧
    (s.rg .EVT_RAW k = 0 → t.evt.table = s.evt.table ∧ t.out = s.out ∧ ∀ r i j, regAddr r i j ≠ regAddr .EVT_PEND k 0 → t.rg r i j = s.rg r i j) ∧
    (t.alertSrc = none → t.evt.alertPin = false)) ∧
  (∀ s : State, exec .smbReadStatus s =
    .next (s.emit (.smbByte ((if s.dev.st = .powerup then 0 else s.fd F.GLB_STATE_state) + 8 * b2n s.evt.alertPin + 16 * b2n s.severeOpen)))) ∧
  (∀ (s : State) (off : Nat) (w : Word), off < 2 ^ 24 →
    exec (.smbBar0Read off) s = exec (.rcFieldRead .smbus off) s ∧ exec (.smbBar0Write off w .bad) s = .next (s.emit .smbNack) ∧
    (∀ (r : Reg) (i j : Nat), s.bit F.HST_SMB_CFG_bar0_wr = true → s.reaches .smbus = true → regAt off = some (r, i, j) →
      (s.answers r i = true → pairWritable r = false → pairLow r = none →
        exec (.smbBar0Write off w .good) s = .next ((s.dropHeld .smbus).regWrite .smbus r i j w)) ∧
      (s.answers r i = true → pairWritable r = true → exec (.smbBar0Write off w .good) s =
        .next (s.touchPair { s.pairEntry .smbus with held := some (off, w) })) ∧
      (s.answers r i = true → ∀ lo, pairLow r = some lo → pairWritable lo = true → (s.pairEntry .smbus).held = none →
        exec (.smbBar0Write off w .good) s = .next (s.pairCommit lo r i j (pairNat (s.rg lo i j) w))) ∧
      (s.answers r i = false → exec (.smbBar0Write off w .good) s = .next (s.dropHeld .smbus))) ∧
    (s.bit F.HST_SMB_CFG_bar0_wr = true → exec (.smbBar0Write off w .good) s = exec (.registerWrite .smbus off w) s ∧
      (s.bit F.HST_SMB_CFG_pec_req = false → exec (.smbBar0Write off w .absent) s = exec (.registerWrite .smbus off w) s)) ∧
    (s.bit F.HST_SMB_CFG_bar0_wr = false → exec (.smbBar0Write off w .good) s = .next s) ∧
    (s.bit F.HST_SMB_CFG_pec_req = true → exec (.smbBar0Write off w .absent) s = .next s) ∧
    (∀ (r : Reg) (i j : Nat), regAt off = some (r, i, j) → s.answers r i = true → hasRc r = false → pairHigh r = none → pairLow r = none →
      r ≠ .QUE_POP_W → r ≠ .BOOT_FL_DATA → r ≠ .DEC_COEF_DATA → r ≠ .PWR_VIN → r ≠ .PWR_RAIL → exec (.smbBar0Read off) s = .next (s.emit (.readData .smbus off (s.shown r i j))))) ∧
  (∀ (s : State) (i : Nat),
    (i < 10 → s.dev.st ≠ .powerup → s.dev.st ≠ .boot → exec (.smbDoorbell i .good) s =
      .next ((((s.dropHeld .smbus).wakeStart .doorbell).setRg .HST_DB_VAL 0 i).assertOnce (310 + i))) ∧
    (i < 10 → s.dev.st ≠ .powerup → s.dev.st ≠ .boot → s.bit F.HST_SMB_CFG_pec_req = false →
      exec (.smbDoorbell i .absent) s = exec (.smbDoorbell i .good) s) ∧
    (s.bit F.HST_SMB_CFG_pec_req = true → i < 10 → exec (.smbDoorbell i .absent) s = .next s) ∧
    (10 ≤ i → ∀ p, exec (.smbDoorbell i p) s = .next (s.emit .smbNack)) ∧ exec (.smbDoorbell i .bad) s = .next (s.emit .smbNack)) ∧
  (∀ s : State,
    (s.evt.alertPin = true → exec .alertResponse s =
      .next (({ s with evt := { s.evt with alertPin := false } }).emit (.smbAddress (s.fd F.HST_SMB_CFG_addr)))) ∧
    (s.evt.alertPin = false → exec .alertResponse s = .next s) ∧ exec .smbusTimeout s = .next s)

/-- R36, R40, R92, R93, R232, R242, R369, R505, R559, R572: what the registers show right after power-on reset. -/
def Obligations.ResetValues : Prop :=
  State.reset.dev.st = .powerup ∧ State.reset.time = 0 ∧ State.reset.pending = [] ∧ State.reset.out = [] ∧ State.reset.dram = [] ∧
  State.reset.shown .GLB_ID 0 0 = 0x196000B1 ∧ State.reset.shown .GLB_STATE 0 0 = 1 ∧
  (∀ p ∈ natsFrom 0 96, State.reset.shown .PRT_LVL p 0 = 3) ∧ (∀ k ∈ natsFrom 0 6, State.reset.shown .PRT_LVL_ALL k 0 = 0xFFFFFFFF) ∧
  State.reset.shown .PRT_CHK_IDLE 0 0 = 62500 ∧ State.reset.shown .PRT_CHK_PERIOD 0 0 = 60000 ∧
  State.reset.shown .LDG_SPARE 0 0 = 64 ∧ (∀ k ∈ natsFrom 0 4, State.reset.shown .QUE_SLICE_STS k 0 = 256) ∧
  (∀ t ∈ natsFrom 0 4, State.reset.fd F.MADC_STS_set (3 * t) = 2 * t ∧ State.reset.fd F.MADC_STS_set (3 * t + 1) = 2 * t + 1 ∧
    State.reset.fd F.MADC_STS_state (3 * t + 2) = 1) ∧
  (∀ k ∈ natsFrom 0 10, State.reset.shown .EVT_MASK k 0 = 0xFFFFFFFF ∧ State.reset.shown .EVT_PEND k 0 = 0) ∧
  State.reset.shown .HST_SMB_CFG 0 0 = 0x4C ∧ State.reset.shown .BOOT_STS 0 0 = 0x100 ∧ State.reset.shown .BOOT_CAUSE 0 0 = 1 ∧
  State.reset.shown .FLT_ESC 0 0 = 10000 ∧ State.reset.shown .FLT_ESC 1 0 = 1000 ∧ State.reset.shown .FLT_ESC 2 0 = 100
end

