-- ==== Sys2Proof/Laws/Tab.lean ====
section
/-! SUPPORT. Laws of the sparse table and of memories over it: a read after a write, and the canonical form, which every write keeps. -/

namespace Sys2Proof.Machine

theorem Tab.get_nil {α : Type} (d : α) (a : Nat) : Tab.get d [] a = d := rfl

theorem Tab.wfFrom_mono {α : Type} [DecidableEq α] {d : α} {m n : Nat} {t : Tab α} (h : n ≤ m) (w : Tab.wfFrom d m t = true) :
    Tab.wfFrom d n t = true := by
  cases t with
  | nil => rfl
  | cons e t => obtain ⟨k, v⟩ := e; simp only [Tab.wfFrom, Bool.and_eq_true, decide_eq_true_eq] at *; exact ⟨⟨by omega, w.1.2⟩, w.2⟩

theorem Tab.wfFrom_set {α : Type} [DecidableEq α] {d : α} (t : Tab α) {m a : Nat} (v : α) (h : m ≤ a) (w : Tab.wfFrom d m t = true) :
    Tab.wfFrom d m (Tab.set d t a v) = true := by
  induction t generalizing m with
  | nil => unfold Tab.set; split <;> simp_all [Tab.wfFrom]
  | cons e t ih =>
    obtain ⟨k, x⟩ := e
    have up : ∀ n, n ≤ k + 1 → Tab.wfFrom d n t = true := fun n hn => Tab.wfFrom_mono hn (by grind [Tab.wfFrom])
    have := @ih (k + 1)
    grind [Tab.set, Tab.wfFrom]

/-- A write keeps the canonical form. -/
theorem Tab.wf_set {α : Type} [DecidableEq α] {d : α} {t : Tab α} (a : Nat) (v : α) (w : Tab.wf d t = true) : Tab.wf d (Tab.set d t a v) = true :=
  Tab.wfFrom_set t v (Nat.zero_le a) w

/-- Below every key of a canonical table, a read gives the default. -/
theorem Tab.get_lt {α : Type} [DecidableEq α] {d : α} (t : Tab α) {m a : Nat} (h : a < m) (w : Tab.wfFrom d m t = true) : Tab.get d t a = d := by
  cases t with
  | nil => rfl
  | cons e t => obtain ⟨k, x⟩ := e; grind [Tab.wfFrom, Tab.get]

/-- What a read gives after a write to a canonical table. -/
theorem Tab.get_set {α : Type} [DecidableEq α] {d : α} (t : Tab α) (a b : Nat) (v : α) (w : Tab.wf d t = true) :
    Tab.get d (Tab.set d t a v) b = if b = a then v else Tab.get d t b := by
  suffices h : ∀ m, Tab.wfFrom d m t = true → Tab.get d (Tab.set d t a v) b = if b = a then v else Tab.get d t b from h 0 w
  clear w
  induction t with
  | nil => intro m w; grind [Tab.set, Tab.get]
  | cons e t ih =>
    intro m w
    obtain ⟨k, x⟩ := e
    have w2 : Tab.wfFrom d (k + 1) t = true := by grind [Tab.wfFrom]
    have low : ∀ c, c < k + 1 → Tab.get d t c = d := fun c hc => Tab.get_lt t hc w2
    have := ih (k + 1) w2
    have := low a
    have := low b
    grind [Tab.set, Tab.get]

/-- A read of another key after a write. -/
theorem Tab.get_set_ne {α : Type} [DecidableEq α] {d : α} {t : Tab α} {a b : Nat} (v : α) (h : b ≠ a) (w : Tab.wf d t = true) :
    Tab.get d (Tab.set d t a v) b = Tab.get d t b := by rw [Tab.get_set t a b v w, if_neg h]

/-- A read of the key just written. -/
theorem Tab.get_set_same {α : Type} [DecidableEq α] {d : α} {t : Tab α} (a : Nat) (v : α) (w : Tab.wf d t = true) :
    Tab.get d (Tab.set d t a v) a = v := by rw [Tab.get_set t a a v w, if_pos rfl]

/-- Entries dropped from a canonical table leave it canonical. -/
theorem Tab.wfFrom_filter {α : Type} [DecidableEq α] {d : α} (p : Nat × α → Bool) (t : Tab α) {m : Nat} (w : Tab.wfFrom d m t = true) :
    Tab.wfFrom d m (t.filter p) = true := by
  induction t generalizing m with
  | nil => rfl
  | cons e t ih =>
    obtain ⟨k, x⟩ := e
    simp only [Tab.wfFrom, Bool.and_eq_true, decide_eq_true_eq] at w
    rw [List.filter_cons]
    split
    · simp only [Tab.wfFrom, Bool.and_eq_true, decide_eq_true_eq]; exact ⟨w.1, ih w.2⟩
    · exact Tab.wfFrom_mono (by omega) (ih w.2)

theorem Memory.wf_write {b : Byte} {m : Memory} (a : Nat) (v : Byte) (w : Memory.wf b m = true) : Memory.wf b (Memory.write b m a v) = true :=
  Tab.wf_set a v w

theorem Memory.wf_writeN {b : Byte} {m : Memory} (a : Nat) (l : List Byte) (w : Memory.wf b m = true) : Memory.wf b (Memory.writeN b m a l) = true := by
  induction l generalizing m a with
  | nil => exact w
  | cons x l ih => exact ih (a + 1) (Memory.wf_write a x w)

theorem Memory.read_write_same {b : Byte} {m : Memory} (a : Nat) (v : Byte) (w : Memory.wf b m = true) : Memory.read b (Memory.write b m a v) a = v :=
  Tab.get_set_same a v w

theorem Memory.read_write_ne {b : Byte} {m : Memory} {a c : Nat} (v : Byte) (h : c ≠ a) (w : Memory.wf b m = true) :
    Memory.read b (Memory.write b m a v) c = Memory.read b m c := Tab.get_set_ne v h w

/-- A run of bytes written changes no byte outside it. -/
theorem Memory.read_writeN_ne {b : Byte} {m : Memory} {c : Nat} (a : Nat) (l : List Byte) (h : c < a ∨ a + l.length ≤ c) (w : Memory.wf b m = true) :
    Memory.read b (Memory.writeN b m a l) c = Memory.read b m c := by
  induction l generalizing m a with
  | nil => rfl
  | cons x l ih =>
    simp only [List.length_cons] at h
    rw [Memory.writeN, ih (a + 1) (by omega) (Memory.wf_write a x w), Memory.read_write_ne x (by omega) w]

/-- A read inside a run of bytes written gives its byte. -/
theorem Memory.read_writeN_in {b : Byte} {m : Memory} (a i : Nat) (l : List Byte) (h : i < l.length) (w : Memory.wf b m = true) :
    Memory.read b (Memory.writeN b m a l) (a + i) = l[i] := by
  induction l generalizing m a i with
  | nil => simp at h
  | cons x l ih =>
    cases i with
    | zero =>
      have := Memory.read_writeN_ne (c := a) (a + 1) l (Or.inl (by omega)) (Memory.wf_write a x w)
      show Memory.read b (Memory.writeN b (Memory.write b m a x) (a + 1) l) a = x
      rw [this, Memory.read_write_same a x w]
    | succ i =>
      have := ih (a + 1) i (by simpa using h) (Memory.wf_write a x w)
      rw [Memory.writeN, show a + (i + 1) = a + 1 + i by omega, this]; rfl

theorem natsFrom_length (a n : Nat) : (natsFrom a n).length = n := by
  induction n generalizing a with
  | zero => rfl
  | succ n ih => rw [natsFrom, List.length_cons, ih]

theorem Memory.readN_length (b : Byte) (m : Memory) (a n : Nat) : (Memory.readN b m a n).length = n := by
  rw [Memory.readN, List.length_map, natsFrom_length]

end Sys2Proof.Machine
end

