-- ==== Sys2Proof/Laws/Evolves.lean ====
section
/-! SUPPORT. What every operation may do to a state (`Evolves`): its order, and the primitive updates. -/

namespace Sys2Proof.Machine

theorem Otp.grows_refl (o : Otp) : Otp.grows o o := ⟨fun _ h => h, fun h => h, Nat.le_refl _⟩

theorem Otp.grows_trans {a b c : Otp} (h : Otp.grows a b) (k : Otp.grows b c) : Otp.grows a c :=
  ⟨fun d e => k.1 d (h.1 d e), fun e => k.2.1 (h.2.1 e), Nat.le_trans h.2.2 k.2.2⟩

theorem Evolves.refl (s : State) : Evolves s s := ⟨rfl, ⟨[], by simp⟩, Nat.le_refl _, fun h => h, Otp.grows_refl _⟩

theorem Evolves.trans {s t u : State} (h : Evolves s t) (k : Evolves t u) : Evolves s u :=
  ⟨k.queue.trans h.queue,
   by obtain ⟨a, ha⟩ := h.sent; obtain ⟨b, hb⟩ := k.sent; exact ⟨a ++ b, by rw [hb, ha, List.append_assoc]⟩,
   Nat.le_trans h.fresh k.fresh, fun i => k.inv (h.inv i), Otp.grows_trans h.fuses k.fuses⟩

/-- An update of the fields that the invariant does not speak of. -/
theorem Evolves.other {s t u : State} (h : Evolves s t) (hq : u.pending = t.pending) (ho : u.out = t.out) (hf : t.freeCtr ≤ u.freeCtr)
    (hr : u.regs = t.regs) (hp : u.pairs = t.pairs) (hd : u.dram = t.dram) (hl : u.flash = t.flash) (hb : u.boot.otp = t.boot.otp) : Evolves s u :=
  h.trans ⟨hq, ⟨[], by simp [ho]⟩, hf, fun i => ⟨hr ▸ i.regs, hd ▸ i.dram, hl ▸ i.flash, hp ▸ i.pairs, hb ▸ i.fuses⟩, hb ▸ Otp.grows_refl _⟩

theorem Evolves.time {s t : State} (h : Evolves s t) (x : Nat) : Evolves s { t with time := x } := h.other rfl rfl (Nat.le_refl _) rfl rfl rfl rfl rfl
theorem Evolves.up {s t : State} (h : Evolves s t) (x : Nat) : Evolves s { t with up := x } := h.other rfl rfl (Nat.le_refl _) rfl rfl rfl rfl rfl
theorem Evolves.timeUp {s t : State} (h : Evolves s t) (x y : Nat) : Evolves s { t with time := x, up := y } :=
  h.other rfl rfl (Nat.le_refl _) rfl rfl rfl rfl rfl
theorem Evolves.freeCtr {s t : State} (h : Evolves s t) (x : Nat) (k : t.freeCtr ≤ x) : Evolves s { t with freeCtr := x } := h.other rfl rfl k rfl rfl rfl rfl rfl
theorem Evolves.dev {s t : State} (h : Evolves s t) (x : Dev) : Evolves s { t with dev := x } :=
  h.other rfl rfl (Nat.le_refl _) rfl rfl rfl rfl rfl
theorem Evolves.q {s t : State} (h : Evolves s t) (x : Fabric) : Evolves s { t with q := x } :=
  h.other rfl rfl (Nat.le_refl _) rfl rfl rfl rfl rfl
theorem Evolves.evt {s t : State} (h : Evolves s t) (x : Events) : Evolves s { t with evt := x } :=
  h.other rfl rfl (Nat.le_refl _) rfl rfl rfl rfl rfl
theorem Evolves.flt {s t : State} (h : Evolves s t) (x : Faults) : Evolves s { t with flt := x } :=
  h.other rfl rfl (Nat.le_refl _) rfl rfl rfl rfl rfl
theorem Evolves.ldg {s t : State} (h : Evolves s t) (x : Ledger) : Evolves s { t with ldg := x } :=
  h.other rfl rfl (Nat.le_refl _) rfl rfl rfl rfl rfl
theorem Evolves.ports {s t : State} (h : Evolves s t) (x : Tab Port) : Evolves s { t with ports := x } :=
  h.other rfl rfl (Nat.le_refl _) rfl rfl rfl rfl rfl
theorem Evolves.tb {s t : State} (h : Evolves s t) (x : TimeBase) : Evolves s { t with tb := x } :=
  h.other rfl rfl (Nat.le_refl _) rfl rfl rfl rfl rfl
theorem Evolves.domReq {s t : State} (h : Evolves s t) (x : List Nat) : Evolves s { t with domReq := x } :=
  h.other rfl rfl (Nat.le_refl _) rfl rfl rfl rfl rfl
theorem Evolves.eng {s t : State} (h : Evolves s t) (x : Engines) : Evolves s { t with eng := x } :=
  h.other rfl rfl (Nat.le_refl _) rfl rfl rfl rfl rfl
theorem Evolves.thrs {s t : State} (h : Evolves s t) (x : Tab (List (Nat × Nat))) : Evolves s { t with thrs := x } :=
  h.other rfl rfl (Nat.le_refl _) rfl rfl rfl rfl rfl
theorem Evolves.dec {s t : State} (h : Evolves s t) (x : Decim) : Evolves s { t with dec := x } :=
  h.other rfl rfl (Nat.le_refl _) rfl rfl rfl rfl rfl
theorem Evolves.links {s t : State} (h : Evolves s t) (x : Tab Link) : Evolves s { t with links := x } :=
  h.other rfl rfl (Nat.le_refl _) rfl rfl rfl rfl rfl
theorem Evolves.casc {s t : State} (h : Evolves s t) (x : Casc) : Evolves s { t with casc := x } :=
  h.other rfl rfl (Nat.le_refl _) rfl rfl rfl rfl rfl
theorem Evolves.trg {s t : State} (h : Evolves s t) (x : Trig) : Evolves s { t with trg := x } :=
  h.other rfl rfl (Nat.le_refl _) rfl rfl rfl rfl rfl
theorem Evolves.acq {s t : State} (h : Evolves s t) (x : Tab Acq) : Evolves s { t with acq := x } :=
  h.other rfl rfl (Nat.le_refl _) rfl rfl rfl rfl rfl
theorem Evolves.store {s t : State} (h : Evolves s t) (x : Store) : Evolves s { t with store := x } :=
  h.other rfl rfl (Nat.le_refl _) rfl rfl rfl rfl rfl
theorem Evolves.hst {s t : State} (h : Evolves s t) (x : HostSt) : Evolves s { t with hst := x } :=
  h.other rfl rfl (Nat.le_refl _) rfl rfl rfl rfl rfl
theorem Evolves.boot {s t : State} (h : Evolves s t) (x : BootSt) (k : x.otp = t.boot.otp) : Evolves s { t with boot := x } :=
  h.other rfl rfl (Nat.le_refl _) rfl rfl rfl rfl k

theorem Evolves.dram {s t : State} (h : Evolves s t) (a : Nat) (l : List Byte) : Evolves s { t with dram := Memory.writeN 0 t.dram a l } :=
  h.trans ⟨rfl, ⟨[], by simp⟩, Nat.le_refl _, fun i => ⟨i.regs, Memory.wf_writeN a l i.dram, i.flash, i.pairs, i.fuses⟩, Otp.grows_refl _⟩

theorem Evolves.flashWrite {s t : State} (h : Evolves s t) (a : Nat) (v : Byte) : Evolves s { t with flash := Memory.write 0xFF t.flash a v } :=
  h.trans ⟨rfl, ⟨[], by simp⟩, Nat.le_refl _, fun i => ⟨i.regs, i.dram, Memory.wf_write a v i.flash, i.pairs, i.fuses⟩, Otp.grows_refl _⟩

theorem Evolves.flashWriteN {s t : State} (h : Evolves s t) (a : Nat) (l : List Byte) : Evolves s { t with flash := Memory.writeN 0xFF t.flash a l } :=
  h.trans ⟨rfl, ⟨[], by simp⟩, Nat.le_refl _, fun i => ⟨i.regs, i.dram, Memory.wf_writeN a l i.flash, i.pairs, i.fuses⟩, Otp.grows_refl _⟩

theorem Evolves.flashFilter {s t : State} (h : Evolves s t) (p : Nat × Byte → Bool) : Evolves s { t with flash := t.flash.filter p } :=
  h.trans ⟨rfl, ⟨[], by simp⟩, Nat.le_refl _, fun i => ⟨i.regs, i.dram, Tab.wfFrom_filter p _ i.flash, i.pairs, i.fuses⟩, Otp.grows_refl _⟩

theorem Evolves.pairs {s t : State} (h : Evolves s t) (l : List PairEntry) (k : pairsOk t.pairs → pairsOk l) : Evolves s { t with pairs := l } :=
  h.trans ⟨rfl, ⟨[], by simp⟩, Nat.le_refl _, fun i => ⟨i.regs, i.dram, i.flash, k i.pairs, i.fuses⟩, Otp.grows_refl _⟩

theorem Evolves.otp {s t : State} (h : Evolves s t) (o : Otp) (g : Otp.grows t.boot.otp o) (k : Otp.ok t.boot.otp → Otp.ok o) :
    Evolves s { t with boot := { t.boot with otp := o } } :=
  h.trans ⟨rfl, ⟨[], by simp⟩, Nat.le_refl _, fun i => ⟨i.regs, i.dram, i.flash, i.pairs, k i.fuses⟩, g⟩

theorem State.setRg_evolves {s₀ s : State} (h : Evolves s₀ s) (r : Reg) (w : Word) (i j : Nat) : Evolves s₀ (s.setRg r w i j) :=
  h.trans ⟨rfl, ⟨[], by simp [State.setRg]⟩, Nat.le_refl _, fun i => ⟨Tab.wf_set _ _ i.regs, i.dram, i.flash, i.pairs, i.fuses⟩, Otp.grows_refl _⟩

theorem State.emit_evolves {s₀ s : State} (h : Evolves s₀ s) (o : Out) : Evolves s₀ (s.emit o) :=
  h.trans ⟨rfl, ⟨[o], rfl⟩, Nat.le_refl _, fun i => ⟨i.regs, i.dram, i.flash, i.pairs, i.fuses⟩, Otp.grows_refl _⟩

theorem State.free_evolves {s₀ s : State} (h : Evolves s₀ s) : Evolves s₀ s.free.2 :=
  h.other rfl rfl (Nat.le_succ _) rfl rfl rfl rfl rfl

theorem List.foldl_evolves {α : Type} {s₀ s : State} (f : State → α → State) (l : List α) (h : Evolves s₀ s)
    (hf : ∀ t x, Evolves s₀ t → Evolves s₀ (f t x)) : Evolves s₀ (l.foldl f s) := by
  induction l generalizing s with
  | nil => exact h
  | cons a l ih => exact ih (hf _ _ h)

theorem List.foldl_evolves_fst {α β : Type} {s₀ : State} (f : State × β → α → State × β) (l : List α) (p : State × β) (h : Evolves s₀ p.1)
    (hf : ∀ t x, Evolves s₀ t.1 → Evolves s₀ (f t x).1) : Evolves s₀ (l.foldl f p).1 := by
  induction l generalizing p with
  | nil => exact h
  | cons a l ih => exact ih _ (hf _ _ h)

theorem Evolves.ite {s₀ a b : State} {c : Prop} [Decidable c] (h : Evolves s₀ a) (k : Evolves s₀ b) : Evolves s₀ (if c then a else b) := by
  split <;> assumption

theorem Evolves.ite_fst {β : Type} {s₀ : State} {a b : State × β} {c : Prop} [Decidable c] (h : Evolves s₀ a.1) (k : Evolves s₀ b.1) :
    Evolves s₀ (if c then a else b).1 := by
  split <;> assumption

theorem Prod.eq_parts {α β : Type} {p : α × β} {a : α} {b : β} (h : p = (a, b)) : a = p.1 ∧ b = p.2 := by subst h; exact ⟨rfl, rfl⟩

/-- What an engine op gives is a state that evolved from s₀. -/
def OpOut.Within (s₀ : State) : OpOut → Prop
  | .ok s _ => Evolves s₀ s
  | .abort _ => True
  | .abortIn s _ => Evolves s₀ s

theorem OpOut.within_ok {s₀ s : State} (h : Evolves s₀ s) (c : Ctx) : OpOut.Within s₀ (.ok s c) := h
theorem OpOut.within_abort (s₀ : State) (d : Bool) : OpOut.Within s₀ (.abort d) := trivial
theorem OpOut.within_abortIn {s₀ s : State} (h : Evolves s₀ s) (d : Bool) : OpOut.Within s₀ (.abortIn s d) := h

grind_pattern State.free_evolves => Evolves s₀ s, s.free

end Sys2Proof.Machine
end

