-- ==== Sys2Proof/Laws/EvolvesOps.lean ====
section
/-! SUPPORT. What the operations of Machine/Ops.lean may do to a state (`Evolves`): one lemma for each. -/

namespace Sys2Proof.Machine

theorem State.setFd_evolves {s₀ s : State} (h : Evolves s₀ s) (f : Fld) (v : Nat) (i : Nat) (j : Nat) :
    Evolves s₀ (State.setFd s f v i j) := by
  unfold State.setFd
  grind -lia -ring -linarith -ac -order (ematch := 60) (gen := 60) only [← State.setRg_evolves]

theorem State.incFd_evolves {s₀ s : State} (h : Evolves s₀ s) (f : Fld) (i : Nat) (j : Nat) :
    Evolves s₀ (State.incFd s f i j) := by
  unfold State.incFd
  grind -lia -ring -linarith -ac -order (ematch := 60) (gen := 60) only [← State.setFd_evolves]

theorem State.addSat_evolves {s₀ s : State} (h : Evolves s₀ s) (f : Fld) (n : Nat) (i : Nat) (j : Nat) :
    Evolves s₀ (State.addSat s f n i j) := by
  unfold State.addSat
  grind -lia -ring -linarith -ac -order (ematch := 60) (gen := 60) only [← State.setFd_evolves]

theorem State.setPair_evolves {s₀ s : State} (h : Evolves s₀ s) (lo : Reg) (hi : Reg) (v : Nat) (i : Nat) (j : Nat) :
    Evolves s₀ (State.setPair s lo hi v i j) := by
  unfold State.setPair
  grind -lia -ring -linarith -ac -order (ematch := 60) (gen := 60) only [← State.setRg_evolves]

theorem State.setDom_evolves {s₀ s : State} (h : Evolves s₀ s) (d : Nat) (on : Bool) :
    Evolves s₀ (State.setDom s d on) := by
  unfold State.setDom
  grind -lia -ring -linarith -ac -order (ematch := 60) (gen := 60) only [← State.setRg_evolves]

end Sys2Proof.Machine
end

