-- ==== Sys2Proof/Laws/EvolvesAccess.lean ====
section
/-! SUPPORT. What the operations of Machine/Access.lean may do to a state (`Evolves`): one lemma for each. -/

namespace Sys2Proof.Machine

theorem State.putFields_evolves {s₀ s : State} (h : Evolves s₀ s) (r : Reg) (w : Word) (i : Nat) (j : Nat) (locked : Bool) :
    Evolves s₀ (State.putFields s r w i j locked) := by
  unfold State.putFields
  grind -lia -ring -linarith -ac -order (ematch := 60) (gen := 60) only [← State.setRg_evolves, ← List.foldl_evolves]

theorem State.clearRc_evolves {s₀ s : State} (h : Evolves s₀ s) (r : Reg) (i : Nat) (j : Nat) :
    Evolves s₀ (State.clearRc s r i j) := by
  unfold State.clearRc
  grind -lia -ring -linarith -ac -order (ematch := 60) (gen := 60) only [← State.setRg_evolves, ← List.foldl_evolves]

theorem pairsOk_filter {l : List PairEntry} (p : PairEntry → Bool) (h : pairsOk l) : pairsOk (l.filter p) :=
  ⟨(List.filter_sublist.map _).nodup h.1, Nat.le_trans (List.filter_sublist.filter _).length_le h.2⟩

theorem State.touchPair_evolves {s₀ s : State} (h : Evolves s₀ s) (e : PairEntry) : Evolves s₀ (State.touchPair s e) := by
  unfold State.touchPair
  refine Evolves.pairs h _ fun k => ?_
  have ko := pairsOk_filter (fun x => x.who != e.who) k
  have hne : ∀ x ∈ s.pairs.filter fun x => x.who != e.who, x.who ≠ e.who := by simp
  generalize s.pairs.filter (fun x => x.who != e.who) = o at ko hne ⊢
  have key : ∀ r : List PairEntry, r.Sublist o → (r.filter fun x => x.who.isPcie).length + (if e.who.isPcie then 1 else 0) ≤ 16 →
      pairsOk (r ++ [e]) := by
    intro r hr hl
    refine ⟨?_, ?_⟩
    · rw [List.map_append, List.nodup_append]
      refine ⟨(hr.map _).nodup ko.1, by simp, ?_⟩
      simp only [List.mem_map, List.map_cons, List.map_nil, List.mem_singleton]
      rintro _ ⟨x, hx, rfl⟩ _ rfl
      exact hne x (hr.subset hx)
    · rw [List.filter_append, List.length_append]
      by_cases hp : e.who.isPcie = true <;> simp_all [List.filter]
  by_cases hp : e.who.isPcie = true
  · by_cases hf : 16 ≤ (o.filter fun x => x.who.isPcie).length
    · simp only [hp, hf, decide_true, Bool.and_self, ↓reduceIte]
      cases hfind : o.find? fun x => x.who.isPcie with
      | none =>
        exfalso
        have : (o.filter fun x => x.who.isPcie) = [] := by
          rw [List.filter_eq_nil_iff]; intro x hx; simpa using List.find?_eq_none.1 hfind x hx
        rw [this] at hf
        simp at hf
      | some a =>
        refine key _ List.filter_sublist ?_
        have ha := List.mem_of_find?_eq_some hfind
        have hap := List.find?_some hfind
        have hlt : ((o.filter fun x => x.who != a.who).filter fun x => x.who.isPcie).length < (o.filter fun x => x.who.isPcie).length := by
          rw [List.filter_filter, ← List.countP_eq_length_filter, ← List.countP_eq_length_filter]
          obtain ⟨u, v, rfl⟩ := List.append_of_mem ha
          have := List.countP_mono_left (l := u) (p := fun x => x.who.isPcie && x.who != a.who) (q := fun x => x.who.isPcie) (by simp +contextual)
          have := List.countP_mono_left (l := v) (p := fun x => x.who.isPcie && x.who != a.who) (q := fun x => x.who.isPcie) (by simp +contextual)
          simp_all
          omega
        have := ko.2
        simp only [hp, ↓reduceIte]
        omega
    · simp only [hp, hf, decide_false, Bool.and_false, Bool.false_eq_true, ↓reduceIte]
      refine key _ (List.Sublist.refl _) ?_
      simp only [hp, ↓reduceIte]
      omega
  · simp only [hp, Bool.false_and, Bool.false_eq_true, ↓reduceIte]
    refine key _ (List.Sublist.refl _) ?_
    simpa [hp] using ko.2

theorem State.setPairEntry_evolves {s₀ s : State} (h : Evolves s₀ s) (e : PairEntry) : Evolves s₀ (State.setPairEntry s e) := by
  unfold State.setPairEntry
  refine Evolves.pairs h _ fun k => ?_
  have hw : ∀ l : List PairEntry, (l.map fun x => if x.who = e.who then e else x).map (fun x => x.who) = l.map fun x => x.who := by
    intro l; rw [List.map_map]; apply List.map_congr_left; intro x _; simp only [Function.comp]; split <;> simp_all
  refine ⟨by rw [hw]; exact k.1, ?_⟩
  have hf : ∀ l : List PairEntry, (l.filter fun x => x.who.isPcie).length = ((l.map fun x => x.who).filter Requester.isPcie).length := by
    intro l; rw [List.filter_map, List.length_map]; rfl
  rw [hf, hw, ← hf]; exact k.2

theorem State.dropHeld_evolves {s₀ s : State} (h : Evolves s₀ s) (who : Requester) :
    Evolves s₀ (State.dropHeld s who) := by
  unfold State.dropHeld
  grind -lia -ring -linarith -ac -order (ematch := 60) (gen := 60) only [← State.setPairEntry_evolves]

theorem State.noteShadow_evolves {s₀ s : State} (h : Evolves s₀ s) (who : Requester) (off : Nat) (hi : Word) :
    Evolves s₀ (State.noteShadow s who off hi) := by
  unfold State.noteShadow
  grind -lia -ring -linarith -ac -order (ematch := 60) (gen := 60) only [← State.touchPair_evolves]

theorem State.takeShadow_evolves {s₀ s : State} (h : Evolves s₀ s) (who : Requester) (off : Nat) (now : Word) :
    Evolves s₀ (State.takeShadow s who off now).1 := by
  unfold State.takeShadow
  grind -lia -ring -linarith -ac -order (ematch := 60) (gen := 60) only [← State.setPairEntry_evolves]
grind_pattern State.takeShadow_evolves => Evolves s₀ s, State.takeShadow s who off now

theorem State.holdLow_evolves {s₀ s : State} (h : Evolves s₀ s) (who : Requester) (off : Nat) (w : Word) :
    Evolves s₀ (State.holdLow s who off w) := by
  unfold State.holdLow
  grind -lia -ring -linarith -ac -order (ematch := 60) (gen := 60) only [← State.touchPair_evolves]

theorem State.takeHeldLow_evolves {s₀ s : State} (h : Evolves s₀ s) (who : Requester) (off : Nat) :
    Evolves s₀ (State.takeHeldLow s who off).1 := by
  unfold State.takeHeldLow
  grind -lia -ring -linarith -ac -order (ematch := 60) (gen := 60) only [← State.setPairEntry_evolves]
grind_pattern State.takeHeldLow_evolves => Evolves s₀ s, State.takeHeldLow s who off

end Sys2Proof.Machine
end

