-- ==== Sys2Proof/Laws/EvolvesEvents.lean ====
section
/-! SUPPORT. What the operations of Machine/Events.lean may do to a state (`Evolves`): one lemma for each. -/

namespace Sys2Proof.Machine

theorem State.setEvBit_evolves {s₀ s : State} (h : Evolves s₀ s) (r : Reg) (src : Nat) (b : Bool) :
    Evolves s₀ (State.setEvBit s r src b) := by
  unfold State.setEvBit
  grind -lia -ring -linarith -ac -order (ematch := 60) (gen := 60) only [← State.setRg_evolves]

theorem State.setVec_evolves {s₀ s : State} (h : Evolves s₀ s) (v : Nat) (x : VecSt) :
    Evolves s₀ (State.setVec s v x) := by
  unfold State.setVec
  grind -lia -ring -linarith -ac -order (ematch := 60) (gen := 60) only [← Evolves.evt]

theorem State.msiOut_evolves {s₀ s : State} (h : Evolves s₀ s) (v : Nat) :
    Evolves s₀ (State.msiOut s v) := by
  unfold State.msiOut
  grind -lia -ring -linarith -ac -order (ematch := 60) (gen := 60) only [← State.emit_evolves, ← State.setFd_evolves, ← Evolves.evt]

theorem State.msiDue_evolves {s₀ s : State} (h : Evolves s₀ s) (v : Nat) :
    Evolves s₀ (State.msiDue s v) := by
  unfold State.msiDue
  grind -lia -ring -linarith -ac -order (ematch := 60) (gen := 60) only [← State.msiOut_evolves, ← State.setVec_evolves]

theorem State.becameActive_evolves {s₀ s : State} (h : Evolves s₀ s) (src : Nat) :
    Evolves s₀ (State.becameActive s src) := by
  unfold State.becameActive
  grind -lia -ring -linarith -ac -order (ematch := 60) (gen := 60) only [← State.msiDue_evolves, ← Evolves.evt]

theorem State.setPending_evolves {s₀ s : State} (h : Evolves s₀ s) (src : Nat) :
    Evolves s₀ (State.setPending s src) := by
  unfold State.setPending
  grind -lia -ring -linarith -ac -order (ematch := 60) (gen := 60) only [← State.becameActive_evolves, ← State.setEvBit_evolves]

theorem State.assertOnce_evolves {s₀ s : State} (h : Evolves s₀ s) (src : Nat) :
    Evolves s₀ (State.assertOnce s src) := by
  unfold State.assertOnce
  grind -lia -ring -linarith -ac -order (ematch := 60) (gen := 60) only [← State.setPending_evolves]

theorem State.setLevel_evolves {s₀ s : State} (h : Evolves s₀ s) (src : Nat) (b : Bool) :
    Evolves s₀ (State.setLevel s src b) := by
  unfold State.setLevel
  grind -lia -ring -linarith -ac -order (ematch := 60) (gen := 60) only [← State.setEvBit_evolves, ← State.setPending_evolves]

theorem State.alertRefresh_evolves {s₀ s : State} (h : Evolves s₀ s) :
    Evolves s₀ (State.alertRefresh s) := by
  unfold State.alertRefresh
  grind -lia -ring -linarith -ac -order (ematch := 60) (gen := 60) only [← Evolves.evt]

theorem State.clearPending_evolves {s₀ s : State} (h : Evolves s₀ s) (k : Nat) (mask : Word) :
    Evolves s₀ (State.clearPending s k mask) := by
  unfold State.clearPending
  grind -lia -ring -linarith -ac -order (ematch := 60) (gen := 60) only [← State.alertRefresh_evolves, ← State.becameActive_evolves, ← State.setRg_evolves, ← List.foldl_evolves]

theorem State.writeMask_evolves {s₀ s : State} (h : Evolves s₀ s) (k : Nat) (w : Word) :
    Evolves s₀ (State.writeMask s k w) := by
  unfold State.writeMask
  grind -lia -ring -linarith -ac -order (ematch := 60) (gen := 60) only [← State.alertRefresh_evolves, ← State.becameActive_evolves, ← State.setRg_evolves, ← List.foldl_evolves]

theorem State.pbaRelease_evolves {s₀ s : State} (h : Evolves s₀ s) :
    Evolves s₀ (State.pbaRelease s) := by
  unfold State.pbaRelease
  grind -lia -ring -linarith -ac -order (ematch := 60) (gen := 60) only [← State.msiOut_evolves, ← Evolves.evt, ← List.foldl_evolves]

theorem State.hstLevel_evolves {s₀ s : State} (h : Evolves s₀ s) :
    Evolves s₀ (State.hstLevel s) := by
  unfold State.hstLevel
  grind -lia -ring -linarith -ac -order (ematch := 60) (gen := 60) only [← State.setFd_evolves, ← State.setLevel_evolves]

theorem State.hstSts_evolves {s₀ s : State} (h : Evolves s₀ s) (f : Fld) :
    Evolves s₀ (State.hstSts s f) := by
  unfold State.hstSts
  grind -lia -ring -linarith -ac -order (ematch := 60) (gen := 60) only [← State.hstLevel_evolves, ← State.setFd_evolves]

theorem State.mayRequest_evolves {s₀ s : State} (h : Evolves s₀ s) :
    Evolves s₀ (State.mayRequest s).1 := by
  unfold State.mayRequest
  grind -lia -ring -linarith -ac -order (ematch := 60) (gen := 60) only [← State.hstSts_evolves]
grind_pattern State.mayRequest_evolves => Evolves s₀ s, State.mayRequest s

theorem State.pwrLevel_evolves {s₀ s : State} (h : Evolves s₀ s) :
    Evolves s₀ (State.pwrLevel s) := by
  unfold State.pwrLevel
  grind -lia -ring -linarith -ac -order (ematch := 60) (gen := 60) only [← State.setLevel_evolves, ← List.foldl_evolves]

theorem State.pwrSts_evolves {s₀ s : State} (h : Evolves s₀ s) (f : Fld) :
    Evolves s₀ (State.pwrSts s f) := by
  unfold State.pwrSts
  grind -lia -ring -linarith -ac -order (ematch := 60) (gen := 60) only [← State.pwrLevel_evolves, ← State.setFd_evolves]

end Sys2Proof.Machine
end

