-- ==== Sys2Proof/Laws/EvolvesQueues.lean ====
section
/-! SUPPORT. What the operations of Machine/Queues.lean may do to a state (`Evolves`): one lemma for each. -/

namespace Sys2Proof.Machine

theorem State.setQueue_evolves {s₀ s : State} (h : Evolves s₀ s) (n : Nat) (u : Queue) :
    Evolves s₀ (State.setQueue s n u) := by
  unfold State.setQueue
  grind -lia -ring -linarith -ac -order (ematch := 60) (gen := 60) only [← Evolves.q]

theorem State.countIn_evolves {s₀ s : State} (h : Evolves s₀ s) (n : Nat) (k : Nat) :
    Evolves s₀ (State.countIn s n k) := by
  unfold State.countIn
  grind -lia -ring -linarith -ac -order (ematch := 60) (gen := 60) only [← State.setPair_evolves]

theorem State.pushOnce_evolves {s₀ s : State} (h : Evolves s₀ s) (n : Nat) (prod : Nat) (cls : PClass) (r : Rec) (last : Bool) :
    Evolves s₀ (State.pushOnce s n prod cls r last).1 := by
  unfold State.pushOnce
  grind -lia -ring -linarith -ac -order (ematch := 60) (gen := 60) only [← State.addSat_evolves, ← State.assertOnce_evolves, ← State.countIn_evolves, ← State.setFd_evolves, ← State.setQueue_evolves]
grind_pattern State.pushOnce_evolves => Evolves s₀ s, State.pushOnce s n prod cls r last

theorem State.drainWaiting_evolves {s₀ s : State} (h : Evolves s₀ s) (x0 : Nat) (x2 : Nat) :
    Evolves s₀ (State.drainWaiting x0 s x2) := by
  induction x0 generalizing s x2 with
  | zero => unfold State.drainWaiting; grind -lia -ring -linarith -ac -order (ematch := 60) (gen := 60) only [usr State.pushOnce_evolves, ← State.pushOnce_evolves, ← State.setQueue_evolves]
  | succ n ih => unfold State.drainWaiting; grind -lia -ring -linarith -ac -order (ematch := 60) (gen := 60) only [usr State.pushOnce_evolves, ← State.pushOnce_evolves, ← State.setQueue_evolves]

theorem State.push_evolves {s₀ s : State} (h : Evolves s₀ s) (n : Nat) (prod : Nat) (cls : PClass) (r : Rec) (last : Bool) :
    Evolves s₀ (State.push s n prod cls r last).1 := by
  unfold State.push
  grind -lia -ring -linarith -ac -order (ematch := 60) (gen := 60) only [← State.drainWaiting_evolves, usr State.pushOnce_evolves, ← State.pushOnce_evolves, ← State.setQueue_evolves]
grind_pattern State.push_evolves => Evolves s₀ s, State.push s n prod cls r last

theorem State.pushPkt_evolves {s₀ s : State} (h : Evolves s₀ s) (n : Nat) (prod : Nat) (cls : PClass) (x0 : List Rec) :
    Evolves s₀ (State.pushPkt s n prod cls x0).1 := by
  induction x0 generalizing s with
  | nil => unfold State.pushPkt; grind -lia -ring -linarith -ac -order (ematch := 60) (gen := 60) only [usr State.push_evolves, ← State.push_evolves]
  | cons a l ih => unfold State.pushPkt; grind -lia -ring -linarith -ac -order (ematch := 60) (gen := 60) only [usr State.push_evolves, ← State.push_evolves]
grind_pattern State.pushPkt_evolves => Evolves s₀ s, State.pushPkt s n prod cls x0

theorem State.popOnce_evolves {s₀ s : State} (h : Evolves s₀ s) (n : Nat) :
    Evolves s₀ (State.popOnce s n).1 := by
  unfold State.popOnce
  grind -lia -ring -linarith -ac -order (ematch := 60) (gen := 60) only [← State.setQueue_evolves]
grind_pattern State.popOnce_evolves => Evolves s₀ s, State.popOnce s n

theorem State.rewindQ_evolves {s₀ s : State} (h : Evolves s₀ s) (n : Nat) (prod : Nat) :
    Evolves s₀ (State.rewindQ s n prod) := by
  unfold State.rewindQ
  grind -lia -ring -linarith -ac -order (ematch := 60) (gen := 60) only [← State.drainWaiting_evolves, ← State.setQueue_evolves]

theorem State.skipQ_evolves {s₀ s : State} (h : Evolves s₀ s) (n : Nat) :
    Evolves s₀ (State.skipQ s n) := by
  unfold State.skipQ
  grind -lia -ring -linarith -ac -order (ematch := 60) (gen := 60) only [← State.setFd_evolves, ← State.setQueue_evolves, ← State.setRg_evolves]

theorem State.flushQ_evolves {s₀ s : State} (h : Evolves s₀ s) (n : Nat) :
    Evolves s₀ (State.flushQ s n) := by
  unfold State.flushQ
  grind -lia -ring -linarith -ac -order (ematch := 60) (gen := 60) only [← State.assertOnce_evolves, ← State.countIn_evolves, ← State.drainWaiting_evolves, ← State.setFd_evolves, ← State.setQueue_evolves]

end Sys2Proof.Machine
end

