-- ==== Sys2Proof/Laws/EvolvesLedgerStore.lean ====
section
/-! SUPPORT. What the operations of Machine/LedgerStore.lean may do to a state (`Evolves`): one lemma for each. -/

namespace Sys2Proof.Machine

theorem State.writePhys_evolves {s₀ s : State} (h : Evolves s₀ s) (l : Nat) (bs : List Byte) :
    Evolves s₀ (State.writePhys s l bs) := by
  unfold State.writePhys
  grind -lia -ring -linarith -ac -order (ematch := 60) (gen := 60) only [← Evolves.ldg]

theorem State.writeLog_evolves {s₀ s : State} (h : Evolves s₀ s) (b : Nat) (l : Nat) (bs : List Byte) :
    Evolves s₀ (State.writeLog s b l bs) := by
  unfold State.writeLog
  grind -lia -ring -linarith -ac -order (ematch := 60) (gen := 60) only [← State.writePhys_evolves]

theorem State.rootBusy_evolves {s₀ s : State} (h : Evolves s₀ s) :
    Evolves s₀ (State.rootBusy s) := by
  unfold State.rootBusy
  grind -lia -ring -linarith -ac -order (ematch := 60) (gen := 60) only [← Evolves.ldg]

theorem State.writeRoot_evolves {s₀ s : State} (h : Evolves s₀ s) (l : Nat) (content : List Byte) :
    Evolves s₀ (State.writeRoot s l content) := by
  unfold State.writeRoot
  grind -lia -ring -linarith -ac -order (ematch := 60) (gen := 60) only [← State.rootBusy_evolves, ← State.writePhys_evolves]

theorem State.writeRootSeq_evolves {s₀ s : State} (h : Evolves s₀ s) (l : Nat) (content : List Byte) (sq : Nat) :
    Evolves s₀ (State.writeRootSeq s l content sq) := by
  unfold State.writeRootSeq
  grind -lia -ring -linarith -ac -order (ematch := 60) (gen := 60) only [← State.rootBusy_evolves, ← State.writePhys_evolves]

theorem State.logHeader_evolves {s₀ s : State} (h : Evolves s₀ s) :
    Evolves s₀ (State.logHeader s) := by
  unfold State.logHeader
  grind -lia -ring -linarith -ac -order (ematch := 60) (gen := 60) only [← State.writeLog_evolves, ← Evolves.flt]

theorem State.logWrite_evolves {s₀ s : State} (h : Evolves s₀ s) (entry : List Byte) :
    Evolves s₀ (State.logWrite s entry) := by
  unfold State.logWrite
  grind -lia -ring -linarith -ac -order (ematch := 60) (gen := 60) only [← State.logHeader_evolves, ← State.writeLog_evolves, ← Evolves.flt]

theorem State.logEntry_evolves {s₀ s : State} (h : Evolves s₀ s) (entry : List Byte) :
    Evolves s₀ (State.logEntry s entry) := by
  unfold State.logEntry
  grind -lia -ring -linarith -ac -order (ematch := 60) (gen := 60) only [← State.logWrite_evolves, ← Evolves.flt]

theorem State.logFlush_evolves {s₀ s : State} (h : Evolves s₀ s) :
    Evolves s₀ (State.logFlush s) := by
  unfold State.logFlush
  grind -lia -ring -linarith -ac -order (ematch := 60) (gen := 60) only [← State.logWrite_evolves, ← Evolves.flt, ← List.foldl_evolves]

end Sys2Proof.Machine
end

