-- ==== Sys2Proof/Laws/EvolvesFaults.lean ====
section
/-! SUPPORT. What the operations of Machine/Faults.lean may do to a state (`Evolves`): one lemma for each. -/

namespace Sys2Proof.Machine

theorem State.setFrec_evolves {s₀ s : State} (h : Evolves s₀ s) (i : Nat) (r : Option FaultRec) :
    Evolves s₀ (State.setFrec s i r) := by
  unfold State.setFrec
  grind -lia -ring -linarith -ac -order (ematch := 60) (gen := 60) only [← Evolves.flt]

theorem State.faultPkt_evolves {s₀ s : State} (h : Evolves s₀ s) (i : Nat) :
    Evolves s₀ (State.faultPkt s i) := by
  unfold State.faultPkt
  grind -lia -ring -linarith -ac -order (ematch := 60) (gen := 60) only [usr State.pushPkt_evolves, ← State.pushPkt_evolves, ← State.setFrec_evolves]

theorem State.faultLog_evolves {s₀ s : State} (h : Evolves s₀ s) (i : Nat) (kind : Nat) :
    Evolves s₀ (State.faultLog s i kind) := by
  unfold State.faultLog
  grind -lia -ring -linarith -ac -order (ematch := 60) (gen := 60) only [← State.logEntry_evolves, ← Evolves.flt]

theorem State.openRec_evolves {s₀ s : State} (h : Evolves s₀ s) (i : Nat) (r : FaultRec) :
    Evolves s₀ (State.openRec s i r) := by
  unfold State.openRec
  grind -lia -ring -linarith -ac -order (ematch := 60) (gen := 60) only [← State.assertOnce_evolves, ← State.faultLog_evolves, ← State.faultPkt_evolves, ← State.setFrec_evolves]

theorem State.mergeRec_evolves {s₀ s : State} (h : Evolves s₀ s) (i : Nat) (cls : Nat) (cause : Nat) (detail : Nat) (conds : List Nat) :
    Evolves s₀ (State.mergeRec s i cls cause detail conds) := by
  unfold State.mergeRec
  grind -lia -ring -linarith -ac -order (ematch := 60) (gen := 60) only [← State.assertOnce_evolves, ← State.faultLog_evolves, ← State.faultPkt_evolves, ← State.setFrec_evolves, ← Evolves.up]

theorem State.raiseAs_evolves {s₀ s : State} (h : Evolves s₀ s) (cls : Nat) (code : Nat) (unit : Nat) (cause : Nat) (detail : Nat) (live : Bool) :
    Evolves s₀ (State.raiseAs s cls code unit cause detail live) := by
  unfold State.raiseAs
  grind -lia -ring -linarith -ac -order (ematch := 60) (gen := 60) only [← State.mergeRec_evolves, ← State.openRec_evolves]

theorem State.raise_evolves {s₀ s : State} (h : Evolves s₀ s) (code : Nat) (unit : Nat) (detail : Nat) (live : Bool) :
    Evolves s₀ (State.raise s code unit detail live) := by
  unfold State.raise
  grind -lia -ring -linarith -ac -order (ematch := 60) (gen := 60) only [← State.raiseAs_evolves]

theorem State.dropLive_evolves {s₀ s : State} (h : Evolves s₀ s) (unit : Nat) (code : Nat) :
    Evolves s₀ (State.dropLive s unit code) := by
  unfold State.dropLive
  grind -lia -ring -linarith -ac -order (ematch := 60) (gen := 60) only [← State.faultPkt_evolves, ← State.setFrec_evolves]

theorem State.ackSts_evolves {s₀ s : State} (h : Evolves s₀ s) (i : Nat) (result : Nat) :
    Evolves s₀ (State.ackSts s i result) := by
  unfold State.ackSts
  grind -lia -ring -linarith -ac -order (ematch := 60) (gen := 60) only [← State.incFd_evolves, ← State.setFd_evolves]

theorem fltAck_evolves {s₀ s : State} (h : Evolves s₀ s) (i : Nat) :
    Evolves s₀ (fltAck i s) := by
  unfold fltAck
  grind -lia -ring -linarith -ac -order (ematch := 60) (gen := 60) only [← State.ackSts_evolves, ← State.faultPkt_evolves, ← State.setFrec_evolves]

theorem fltClear_evolves {s₀ s : State} (h : Evolves s₀ s) (i : Nat) :
    Evolves s₀ (fltClear i s) := by
  unfold fltClear
  grind -lia -ring -linarith -ac -order (ematch := 60) (gen := 60) only [← State.ackSts_evolves, ← State.faultPkt_evolves, ← State.setFrec_evolves]

theorem fltInj_evolves {s₀ s : State} (h : Evolves s₀ s) (unit : Nat) (code : Nat) :
    Evolves s₀ (fltInj unit code s) := by
  unfold fltInj
  grind -lia -ring -linarith -ac -order (ematch := 60) (gen := 60) only [← State.ackSts_evolves, ← State.raiseAs_evolves]

theorem State.logFailed_evolves {s₀ s : State} (h : Evolves s₀ s) :
    Evolves s₀ (State.logFailed s) := by
  unfold State.logFailed
  grind -lia -ring -linarith -ac -order (ematch := 60) (gen := 60) only [← State.setFrec_evolves]

theorem faultPacketTimer_evolves {s₀ s : State} (h : Evolves s₀ s) (i : Nat) :
    Evolves s₀ (faultPacketTimer i s) := by
  unfold faultPacketTimer
  grind -lia -ring -linarith -ac -order (ematch := 60) (gen := 60) only [← State.faultPkt_evolves]

end Sys2Proof.Machine
end

