-- ==== Sys2Proof/Laws/EvolvesLedger.lean ====
section
/-! SUPPORT. What the operations of Machine/Ledger.lean may do to a state (`Evolves`): one lemma for each. -/

namespace Sys2Proof.Machine

theorem State.setNTotal_evolves {s₀ s : State} (h : Evolves s₀ s) (sl : Nat) (n : Int) :
    Evolves s₀ (State.setNTotal s sl n) := by
  unfold State.setNTotal
  grind -lia -ring -linarith -ac -order (ematch := 60) (gen := 60) only [← State.setPair_evolves]

theorem State.writeLatches_evolves {s₀ s : State} (h : Evolves s₀ s) :
    Evolves s₀ (State.writeLatches s) := by
  unfold State.writeLatches
  grind -lia -ring -linarith -ac -order (ematch := 60) (gen := 60) only [← State.writeRootSeq_evolves, ← Evolves.ldg, ← List.foldl_evolves]

theorem State.latchBits_evolves {s₀ s : State} (h : Evolves s₀ s) (sl : Nat) (c : Inexact) :
    Evolves s₀ (State.latchBits s sl c) := by
  unfold State.latchBits
  grind -lia -ring -linarith -ac -order (ematch := 60) (gen := 60) only [← State.setRg_evolves]

theorem State.latchSlots_evolves {s₀ s : State} (h : Evolves s₀ s) (sls : List Nat) (c : Inexact) :
    Evolves s₀ (State.latchSlots s sls c) := by
  unfold State.latchSlots
  grind -lia -ring -linarith -ac -order (ematch := 60) (gen := 60) only [← State.latchBits_evolves, ← State.writeLatches_evolves, ← List.foldl_evolves]

theorem State.tlyCmdSts_evolves {s₀ s : State} (h : Evolves s₀ s) (sl : Nat) (op : Nat) (result : Nat) :
    Evolves s₀ (State.tlyCmdSts s sl op result) := by
  unfold State.tlyCmdSts
  grind -lia -ring -linarith -ac -order (ematch := 60) (gen := 60) only [← State.incFd_evolves, ← State.setFd_evolves]

theorem clearInexact_evolves {s₀ s : State} (h : Evolves s₀ s) (sl : Nat) :
    Evolves s₀ (clearInexact sl s) := by
  unfold clearInexact
  grind -lia -ring -linarith -ac -order (ematch := 60) (gen := 60) only [← State.setRg_evolves, ← State.tlyCmdSts_evolves, ← State.writeLatches_evolves]

theorem tlyZero_evolves {s₀ s : State} (h : Evolves s₀ s) (sl : Nat) :
    Evolves s₀ (tlyZero sl s) := by
  unfold tlyZero
  grind -lia -ring -linarith -ac -order (ematch := 60) (gen := 60) only [← State.setNTotal_evolves, ← State.tlyCmdSts_evolves, ← State.writeLatches_evolves]

theorem tlyPreset_evolves {s₀ s : State} (h : Evolves s₀ s) (sl : Nat) :
    Evolves s₀ (tlyPreset sl s) := by
  unfold tlyPreset
  grind -lia -ring -linarith -ac -order (ematch := 60) (gen := 60) only [← State.setPair_evolves, ← State.tlyCmdSts_evolves, ← State.writeLatches_evolves]

theorem tlyCfgWrite_evolves {s₀ s : State} (h : Evolves s₀ s) (sl : Nat) (isQ : Bool) (v : Nat) :
    Evolves s₀ (tlyCfgWrite sl isQ v s) := by
  unfold tlyCfgWrite
  grind -lia -ring -linarith -ac -order (ematch := 60) (gen := 60) only [← State.setFd_evolves, ← State.setPair_evolves, ← State.setRg_evolves]

theorem State.writeFrame_evolves {s₀ s : State} (h : Evolves s₀ s) (k : Ckpt) (copy : Nat) :
    Evolves s₀ (State.writeFrame s k copy) := by
  unfold State.writeFrame
  grind -lia -ring -linarith -ac -order (ematch := 60) (gen := 60) only [← State.writeLog_evolves, ← List.foldl_evolves]

theorem State.beginCkpt_evolves {s₀ s : State} (h : Evolves s₀ s) (kind : Nat) (cause : Nat) (cmd : Bool) :
    Evolves s₀ (State.beginCkpt s kind cause cmd) := by
  unfold State.beginCkpt
  grind -lia -ring -linarith -ac -order (ematch := 60) (gen := 60) only [← Evolves.ldg]

theorem State.dueCkpt_evolves {s₀ s : State} (h : Evolves s₀ s) (cmd : Bool) :
    Evolves s₀ (State.dueCkpt s cmd) := by
  unfold State.dueCkpt
  grind -lia -ring -linarith -ac -order (ematch := 60) (gen := 60) only [← State.beginCkpt_evolves, ← Evolves.ldg]

theorem periodicCheckpoint_evolves {s₀ s : State} (h : Evolves s₀ s) :
    Evolves s₀ (periodicCheckpoint s) := by
  unfold periodicCheckpoint
  grind -lia -ring -linarith -ac -order (ematch := 60) (gen := 60) only [← State.dueCkpt_evolves, ← Evolves.ldg]

theorem State.ldgCmdSts_evolves {s₀ s : State} (h : Evolves s₀ s) (op : Nat) (result : Nat) :
    Evolves s₀ (State.ldgCmdSts s op result) := by
  unfold State.ldgCmdSts
  grind -lia -ring -linarith -ac -order (ematch := 60) (gen := 60) only [← State.incFd_evolves, ← State.setFd_evolves]

theorem checkpointCmd_evolves {s₀ s : State} (h : Evolves s₀ s) :
    Evolves s₀ (checkpointCmd s) := by
  unfold checkpointCmd
  grind -lia -ring -linarith -ac -order (ematch := 60) (gen := 60) only [← State.dueCkpt_evolves, ← State.ldgCmdSts_evolves]

theorem releaseHold_evolves {s₀ s : State} (h : Evolves s₀ s) :
    Evolves s₀ (releaseHold s) := by
  unfold releaseHold
  grind -lia -ring -linarith -ac -order (ematch := 60) (gen := 60) only [← State.assertOnce_evolves, ← State.ldgCmdSts_evolves, ← State.setFd_evolves]

theorem State.latchBridge_evolves {s₀ s : State} (h : Evolves s₀ s) :
    Evolves s₀ (State.latchBridge s) := by
  unfold State.latchBridge
  grind -lia -ring -linarith -ac -order (ematch := 60) (gen := 60) only [← Evolves.ldg]

theorem State.writeBridge_evolves {s₀ s : State} (h : Evolves s₀ s) :
    Evolves s₀ (State.writeBridge s) := by
  unfold State.writeBridge
  grind -lia -ring -linarith -ac -order (ematch := 60) (gen := 60) only [← State.writeRoot_evolves, ← List.foldl_evolves]

theorem State.askMigration_evolves {s₀ s : State} (h : Evolves s₀ s) (b : Nat) :
    Evolves s₀ (State.askMigration s b) := by
  unfold State.askMigration
  grind -lia -ring -linarith -ac -order (ematch := 60) (gen := 60) only [← Evolves.ldg]

theorem State.useSpare_evolves {s₀ s : State} (h : Evolves s₀ s) (retire : Nat) :
    Evolves s₀ (State.useSpare s retire) := by
  unfold State.useSpare
  grind -lia -ring -linarith -ac -order (ematch := 60) (gen := 60) only [← State.assertOnce_evolves, ← State.incFd_evolves, ← State.raise_evolves, ← State.setFd_evolves, ← Evolves.ldg]

theorem State.migCopy_evolves {s₀ s : State} (h : Evolves s₀ s) (b : Nat) (target : Nat) (tries : Nat) :
    Evolves s₀ (State.migCopy s b target tries) := by
  unfold State.migCopy
  grind -lia -ring -linarith -ac -order (ematch := 60) (gen := 60) only [← State.setFd_evolves, ← State.writePhys_evolves, ← State.writeRoot_evolves, ← Evolves.ldg, ← List.foldl_evolves]

theorem State.migNoSpare_evolves {s₀ s : State} (h : Evolves s₀ s) (b : Nat) :
    Evolves s₀ (State.migNoSpare s b) := by
  unfold State.migNoSpare
  grind -lia -ring -linarith -ac -order (ematch := 60) (gen := 60) only [← State.latchSlots_evolves, ← State.raise_evolves, ← State.setFd_evolves, ← Evolves.ldg]

theorem migrationStart_evolves {s₀ s : State} (h : Evolves s₀ s) :
    Evolves s₀ (migrationStart s) := by
  unfold migrationStart
  grind -lia -ring -linarith -ac -order (ematch := 60) (gen := 60) only [← State.assertOnce_evolves, ← State.migCopy_evolves, ← State.migNoSpare_evolves, ← Evolves.ldg]

theorem State.migClear_evolves {s₀ s : State} (h : Evolves s₀ s) :
    Evolves s₀ (State.migClear s) := by
  unfold State.migClear
  grind -lia -ring -linarith -ac -order (ematch := 60) (gen := 60) only [← State.assertOnce_evolves, ← State.setFd_evolves, ← Evolves.ldg]

theorem State.retireBlock_evolves {s₀ s : State} (h : Evolves s₀ s) (b : Nat) (old : Nat) (target : Nat) :
    Evolves s₀ (State.retireBlock s b old target) := by
  unfold State.retireBlock
  grind -lia -ring -linarith -ac -order (ematch := 60) (gen := 60) only [← State.useSpare_evolves, ← State.writeRoot_evolves]

theorem migrationDone_evolves {s₀ s : State} (h : Evolves s₀ s) (verified : Bool) :
    Evolves s₀ (migrationDone verified s) := by
  unfold migrationDone
  grind -lia -ring -linarith -ac -order (ematch := 60) (gen := 60) only [← State.migClear_evolves, ← State.migCopy_evolves, ← State.migNoSpare_evolves, ← State.raise_evolves, ← State.retireBlock_evolves, ← State.useSpare_evolves, ← State.writeRoot_evolves, ← Evolves.ldg]

theorem State.wearNotes_evolves {s₀ s : State} (h : Evolves s₀ s) (failed : List Nat) (corrected : List Nat) :
    Evolves s₀ (State.wearNotes s failed corrected) := by
  unfold State.wearNotes
  grind -lia -ring -linarith -ac -order (ematch := 60) (gen := 60) only [← State.askMigration_evolves, ← State.logFailed_evolves, ← State.raise_evolves, ← Evolves.ldg, ← List.foldl_evolves]

theorem State.writeAnchor_evolves {s₀ s : State} (h : Evolves s₀ s) (q : Nat) :
    Evolves s₀ (State.writeAnchor s q) := by
  unfold State.writeAnchor
  grind -lia -ring -linarith -ac -order (ematch := 60) (gen := 60) only [← State.writeRoot_evolves, ← Evolves.ldg]

theorem State.nextDue_evolves {s₀ s : State} (h : Evolves s₀ s) :
    Evolves s₀ (State.nextDue s) := by
  unfold State.nextDue
  grind -lia -ring -linarith -ac -order (ematch := 60) (gen := 60) only [← State.beginCkpt_evolves, ← Evolves.ldg]

theorem frameWriteDone_evolves {s₀ s : State} (h : Evolves s₀ s) (failed : List Nat) (corrected : List Nat) :
    Evolves s₀ (frameWriteDone failed corrected s) := by
  unfold frameWriteDone
  grind -lia -ring -linarith -ac -order (ematch := 60) (gen := 60) only [← State.assertOnce_evolves, ← State.nextDue_evolves, ← State.setFd_evolves, ← State.setPair_evolves, ← State.setRg_evolves, ← State.wearNotes_evolves, ← State.writeAnchor_evolves, ← State.writeFrame_evolves, ← Evolves.dev, ← Evolves.ldg]

theorem State.settleMigration_evolves {s₀ s : State} (h : Evolves s₀ s) :
    Evolves s₀ (State.settleMigration s) := by
  unfold State.settleMigration
  grind -lia -ring -linarith -ac -order (ematch := 60) (gen := 60) only [← State.retireBlock_evolves, ← State.setFd_evolves, ← Evolves.ldg, ← List.foldl_evolves]

theorem State.loadLatches_evolves {s₀ s : State} (h : Evolves s₀ s) :
    Evolves s₀ (State.loadLatches s) := by
  unfold State.loadLatches
  grind -lia -ring -linarith -ac -order (ematch := 60) (gen := 60) only [← State.setRg_evolves, ← Evolves.ldg, ← List.foldl_evolves]

theorem State.loadBridge_evolves {s₀ s : State} (h : Evolves s₀ s) (q : Nat) :
    Evolves s₀ (State.loadBridge s q) := by
  unfold State.loadBridge
  grind -lia -ring -linarith -ac -order (ematch := 60) (gen := 60) only [← Evolves.ldg]

theorem State.recoverLedger_evolves {s₀ s : State} (h : Evolves s₀ s) :
    Evolves s₀ (State.recoverLedger s) := by
  unfold State.recoverLedger
  grind -lia -ring -linarith -ac -order (ematch := 60) (gen := 60) only [← State.assertOnce_evolves, ← State.latchSlots_evolves, ← State.loadBridge_evolves, ← State.loadLatches_evolves, ← State.raise_evolves, ← State.setFd_evolves, ← State.setNTotal_evolves, ← State.setPair_evolves, ← State.setRg_evolves, ← State.settleMigration_evolves, ← State.writeLog_evolves, ← State.writeRoot_evolves, ← Evolves.ldg, ← List.foldl_evolves]

end Sys2Proof.Machine
end

