-- ==== Sys2Proof/Laws/EvolvesTimeBase.lean ====
section
/-! SUPPORT. What the operations of Machine/TimeBase.lean may do to a state (`Evolves`): one lemma for each. -/

namespace Sys2Proof.Machine

theorem State.setTb_evolves {s₀ s : State} (h : Evolves s₀ s) (f : TimeBase → TimeBase) :
    Evolves s₀ (State.setTb s f) := by
  unfold State.setTb
  grind -lia -ring -linarith -ac -order (ematch := 60) (gen := 60) only [← Evolves.tb]

theorem State.countTick_evolves {s₀ s : State} (h : Evolves s₀ s) :
    Evolves s₀ (State.countTick s) := by
  unfold State.countTick
  grind -lia -ring -linarith -ac -order (ematch := 60) (gen := 60) only [← State.setTb_evolves, ← Evolves.time, ← Evolves.up, ← Evolves.timeUp]

theorem State.startTime_evolves {s₀ s : State} (h : Evolves s₀ s) :
    Evolves s₀ (State.startTime s) := by
  exact ((h.time 0).up 0).tb _

theorem State.setLock_evolves {s₀ s : State} (h : Evolves s₀ s) (b : Bool) :
    Evolves s₀ (State.setLock s b) := by
  unfold State.setLock
  grind -lia -ring -linarith -ac -order (ematch := 60) (gen := 60) only [← State.assertOnce_evolves, ← State.setFd_evolves]

theorem State.endHoldover_evolves {s₀ s : State} (h : Evolves s₀ s) :
    Evolves s₀ (State.endHoldover s) := by
  unfold State.endHoldover
  grind -lia -ring -linarith -ac -order (ematch := 60) (gen := 60) only [← State.setFd_evolves, ← State.setTb_evolves]

theorem pllLock_evolves {s₀ s : State} (h : Evolves s₀ s) :
    Evolves s₀ (pllLock s) := by
  unfold pllLock
  grind -lia -ring -linarith -ac -order (ematch := 60) (gen := 60) only [← State.setLock_evolves, ← State.startTime_evolves]

theorem State.refSeen_evolves {s₀ s : State} (h : Evolves s₀ s) (b : Bool) :
    Evolves s₀ (State.refSeen s b) := by
  unfold State.refSeen
  grind -lia -ring -linarith -ac -order (ematch := 60) (gen := 60) only [← State.setTb_evolves]

theorem State.lossOfRef_evolves {s₀ s : State} (h : Evolves s₀ s) :
    Evolves s₀ (State.lossOfRef s) := by
  unfold State.lossOfRef
  grind -lia -ring -linarith -ac -order (ematch := 60) (gen := 60) only [← State.incFd_evolves, ← State.raise_evolves, ← State.refSeen_evolves, ← State.setFd_evolves, ← State.setLock_evolves, ← State.setTb_evolves]

theorem refLockTimeout_evolves {s₀ s : State} (h : Evolves s₀ s) :
    Evolves s₀ (refLockTimeout s) := by
  unfold refLockTimeout
  grind -lia -ring -linarith -ac -order (ematch := 60) (gen := 60) only [← State.raise_evolves, ← State.refSeen_evolves, ← State.setFd_evolves, ← State.setTb_evolves, ← State.startTime_evolves]

theorem refNoEdge_evolves {s₀ s : State} (h : Evolves s₀ s) :
    Evolves s₀ (refNoEdge s) := by
  unfold refNoEdge
  grind -lia -ring -linarith -ac -order (ematch := 60) (gen := 60) only [← State.lossOfRef_evolves]

theorem refFreqWindowEnd_evolves {s₀ s : State} (h : Evolves s₀ s) (ppm : Int) :
    Evolves s₀ (refFreqWindowEnd ppm s) := by
  unfold refFreqWindowEnd
  grind -lia -ring -linarith -ac -order (ematch := 60) (gen := 60) only [← State.lossOfRef_evolves, ← State.refSeen_evolves]

theorem relock_evolves {s₀ s : State} (h : Evolves s₀ s) :
    Evolves s₀ (relock s) := by
  unfold relock
  grind -lia -ring -linarith -ac -order (ematch := 60) (gen := 60) only [← State.dropLive_evolves, ← State.endHoldover_evolves, ← State.refSeen_evolves, ← State.setFd_evolves, ← State.setLock_evolves]

theorem State.putOut_evolves {s₀ s : State} (h : Evolves s₀ s) (w : Word) :
    Evolves s₀ (State.putOut s w) := by
  unfold State.putOut
  grind -lia -ring -linarith -ac -order (ematch := 60) (gen := 60) only [← State.emit_evolves, ← State.setRg_evolves]

theorem State.calFigures_evolves {s₀ s : State} (h : Evolves s₀ s) (lane : Nat) (h : List Nat) (shift16 : Nat) :
    Evolves s₀ (State.calFigures s lane h shift16) := by
  unfold State.calFigures
  grind -lia -ring -linarith -ac -order (ematch := 60) (gen := 60) only [← State.setFd_evolves, ← List.foldl_evolves]

theorem State.storeTable_evolves {s₀ s : State} (h : Evolves s₀ s) (lane : Nat) (t : List Nat) :
    Evolves s₀ (State.storeTable s lane t) := by
  unfold State.storeTable
  grind -lia -ring -linarith -ac -order (ematch := 60) (gen := 60) only [← State.incFd_evolves, ← State.setFd_evolves, ← State.setPair_evolves, ← State.setTb_evolves]

theorem State.passLane_evolves {s₀ s : State} (h : Evolves s₀ s) (lane : Nat) (h : List Nat) :
    Evolves s₀ (State.passLane s lane h).1 := by
  unfold State.passLane
  grind -lia -ring -linarith -ac -order (ematch := 60) (gen := 60) only [← State.calFigures_evolves, ← State.raise_evolves, ← State.storeTable_evolves]
grind_pattern State.passLane_evolves => Evolves s₀ s, State.passLane s lane h

theorem State.bootCalLane_evolves {s₀ s : State} (h : Evolves s₀ s) (lane : Nat) (h1 : List Nat) (h2 : List Nat) (bad : Bool) :
    Evolves s₀ (State.bootCalLane s lane h1 h2 bad).1 := by
  unfold State.bootCalLane
  grind -lia -ring -linarith -ac -order (ematch := 60) (gen := 60) only [← State.calFigures_evolves, ← State.storeTable_evolves]
grind_pattern State.bootCalLane_evolves => Evolves s₀ s, State.bootCalLane s lane h1 h2 bad

theorem State.setLane_evolves {s₀ s : State} (h : Evolves s₀ s) (lane : Nat) (st : Nat) (partner : Nat) :
    Evolves s₀ (State.setLane s lane st partner) := by
  unfold State.setLane
  grind -lia -ring -linarith -ac -order (ematch := 60) (gen := 60) only [← State.setFd_evolves]

theorem State.setQuadCal_evolves {s₀ s : State} (h : Evolves s₀ s) (q : Nat) (c : QuadCal) :
    Evolves s₀ (State.setQuadCal s q c) := by
  unfold State.setQuadCal
  grind -lia -ring -linarith -ac -order (ematch := 60) (gen := 60) only [← State.setTb_evolves]

theorem State.calSts_evolves {s₀ s : State} (h : Evolves s₀ s) (lane : Nat) (op : Nat) (busy : Nat) (result : Nat) :
    Evolves s₀ (State.calSts s lane op busy result) := by
  unfold State.calSts
  grind -lia -ring -linarith -ac -order (ematch := 60) (gen := 60) only [← State.setFd_evolves]

theorem State.calStart_evolves {s₀ s : State} (h : Evolves s₀ s) (lane : Nat) (op : Nat) :
    Evolves s₀ (State.calStart s lane op) := by
  unfold State.calStart
  grind -lia -ring -linarith -ac -order (ematch := 60) (gen := 60) only [← State.calSts_evolves, ← State.incFd_evolves]

theorem State.calRefuse_evolves {s₀ s : State} (h : Evolves s₀ s) (lane : Nat) (op : Nat) :
    Evolves s₀ (State.calRefuse s lane op) := by
  unfold State.calRefuse
  grind -lia -ring -linarith -ac -order (ematch := 60) (gen := 60) only [← State.assertOnce_evolves, ← State.calSts_evolves, ← State.incFd_evolves]

theorem State.calEnd_evolves {s₀ s : State} (h : Evolves s₀ s) (lane : Nat) (op : Nat) (result : Nat) :
    Evolves s₀ (State.calEnd s lane op result) := by
  unfold State.calEnd
  grind -lia -ring -linarith -ac -order (ematch := 60) (gen := 60) only [← State.assertOnce_evolves, ← State.calSts_evolves, ← State.setFd_evolves]

theorem State.setPort_evolves {s₀ s : State} (h : Evolves s₀ s) (p : Nat) (x : Port) :
    Evolves s₀ (State.setPort s p x) := by
  unfold State.setPort
  grind -lia -ring -linarith -ac -order (ematch := 60) (gen := 60) only [← Evolves.ports]

theorem State.startChk_evolves {s₀ s : State} (h : Evolves s₀ s) (p : Nat) :
    Evolves s₀ (State.startChk s p) := by
  unfold State.startChk
  grind -lia -ring -linarith -ac -order (ematch := 60) (gen := 60) only [← State.incFd_evolves, ← State.setFd_evolves, ← State.setPair_evolves, ← State.setPort_evolves]

theorem State.chkDue_evolves {s₀ s : State} (h : Evolves s₀ s) (p : Nat) :
    Evolves s₀ (State.chkDue s p) := by
  unfold State.chkDue
  grind -lia -ring -linarith -ac -order (ematch := 60) (gen := 60) only [← State.setFd_evolves, ← State.startChk_evolves]

theorem State.nextChk_evolves {s₀ s : State} (h : Evolves s₀ s) (q : Nat) :
    Evolves s₀ (State.nextChk s q) := by
  unfold State.nextChk
  grind -lia -ring -linarith -ac -order (ematch := 60) (gen := 60) only [← State.startChk_evolves]

theorem State.beginShadow_evolves {s₀ s : State} (h : Evolves s₀ s) (q : Nat) (c : QuadCal) :
    Evolves s₀ (State.beginShadow s q c) := by
  unfold State.beginShadow
  grind -lia -ring -linarith -ac -order (ematch := 60) (gen := 60) only [← State.setLane_evolves, ← State.setQuadCal_evolves]

theorem State.beginHandover_evolves {s₀ s : State} (h : Evolves s₀ s) (q : Nat) (c : QuadCal) :
    Evolves s₀ (State.beginHandover s q c) := by
  unfold State.beginHandover
  grind -lia -ring -linarith -ac -order (ematch := 60) (gen := 60) only [← State.beginShadow_evolves, ← State.setLane_evolves, ← State.setQuadCal_evolves]

theorem State.beginCal_evolves {s₀ s : State} (h : Evolves s₀ s) (lane : Nat) (op : Nat) :
    Evolves s₀ (State.beginCal s lane op) := by
  unfold State.beginCal
  grind -lia -ring -linarith -ac -order (ematch := 60) (gen := 60) only [← State.beginHandover_evolves, ← State.setLane_evolves, ← State.setQuadCal_evolves, ← State.setTb_evolves]

theorem State.beginWork_evolves {s₀ s : State} (h : Evolves s₀ s) (q : Nat) (lane : Nat) (op : Nat) :
    Evolves s₀ (State.beginWork s q lane op) := by
  unfold State.beginWork
  grind -lia -ring -linarith -ac -order (ematch := 60) (gen := 60) only [← State.beginCal_evolves, ← State.beginHandover_evolves, ← State.setFd_evolves, ← State.setQuadCal_evolves]

theorem State.quadNext_evolves {s₀ s : State} (h : Evolves s₀ s) (q : Nat) :
    Evolves s₀ (State.quadNext s q) := by
  unfold State.quadNext
  grind -lia -ring -linarith -ac -order (ematch := 60) (gen := 60) only [← State.beginWork_evolves, ← State.setQuadCal_evolves]

theorem State.quadIdle_evolves {s₀ s : State} (h : Evolves s₀ s) (q : Nat) :
    Evolves s₀ (State.quadIdle s q) := by
  unfold State.quadIdle
  grind -lia -ring -linarith -ac -order (ematch := 60) (gen := 60) only [← State.nextChk_evolves, ← State.quadNext_evolves, ← State.setQuadCal_evolves]

theorem State.askWork_evolves {s₀ s : State} (h : Evolves s₀ s) (lane : Nat) (op : Nat) :
    Evolves s₀ (State.askWork s lane op) := by
  unfold State.askWork
  grind -lia -ring -linarith -ac -order (ematch := 60) (gen := 60) only [← State.beginCal_evolves, ← State.beginWork_evolves, ← State.setQuadCal_evolves]

theorem tbCalibrate_evolves {s₀ s : State} (h : Evolves s₀ s) (lane : Nat) :
    Evolves s₀ (tbCalibrate lane s) := by
  unfold tbCalibrate
  grind -lia -ring -linarith -ac -order (ematch := 60) (gen := 60) only [← State.askWork_evolves, ← State.calRefuse_evolves, ← State.calStart_evolves]

theorem tbRetry_evolves {s₀ s : State} (h : Evolves s₀ s) (lane : Nat) :
    Evolves s₀ (tbRetry lane s) := by
  unfold tbRetry
  grind -lia -ring -linarith -ac -order (ematch := 60) (gen := 60) only [← State.askWork_evolves, ← State.calRefuse_evolves, ← State.calStart_evolves]

theorem tbHandover_evolves {s₀ s : State} (h : Evolves s₀ s) (lane : Nat) :
    Evolves s₀ (tbHandover lane s) := by
  unfold tbHandover
  grind -lia -ring -linarith -ac -order (ematch := 60) (gen := 60) only [← State.askWork_evolves, ← State.calRefuse_evolves, ← State.calStart_evolves]

theorem tbReturn_evolves {s₀ s : State} (h : Evolves s₀ s) (lane : Nat) :
    Evolves s₀ (tbReturn lane s) := by
  unfold tbReturn
  grind -lia -ring -linarith -ac -order (ematch := 60) (gen := 60) only [← State.askWork_evolves, ← State.calRefuse_evolves, ← State.calStart_evolves]

theorem scheduledCalibration_evolves {s₀ s : State} (h : Evolves s₀ s) (lane : Nat) (moved : Nat) :
    Evolves s₀ (scheduledCalibration lane moved s) := by
  unfold scheduledCalibration
  grind -lia -ring -linarith -ac -order (ematch := 60) (gen := 60) only [← State.askWork_evolves, ← State.beginWork_evolves, ← State.setQuadCal_evolves, ← State.setTb_evolves]

theorem State.abandonHandover_evolves {s₀ s : State} (h : Evolves s₀ s) (q : Nat) (c : QuadCal) :
    Evolves s₀ (State.abandonHandover s q c) := by
  unfold State.abandonHandover
  grind -lia -ring -linarith -ac -order (ematch := 60) (gen := 60) only [← State.incFd_evolves, ← State.setLane_evolves]

theorem State.switchLane_evolves {s₀ s : State} (h : Evolves s₀ s) (q : Nat) (c : QuadCal) :
    Evolves s₀ (State.switchLane s q c) := by
  unfold State.switchLane
  grind -lia -ring -linarith -ac -order (ematch := 60) (gen := 60) only [← State.incFd_evolves, ← State.setLane_evolves, ← State.setQuadCal_evolves, ← State.setRg_evolves]

theorem State.verdict_evolves {s₀ s : State} (h : Evolves s₀ s) (q : Nat) (c : QuadCal) :
    Evolves s₀ (State.verdict s q c) := by
  unfold State.verdict
  grind -lia -ring -linarith -ac -order (ematch := 60) (gen := 60) only [← State.abandonHandover_evolves, ← State.calEnd_evolves, ← State.quadIdle_evolves, ← State.raise_evolves, ← State.setLane_evolves, ← State.setQuadCal_evolves, ← State.switchLane_evolves]

theorem verifyEnd_evolves {s₀ s : State} (h : Evolves s₀ s) (q : Nat) :
    Evolves s₀ (verifyEnd q s) := by
  unfold verifyEnd
  grind -lia -ring -linarith -ac -order (ematch := 60) (gen := 60) only [← State.verdict_evolves]

theorem State.holdOver_evolves {s₀ s : State} (h : Evolves s₀ s) (p : Nat) :
    Evolves s₀ (State.holdOver s p) := by
  unfold State.holdOver
  grind -lia -ring -linarith -ac -order (ematch := 60) (gen := 60) only [← State.switchLane_evolves]

theorem detachDone_evolves {s₀ s : State} (h : Evolves s₀ s) (q : Nat) :
    Evolves s₀ (detachDone q s) := by
  unfold detachDone
  grind -lia -ring -linarith -ac -order (ematch := 60) (gen := 60) only [← State.calEnd_evolves, ← State.nextChk_evolves, ← State.quadIdle_evolves, ← State.setLane_evolves, ← State.setQuadCal_evolves]

theorem State.servicePass_evolves {s₀ s : State} (h : Evolves s₀ s) (lane : Nat) (ok : Bool) :
    Evolves s₀ (State.servicePass s lane ok) := by
  unfold State.servicePass
  grind -lia -ring -linarith -ac -order (ematch := 60) (gen := 60) only [← State.calEnd_evolves, ← State.raise_evolves, ← State.setLane_evolves, ← State.setTb_evolves]

theorem State.retireLane_evolves {s₀ s : State} (h : Evolves s₀ s) (q : Nat) (lane : Nat) (partner : Nat) (detail : Nat) (c : QuadCal) :
    Evolves s₀ (State.retireLane s q lane partner detail c) := by
  unfold State.retireLane
  grind -lia -ring -linarith -ac -order (ematch := 60) (gen := 60) only [← State.calEnd_evolves, ← State.quadIdle_evolves, ← State.raise_evolves, ← State.setLane_evolves]

theorem calibrationPassEnd_evolves {s₀ s : State} (h : Evolves s₀ s) (lane : Nat) (hist : List Nat) :
    Evolves s₀ (calibrationPassEnd lane hist s) := by
  unfold calibrationPassEnd
  grind -lia -ring -linarith -ac -order (ematch := 60) (gen := 60) only [← State.beginHandover_evolves, ← State.beginShadow_evolves, ← State.calEnd_evolves, ← State.dropLive_evolves, usr State.passLane_evolves, ← State.passLane_evolves, ← State.quadIdle_evolves, ← State.retireLane_evolves, ← State.servicePass_evolves, ← State.setLane_evolves]

theorem State.resumeHandover_evolves {s₀ s : State} (h : Evolves s₀ s) (q : Nat) :
    Evolves s₀ (State.resumeHandover s q) := by
  unfold State.resumeHandover
  grind -lia -ring -linarith -ac -order (ematch := 60) (gen := 60) only [← State.beginHandover_evolves, ← State.quadNext_evolves]

end Sys2Proof.Machine
end

