-- ==== Sys2Proof/Laws/EvolvesDevice.lean ====
section
/-! SUPPORT. What the operations of Machine/Device.lean may do to a state (`Evolves`): one lemma for each. -/

namespace Sys2Proof.Machine

theorem State.setDev_evolves {s₀ s : State} (h : Evolves s₀ s) (f : Dev → Dev) :
    Evolves s₀ (State.setDev s f) := by
  unfold State.setDev
  grind -lia -ring -linarith -ac -order (ematch := 60) (gen := 60) only [← Evolves.dev]

theorem State.enter_evolves {s₀ s : State} (h : Evolves s₀ s) (d : DevState) :
    Evolves s₀ (State.enter s d) := by
  unfold State.enter
  grind -lia -ring -linarith -ac -order (ematch := 60) (gen := 60) only [← State.setDev_evolves, ← State.setFd_evolves]

theorem State.begin_evolves {s₀ s : State} (h : Evolves s₀ s) (t : Trans) :
    Evolves s₀ (State.begin s t) := by
  unfold State.begin
  grind -lia -ring -linarith -ac -order (ematch := 60) (gen := 60) only [← State.setDev_evolves, ← State.setFd_evolves]

theorem State.domUp_evolves {s₀ s : State} (h : Evolves s₀ s) (d : Nat) :
    Evolves s₀ (State.domUp s d) := by
  unfold State.domUp
  grind -lia -ring -linarith -ac -order (ematch := 60) (gen := 60) only [← State.setDom_evolves]

theorem State.domsUp_evolves {s₀ s : State} (h : Evolves s₀ s) (ds : List Nat) :
    Evolves s₀ (State.domsUp s ds) := by
  unfold State.domsUp
  grind -lia -ring -linarith -ac -order (ematch := 60) (gen := 60) only [← State.domUp_evolves, ← List.foldl_evolves]

theorem State.domsDown_evolves {s₀ s : State} (h : Evolves s₀ s) (ds : List Nat) :
    Evolves s₀ (State.domsDown s ds) := by
  unfold State.domsDown
  grind -lia -ring -linarith -ac -order (ematch := 60) (gen := 60) only [← State.setDom_evolves, ← List.foldl_evolves]

theorem State.wakeStart_evolves {s₀ s : State} (h : Evolves s₀ s) (c : WakeCause) :
    Evolves s₀ (State.wakeStart s c) := by
  unfold State.wakeStart
  grind -lia -ring -linarith -ac -order (ematch := 60) (gen := 60) only [← State.begin_evolves, ← State.domsUp_evolves, ← State.logFlush_evolves, ← State.setDev_evolves, ← State.setFd_evolves]

theorem State.setTmr_evolves {s₀ s : State} (h : Evolves s₀ s) (i : Nat) (t : Option Nat) :
    Evolves s₀ (State.setTmr s i t) := by
  unfold State.setTmr
  grind -lia -ring -linarith -ac -order (ematch := 60) (gen := 60) only [← State.setDev_evolves]

theorem State.putTmr_evolves {s₀ s : State} (h : Evolves s₀ s) (i : Nat) (w : Word) :
    Evolves s₀ (State.putTmr s i w) := by
  unfold State.putTmr
  grind -lia -ring -linarith -ac -order (ematch := 60) (gen := 60) only [← State.setRg_evolves, ← State.setTmr_evolves]

theorem State.windowWake_evolves {s₀ s : State} (h : Evolves s₀ s) (port : Nat) (level : Nat) :
    Evolves s₀ (State.windowWake s port level) := by
  unfold State.windowWake
  grind -lia -ring -linarith -ac -order (ematch := 60) (gen := 60) only [← State.setFd_evolves, ← State.wakeStart_evolves]

end Sys2Proof.Machine
end

