-- ==== Sys2Proof/Laws/EvolvesPorts.lean ====
section
/-! SUPPORT. What the operations of Machine/Ports.lean may do to a state (`Evolves`): one lemma for each. -/

namespace Sys2Proof.Machine

theorem State.portEvents_evolves {s₀ s : State} (h : Evolves s₀ s) (p : Nat) :
    Evolves s₀ (State.portEvents s p) := by
  unfold State.portEvents
  grind -lia -ring -linarith -ac -order (ematch := 60) (gen := 60) only [← State.setLevel_evolves]

theorem State.hold_evolves {s₀ s : State} (h : Evolves s₀ s) (i : Nat) (h : HeldPkt) :
    Evolves s₀ (State.hold s i h) := by
  unfold State.hold
  grind -lia -ring -linarith -ac -order (ematch := 60) (gen := 60) only [← State.setTb_evolves]

theorem State.oosGap_evolves {s₀ s : State} (h : Evolves s₀ s) (p : Nat) (src : Nat) (a : Nat) (b : Nat) :
    Evolves s₀ (State.oosGap s p src a b) := by
  unfold State.oosGap
  grind -lia -ring -linarith -ac -order (ematch := 60) (gen := 60) only [← State.hold_evolves]

theorem State.bufTake_evolves {s₀ s : State} (h : Evolves s₀ s) (lane : Nat) (ps : Nat) :
    Evolves s₀ (State.bufTake s lane ps).1 := by
  unfold State.bufTake
  grind -lia -ring -linarith -ac -order (ematch := 60) (gen := 60) only [← State.setTb_evolves]
grind_pattern State.bufTake_evolves => Evolves s₀ s, State.bufTake s lane ps

theorem State.bufLose_evolves {s₀ s : State} (h : Evolves s₀ s) (lane : Nat) (chan : Nat) (t : Nat) (gapFlags : Nat) :
    Evolves s₀ (State.bufLose s lane chan t gapFlags) := by
  unfold State.bufLose
  grind -lia -ring -linarith -ac -order (ematch := 60) (gen := 60) only [← State.setTb_evolves]

theorem State.closeLoss_evolves {s₀ s : State} (h : Evolves s₀ s) (island : Nat) (lane : Nat) (ps : Nat) :
    Evolves s₀ (State.closeLoss s island lane ps) := by
  unfold State.closeLoss
  grind -lia -ring -linarith -ac -order (ematch := 60) (gen := 60) only [← State.hold_evolves, ← State.setTb_evolves]

theorem State.bufferEdge_evolves {s₀ s : State} (h : Evolves s₀ s) (island : Nat) (lane : Nat) (chan : Nat) (t : Nat) (gapFlags : Nat) (ps : Nat) (r : Rec) :
    Evolves s₀ (State.bufferEdge s island lane chan t gapFlags ps r) := by
  unfold State.bufferEdge
  grind -lia -ring -linarith -ac -order (ematch := 60) (gen := 60) only [← State.bufLose_evolves, usr State.bufTake_evolves, ← State.bufTake_evolves, ← State.closeLoss_evolves, ← State.hold_evolves]

theorem State.countLane_evolves {s₀ s : State} (h : Evolves s₀ s) (p : Nat) (lower : Bool) :
    Evolves s₀ (State.countLane s p lower) := by
  unfold State.countLane
  grind -lia -ring -linarith -ac -order (ematch := 60) (gen := 60) only [← State.raise_evolves, ← State.setPair_evolves]

theorem State.noteCount_evolves {s₀ s : State} (h : Evolves s₀ s) (key : Nat) (t : Nat) (n : Nat) :
    Evolves s₀ (State.noteCount s key t n) := by
  unfold State.noteCount
  grind -lia -ring -linarith -ac -order (ematch := 60) (gen := 60) only [← Evolves.eng]

theorem State.comparePair_evolves {s₀ s : State} (h : Evolves s₀ s) (comp : Nat) (tick : Nat) (a : Nat) (b : Nat) :
    Evolves s₀ (State.comparePair s comp tick a b) := by
  unfold State.comparePair
  grind -lia -ring -linarith -ac -order (ematch := 60) (gen := 60) only [← State.setQuadCal_evolves]

theorem State.edgeEvent_evolves {s₀ s : State} (h : Evolves s₀ s) (p : Nat) (bit : Nat) :
    Evolves s₀ (State.edgeEvent s p bit) := by
  unfold State.edgeEvent
  grind -lia -ring -linarith -ac -order (ematch := 60) (gen := 60) only [← State.portEvents_evolves, ← State.setRg_evolves]

theorem State.confirm_evolves {s₀ s : State} (h : Evolves s₀ s) (p : Nat) (k : Nat) (lower : Bool) (h : Hit) :
    Evolves s₀ (State.confirm s p k lower h) := by
  unfold State.confirm
  grind -lia -ring -linarith -ac -order (ematch := 60) (gen := 60) only [← State.bufferEdge_evolves, ← State.comparePair_evolves, ← State.countLane_evolves, ← State.edgeEvent_evolves, ← State.noteCount_evolves, ← State.setPort_evolves, ← State.setRg_evolves]

theorem State.confirmBoth_evolves {s₀ s : State} (h : Evolves s₀ s) (p : Nat) (k : Nat) (x0 : Option Hit) (x1 : Option Hit) :
    Evolves s₀ (State.confirmBoth s p k x0 x1) := by
  unfold State.confirmBoth
  grind -lia -ring -linarith -ac -order (ematch := 60) (gen := 60) only [← State.confirm_evolves]

theorem State.wakeLogic_evolves {s₀ s : State} (h : Evolves s₀ s) (p : Nat) (old : Nat) :
    Evolves s₀ (State.wakeLogic s p old) := by
  unfold State.wakeLogic
  grind -lia -ring -linarith -ac -order (ematch := 60) (gen := 60) only [← State.windowWake_evolves]

theorem State.sampleOnce_evolves {s₀ s : State} (h : Evolves s₀ s) (p : Nat) :
    Evolves s₀ (State.sampleOnce s p) := by
  unfold State.sampleOnce
  grind -lia -ring -linarith -ac -order (ematch := 60) (gen := 60) only [← State.confirmBoth_evolves, ← State.setPort_evolves, ← State.wakeLogic_evolves]

theorem State.startHold_evolves {s₀ s : State} (h : Evolves s₀ s) (p : Nat) (t : Nat) :
    Evolves s₀ (State.startHold s p t) := by
  unfold State.startHold
  grind -lia -ring -linarith -ac -order (ematch := 60) (gen := 60) only [← State.hold_evolves, ← State.setPort_evolves]

theorem State.endHold_evolves {s₀ s : State} (h : Evolves s₀ s) (p : Nat) (b : Nat) :
    Evolves s₀ (State.endHold s p b) := by
  unfold State.endHold
  grind -lia -ring -linarith -ac -order (ematch := 60) (gen := 60) only [← State.hold_evolves, ← State.holdOver_evolves, ← State.oosGap_evolves, ← State.setPort_evolves]

theorem State.chkResult_evolves {s₀ s : State} (h : Evolves s₀ s) (p : Nat) (result : Nat) (step : Nat) :
    Evolves s₀ (State.chkResult s p result step) := by
  unfold State.chkResult
  grind -lia -ring -linarith -ac -order (ematch := 60) (gen := 60) only [← State.setFd_evolves]

theorem State.dropHandover_evolves {s₀ s : State} (h : Evolves s₀ s) (p : Nat) :
    Evolves s₀ (State.dropHandover s p) := by
  unfold State.dropHandover
  grind -lia -ring -linarith -ac -order (ematch := 60) (gen := 60) only [← State.abandonHandover_evolves, ← State.calEnd_evolves, ← State.hold_evolves, ← State.quadIdle_evolves]

theorem State.settleFrom_evolves {s₀ s : State} (h : Evolves s₀ s) (p : Nat) (t : Nat) (thr : Nat × Nat) :
    Evolves s₀ (State.settleFrom s p t thr) := by
  unfold State.settleFrom
  grind -lia -ring -linarith -ac -order (ematch := 60) (gen := 60) only [← State.setFd_evolves, ← State.setPort_evolves, ← Evolves.thrs]

theorem State.recompare_evolves {s₀ s : State} (h : Evolves s₀ s) (p : Nat) (t : Nat) :
    Evolves s₀ (State.recompare s p t) := by
  unfold State.recompare
  grind -lia -ring -linarith -ac -order (ematch := 60) (gen := 60) only [usr State.free_evolves, ← State.free_evolves, ← State.setPort_evolves]

theorem State.leaveChk_evolves {s₀ s : State} (h : Evolves s₀ s) (p : Nat) (e : Nat) (result : Nat) (step : Nat) :
    Evolves s₀ (State.leaveChk s p e result step) := by
  unfold State.leaveChk
  grind -lia -ring -linarith -ac -order (ematch := 60) (gen := 60) only [← State.chkResult_evolves, ← State.oosGap_evolves, ← State.setPort_evolves]

theorem State.dropChk_evolves {s₀ s : State} (h : Evolves s₀ s) (p : Nat) :
    Evolves s₀ (State.dropChk s p) := by
  unfold State.dropChk
  grind -lia -ring -linarith -ac -order (ematch := 60) (gen := 60) only [← State.setFd_evolves]

theorem State.disablePort_evolves {s₀ s : State} (h : Evolves s₀ s) (p : Nat) (t : Nat) :
    Evolves s₀ (State.disablePort s p t) := by
  unfold State.disablePort
  grind -lia -ring -linarith -ac -order (ematch := 60) (gen := 60) only [← State.dropChk_evolves, ← State.dropHandover_evolves, ← State.endHold_evolves, ← State.leaveChk_evolves, ← State.nextChk_evolves, ← State.resumeHandover_evolves, ← State.setPort_evolves]

theorem State.takeSet_evolves {s₀ s : State} (h : Evolves s₀ s) (p : Nat) (t : Nat) (n : PortSet) :
    Evolves s₀ (State.takeSet s p t n) := by
  unfold State.takeSet
  grind -lia -ring -linarith -ac -order (ematch := 60) (gen := 60) only [← State.disablePort_evolves, ← State.recompare_evolves, ← State.setPort_evolves, ← State.settleFrom_evolves, ← State.startHold_evolves]

theorem State.schedule_evolves {s₀ s : State} (h : Evolves s₀ s) (p : Nat) :
    Evolves s₀ (State.schedule s p) := by
  unfold State.schedule
  grind -lia -ring -linarith -ac -order (ematch := 60) (gen := 60) only [← State.setPort_evolves]

theorem State.samples_evolves {s₀ s t : State} (h : Evolves s₀ s) {p m : Nat} (e : State.samples s p m = some t) : Evolves s₀ t := by
  unfold State.samples at e
  dsimp only at e
  repeat' split at e
  all_goals first
    | contradiction
    | (cases e; first | exact State.setPort_evolves h .. | exact State.sampleOnce_evolves h ..)

theorem State.portStep_evolves {s₀ s t : State} (h : Evolves s₀ s) {p k : Nat} (e : State.portStep s p k = some t) : Evolves s₀ t := by
  unfold State.portStep at e
  dsimp only at e
  repeat' split at e
  all_goals first
    | (cases e; exact State.takeSet_evolves h ..)
    | exact State.samples_evolves h e

theorem State.runPort_evolves {s₀ s : State} (h : Evolves s₀ s) (p : Nat) (k : Nat) (x0 : Nat) : Evolves s₀ (State.runPort p k x0 s) := by
  induction x0 generalizing s with
  | zero => exact h
  | succ n ih =>
    rw [State.runPort]
    split
    · rename_i t e; exact ih (State.portStep_evolves h e)
    · exact h

theorem State.runTo_evolves {s₀ s : State} (h : Evolves s₀ s) (p : Nat) (k : Nat) :
    Evolves s₀ (State.runTo s p k) := by
  unfold State.runTo
  grind -lia -ring -linarith -ac -order (ematch := 60) (gen := 60) only [← State.runPort_evolves, ← State.setPort_evolves]

theorem State.runPorts_evolves {s₀ s : State} (h : Evolves s₀ s) :
    Evolves s₀ (State.runPorts s) := by
  unfold State.runPorts
  grind -lia -ring -linarith -ac -order (ematch := 60) (gen := 60) only [← State.runTo_evolves, ← List.foldl_evolves]

theorem confirmedTransition_evolves {s₀ s : State} (h : Evolves s₀ s) (i : PortInput) :
    Evolves s₀ (confirmedTransition i s) := by
  unfold confirmedTransition
  grind -lia -ring -linarith -ac -order (ematch := 60) (gen := 60) only [← State.runTo_evolves, ← State.setPort_evolves, ← List.foldl_evolves]

theorem stateEstablished_evolves {s₀ s : State} (h : Evolves s₀ s) (p : Nat) (lower : Bool) (level : Bool) :
    Evolves s₀ (stateEstablished p lower level s) := by
  unfold stateEstablished
  grind -lia -ring -linarith -ac -order (ematch := 60) (gen := 60) only [← State.runTo_evolves, ← State.setPort_evolves]

theorem holdEnd_evolves {s₀ s : State} (h : Evolves s₀ s) (p : Nat) :
    Evolves s₀ (holdEnd p s) := by
  unfold holdEnd
  grind -lia -ring -linarith -ac -order (ematch := 60) (gen := 60) only [← State.endHold_evolves, ← State.hold_evolves, ← State.runTo_evolves]

theorem thrSettleEnd_evolves {s₀ s : State} (h : Evolves s₀ s) (p : Nat) :
    Evolves s₀ (thrSettleEnd p s) := by
  unfold thrSettleEnd
  grind -lia -ring -linarith -ac -order (ematch := 60) (gen := 60) only [← State.setFd_evolves, ← State.setPort_evolves]

theorem State.finishChk_evolves {s₀ s : State} (h : Evolves s₀ s) (p : Nat) (e : Nat) (result : Nat) (step : Nat) :
    Evolves s₀ (State.finishChk s p e result step) := by
  unfold State.finishChk
  grind -lia -ring -linarith -ac -order (ematch := 60) (gen := 60) only [← State.leaveChk_evolves, ← State.nextChk_evolves, ← State.resumeHandover_evolves, ← State.runTo_evolves, ← State.schedule_evolves, ← State.takeSet_evolves]

theorem selfCheckEnd_evolves {s₀ s : State} (h : Evolves s₀ s) (p : Nat) (o : ChkObs) :
    Evolves s₀ (selfCheckEnd p o s) := by
  unfold selfCheckEnd
  grind -lia -ring -linarith -ac -order (ematch := 60) (gen := 60) only [← State.finishChk_evolves, ← State.raise_evolves]

theorem checkRun_evolves {s₀ s : State} (h : Evolves s₀ s) (p : Nat) :
    Evolves s₀ (checkRun p s) := by
  unfold checkRun
  grind -lia -ring -linarith -ac -order (ematch := 60) (gen := 60) only [← State.chkDue_evolves, ← State.setFd_evolves]

theorem checkAbort_evolves {s₀ s : State} (h : Evolves s₀ s) (p : Nat) :
    Evolves s₀ (checkAbort p s) := by
  unfold checkAbort
  grind -lia -ring -linarith -ac -order (ematch := 60) (gen := 60) only [← State.dropChk_evolves, ← State.setFd_evolves, ← State.setPort_evolves]

theorem scheduledCheck_evolves {s₀ s : State} (h : Evolves s₀ s) (p : Nat) :
    Evolves s₀ (scheduledCheck p s) := by
  unfold scheduledCheck
  grind -lia -ring -linarith -ac -order (ematch := 60) (gen := 60) only [← State.chkDue_evolves]

theorem prtCfgWrite_evolves {s₀ s : State} (h : Evolves s₀ s) (p : Nat) (v : Word) :
    Evolves s₀ (prtCfgWrite p v s) := by
  unfold prtCfgWrite
  grind -lia -ring -linarith -ac -order (ematch := 60) (gen := 60) only [← State.schedule_evolves, ← State.setFd_evolves, ← State.setRg_evolves]

theorem prtWinWrite_evolves {s₀ s : State} (h : Evolves s₀ s) (p : Nat) (v : Word) :
    Evolves s₀ (prtWinWrite p v s) := by
  unfold prtWinWrite
  grind -lia -ring -linarith -ac -order (ematch := 60) (gen := 60) only [← State.schedule_evolves, ← State.setFd_evolves]

theorem prtHystWrite_evolves {s₀ s : State} (h : Evolves s₀ s) (p : Nat) (v : Word) :
    Evolves s₀ (prtHystWrite p v s) := by
  unfold prtHystWrite
  grind -lia -ring -linarith -ac -order (ematch := 60) (gen := 60) only [← State.schedule_evolves, ← State.setFd_evolves]

theorem prtFiltWrite_evolves {s₀ s : State} (h : Evolves s₀ s) (p : Nat) (v : Word) :
    Evolves s₀ (prtFiltWrite p v s) := by
  unfold prtFiltWrite
  grind -lia -ring -linarith -ac -order (ematch := 60) (gen := 60) only [← State.schedule_evolves, ← State.setFd_evolves]

theorem prtPscWrite_evolves {s₀ s : State} (h : Evolves s₀ s) (p : Nat) (v : Word) :
    Evolves s₀ (prtPscWrite p v s) := by
  unfold prtPscWrite
  grind -lia -ring -linarith -ac -order (ematch := 60) (gen := 60) only [← State.schedule_evolves, ← State.setRg_evolves]

theorem vttOverload_evolves {s₀ s : State} (h : Evolves s₀ s) (q : Nat) :
    Evolves s₀ (vttOverload q s) := by
  unfold vttOverload
  grind -lia -ring -linarith -ac -order (ematch := 60) (gen := 60) only [← State.raise_evolves, ← State.setFd_evolves]

theorem vttOverloadClear_evolves {s₀ s : State} (h : Evolves s₀ s) (q : Nat) :
    Evolves s₀ (vttOverloadClear q s) := by
  unfold vttOverloadClear
  grind -lia -ring -linarith -ac -order (ematch := 60) (gen := 60) only [← State.dropLive_evolves, ← State.setFd_evolves]

theorem State.closeLosses_evolves {s₀ s : State} (h : Evolves s₀ s) (i : Nat) :
    Evolves s₀ (State.closeLosses s i) := by
  unfold State.closeLosses
  grind -lia -ring -linarith -ac -order (ematch := 60) (gen := 60) only [← State.closeLoss_evolves, ← List.foldl_evolves]

theorem State.takeHeld_evolves {s₀ s : State} (h : Evolves s₀ s) (i : Nat) (good : Bool) :
    Evolves s₀ (State.takeHeld s i good).1 := by
  unfold State.takeHeld
  grind -lia -ring -linarith -ac -order (ematch := 60) (gen := 60) only [← State.closeLosses_evolves, ← State.setTb_evolves]
grind_pattern State.takeHeld_evolves => Evolves s₀ s, State.takeHeld s i good

theorem State.timeMismatch_evolves {s₀ s : State} (h : Evolves s₀ s) (i : Nat) :
    Evolves s₀ (State.timeMismatch s i) := by
  unfold State.timeMismatch
  grind -lia -ring -linarith -ac -order (ematch := 60) (gen := 60) only [← State.assertOnce_evolves, ← State.incFd_evolves, ← State.raise_evolves, ← State.setFd_evolves]

theorem State.freeBuffers_evolves {s₀ s : State} (h : Evolves s₀ s) (l : Nat) :
    Evolves s₀ (State.freeBuffers s l) := by
  unfold State.freeBuffers
  grind -lia -ring -linarith -ac -order (ematch := 60) (gen := 60) only [← State.setFd_evolves]

theorem timeCheckWord_evolves {s₀ s : State} (h : Evolves s₀ s) (i : Nat) (upset : Int) :
    Evolves s₀ (timeCheckWord i upset s) := by
  unfold timeCheckWord
  grind -lia -ring -linarith -ac -order (ematch := 60) (gen := 60) only [← State.freeBuffers_evolves, usr State.pushPkt_evolves, ← State.pushPkt_evolves, ← State.setTb_evolves, usr State.takeHeld_evolves, ← State.takeHeld_evolves, ← State.timeMismatch_evolves, ← List.foldl_evolves]

end Sys2Proof.Machine
end

