-- ==== Sys2Proof/Laws/EvolvesTasks.lean ====
section
/-! SUPPORT. What the operations of Machine/Tasks.lean may do to a state (`Evolves`): one lemma for each. -/

namespace Sys2Proof.Machine

theorem State.setEng_evolves {s₀ s : State} (h : Evolves s₀ s) (f : Engines → Engines) :
    Evolves s₀ (State.setEng s f) := by
  unfold State.setEng
  grind -lia -ring -linarith -ac -order (ematch := 60) (gen := 60) only [← Evolves.eng]

theorem State.setTask_evolves {s₀ s : State} (h : Evolves s₀ s) (t : Nat) (x : Option Task) :
    Evolves s₀ (State.setTask s t x) := by
  unfold State.setTask
  grind -lia -ring -linarith -ac -order (ematch := 60) (gen := 60) only [← State.setEng_evolves]

theorem State.modTask_evolves {s₀ s : State} (h : Evolves s₀ s) (t : Nat) (f : Task → Task) :
    Evolves s₀ (State.modTask s t f) := by
  unfold State.modTask
  grind -lia -ring -linarith -ac -order (ematch := 60) (gen := 60) only [← State.setTask_evolves]

theorem State.setCtx_evolves {s₀ s : State} (h : Evolves s₀ s) (e : Nat) (x : Nat) (c : Ctx) :
    Evolves s₀ (State.setCtx s e x c) := by
  unfold State.setCtx
  grind -lia -ring -linarith -ac -order (ematch := 60) (gen := 60) only [← State.setEng_evolves]

theorem State.sparesFrom_evolves {s₀ s : State} (h : Evolves s₀ s) (n0 : Nat) :
    Evolves s₀ (State.sparesFrom s n0) := by
  unfold State.sparesFrom
  grind -lia -ring -linarith -ac -order (ematch := 60) (gen := 60) only [← State.dropLive_evolves, ← State.raise_evolves]

theorem State.setEngState_evolves {s₀ s : State} (h : Evolves s₀ s) (e : Nat) (st : Nat) :
    Evolves s₀ (State.setEngState s e st) := by
  unfold State.setEngState
  grind -lia -ring -linarith -ac -order (ematch := 60) (gen := 60) only [← State.assertOnce_evolves, ← State.setFd_evolves, ← State.sparesFrom_evolves]

theorem State.bindQueue_evolves {s₀ s : State} (h : Evolves s₀ s) (q : Nat) (e : Nat) :
    Evolves s₀ (State.bindQueue s q e) := by
  unfold State.bindQueue
  grind -lia -ring -linarith -ac -order (ematch := 60) (gen := 60) only [← State.setFd_evolves]

theorem State.freeSubs_evolves {s₀ s : State} (h : Evolves s₀ s) (subs : List Sub) :
    Evolves s₀ (State.freeSubs s subs) := by
  unfold State.freeSubs
  grind -lia -ring -linarith -ac -order (ematch := 60) (gen := 60) only [← State.setFd_evolves, ← List.foldl_evolves]

theorem State.openStreams_evolves {s₀ s : State} (h : Evolves s₀ s) (subs : List Sub) :
    Evolves s₀ (State.openStreams s subs) := by
  unfold State.openStreams
  grind -lia -ring -linarith -ac -order (ematch := 60) (gen := 60) only [usr State.pushPkt_evolves, ← State.pushPkt_evolves, ← List.foldl_evolves]

theorem State.bindSubs_evolves {s₀ s : State} (h : Evolves s₀ s) (subs : List Sub) (e : Nat) :
    Evolves s₀ (State.bindSubs s subs e) := by
  unfold State.bindSubs
  grind -lia -ring -linarith -ac -order (ematch := 60) (gen := 60) only [← State.bindQueue_evolves, ← List.foldl_evolves]

theorem State.install_evolves {s₀ s : State} (h : Evolves s₀ s) (d : List Word) (subs : List Sub) (outq : Nat) (e : Nat) (x : Nat) (startAt : Nat) (spill : Nat × Nat) :
    Evolves s₀ (State.install s d subs outq e x startAt spill) := by
  unfold State.install
  grind -lia -ring -linarith -ac -order (ematch := 60) (gen := 60) only [← State.bindSubs_evolves, ← State.openStreams_evolves, ← State.setCtx_evolves, ← State.setFd_evolves, ← State.setTask_evolves]

theorem State.placeTask_evolves {s₀ s : State} (h : Evolves s₀ s) (d : List Word) (named : List Nat) (outq : Nat) (point : Nat) (avoid : Option Nat) :
    Evolves s₀ (State.placeTask s d named outq point avoid).2 := by
  unfold State.placeTask
  dsimp only
  repeat' split
  all_goals first | exact h | exact State.install_evolves h ..
grind_pattern State.placeTask_evolves => Evolves s₀ s, State.placeTask s d named outq point avoid

end Sys2Proof.Machine
end

