-- ==== Sys2Proof/Laws/EvolvesMoves.lean ====
section
/-! SUPPORT. What the operations of Machine/Moves.lean may do to a state (`Evolves`): one lemma for each. -/

namespace Sys2Proof.Machine

theorem State.setMove_evolves {s₀ s : State} (h : Evolves s₀ s) (e : Nat) (m : Option Move) :
    Evolves s₀ (State.setMove s e m) := by
  unfold State.setMove
  grind -lia -ring -linarith -ac -order (ematch := 60) (gen := 60) only [← State.setEng_evolves]

theorem State.setLoad_evolves {s₀ s : State} (h : Evolves s₀ s) (e : Nat) (l : Option (LoadWhy × Nat)) :
    Evolves s₀ (State.setLoad s e l) := by
  unfold State.setLoad
  grind -lia -ring -linarith -ac -order (ematch := 60) (gen := 60) only [← State.setEng_evolves]

theorem State.startLoad_evolves {s₀ s : State} (h : Evolves s₀ s) (e : Nat) (why : LoadWhy) :
    Evolves s₀ (State.startLoad s e why) := by
  unfold State.startLoad
  grind -lia -ring -linarith -ac -order (ematch := 60) (gen := 60) only [← State.setEngState_evolves, ← State.setLoad_evolves]

theorem State.showMove_evolves {s₀ s : State} (h : Evolves s₀ s) (tgt : Nat) :
    Evolves s₀ (State.showMove s tgt) := by
  unfold State.showMove
  grind -lia -ring -linarith -ac -order (ematch := 60) (gen := 60) only [← State.setRg_evolves]

theorem State.engCmdEnd_evolves {s₀ s : State} (h : Evolves s₀ s) (c : EngCmd) (result : Nat) :
    Evolves s₀ (State.engCmdEnd s c result) := by
  unfold State.engCmdEnd
  grind -lia -ring -linarith -ac -order (ematch := 60) (gen := 60) only [← State.assertOnce_evolves, ← State.setFd_evolves, ← List.foldl_evolves]

theorem State.engCmdTaken_evolves {s₀ s : State} (h : Evolves s₀ s) (op : Nat) :
    Evolves s₀ (State.engCmdTaken s op) := by
  unfold State.engCmdTaken
  grind -lia -ring -linarith -ac -order (ematch := 60) (gen := 60) only [← State.incFd_evolves, ← State.setEng_evolves, ← State.setFd_evolves]

theorem State.moveEnd_evolves {s₀ s : State} (h : Evolves s₀ s) (m : Move) (result : Nat) :
    Evolves s₀ (State.moveEnd s m result) := by
  unfold State.moveEnd
  grind -lia -ring -linarith -ac -order (ematch := 60) (gen := 60) only [← State.engCmdEnd_evolves]

theorem State.markMoving_evolves {s₀ s : State} (h : Evolves s₀ s) (ts : List Nat) (b : Bool) :
    Evolves s₀ (State.markMoving s ts b) := by
  unfold State.markMoving
  grind -lia -ring -linarith -ac -order (ematch := 60) (gen := 60) only [← State.setCtx_evolves, ← State.setTask_evolves, ← List.foldl_evolves]

theorem State.retryLater_evolves {s₀ s : State} (h : Evolves s₀ s) (src : Nat) (tries : Nat) :
    Evolves s₀ (State.retryLater s src tries) := by
  unfold State.retryLater
  grind -lia -ring -linarith -ac -order (ematch := 60) (gen := 60) only [← State.raise_evolves, ← State.setEng_evolves]

theorem State.abandonMove_evolves {s₀ s : State} (h : Evolves s₀ s) (tgt : Nat) :
    Evolves s₀ (State.abandonMove s tgt) := by
  unfold State.abandonMove
  grind -lia -ring -linarith -ac -order (ematch := 60) (gen := 60) only [← State.markMoving_evolves, ← State.moveEnd_evolves, ← State.retryLater_evolves, ← State.setEngState_evolves, ← State.setLoad_evolves, ← State.setMove_evolves, ← State.showMove_evolves]

theorem State.abandonAll_evolves {s₀ s : State} (h : Evolves s₀ s) :
    Evolves s₀ (State.abandonAll s) := by
  unfold State.abandonAll
  grind -lia -ring -linarith -ac -order (ematch := 60) (gen := 60) only [← State.abandonMove_evolves, ← List.foldl_evolves]

theorem State.freeTask_evolves {s₀ s : State} (h : Evolves s₀ s) (t : Nat) :
    Evolves s₀ (State.freeTask s t) := by
  unfold State.freeTask
  grind -lia -ring -linarith -ac -order (ematch := 60) (gen := 60) only [← State.freeSubs_evolves, ← State.setCtx_evolves, ← State.setFd_evolves, ← State.setTask_evolves]

theorem State.dropMovesOf_evolves {s₀ s : State} (h : Evolves s₀ s) (t : Nat) :
    Evolves s₀ (State.dropMovesOf s t) := by
  unfold State.dropMovesOf
  grind -lia -ring -linarith -ac -order (ematch := 60) (gen := 60) only [← State.abandonMove_evolves, ← State.setMove_evolves, ← State.showMove_evolves, ← List.foldl_evolves]

theorem State.abortCtx_evolves {s₀ s : State} (h : Evolves s₀ s) (e : Nat) (x : Nat) (dmem : Bool) :
    Evolves s₀ (State.abortCtx s e x dmem) := by
  unfold State.abortCtx
  grind -lia -ring -linarith -ac -order (ematch := 60) (gen := 60) only [← State.assertOnce_evolves, ← State.dropMovesOf_evolves, ← State.freeTask_evolves, ← State.raise_evolves, ← State.rewindQ_evolves, ← State.setCtx_evolves, ← State.setEng_evolves]

theorem State.shadowCopy_evolves {s₀ s : State} (h : Evolves s₀ s) (t : Nat) (time : Nat) (rs : List Rec) :
    Evolves s₀ (State.shadowCopy s t time rs) := by
  unfold State.shadowCopy
  grind -lia -ring -linarith -ac -order (ematch := 60) (gen := 60) only [← State.abandonMove_evolves, ← State.raise_evolves, ← State.setMove_evolves, ← State.showMove_evolves, ← List.foldl_evolves]

end Sys2Proof.Machine
end

