-- ==== Sys2Proof/Laws/EvolvesMeasure.lean ====
section
/-! SUPPORT. What the operations of Machine/Measure.lean may do to a state (`Evolves`): one lemma for each. -/

namespace Sys2Proof.Machine

theorem State.pipFeed_evolves {s₀ s : State} (h : Evolves s₀ s) (kinds : List Nat) (sel : Nat) (e : PItem) :
    Evolves s₀ (State.pipFeed s kinds sel e) := by
  unfold State.pipFeed
  grind -lia -ring -linarith -ac -order (ematch := 60) (gen := 60) only [← Evolves.trg]

theorem State.resultTap_evolves {s₀ s : State} (h : Evolves s₀ s) (t : Nat) (rs : List Rec) :
    Evolves s₀ (State.resultTap s t rs) := by
  unfold State.resultTap
  grind -lia -ring -linarith -ac -order (ematch := 60) (gen := 60) only [← State.pipFeed_evolves]

theorem State.taskOut_evolves {s₀ s : State} (h : Evolves s₀ s) (k : Task) (t : Nat) (rs : List Rec) :
    Evolves s₀ (State.taskOut s k t rs) := by
  unfold State.taskOut
  grind -lia -ring -linarith -ac -order (ematch := 60) (gen := 60) only [usr State.pushPkt_evolves, ← State.pushPkt_evolves, ← State.resultTap_evolves]

theorem State.eachPkt_evolves {s₀ s : State} (h : Evolves s₀ s) (k : Task) (t : Nat) (m : Meas) (v : Mv) (x : Int) (stampT : Nat) :
    Evolves s₀ (State.eachPkt s k t m v x stampT) := by
  unfold State.eachPkt
  grind -lia -ring -linarith -ac -order (ematch := 60) (gen := 60) only [← State.taskOut_evolves]

theorem State.takeMv_evolves {s₀ s : State} (h : Evolves s₀ s) (k : Task) (t : Nat) (m : Meas) (v : Mv) (stampT : Nat) :
    Evolves s₀ (State.takeMv s k t m v stampT).1 := by
  unfold State.takeMv
  grind -lia -ring -linarith -ac -order (ematch := 60) (gen := 60) only [← State.eachPkt_evolves]
grind_pattern State.takeMv_evolves => Evolves s₀ s, State.takeMv s k t m v stampT

theorem State.closeGateFn_evolves {s₀ s : State} (h : Evolves s₀ s) (k : Task) (t : Nat) (m : Meas) (e : Nat) (fl : Nat) (xfl : Nat) :
    Evolves s₀ (State.closeGateFn s k t m e fl xfl) := by
  unfold State.closeGateFn
  grind -lia -ring -linarith -ac -order (ematch := 60) (gen := 60) only [usr State.free_evolves, ← State.free_evolves, ← State.taskOut_evolves]

theorem State.closeMeasurand_evolves {s₀ s : State} (h : Evolves s₀ s) (k : Task) (t : Nat) (m : Meas) (e : Nat) (fl : Nat) (xfl : Nat) :
    Evolves s₀ (State.closeMeasurand s k t m e fl xfl) := by
  rw [State.closeMeasurand]
  try dsimp only
  repeat' first
    | with_reducible assumption | with_reducible apply State.takeMv_evolves | with_reducible apply State.taskOut_evolves | with_reducible apply Evolves.ite | with_reducible apply Evolves.ite_fst
    | with_reducible apply List.foldl_evolves | with_reducible apply List.foldl_evolves_fst
    | intro _ _ _ | dsimp only | (split <;> try (rename_i hq; obtain ⟨rfl, rfl⟩ := Prod.eq_parts hq))

theorem State.octave_evolves {s₀ s : State} (h : Evolves s₀ s) (a : Nat) (j : Nat) (u : List Int) (big : Nat) :
    Evolves s₀ (State.octave s a j u big).1 := by
  unfold State.octave
  grind -lia -ring -linarith -ac -order (ematch := 60) (gen := 60) only [usr State.free_evolves, ← State.free_evolves]
grind_pattern State.octave_evolves => Evolves s₀ s, State.octave s a j u big

theorem State.octaves_evolves {s₀ s : State} (h : Evolves s₀ s) (a : Nat) (u : List Int) (big : Nat) (x0 : Nat) (x1 : Nat) :
    Evolves s₀ (State.octaves s a u big x0 x1).1 := by
  induction x1 generalizing s x0 with
  | zero => unfold State.octaves; grind -lia -ring -linarith -ac -order (ematch := 60) (gen := 60) only [usr State.octave_evolves, ← State.octave_evolves]
  | succ n ih => unfold State.octaves; grind -lia -ring -linarith -ac -order (ematch := 60) (gen := 60) only [usr State.octave_evolves, ← State.octave_evolves]
grind_pattern State.octaves_evolves => Evolves s₀ s, State.octaves s a u big x0 x1

theorem State.adevPkt_evolves {s₀ s : State} (h : Evolves s₀ s) (k : Task) (t : Nat) (m : Meas) :
    Evolves s₀ (State.adevPkt s k t m) := by
  unfold State.adevPkt
  grind -lia -ring -linarith -ac -order (ematch := 60) (gen := 60) only [usr State.octaves_evolves, ← State.octaves_evolves, ← State.taskOut_evolves]

theorem State.endRun_evolves {s₀ s : State} (h : Evolves s₀ s) (k : Task) (t : Nat) (m : Meas) :
    Evolves s₀ (State.endRun s k t m).1 := by
  unfold State.endRun
  grind -lia -ring -linarith -ac -order (ematch := 60) (gen := 60) only [← State.adevPkt_evolves]
grind_pattern State.endRun_evolves => Evolves s₀ s, State.endRun s k t m

theorem State.putU_evolves {s₀ s : State} (h : Evolves s₀ s) (k : Task) (d : List Word) (i : Nat) (x : Int) :
    Evolves s₀ (State.putU s k d i x) := by
  unfold State.putU
  grind -lia -ring -linarith -ac -order (ematch := 60) (gen := 60) only [usr State.free_evolves, ← State.free_evolves, ← Evolves.dram]

theorem State.closeAdev_evolves {s₀ s : State} (h : Evolves s₀ s) (k : Task) (t : Nat) (m : Meas) (e : Nat) (fl : Nat) (xfl : Nat) :
    Evolves s₀ (State.closeAdev s k t m e fl xfl).1 := by
  rw [State.closeAdev]
  try dsimp only
  repeat' first
    | with_reducible assumption | with_reducible apply State.adevPkt_evolves | with_reducible apply State.endRun_evolves | with_reducible apply State.free_evolves | with_reducible apply State.putU_evolves | with_reducible apply Evolves.ite | with_reducible apply Evolves.ite_fst
    | with_reducible apply List.foldl_evolves | with_reducible apply List.foldl_evolves_fst
    | intro _ _ _ | dsimp only | (split <;> try (rename_i hq; obtain ⟨rfl, rfl⟩ := Prod.eq_parts hq))
grind_pattern State.closeAdev_evolves => Evolves s₀ s, State.closeAdev s k t m e fl xfl

theorem State.auditLane_evolves {s₀ s : State} (h : Evolves s₀ s) (t : Nat) (m : Meas) (before : Nat) (after : Nat) (ln : Nat) :
    Evolves s₀ (State.auditLane s t m before after ln).1 := by
  unfold State.auditLane
  grind -lia -ring -linarith -ac -order (ematch := 60) (gen := 60) only [← State.addSat_evolves, ← State.incFd_evolves, ← State.latchSlots_evolves, ← State.raise_evolves]
grind_pattern State.auditLane_evolves => Evolves s₀ s, State.auditLane s t m before after ln

theorem State.auditGate_evolves {s₀ s : State} (h : Evolves s₀ s) (t : Nat) (m : Meas) (now : Tab (Option Nat)) :
    Evolves s₀ (State.auditGate s t m now).1 := by
  rw [State.auditGate]
  try dsimp only
  repeat' first
    | with_reducible assumption | with_reducible apply State.auditLane_evolves | with_reducible apply Evolves.ite | with_reducible apply Evolves.ite_fst
    | with_reducible apply List.foldl_evolves | with_reducible apply List.foldl_evolves_fst
    | intro _ _ _ | dsimp only | (split <;> try (rename_i hq; obtain ⟨rfl, rfl⟩ := Prod.eq_parts hq))
grind_pattern State.auditGate_evolves => Evolves s₀ s, State.auditGate s t m now

theorem State.bridgeTally_evolves {s₀ s : State} (h : Evolves s₀ s) (m : Meas) :
    Evolves s₀ (State.bridgeTally s m).1 := by
  unfold State.bridgeTally
  grind -lia -ring -linarith -ac -order (ematch := 60) (gen := 60) only [← State.latchSlots_evolves, ← List.foldl_evolves]
grind_pattern State.bridgeTally_evolves => Evolves s₀ s, State.bridgeTally s m

theorem State.closeTally_evolves {s₀ s : State} (h : Evolves s₀ s) (k : Task) (t : Nat) (m : Meas) (e : Nat) (fl : Nat) (xfl : Nat) (aud : Bool) :
    Evolves s₀ (State.closeTally s k t m e fl xfl aud).1 := by
  unfold State.closeTally
  grind -lia -ring -linarith -ac -order (ematch := 60) (gen := 60) only [usr State.bridgeTally_evolves, ← State.bridgeTally_evolves, ← State.raise_evolves, ← State.setFd_evolves, ← State.setNTotal_evolves, ← State.setRg_evolves, ← State.taskOut_evolves]
grind_pattern State.closeTally_evolves => Evolves s₀ s, State.closeTally s k t m e fl xfl aud

theorem State.closeGate_evolves {s₀ s : State} (h : Evolves s₀ s) (k : Task) (t : Nat) (m : Meas) (e : Nat) (fl : Nat) (xfl : Nat) (now : Tab (Option Nat)) :
    Evolves s₀ (State.closeGate s k t m e fl xfl now).1 := by
  unfold State.closeGate
  grind -lia -ring -linarith -ac -order (ematch := 60) (gen := 60) only [usr State.auditGate_evolves, ← State.auditGate_evolves, usr State.closeAdev_evolves, ← State.closeAdev_evolves, ← State.closeGateFn_evolves, ← State.closeMeasurand_evolves, usr State.closeTally_evolves, ← State.closeTally_evolves]
grind_pattern State.closeGate_evolves => Evolves s₀ s, State.closeGate s k t m e fl xfl now

end Sys2Proof.Machine
end

