-- ==== Sys2Proof/Laws/EvolvesGates.lean ====
section
/-! SUPPORT. What the operations of Machine/Gates.lean may do to a state (`Evolves`): one lemma for each. -/

namespace Sys2Proof.Machine

theorem State.placeMark_evolves {s₀ s : State} (h : Evolves s₀ s) (q : Nat) (c : Nat) (t : Nat) :
    Evolves s₀ (State.placeMark s q c t) := by
  unfold State.placeMark
  grind -lia -ring -linarith -ac -order (ematch := 60) (gen := 60) only [← State.setQueue_evolves]

theorem State.deliverMarks_evolves {s₀ s : State} (h : Evolves s₀ s) (t : Nat) (time : Nat) (start : Bool) (subs : List Sub) :
    Evolves s₀ (State.deliverMarks s t time start subs) := by
  unfold State.deliverMarks
  grind -lia -ring -linarith -ac -order (ematch := 60) (gen := 60) only [← State.modTask_evolves, ← State.placeMark_evolves, usr State.pushPkt_evolves, ← State.pushPkt_evolves, ← State.shadowCopy_evolves, ← List.foldl_evolves]

theorem State.applyStep_evolves {s₀ s : State} (h : Evolves s₀ s) (t : Nat) (k : Task) (g : GStep) :
    Evolves s₀ (State.applyStep s t k g) := by
  unfold State.applyStep
  grind -lia -ring -linarith -ac -order (ematch := 60) (gen := 60) only [← State.deliverMarks_evolves, ← State.setTask_evolves]

theorem State.runSteps_evolves {s₀ s : State} (h : Evolves s₀ s) (t : Nat) (lim : Nat) (stopAt : GStep → Bool) (x0 : Nat) :
    Evolves s₀ (State.runSteps t lim stopAt x0 s) := by
  induction x0 generalizing s with
  | zero => unfold State.runSteps; grind -lia -ring -linarith -ac -order (ematch := 60) (gen := 60) only [← State.applyStep_evolves]
  | succ n ih => unfold State.runSteps; grind -lia -ring -linarith -ac -order (ematch := 60) (gen := 60) only [← State.applyStep_evolves]

theorem State.portTake_evolves {s₀ s : State} (h : Evolves s₀ s) (q : Nat) (r : Rec) :
    Evolves s₀ (State.portTake s q r) := by
  unfold State.portTake
  grind -lia -ring -linarith -ac -order (ematch := 60) (gen := 60) only [← State.addSat_evolves, ← State.setTask_evolves, ← List.foldl_evolves]

theorem State.drainQ_evolves {s₀ s : State} (h : Evolves s₀ s) (q : Nat) (x0 : Nat) :
    Evolves s₀ (State.drainQ q x0 s) := by
  induction x0 generalizing s with
  | zero => unfold State.drainQ; grind -lia -ring -linarith -ac -order (ematch := 60) (gen := 60) only [usr State.popOnce_evolves, ← State.popOnce_evolves, ← State.portTake_evolves]
  | succ n ih => unfold State.drainQ; grind -lia -ring -linarith -ac -order (ematch := 60) (gen := 60) only [usr State.popOnce_evolves, ← State.popOnce_evolves, ← State.portTake_evolves]

theorem State.drainTask_evolves {s₀ s : State} (h : Evolves s₀ s) (t : Nat) :
    Evolves s₀ (State.drainTask s t) := by
  unfold State.drainTask
  grind -lia -ring -linarith -ac -order (ematch := 60) (gen := 60) only [← State.drainQ_evolves, ← List.foldl_evolves]

theorem State.cutNative_evolves {s₀ s : State} (h : Evolves s₀ s) (t : Nat) (m : Meas) (time : Nat) :
    Evolves s₀ (State.cutNative s t m time).1 := by
  unfold State.cutNative
  grind -lia -ring -linarith -ac -order (ematch := 60) (gen := 60) only [usr State.closeGate_evolves, ← State.closeGate_evolves, ← State.modTask_evolves]
grind_pattern State.cutNative_evolves => Evolves s₀ s, State.cutNative s t m time

theorem State.takeEv_evolves {s₀ s : State} (h : Evolves s₀ s) (t : Nat) (m : Meas) (e : MEv) :
    Evolves s₀ (State.takeEv s t m e).1 := by
  rw [State.takeEv]
  try dsimp only
  repeat' first
    | with_reducible assumption | with_reducible apply State.cutNative_evolves | with_reducible apply State.takeMv_evolves | with_reducible apply Evolves.ite | with_reducible apply Evolves.ite_fst
    | with_reducible apply List.foldl_evolves | with_reducible apply List.foldl_evolves_fst
    | intro _ _ _ | dsimp only | (split <;> try (rename_i hq; obtain ⟨rfl, rfl⟩ := Prod.eq_parts hq))
grind_pattern State.takeEv_evolves => Evolves s₀ s, State.takeEv s t m e

theorem State.procEdge_evolves {s₀ s : State} (h : Evolves s₀ s) (t : Nat) (m : Meas) (p : PortRec) (r : Rec) :
    Evolves s₀ (State.procEdge s t m p r).1 := by
  unfold State.procEdge
  grind -lia -ring -linarith -ac -order (ematch := 60) (gen := 60) only [usr State.takeEv_evolves, ← State.takeEv_evolves]
grind_pattern State.procEdge_evolves => Evolves s₀ s, State.procEdge s t m p r

theorem State.countLoss_evolves {s₀ s : State} (h : Evolves s₀ s) (t : Nat) (m : Meas) (p : PortRec) (h : Rec) (parts : List (Nat × Nat)) :
    Evolves s₀ (State.countLoss s t m p h parts).1 := by
  rw [State.countLoss]
  try dsimp only
  repeat' first
    | with_reducible assumption | with_reducible apply State.takeEv_evolves | with_reducible apply Evolves.ite | with_reducible apply Evolves.ite_fst
    | with_reducible apply List.foldl_evolves | with_reducible apply List.foldl_evolves_fst
    | intro _ _ _ | dsimp only | (split <;> try (rename_i hq; obtain ⟨rfl, rfl⟩ := Prod.eq_parts hq))
grind_pattern State.countLoss_evolves => Evolves s₀ s, State.countLoss s t m p h parts

theorem State.procLoss_evolves {s₀ s : State} (h : Evolves s₀ s) (t : Nat) (m : Meas) (p : PortRec) (h : Rec) (after : Nat) :
    Evolves s₀ (State.procLoss s t m p h after).1 := by
  rw [State.procLoss]
  try dsimp only
  repeat' first
    | with_reducible assumption | with_reducible apply State.countLoss_evolves | with_reducible apply Evolves.ite | with_reducible apply Evolves.ite_fst
    | with_reducible apply List.foldl_evolves | with_reducible apply List.foldl_evolves_fst
    | intro _ _ _ | dsimp only | (split <;> try (rename_i hq; obtain ⟨rfl, rfl⟩ := Prod.eq_parts hq))
grind_pattern State.procLoss_evolves => Evolves s₀ s, State.procLoss s t m p h after

theorem State.procQ_evolves {s₀ s : State} (h : Evolves s₀ s) (t : Nat) (final : Bool) (x0 : Nat) (x1 : List (PortRec × Nat)) (x3 : Meas) :
    Evolves s₀ (State.procQ t final x0 x1 s x3).1 := by
  induction x0 generalizing s x1 x3 with
  | zero => unfold State.procQ; grind -lia -ring -linarith -ac -order (ematch := 60) (gen := 60) only [usr State.countLoss_evolves, ← State.countLoss_evolves, usr State.procEdge_evolves, ← State.procEdge_evolves, usr State.procLoss_evolves, ← State.procLoss_evolves]
  | succ n ih => unfold State.procQ; grind -lia -ring -linarith -ac -order (ematch := 60) (gen := 60) only [usr State.countLoss_evolves, ← State.countLoss_evolves, usr State.procEdge_evolves, ← State.procEdge_evolves, usr State.procLoss_evolves, ← State.procLoss_evolves]
grind_pattern State.procQ_evolves => Evolves s₀ s, State.procQ t final x0 x1 s x3

theorem State.switchPkt_evolves {s₀ s : State} (h : Evolves s₀ s) (k : Task) (t : Nat) (time : Nat) (tag : Nat) (d : List Word) :
    Evolves s₀ (State.switchPkt s k t time tag d) := by
  unfold State.switchPkt
  grind -lia -ring -linarith -ac -order (ematch := 60) (gen := 60) only [usr State.pushPkt_evolves, ← State.pushPkt_evolves]

theorem State.rebindTask_evolves {s₀ s : State} (h : Evolves s₀ s) (t : Nat) (old : List Word) (d : List Word) :
    Evolves s₀ (State.rebindTask s t old d) := by
  unfold State.rebindTask
  grind -lia -ring -linarith -ac -order (ematch := 60) (gen := 60) only [← State.freeSubs_evolves, ← State.setFd_evolves, ← State.setTask_evolves]

theorem State.retally_evolves {s₀ s : State} (h : Evolves s₀ s) (d : List Word) (tly : Option (Nat × Nat)) :
    Evolves s₀ (State.retally s d tly) := by
  unfold State.retally
  grind -lia -ring -linarith -ac -order (ematch := 60) (gen := 60) only [← State.setPair_evolves, ← State.setRg_evolves]

theorem State.bootCarry_evolves {s₀ s : State} (h : Evolves s₀ s) (d : List Word) (y : TallySt) :
    Evolves s₀ (State.bootCarry s d y).1 := by
  unfold State.bootCarry
  grind -lia -ring -linarith -ac -order (ematch := 60) (gen := 60) only [← Evolves.ldg, ← List.foldl_evolves]
grind_pattern State.bootCarry_evolves => Evolves s₀ s, State.bootCarry s d y

theorem State.takeSwitch_evolves {s₀ s : State} (h : Evolves s₀ s) (k : Task) (t : Nat) (b : Bound) (m : Meas) :
    Evolves s₀ (State.takeSwitch s k t b m).1 := by
  unfold State.takeSwitch
  grind -lia -ring -linarith -ac -order (ematch := 60) (gen := 60) only [usr State.endRun_evolves, ← State.endRun_evolves, ← State.rebindTask_evolves, ← State.retally_evolves, ← State.switchPkt_evolves]
grind_pattern State.takeSwitch_evolves => Evolves s₀ s, State.takeSwitch s k t b m

theorem State.applyBound_evolves {s₀ s : State} (h : Evolves s₀ s) (t : Nat) (b : Bound) :
    Evolves s₀ (State.applyBound s t b) := by
  rw [State.applyBound]
  try dsimp only
  repeat' first
    | with_reducible assumption | with_reducible apply State.bootCarry_evolves | with_reducible apply State.closeGate_evolves | with_reducible apply State.dropMovesOf_evolves | with_reducible apply State.endRun_evolves | with_reducible apply State.freeTask_evolves | with_reducible apply State.modTask_evolves | with_reducible apply State.procQ_evolves | with_reducible apply State.takeSwitch_evolves | with_reducible apply Evolves.ite | with_reducible apply Evolves.ite_fst
    | with_reducible apply List.foldl_evolves | with_reducible apply List.foldl_evolves_fst
    | intro _ _ _ | dsimp only | (split <;> try (rename_i hq; obtain ⟨rfl, rfl⟩ := Prod.eq_parts hq))

theorem State.takeBounds_evolves {s₀ s : State} (h : Evolves s₀ s) (t : Nat) (lim : Nat) (x0 : Nat) :
    Evolves s₀ (State.takeBounds t lim x0 s) := by
  induction x0 generalizing s with
  | zero => unfold State.takeBounds; grind -lia -ring -linarith -ac -order (ematch := 60) (gen := 60) only [← State.applyBound_evolves, ← State.setTask_evolves]
  | succ n ih => unfold State.takeBounds; grind -lia -ring -linarith -ac -order (ematch := 60) (gen := 60) only [← State.applyBound_evolves, ← State.setTask_evolves]

theorem State.releaseMark_evolves {s₀ s : State} (h : Evolves s₀ s) (t : Nat) (p : PortRec) :
    Evolves s₀ (State.releaseMark s t p) := by
  unfold State.releaseMark
  grind -lia -ring -linarith -ac -order (ematch := 60) (gen := 60) only [← State.setTask_evolves, ← State.takeBounds_evolves]

theorem State.nextEntry_evolves {s₀ s : State} (h : Evolves s₀ s) (t : Nat) :
    Evolves s₀ (State.nextEntry s t).1 := by
  unfold State.nextEntry
  grind -lia -ring -linarith -ac -order (ematch := 60) (gen := 60) only [← State.drainTask_evolves, ← State.runSteps_evolves, ← State.setTask_evolves]
grind_pattern State.nextEntry_evolves => Evolves s₀ s, State.nextEntry s t

theorem State.releaseNative_evolves {s₀ s : State} (h : Evolves s₀ s) (t : Nat) (p : PortRec) :
    Evolves s₀ (State.releaseNative s t p) := by
  unfold State.releaseNative
  grind -lia -ring -linarith -ac -order (ematch := 60) (gen := 60) only [← State.modTask_evolves, usr State.procQ_evolves, ← State.procQ_evolves, ← State.releaseMark_evolves, ← State.takeBounds_evolves]

theorem State.releaseProgram_evolves {s₀ s : State} (h : Evolves s₀ s) (e : Nat) (x : Nat) (t : Nat) :
    Evolves s₀ (State.releaseProgram s e x t) := by
  unfold State.releaseProgram
  grind -lia -ring -linarith -ac -order (ematch := 60) (gen := 60) only [usr State.nextEntry_evolves, ← State.nextEntry_evolves, ← State.releaseMark_evolves, ← State.setCtx_evolves, ← State.takeBounds_evolves]

theorem eventRelease_evolves {s₀ s : State} (h : Evolves s₀ s) (e : Nat) (x : Nat) :
    Evolves s₀ (eventRelease e x s) := by
  unfold eventRelease
  grind -lia -ring -linarith -ac -order (ematch := 60) (gen := 60) only [usr State.nextEntry_evolves, ← State.nextEntry_evolves, ← State.releaseNative_evolves, ← State.releaseProgram_evolves]

theorem gateClose_evolves {s₀ s : State} (h : Evolves s₀ s) (t : Nat) :
    Evolves s₀ (gateClose t s) := by
  unfold gateClose
  grind -lia -ring -linarith -ac -order (ematch := 60) (gen := 60) only [← State.runSteps_evolves]

theorem switchTakeEffect_evolves {s₀ s : State} (h : Evolves s₀ s) (t : Nat) (tly : Option (Nat × Nat)) :
    Evolves s₀ (switchTakeEffect t tly s) := by
  unfold switchTakeEffect
  grind -lia -ring -linarith -ac -order (ematch := 60) (gen := 60) only [← State.runSteps_evolves, ← State.setTask_evolves]

theorem taskStartPoint_evolves {s₀ s : State} (h : Evolves s₀ s) (t : Nat) :
    Evolves s₀ (taskStartPoint t s) := by
  unfold taskStartPoint
  grind -lia -ring -linarith -ac -order (ematch := 60) (gen := 60) only [← State.begin_evolves, usr State.pushPkt_evolves, ← State.pushPkt_evolves, ← State.setTask_evolves]

end Sys2Proof.Machine
end

