-- ==== Sys2Proof/Laws/EvolvesDecim.lean ====
section
/-! SUPPORT. What the operations of Machine/Decim.lean may do to a state (`Evolves`): one lemma for each. -/

namespace Sys2Proof.Machine

theorem State.setDec_evolves {s₀ s : State} (h : Evolves s₀ s) (f : Decim → Decim) :
    Evolves s₀ (State.setDec s f) := by
  unfold State.setDec
  grind -lia -ring -linarith -ac -order (ematch := 60) (gen := 60) only [← Evolves.dec]

theorem State.setDctx_evolves {s₀ s : State} (h : Evolves s₀ s) (n : Nat) (c : DecCtx) :
    Evolves s₀ (State.setDctx s n c) := by
  unfold State.setDctx
  grind -lia -ring -linarith -ac -order (ematch := 60) (gen := 60) only [← State.setDec_evolves]

theorem State.loadPreset_evolves {s₀ s : State} (h : Evolves s₀ s) (n : Nat) :
    Evolves s₀ (State.loadPreset s n) := by
  unfold State.loadPreset
  grind -lia -ring -linarith -ac -order (ematch := 60) (gen := 60) only [← State.setFd_evolves]

theorem State.coefErr_evolves {s₀ s : State} (h : Evolves s₀ s) (f : Fld) (b : Nat) :
    Evolves s₀ (State.coefErr s f b) := by
  unfold State.coefErr
  grind -lia -ring -linarith -ac -order (ematch := 60) (gen := 60) only [← State.assertOnce_evolves, ← State.setFd_evolves]

theorem State.coefGuard_evolves {s₀ s : State} (h : Evolves s₀ s) (b : Nat) (write : State → State) (write_h : ∀ u, Evolves s₀ u → Evolves s₀ (write u)) :
    Evolves s₀ (State.coefGuard s b write) := by
  unfold State.coefGuard
  grind -lia -ring -linarith -ac -order (ematch := 60) (gen := 60) only [← State.coefErr_evolves]

theorem decCoefDataAccess_evolves {s₀ s : State} (h : Evolves s₀ s) (write : Option Word) :
    Evolves s₀ (decCoefDataAccess write s) := by
  unfold decCoefDataAccess
  grind -lia -ring -linarith -ac -order (ematch := 60) (gen := 60) only [← State.coefGuard_evolves, ← State.incFd_evolves, ← State.setDec_evolves]

theorem decCoefHdrWrite_evolves {s₀ s : State} (h : Evolves s₀ s) (w : Word) :
    Evolves s₀ (decCoefHdrWrite w s) := by
  unfold decCoefHdrWrite
  grind -lia -ring -linarith -ac -order (ematch := 60) (gen := 60) only [← State.coefGuard_evolves, ← State.setDec_evolves]

theorem State.decOut_evolves {s₀ s : State} (h : Evolves s₀ s) (n : Nat) (c : DecCtx) (rs : List Rec) :
    Evolves s₀ (State.decOut s n c rs) := by
  unfold State.decOut
  grind -lia -ring -linarith -ac -order (ematch := 60) (gen := 60) only [usr State.pushPkt_evolves, ← State.pushPkt_evolves]

theorem State.closeSamples_evolves {s₀ s : State} (h : Evolves s₀ s) (n : Nat) (c : DecCtx) :
    Evolves s₀ (State.closeSamples s n c).1 := by
  unfold State.closeSamples
  grind -lia -ring -linarith -ac -order (ematch := 60) (gen := 60) only [← State.decOut_evolves]
grind_pattern State.closeSamples_evolves => Evolves s₀ s, State.closeSamples s n c

theorem State.addSample_evolves {s₀ s : State} (h : Evolves s₀ s) (n : Nat) (c : DecCtx) (t : Nat) (flags : Nat) (w : Word) :
    Evolves s₀ (State.addSample s n c t flags w).1 := by
  unfold State.addSample
  grind -lia -ring -linarith -ac -order (ematch := 60) (gen := 60) only [usr State.closeSamples_evolves, ← State.closeSamples_evolves]
grind_pattern State.addSample_evolves => Evolves s₀ s, State.addSample s n c t flags w

theorem State.settleRec_evolves {s₀ s : State} (h : Evolves s₀ s) (n : Nat) (c : DecCtx) :
    Evolves s₀ (State.settleRec s n c).1 := by
  unfold State.settleRec
  grind -lia -ring -linarith -ac -order (ematch := 60) (gen := 60) only [← State.decOut_evolves, ← State.setFd_evolves]
grind_pattern State.settleRec_evolves => Evolves s₀ s, State.settleRec s n c

theorem State.decSwitch_evolves {s₀ s : State} (h : Evolves s₀ s) (n : Nat) (c : DecCtx) (t : Nat) (kind : Nat) (old : Nat) (new : Nat) (tag : Nat) :
    Evolves s₀ (State.decSwitch s n c t kind old new tag).1 := by
  unfold State.decSwitch
  grind -lia -ring -linarith -ac -order (ematch := 60) (gen := 60) only [usr State.closeSamples_evolves, ← State.closeSamples_evolves, usr State.pushPkt_evolves, ← State.pushPkt_evolves]
grind_pattern State.decSwitch_evolves => Evolves s₀ s, State.decSwitch s n c t kind old new tag

theorem State.beginSupp_evolves {s₀ s : State} (h : Evolves s₀ s) (n : Nat) (c : DecCtx) (cause : Nat) :
    Evolves s₀ (State.beginSupp s n c cause).1 := by
  unfold State.beginSupp
  grind -lia -ring -linarith -ac -order (ematch := 60) (gen := 60) only [usr State.closeSamples_evolves, ← State.closeSamples_evolves]
grind_pattern State.beginSupp_evolves => Evolves s₀ s, State.beginSupp s n c cause

theorem State.reachSpans_evolves {s₀ s : State} (h : Evolves s₀ s) (n : Nat) (g : Nat) (c : DecCtx) :
    Evolves s₀ (State.reachSpans s n g c).1 := by
  rw [State.reachSpans]
  try dsimp only
  repeat' first
    | with_reducible assumption | with_reducible apply State.beginSupp_evolves | with_reducible apply Evolves.ite | with_reducible apply Evolves.ite_fst
    | with_reducible apply List.foldl_evolves | with_reducible apply List.foldl_evolves_fst
    | intro _ _ _ | dsimp only | (split <;> try (rename_i hq; obtain ⟨rfl, rfl⟩ := Prod.eq_parts hq))
grind_pattern State.reachSpans_evolves => Evolves s₀ s, State.reachSpans s n g c

theorem State.settleSource_evolves {s₀ s : State} (h : Evolves s₀ s) (kind : Nat) (src : Nat) (cause : Nat) (a : Nat) (e : Option Nat) :
    Evolves s₀ (State.settleSource s kind src cause a e) := by
  unfold State.settleSource
  grind -lia -ring -linarith -ac -order (ematch := 60) (gen := 60) only [← State.setDctx_evolves, ← List.foldl_evolves]

theorem State.beginReq_evolves {s₀ s : State} (h : Evolves s₀ s) (n : Nat) (c : DecCtx) (r : FadeReq) :
    Evolves s₀ (State.beginReq s n c r).1 := by
  unfold State.beginReq
  grind -lia -ring -linarith -ac -order (ematch := 60) (gen := 60) only [usr State.beginSupp_evolves, ← State.beginSupp_evolves, usr State.decSwitch_evolves, ← State.decSwitch_evolves]
grind_pattern State.beginReq_evolves => Evolves s₀ s, State.beginReq s n c r

theorem State.suppressNow_evolves {s₀ s : State} (h : Evolves s₀ s) (n : Nat) (c : DecCtx) (t : Nat) (len : Nat) :
    Evolves s₀ (State.suppressNow s n c t len).1 := by
  rw [State.suppressNow]
  try dsimp only
  repeat' first
    | with_reducible assumption | with_reducible apply State.beginSupp_evolves | with_reducible apply Evolves.ite | with_reducible apply Evolves.ite_fst
    | with_reducible apply List.foldl_evolves | with_reducible apply List.foldl_evolves_fst
    | intro _ _ _ | dsimp only | (split <;> try (rename_i hq; obtain ⟨rfl, rfl⟩ := Prod.eq_parts hq))
grind_pattern State.suppressNow_evolves => Evolves s₀ s, State.suppressNow s n c t len

theorem State.outValue_evolves {s₀ s : State} (h : Evolves s₀ s) (c : DecCtx) (t : Nat) (a : Int) :
    Evolves s₀ (State.outValue s c t a).1 := by
  unfold State.outValue
  grind -lia -ring -linarith -ac -order (ematch := 60) (gen := 60) only [usr State.free_evolves, ← State.free_evolves]
grind_pattern State.outValue_evolves => Evolves s₀ s, State.outValue s c t a

theorem State.output_evolves {s₀ s : State} (h : Evolves s₀ s) (n : Nat) :
    Evolves s₀ (State.output s n) := by
  unfold State.output
  grind -lia -ring -linarith -ac -order (ematch := 60) (gen := 60) only [usr State.addSample_evolves, ← State.addSample_evolves, ← State.addSat_evolves, usr State.beginReq_evolves, ← State.beginReq_evolves, usr State.outValue_evolves, ← State.outValue_evolves, ← State.setDctx_evolves, usr State.settleRec_evolves, ← State.settleRec_evolves, usr State.suppressNow_evolves, ← State.suppressNow_evolves]

theorem State.decResult_evolves {s₀ s : State} (h : Evolves s₀ s) (n : Nat) (r : Nat) :
    Evolves s₀ (State.decResult s n r) := by
  unfold State.decResult
  grind -lia -ring -linarith -ac -order (ematch := 60) (gen := 60) only [← State.assertOnce_evolves, ← State.setFd_evolves]

theorem State.decDone_evolves {s₀ s : State} (h : Evolves s₀ s) (n : Nat) (r : Nat) :
    Evolves s₀ (State.decDone s n r) := by
  unfold State.decDone
  grind -lia -ring -linarith -ac -order (ematch := 60) (gen := 60) only [← State.decResult_evolves, ← State.incFd_evolves]

theorem State.decFinish_evolves {s₀ s : State} (h : Evolves s₀ s) (n : Nat) (c : DecCtx) :
    Evolves s₀ (State.decFinish s n c) := by
  unfold State.decFinish
  grind -lia -ring -linarith -ac -order (ematch := 60) (gen := 60) only [← State.assertOnce_evolves, usr State.closeSamples_evolves, ← State.closeSamples_evolves, ← State.setDctx_evolves, usr State.settleRec_evolves, ← State.settleRec_evolves]

theorem State.recheck_evolves {s₀ s : State} (h : Evolves s₀ s) (n : Nat) (c : DecCtx) :
    Evolves s₀ (State.recheck s n c).1 := by
  unfold State.recheck
  grind -lia -ring -linarith -ac -order (ematch := 60) (gen := 60) only [← State.decResult_evolves]
grind_pattern State.recheck_evolves => Evolves s₀ s, State.recheck s n c

theorem State.applyNow_evolves {s₀ s : State} (h : Evolves s₀ s) (n : Nat) (c : DecCtx) (a : DecApply) :
    Evolves s₀ (State.applyNow s n c a) := by
  unfold State.applyNow
  grind -lia -ring -linarith -ac -order (ematch := 60) (gen := 60) only [usr State.beginSupp_evolves, ← State.beginSupp_evolves, usr State.decSwitch_evolves, ← State.decSwitch_evolves, usr State.recheck_evolves, ← State.recheck_evolves, ← State.setDctx_evolves]

theorem State.tryApply_evolves {s₀ s : State} (h : Evolves s₀ s) (n : Nat) (c : DecCtx) (b : Nat) :
    Evolves s₀ (State.tryApply s n c b).1 := by
  unfold State.tryApply
  grind -lia -ring -linarith -ac -order (ematch := 60) (gen := 60) only [← State.applyNow_evolves]
grind_pattern State.tryApply_evolves => Evolves s₀ s, State.tryApply s n c b

theorem State.beforeGrid_evolves {s₀ s : State} (h : Evolves s₀ s) (n : Nat) :
    Evolves s₀ (State.beforeGrid s n).1 := by
  unfold State.beforeGrid
  grind -lia -ring -linarith -ac -order (ematch := 60) (gen := 60) only [← State.decFinish_evolves, ← State.output_evolves, usr State.tryApply_evolves, ← State.tryApply_evolves]
grind_pattern State.beforeGrid_evolves => Evolves s₀ s, State.beforeGrid s n

theorem gridPointEval_evolves {s₀ s : State} (h : Evolves s₀ s) (n : Nat) :
    Evolves s₀ (gridPointEval n s) := by
  rw [gridPointEval]
  try dsimp only
  repeat' first
    | with_reducible assumption | with_reducible apply State.beforeGrid_evolves | with_reducible apply State.reachSpans_evolves | with_reducible apply State.setDctx_evolves | with_reducible apply Evolves.ite | with_reducible apply Evolves.ite_fst
    | with_reducible apply List.foldl_evolves | with_reducible apply List.foldl_evolves_fst
    | intro _ _ _ | dsimp only | (split <;> try (rename_i hq; obtain ⟨rfl, rfl⟩ := Prod.eq_parts hq))

theorem State.takeCode_evolves {s₀ s : State} (h : Evolves s₀ s) (n : Nat) (c : DecCtx) (q : Int × Bool × Bool) :
    Evolves s₀ (State.takeCode s n c q) := by
  unfold State.takeCode
  grind -lia -ring -linarith -ac -order (ematch := 60) (gen := 60) only [usr State.reachSpans_evolves, ← State.reachSpans_evolves, ← State.setDctx_evolves]

theorem State.drainConv_evolves {s₀ s : State} (h : Evolves s₀ s) (n : Nat) (x0 : Nat) :
    Evolves s₀ (State.drainConv s n x0) := by
  induction x0 generalizing s with
  | zero => unfold State.drainConv; grind -lia -ring -linarith -ac -order (ematch := 60) (gen := 60) only [usr State.beforeGrid_evolves, ← State.beforeGrid_evolves, ← State.takeCode_evolves]
  | succ n ih => unfold State.drainConv; grind -lia -ring -linarith -ac -order (ematch := 60) (gen := 60) only [usr State.beforeGrid_evolves, ← State.beforeGrid_evolves, ← State.takeCode_evolves]

theorem State.feedConverter_evolves {s₀ s : State} (h : Evolves s₀ s) (v : Nat) (x : Int) (bridged : Bool) (clip : Bool) :
    Evolves s₀ (State.feedConverter s v x bridged clip) := by
  unfold State.feedConverter
  grind -lia -ring -linarith -ac -order (ematch := 60) (gen := 60) only [← State.drainConv_evolves, ← State.setDctx_evolves]

theorem State.decTake_evolves {s₀ s : State} (h : Evolves s₀ s) (rs : List Rec) :
    Evolves s₀ (State.decTake s rs) := by
  unfold State.decTake
  grind -lia -ring -linarith -ac -order (ematch := 60) (gen := 60) only [← State.setDctx_evolves]

theorem State.decStart_evolves {s₀ s : State} (h : Evolves s₀ s) (n : Nat) (point : Nat) :
    Evolves s₀ (State.decStart s n point) := by
  unfold State.decStart
  grind -lia -ring -linarith -ac -order (ematch := 60) (gen := 60) only [← State.decDone_evolves, ← State.setDctx_evolves]

theorem State.decStop_evolves {s₀ s : State} (h : Evolves s₀ s) (n : Nat) (point : Nat) :
    Evolves s₀ (State.decStop s n point) := by
  unfold State.decStop
  grind -lia -ring -linarith -ac -order (ematch := 60) (gen := 60) only [← State.decDone_evolves, ← State.setDctx_evolves]

theorem State.decApply_evolves {s₀ s : State} (h : Evolves s₀ s) (n : Nat) (point : Nat) (tag : Nat) :
    Evolves s₀ (State.decApply s n point tag) := by
  unfold State.decApply
  grind -lia -ring -linarith -ac -order (ematch := 60) (gen := 60) only [← State.decDone_evolves, ← State.setDctx_evolves]

theorem State.decFade_evolves {s₀ s : State} (h : Evolves s₀ s) (n : Nat) (bank : Nat) (code : Nat) (point : Nat) (tag : Nat) :
    Evolves s₀ (State.decFade s n bank code point tag) := by
  unfold State.decFade
  grind -lia -ring -linarith -ac -order (ematch := 60) (gen := 60) only [← State.addSat_evolves, ← State.decDone_evolves, ← State.setDctx_evolves]

theorem contextRun_evolves {s₀ s : State} (h : Evolves s₀ s) (n : Nat) :
    Evolves s₀ (contextRun n s) := by
  unfold contextRun
  grind -lia -ring -linarith -ac -order (ematch := 60) (gen := 60) only [usr State.beginSupp_evolves, ← State.beginSupp_evolves, usr State.pushPkt_evolves, ← State.pushPkt_evolves, ← State.setDctx_evolves]

theorem outputInstant_evolves {s₀ s : State} (h : Evolves s₀ s) (n : Nat) :
    Evolves s₀ (outputInstant n s) := by
  unfold outputInstant
  grind -lia -ring -linarith -ac -order (ematch := 60) (gen := 60) only [← State.output_evolves]

theorem fadeBegin_evolves {s₀ s : State} (h : Evolves s₀ s) (n : Nat) :
    Evolves s₀ (fadeBegin n s) := by
  unfold fadeBegin
  grind -lia -ring -linarith -ac -order (ematch := 60) (gen := 60) only [usr State.beginReq_evolves, ← State.beginReq_evolves, ← State.setDctx_evolves]

theorem samplePacketTimeout_evolves {s₀ s : State} (h : Evolves s₀ s) (n : Nat) :
    Evolves s₀ (samplePacketTimeout n s) := by
  rw [samplePacketTimeout]
  try dsimp only
  repeat' first
    | with_reducible assumption | with_reducible apply State.closeSamples_evolves | with_reducible apply State.setDctx_evolves | with_reducible apply Evolves.ite | with_reducible apply Evolves.ite_fst
    | with_reducible apply List.foldl_evolves | with_reducible apply List.foldl_evolves_fst
    | intro _ _ _ | dsimp only | (split <;> try (rename_i hq; obtain ⟨rfl, rfl⟩ := Prod.eq_parts hq))

theorem State.decHold_evolves {s₀ s : State} (h : Evolves s₀ s) (tick : Nat) :
    Evolves s₀ (State.decHold s tick) := by
  unfold State.decHold
  grind -lia -ring -linarith -ac -order (ematch := 60) (gen := 60) only [← State.setDctx_evolves, ← List.foldl_evolves]

theorem State.decResume_evolves {s₀ s : State} (h : Evolves s₀ s) :
    Evolves s₀ (State.decResume s) := by
  unfold State.decResume
  grind -lia -ring -linarith -ac -order (ematch := 60) (gen := 60) only [usr State.closeSamples_evolves, ← State.closeSamples_evolves, ← State.setDctx_evolves, ← List.foldl_evolves]

end Sys2Proof.Machine
end

