-- ==== Sys2Proof/Laws/EvolvesMadc.lean ====
section
/-! SUPPORT. What the operations of Machine/Madc.lean may do to a state (`Evolves`): one lemma for each. -/

namespace Sys2Proof.Machine

theorem State.setMadc_evolves {s₀ s : State} (h : Evolves s₀ s) (c : Nat) (m : Madc) :
    Evolves s₀ (State.setMadc s c m) := by
  unfold State.setMadc
  grind -lia -ring -linarith -ac -order (ematch := 60) (gen := 60) only [← State.setDec_evolves]

theorem State.muxEvent_evolves {s₀ s : State} (h : Evolves s₀ s) (v : Nat) (cause : Nat) :
    Evolves s₀ (State.muxEvent s v cause) := by
  unfold State.muxEvent
  grind -lia -ring -linarith -ac -order (ematch := 60) (gen := 60) only [← State.setDec_evolves, ← State.settleSource_evolves]

theorem State.bridgeOf_evolves {s₀ s : State} (h : Evolves s₀ s) (m : Madc) :
    Evolves s₀ (State.bridgeOf s m).1 := by
  unfold State.bridgeOf
  grind -lia -ring -linarith -ac -order (ematch := 60) (gen := 60) only [usr State.free_evolves, ← State.free_evolves, ← List.foldl_evolves]
grind_pattern State.bridgeOf_evolves => Evolves s₀ s, State.bridgeOf s m

theorem State.readUv_evolves {s₀ s : State} (h : Evolves s₀ s) (p : MadcSlot) :
    Evolves s₀ (State.readUv s p).1 := by
  unfold State.readUv
  grind -lia -ring -linarith -ac -order (ematch := 60) (gen := 60) only [usr State.free_evolves, ← State.free_evolves]
grind_pattern State.readUv_evolves => Evolves s₀ s, State.readUv s p

theorem modulatorCode_evolves {s₀ s : State} (h : Evolves s₀ s) (c : Nat) (code : Nat) (clip : Bool) :
    Evolves s₀ (modulatorCode c code clip s) := by
  unfold modulatorCode
  grind -lia -ring -linarith -ac -order (ematch := 60) (gen := 60) only [← State.feedConverter_evolves, ← State.setMadc_evolves]

theorem State.setTap_evolves {s₀ s : State} (h : Evolves s₀ s) (v : Nat) (tap : Nat) :
    Evolves s₀ (State.setTap s v tap) := by
  unfold State.setTap
  grind -lia -ring -linarith -ac -order (ematch := 60) (gen := 60) only [← State.muxEvent_evolves, ← State.setFd_evolves]

theorem madcTapWrite_evolves {s₀ s : State} (h : Evolves s₀ s) (v : Nat) (w : Word) :
    Evolves s₀ (madcTapWrite v w s) := by
  unfold madcTapWrite
  grind -lia -ring -linarith -ac -order (ematch := 60) (gen := 60) only [← State.setDec_evolves, ← State.setTap_evolves]

theorem State.slotOver_evolves {s₀ s : State} (h : Evolves s₀ s) (c : Nat) :
    Evolves s₀ (State.slotOver s c) := by
  unfold State.slotOver
  grind -lia -ring -linarith -ac -order (ematch := 60) (gen := 60) only [← State.setDec_evolves, ← State.setFd_evolves, ← State.setMadc_evolves, ← State.setTap_evolves]

theorem State.slotBegin_evolves {s₀ s : State} (h : Evolves s₀ s) (c : Nat) (dac : Option Nat) (why : Nat) (discard : Bool) :
    Evolves s₀ (State.slotBegin s c dac why discard) := by
  unfold State.slotBegin
  grind -lia -ring -linarith -ac -order (ematch := 60) (gen := 60) only [usr State.bridgeOf_evolves, ← State.bridgeOf_evolves, ← State.setFd_evolves, ← State.setMadc_evolves]

theorem readbackSlotStart_evolves {s₀ s : State} (h : Evolves s₀ s) (c : Nat) :
    Evolves s₀ (readbackSlotStart c s) := by
  unfold readbackSlotStart
  grind -lia -ring -linarith -ac -order (ematch := 60) (gen := 60) only [← State.setDec_evolves, ← State.slotBegin_evolves]

theorem State.raiseRb_evolves {s₀ s : State} (h : Evolves s₀ s) (port : Nat) :
    Evolves s₀ (State.raiseRb s port) := by
  unfold State.raiseRb
  grind -lia -ring -linarith -ac -order (ematch := 60) (gen := 60) only [← State.raise_evolves]

theorem readbackSlotEnd_evolves {s₀ s : State} (h : Evolves s₀ s) (c : Nat) :
    Evolves s₀ (readbackSlotEnd c s) := by
  unfold readbackSlotEnd
  grind -lia -ring -linarith -ac -order (ematch := 60) (gen := 60) only [← State.raiseRb_evolves, usr State.readUv_evolves, ← State.readUv_evolves, ← State.setFd_evolves, ← State.slotOver_evolves]

theorem checkSlotStart_evolves {s₀ s : State} (h : Evolves s₀ s) (c : Nat) :
    Evolves s₀ (checkSlotStart c s) := by
  unfold checkSlotStart
  grind -lia -ring -linarith -ac -order (ematch := 60) (gen := 60) only [← State.slotBegin_evolves]

theorem spareSelfCheck_evolves {s₀ s : State} (h : Evolves s₀ s) (c : Nat) :
    Evolves s₀ (spareSelfCheck c s) := by
  unfold spareSelfCheck
  grind -lia -ring -linarith -ac -order (ematch := 60) (gen := 60) only [← State.slotBegin_evolves]

theorem State.madcCmdSts_evolves {s₀ s : State} (h : Evolves s₀ s) (c : Nat) (op : Nat) (result : Nat) :
    Evolves s₀ (State.madcCmdSts s c op result) := by
  unfold State.madcCmdSts
  grind -lia -ring -linarith -ac -order (ematch := 60) (gen := 60) only [← State.incFd_evolves, ← State.setFd_evolves]

theorem State.substitute_evolves {s₀ s : State} (h : Evolves s₀ s) (old : Nat) (spare : Nat) (st : Nat) :
    Evolves s₀ (State.substitute s old spare st) := by
  unfold State.substitute
  grind -lia -ring -linarith -ac -order (ematch := 60) (gen := 60) only [← State.assertOnce_evolves, ← State.muxEvent_evolves, ← State.setDec_evolves, ← State.setFd_evolves, ← State.setMadc_evolves]

theorem State.madcEscalate_evolves {s₀ s : State} (h : Evolves s₀ s) (c : Nat) :
    Evolves s₀ (State.madcEscalate s c) := by
  unfold State.madcEscalate
  grind -lia -ring -linarith -ac -order (ematch := 60) (gen := 60) only [← State.substitute_evolves]

theorem madcSubstitute_evolves {s₀ s : State} (h : Evolves s₀ s) (c : Nat) :
    Evolves s₀ (madcSubstitute c s) := by
  unfold madcSubstitute
  grind -lia -ring -linarith -ac -order (ematch := 60) (gen := 60) only [← State.madcCmdSts_evolves, ← State.slotBegin_evolves, ← State.substitute_evolves]

theorem madcCheckCmd_evolves {s₀ s : State} (h : Evolves s₀ s) (c : Nat) :
    Evolves s₀ (madcCheckCmd c s) := by
  unfold madcCheckCmd
  grind -lia -ring -linarith -ac -order (ematch := 60) (gen := 60) only [← State.madcCmdSts_evolves, ← State.slotBegin_evolves]

theorem madcRetry_evolves {s₀ s : State} (h : Evolves s₀ s) (c : Nat) :
    Evolves s₀ (madcRetry c s) := by
  unfold madcRetry
  grind -lia -ring -linarith -ac -order (ematch := 60) (gen := 60) only [← State.madcCmdSts_evolves, ← State.slotBegin_evolves]

theorem checkSlotEnd_evolves {s₀ s : State} (h : Evolves s₀ s) (c : Nat) :
    Evolves s₀ (checkSlotEnd c s) := by
  unfold checkSlotEnd
  grind -lia -ring -linarith -ac -order (ematch := 60) (gen := 60) only [← State.assertOnce_evolves, ← State.incFd_evolves, ← State.raise_evolves, usr State.readUv_evolves, ← State.readUv_evolves, ← State.setFd_evolves, ← State.setMadc_evolves, ← State.slotOver_evolves]

theorem State.madcHalt_evolves {s₀ s : State} (h : Evolves s₀ s) :
    Evolves s₀ (State.madcHalt s) := by
  unfold State.madcHalt
  grind -lia -ring -linarith -ac -order (ematch := 60) (gen := 60) only [← State.setMadc_evolves, ← State.slotOver_evolves, ← List.foldl_evolves]

end Sys2Proof.Machine
end

