-- ==== Sys2Proof/Laws/EvolvesLinks.lean ====
section
/-! SUPPORT. What the operations of Machine/Links.lean may do to a state (`Evolves`): one lemma for each. -/

namespace Sys2Proof.Machine

theorem State.setLink_evolves {s₀ s : State} (h : Evolves s₀ s) (l : Nat) (k : Link) :
    Evolves s₀ (State.setLink s l k) := by
  unfold State.setLink
  grind -lia -ring -linarith -ac -order (ematch := 60) (gen := 60) only [← Evolves.links]

theorem State.modLink_evolves {s₀ s : State} (h : Evolves s₀ s) (l : Nat) (f : Link → Link) :
    Evolves s₀ (State.modLink s l f) := by
  unfold State.modLink
  grind -lia -ring -linarith -ac -order (ematch := 60) (gen := 60) only [← State.setLink_evolves]

theorem State.setLfd_evolves {s₀ s : State} (h : Evolves s₀ s) (a : Fld) (b : Fld) (v : Nat) (l : Nat) :
    Evolves s₀ (State.setLfd s a b v l) := by
  unfold State.setLfd
  grind -lia -ring -linarith -ac -order (ematch := 60) (gen := 60) only [← State.setFd_evolves]

theorem State.incLfd_evolves {s₀ s : State} (h : Evolves s₀ s) (a : Fld) (b : Fld) (l : Nat) :
    Evolves s₀ (State.incLfd s a b l) := by
  unfold State.incLfd
  grind -lia -ring -linarith -ac -order (ematch := 60) (gen := 60) only [← State.incFd_evolves]

theorem State.linkLevel_evolves {s₀ s : State} (h : Evolves s₀ s) (l : Nat) :
    Evolves s₀ (State.linkLevel s l) := by
  unfold State.linkLevel
  grind -lia -ring -linarith -ac -order (ematch := 60) (gen := 60) only [← State.setLevel_evolves]

theorem State.setLstate_evolves {s₀ s : State} (h : Evolves s₀ s) (l : Nat) (st : Nat) :
    Evolves s₀ (State.setLstate s l st) := by
  unfold State.setLstate
  grind -lia -ring -linarith -ac -order (ematch := 60) (gen := 60) only [← State.linkLevel_evolves, ← State.setLfd_evolves]

theorem State.setUO_evolves {s₀ s : State} (h : Evolves s₀ s) (l : Nat) (u : Nat) (o : Nat) :
    Evolves s₀ (State.setUO s l u o) := by
  unfold State.setUO
  grind -lia -ring -linarith -ac -order (ematch := 60) (gen := 60) only [← State.setLfd_evolves]

theorem State.linkEvtPkt_evolves {s₀ s : State} (h : Evolves s₀ s) (l : Nat) (code : Nat) (e : Nat × Nat × Nat × Nat) (n : Nat) :
    Evolves s₀ (State.linkEvtPkt s l code e n) := by
  unfold State.linkEvtPkt
  grind -lia -ring -linarith -ac -order (ematch := 60) (gen := 60) only [usr State.pushPkt_evolves, ← State.pushPkt_evolves]

theorem State.linkEvt_evolves {s₀ s : State} (h : Evolves s₀ s) (l : Nat) (code : Nat) (w1 : Nat) (w2 : Nat) (w3 : Nat) :
    Evolves s₀ (State.linkEvt s l code w1 w2 w3) := by
  unfold State.linkEvt
  grind -lia -ring -linarith -ac -order (ematch := 60) (gen := 60) only [← State.addSat_evolves, ← State.linkEvtPkt_evolves, ← State.setLink_evolves]

theorem linkEvtGapEnd_evolves {s₀ s : State} (h : Evolves s₀ s) (l : Nat) (code : Nat) :
    Evolves s₀ (linkEvtGapEnd l code s) := by
  unfold linkEvtGapEnd
  grind -lia -ring -linarith -ac -order (ematch := 60) (gen := 60) only [← State.linkEvtPkt_evolves, ← State.setLink_evolves]

theorem State.sendFlit_evolves {s₀ s : State} (h : Evolves s₀ s) (l : Nat) (kind : Nat) (seq : Nat) (nrep : Nat) (anchor : Nat) (slots : List Nat) :
    Evolves s₀ (State.sendFlit s l kind seq nrep anchor slots) := by
  unfold State.sendFlit
  grind -lia -ring -linarith -ac -order (ematch := 60) (gen := 60) only [← State.emit_evolves]

theorem State.sendKept_evolves {s₀ s : State} (h : Evolves s₀ s) (l : Nat) (f : TxFlit) :
    Evolves s₀ (State.sendKept s l f) := by
  unfold State.sendKept
  grind -lia -ring -linarith -ac -order (ematch := 60) (gen := 60) only [← State.modLink_evolves, ← State.sendFlit_evolves]

theorem State.sendNew_evolves {s₀ s : State} (h : Evolves s₀ s) (l : Nat) (kind : Nat) (nrep : Nat) (slots : List Nat) :
    Evolves s₀ (State.sendNew s l kind nrep slots) := by
  unfold State.sendNew
  grind -lia -ring -linarith -ac -order (ematch := 60) (gen := 60) only [← State.sendKept_evolves, ← State.setLink_evolves]

theorem State.sendSeq_evolves {s₀ s : State} (h : Evolves s₀ s) (l : Nat) (kind : Nat) (nrep : Nat) (slots : List Nat) :
    Evolves s₀ (State.sendSeq s l kind nrep slots) := by
  unfold State.sendSeq
  grind -lia -ring -linarith -ac -order (ematch := 60) (gen := 60) only [← State.sendNew_evolves, ← State.setLink_evolves]

theorem State.sendCtl_evolves {s₀ s : State} (h : Evolves s₀ s) (l : Nat) (slots : List Nat) :
    Evolves s₀ (State.sendCtl s l slots) := by
  unfold State.sendCtl
  grind -lia -ring -linarith -ac -order (ematch := 60) (gen := 60) only [← State.sendSeq_evolves]

theorem State.sendWaiting_evolves {s₀ s : State} (h : Evolves s₀ s) (l : Nat) (x0 : Nat) :
    Evolves s₀ (State.sendWaiting l x0 s) := by
  induction x0 generalizing s with
  | zero => unfold State.sendWaiting; grind -lia -ring -linarith -ac -order (ematch := 60) (gen := 60) only [← State.sendNew_evolves, ← State.setLink_evolves]
  | succ n ih => unfold State.sendWaiting; grind -lia -ring -linarith -ac -order (ematch := 60) (gen := 60) only [← State.sendNew_evolves, ← State.setLink_evolves]

theorem State.resendAll_evolves {s₀ s : State} (h : Evolves s₀ s) (l : Nat) :
    Evolves s₀ (State.resendAll s l) := by
  unfold State.resendAll
  grind -lia -ring -linarith -ac -order (ematch := 60) (gen := 60) only [← State.sendKept_evolves, ← List.foldl_evolves]

theorem State.takeHeader_evolves {s₀ s : State} (h : Evolves s₀ s) (l : Nat) (f : Flit) :
    Evolves s₀ (State.takeHeader s l f) := by
  unfold State.takeHeader
  grind -lia -ring -linarith -ac -order (ematch := 60) (gen := 60) only [← State.sendWaiting_evolves, ← State.setLink_evolves]

theorem State.sendHello_evolves {s₀ s : State} (h : Evolves s₀ s) (l : Nat) :
    Evolves s₀ (State.sendHello s l) := by
  unfold State.sendHello
  grind -lia -ring -linarith -ac -order (ematch := 60) (gen := 60) only [← State.sendFlit_evolves]

theorem State.train_evolves {s₀ s : State} (h : Evolves s₀ s) (l : Nat) :
    Evolves s₀ (State.train s l) := by
  unfold State.train
  grind -lia -ring -linarith -ac -order (ematch := 60) (gen := 60) only [← State.setLfd_evolves, ← State.setLink_evolves, ← State.setLstate_evolves]

theorem State.linkOff_evolves {s₀ s : State} (h : Evolves s₀ s) (l : Nat) :
    Evolves s₀ (State.linkOff s l) := by
  unfold State.linkOff
  grind -lia -ring -linarith -ac -order (ematch := 60) (gen := 60) only [← State.modLink_evolves, ← State.setLstate_evolves]

theorem State.linkStart_evolves {s₀ s : State} (h : Evolves s₀ s) (l : Nat) :
    Evolves s₀ (State.linkStart s l) := by
  unfold State.linkStart
  grind -lia -ring -linarith -ac -order (ematch := 60) (gen := 60) only [← State.linkOff_evolves, ← State.modLink_evolves, ← State.train_evolves]

theorem State.adrift_evolves {s₀ s : State} (h : Evolves s₀ s) :
    Evolves s₀ (State.adrift s) := by
  unfold State.adrift
  grind -lia -ring -linarith -ac -order (ematch := 60) (gen := 60) only [← State.linkEvt_evolves, ← State.setFd_evolves]

theorem State.linkDown_evolves {s₀ s : State} (h : Evolves s₀ s) (l : Nat) (cause : Nat) :
    Evolves s₀ (State.linkDown s l cause) := by
  unfold State.linkDown
  grind -lia -ring -linarith -ac -order (ematch := 60) (gen := 60) only [← State.adrift_evolves, ← State.linkEvt_evolves, ← State.modLink_evolves, ← State.raise_evolves, ← State.setLfd_evolves, ← State.setLstate_evolves]

theorem State.linkFault_evolves {s₀ s : State} (h : Evolves s₀ s) (l : Nat) :
    Evolves s₀ (State.linkFault s l) := by
  unfold State.linkFault
  grind -lia -ring -linarith -ac -order (ematch := 60) (gen := 60) only [← State.linkOff_evolves, ← State.setLstate_evolves]

theorem State.tryFails_evolves {s₀ s : State} (h : Evolves s₀ s) (l : Nat) :
    Evolves s₀ (State.tryFails s l) := by
  unfold State.tryFails
  grind -lia -ring -linarith -ac -order (ematch := 60) (gen := 60) only [← State.modLink_evolves, ← State.raise_evolves, ← State.setLink_evolves, ← State.setLstate_evolves, ← State.train_evolves]

theorem flitLock_evolves {s₀ s : State} (h : Evolves s₀ s) (l : Nat) :
    Evolves s₀ (flitLock l s) := by
  unfold flitLock
  grind -lia -ring -linarith -ac -order (ematch := 60) (gen := 60) only [← State.modLink_evolves, ← State.sendHello_evolves]

theorem flitLockLoss_evolves {s₀ s : State} (h : Evolves s₀ s) (l : Nat) :
    Evolves s₀ (flitLockLoss l s) := by
  unfold flitLockLoss
  grind -lia -ring -linarith -ac -order (ematch := 60) (gen := 60) only [← State.linkDown_evolves, ← State.modLink_evolves]

theorem trainTryTimeout_evolves {s₀ s : State} (h : Evolves s₀ s) (l : Nat) :
    Evolves s₀ (trainTryTimeout l s) := by
  unfold trainTryTimeout
  grind -lia -ring -linarith -ac -order (ematch := 60) (gen := 60) only [← State.tryFails_evolves]

theorem retrainTimer_evolves {s₀ s : State} (h : Evolves s₀ s) (l : Nat) :
    Evolves s₀ (retrainTimer l s) := by
  unfold retrainTimer
  grind -lia -ring -linarith -ac -order (ematch := 60) (gen := 60) only [← State.train_evolves]

theorem State.stepCredit_evolves {s₀ s : State} (h : Evolves s₀ s) (l : Nat) :
    Evolves s₀ (State.stepCredit s l) := by
  unfold State.stepCredit
  grind -lia -ring -linarith -ac -order (ematch := 60) (gen := 60) only [← State.modLink_evolves, ← State.setUO_evolves]

theorem State.stepSync_evolves {s₀ s : State} (h : Evolves s₀ s) (l : Nat) :
    Evolves s₀ (State.stepSync s l) := by
  unfold State.stepSync
  grind -lia -ring -linarith -ac -order (ematch := 60) (gen := 60) only [← State.modLink_evolves, ← State.resendAll_evolves, ← State.sendCtl_evolves, ← State.setLstate_evolves]

theorem State.tunnelBreak_evolves {s₀ s : State} (h : Evolves s₀ s) (t : Nat) :
    Evolves s₀ (State.tunnelBreak s t) := by
  unfold State.tunnelBreak
  grind -lia -ring -linarith -ac -order (ematch := 60) (gen := 60) only [← State.incFd_evolves, ← State.rewindQ_evolves, ← State.setFd_evolves]

theorem State.breakVia_evolves {s₀ s : State} (h : Evolves s₀ s) (l : Nat) :
    Evolves s₀ (State.breakVia s l) := by
  unfold State.breakVia
  grind -lia -ring -linarith -ac -order (ematch := 60) (gen := 60) only [← State.tunnelBreak_evolves, ← List.foldl_evolves]

theorem State.notePeer_evolves {s₀ s : State} (h : Evolves s₀ s) (l : Nat) (f : Flit) :
    Evolves s₀ (State.notePeer s l f) := by
  unfold State.notePeer
  grind -lia -ring -linarith -ac -order (ematch := 60) (gen := 60) only [← State.modLink_evolves, ← State.setFd_evolves]

theorem State.joinU_evolves {s₀ s : State} (h : Evolves s₀ s) :
    Evolves s₀ (State.joinU s).2 := by
  unfold State.joinU
  grind -lia -ring -linarith -ac -order (ematch := 60) (gen := 60) only [usr State.free_evolves, ← State.free_evolves]
grind_pattern State.joinU_evolves => Evolves s₀ s, State.joinU s

theorem State.sendJoin_evolves {s₀ s : State} (h : Evolves s₀ s) (f : Flit) :
    Evolves s₀ (State.sendJoin s f) := by
  unfold State.sendJoin
  grind -lia -ring -linarith -ac -order (ematch := 60) (gen := 60) only [usr State.joinU_evolves, ← State.joinU_evolves, ← State.modLink_evolves, ← State.sendCtl_evolves, ← State.setFd_evolves]

theorem hello_evolves {s₀ s : State} (h : Evolves s₀ s) (l : Nat) (f : Flit) :
    Evolves s₀ (hello l f s) := by
  unfold hello
  grind -lia -ring -linarith -ac -order (ematch := 60) (gen := 60) only [← State.breakVia_evolves, ← State.linkDown_evolves, ← State.modLink_evolves, ← State.notePeer_evolves, ← State.sendHello_evolves, ← State.sendJoin_evolves, ← State.setLink_evolves, ← State.stepCredit_evolves, ← State.stepSync_evolves, ← State.tryFails_evolves]

theorem trainingComplete_evolves {s₀ s : State} (h : Evolves s₀ s) (l : Nat) :
    Evolves s₀ (trainingComplete l s) := by
  unfold trainingComplete
  grind -lia -ring -linarith -ac -order (ematch := 60) (gen := 60) only [← State.dropLive_evolves, ← State.incLfd_evolves, ← State.linkEvt_evolves, ← State.setLink_evolves, ← State.setLstate_evolves]

theorem State.accept_evolves {s₀ s : State} (h : Evolves s₀ s) (l : Nat) (f : Flit) :
    Evolves s₀ (State.accept s l f).1 := by
  unfold State.accept
  grind -lia -ring -linarith -ac -order (ematch := 60) (gen := 60) only [← State.setLink_evolves, ← State.takeHeader_evolves]
grind_pattern State.accept_evolves => Evolves s₀ s, State.accept s l f

theorem idleFlit_evolves {s₀ s : State} (h : Evolves s₀ s) (l : Nat) (f : Flit) :
    Evolves s₀ (idleFlit l f s) := by
  unfold idleFlit
  grind -lia -ring -linarith -ac -order (ematch := 60) (gen := 60) only [← State.takeHeader_evolves]

theorem State.replay_evolves {s₀ s : State} (h : Evolves s₀ s) (l : Nat) (seq : Nat) :
    Evolves s₀ (State.replay s l seq) := by
  unfold State.replay
  grind -lia -ring -linarith -ac -order (ematch := 60) (gen := 60) only [← State.incLfd_evolves, ← State.linkDown_evolves, ← State.resendAll_evolves, ← State.setLink_evolves]

theorem nakFlit_evolves {s₀ s : State} (h : Evolves s₀ s) (l : Nat) (f : Flit) :
    Evolves s₀ (nakFlit l f s) := by
  unfold nakFlit
  grind -lia -ring -linarith -ac -order (ematch := 60) (gen := 60) only [← State.replay_evolves, ← State.takeHeader_evolves]

theorem ackTimeout_evolves {s₀ s : State} (h : Evolves s₀ s) (l : Nat) :
    Evolves s₀ (ackTimeout l s) := by
  unfold ackTimeout
  grind -lia -ring -linarith -ac -order (ematch := 60) (gen := 60) only [← State.replay_evolves]

theorem badCrcFlit_evolves {s₀ s : State} (h : Evolves s₀ s) (l : Nat) :
    Evolves s₀ (badCrcFlit l s) := by
  unfold badCrcFlit
  grind -lia -ring -linarith -ac -order (ematch := 60) (gen := 60) only [← State.incLfd_evolves, ← State.linkDown_evolves, ← State.linkEvt_evolves, ← State.sendFlit_evolves, ← State.setLink_evolves]

theorem silenceTimeout_evolves {s₀ s : State} (h : Evolves s₀ s) (l : Nat) :
    Evolves s₀ (silenceTimeout l s) := by
  unfold silenceTimeout
  grind -lia -ring -linarith -ac -order (ematch := 60) (gen := 60) only [← State.linkDown_evolves]

theorem badType_evolves {s₀ s : State} (h : Evolves s₀ s) (l : Nat) (kind : Nat) (f : Flit) :
    Evolves s₀ (badType l kind f s) := by
  unfold badType
  grind -lia -ring -linarith -ac -order (ematch := 60) (gen := 60) only [usr State.accept_evolves, ← State.accept_evolves, ← State.linkEvt_evolves]

theorem State.setRtt_evolves {s₀ s : State} (h : Evolves s₀ s) (l : Nat) (sum : Int) (n : Nat) :
    Evolves s₀ (State.setRtt s l sum n) := by
  unfold State.setRtt
  grind -lia -ring -linarith -ac -order (ematch := 60) (gen := 60) only [← State.setLfd_evolves]

theorem State.noteErr_evolves {s₀ s : State} (h : Evolves s₀ s) (l : Nat) (e : Int) :
    Evolves s₀ (State.noteErr s l e) := by
  unfold State.noteErr
  grind -lia -ring -linarith -ac -order (ematch := 60) (gen := 60) only [← State.setFd_evolves]

theorem State.trainExchange_evolves {s₀ s : State} (h : Evolves s₀ s) (l : Nat) (rtt : Int) :
    Evolves s₀ (State.trainExchange s l rtt) := by
  unfold State.trainExchange
  grind -lia -ring -linarith -ac -order (ematch := 60) (gen := 60) only [← State.modLink_evolves, ← State.sendCtl_evolves, ← State.setLfd_evolves, ← State.setLink_evolves, ← State.setRtt_evolves]

theorem echo_evolves {s₀ s : State} (h : Evolves s₀ s) (l : Nat) (f : Flit) (t4 : Nat) :
    Evolves s₀ (echo l f t4 s) := by
  unfold echo
  grind -lia -ring -linarith -ac -order (ematch := 60) (gen := 60) only [usr State.accept_evolves, ← State.accept_evolves, ← State.linkEvt_evolves, ← State.noteErr_evolves, ← State.sendCtl_evolves, ← State.setLfd_evolves, ← State.setLink_evolves, ← State.setRtt_evolves, ← State.trainExchange_evolves]

theorem treqPeriod_evolves {s₀ s : State} (h : Evolves s₀ s) (l : Nat) :
    Evolves s₀ (treqPeriod l s) := by
  unfold treqPeriod
  grind -lia -ring -linarith -ac -order (ematch := 60) (gen := 60) only [← State.modLink_evolves, ← State.sendCtl_evolves, ← State.setLfd_evolves]

theorem timePeriod_evolves {s₀ s : State} (h : Evolves s₀ s) (l : Nat) :
    Evolves s₀ (timePeriod l s) := by
  unfold timePeriod
  grind -lia -ring -linarith -ac -order (ematch := 60) (gen := 60) only [← State.modLink_evolves, ← State.sendCtl_evolves]

theorem creditGrant_evolves {s₀ s : State} (h : Evolves s₀ s) (l : Nat) :
    Evolves s₀ (creditGrant l s) := by
  unfold creditGrant
  grind -lia -ring -linarith -ac -order (ematch := 60) (gen := 60) only [← State.modLink_evolves, ← State.setUO_evolves]

theorem State.sendAreq_evolves {s₀ s : State} (h : Evolves s₀ s) (l : Nat) :
    Evolves s₀ (State.sendAreq s l) := by
  unfold State.sendAreq
  grind -lia -ring -linarith -ac -order (ematch := 60) (gen := 60) only [← State.modLink_evolves, ← State.sendCtl_evolves]

theorem areqPeriod_evolves {s₀ s : State} (h : Evolves s₀ s) (l : Nat) :
    Evolves s₀ (areqPeriod l s) := by
  unfold areqPeriod
  grind -lia -ring -linarith -ac -order (ematch := 60) (gen := 60) only [← State.modLink_evolves, ← State.sendAreq_evolves]

theorem State.auditFail_evolves {s₀ s : State} (h : Evolves s₀ s) (l : Nat) (sExp : Nat) (sum : Nat) (bb : Nat) :
    Evolves s₀ (State.auditFail s l sExp sum bb) := by
  unfold State.auditFail
  grind -lia -ring -linarith -ac -order (ematch := 60) (gen := 60) only [← State.incLfd_evolves, ← State.linkDown_evolves, ← State.linkEvt_evolves, ← State.linkLevel_evolves, ← State.modLink_evolves, ← State.raise_evolves, ← State.setLfd_evolves]

theorem arsp_evolves {s₀ s : State} (h : Evolves s₀ s) (l : Nat) (f : Flit) :
    Evolves s₀ (arsp l f s) := by
  unfold arsp
  grind -lia -ring -linarith -ac -order (ematch := 60) (gen := 60) only [usr State.accept_evolves, ← State.accept_evolves, ← State.auditFail_evolves, ← State.incLfd_evolves, ← State.setLink_evolves]

theorem arspTimeout_evolves {s₀ s : State} (h : Evolves s₀ s) (l : Nat) :
    Evolves s₀ (arspTimeout l s) := by
  unfold arspTimeout
  grind -lia -ring -linarith -ac -order (ematch := 60) (gen := 60) only [← State.auditFail_evolves]

theorem ahigh_evolves {s₀ s : State} (h : Evolves s₀ s) (l : Nat) (f : Flit) :
    Evolves s₀ (ahigh l f s) := by
  unfold ahigh
  grind -lia -ring -linarith -ac -order (ematch := 60) (gen := 60) only [usr State.accept_evolves, ← State.accept_evolves, ← State.modLink_evolves]

theorem State.holdPkt_evolves {s₀ s : State} (h : Evolves s₀ s) (l : Nat) (rs : List Rec) :
    Evolves s₀ (State.holdPkt s l rs) := by
  unfold State.holdPkt
  grind -lia -ring -linarith -ac -order (ematch := 60) (gen := 60) only [← State.setTb_evolves]

theorem State.countRemote_evolves {s₀ s : State} (h : Evolves s₀ s) (l : Nat) (i : Nat) (t : Nat) (n : Nat) :
    Evolves s₀ (State.countRemote s l i t n) := by
  rw [State.countRemote]
  try dsimp only
  repeat' first
    | with_reducible assumption | with_reducible apply State.noteCount_evolves | with_reducible apply State.raise_evolves | with_reducible apply State.setPair_evolves | with_reducible apply Evolves.ite | with_reducible apply Evolves.ite_fst
    | with_reducible apply List.foldl_evolves | with_reducible apply List.foldl_evolves_fst
    | intro _ _ _ | dsimp only | (split <;> try (rename_i hq; obtain ⟨rfl, rfl⟩ := Prod.eq_parts hq))

theorem State.noteTime_evolves {s₀ s : State} (h : Evolves s₀ s) (l : Nat) (i : Nat) (t : Nat) :
    Evolves s₀ (State.noteTime s l i t) := by
  unfold State.noteTime
  grind -lia -ring -linarith -ac -order (ematch := 60) (gen := 60) only [← State.modLink_evolves]

theorem State.edgeReport_evolves {s₀ s : State} (h : Evolves s₀ s) (l : Nat) (i : Nat) (kind : Nat) (t : Nat) :
    Evolves s₀ (State.edgeReport s l i kind t) := by
  unfold State.edgeReport
  grind -lia -ring -linarith -ac -order (ematch := 60) (gen := 60) only [← State.countRemote_evolves, ← State.holdPkt_evolves, ← State.linkEvt_evolves, ← State.noteTime_evolves]

theorem State.lossReport_evolves {s₀ s : State} (h : Evolves s₀ s) (l : Nat) (i : Nat) (t : Nat) (span : Nat) (n : Nat) :
    Evolves s₀ (State.lossReport s l i t span n) := by
  unfold State.lossReport
  grind -lia -ring -linarith -ac -order (ematch := 60) (gen := 60) only [← State.countRemote_evolves, ← State.holdPkt_evolves, ← State.linkEvt_evolves, ← State.noteTime_evolves]

theorem State.reports_evolves {s₀ s : State} (h : Evolves s₀ s) (l : Nat) (a : Nat) (x0 : Nat) (x1 : Nat) (x2 : List Nat) :
    Evolves s₀ (State.reports l a x0 x1 x2 s) := by
  induction x0 generalizing s x1 x2 with
  | zero => unfold State.reports; grind -lia -ring -linarith -ac -order (ematch := 60) (gen := 60) only [← State.edgeReport_evolves, ← State.linkEvt_evolves, ← State.lossReport_evolves]
  | succ n ih => unfold State.reports; grind -lia -ring -linarith -ac -order (ematch := 60) (gen := 60) only [← State.edgeReport_evolves, ← State.linkEvt_evolves, ← State.lossReport_evolves]

theorem reportFlit_evolves {s₀ s : State} (h : Evolves s₀ s) (l : Nat) (f : Flit) :
    Evolves s₀ (reportFlit l f s) := by
  unfold reportFlit
  grind -lia -ring -linarith -ac -order (ematch := 60) (gen := 60) only [usr State.accept_evolves, ← State.accept_evolves, ← State.linkEvt_evolves, ← State.reports_evolves, ← State.setLink_evolves, ← State.setPair_evolves, ← State.setUO_evolves]

theorem State.lnkCmdSts_evolves {s₀ s : State} (h : Evolves s₀ s) (l : Nat) (op : Nat) (result : Nat) :
    Evolves s₀ (State.lnkCmdSts s l op result) := by
  unfold State.lnkCmdSts
  grind -lia -ring -linarith -ac -order (ematch := 60) (gen := 60) only [← State.incFd_evolves, ← State.setFd_evolves]

theorem lnkRetrain_evolves {s₀ s : State} (h : Evolves s₀ s) (l : Nat) :
    Evolves s₀ (lnkRetrain l s) := by
  unfold lnkRetrain
  grind -lia -ring -linarith -ac -order (ematch := 60) (gen := 60) only [← State.linkLevel_evolves, ← State.lnkCmdSts_evolves, ← State.modLink_evolves, ← State.setFd_evolves, ← State.train_evolves]

theorem lnkAudit_evolves {s₀ s : State} (h : Evolves s₀ s) (l : Nat) :
    Evolves s₀ (lnkAudit l s) := by
  unfold lnkAudit
  grind -lia -ring -linarith -ac -order (ematch := 60) (gen := 60) only [← State.lnkCmdSts_evolves, ← State.sendAreq_evolves]

theorem State.linksOff_evolves {s₀ s : State} (h : Evolves s₀ s) :
    Evolves s₀ (State.linksOff s) := by
  unfold State.linksOff
  grind -lia -ring -linarith -ac -order (ematch := 60) (gen := 60) only [← State.adrift_evolves, ← State.linkOff_evolves, ← List.foldl_evolves]

theorem State.linksTrain_evolves {s₀ s : State} (h : Evolves s₀ s) :
    Evolves s₀ (State.linksTrain s) := by
  unfold State.linksTrain
  grind -lia -ring -linarith -ac -order (ematch := 60) (gen := 60) only [← State.linkStart_evolves, ← List.foldl_evolves]

end Sys2Proof.Machine
end

