-- ==== Sys2Proof/Laws/EvolvesPip.lean ====
section
/-! SUPPORT. What the operations of Machine/Pip.lean may do to a state (`Evolves`): one lemma for each. -/

namespace Sys2Proof.Machine

theorem State.setPip_evolves {s₀ s : State} (h : Evolves s₀ s) (n : Nat) (u : Pip) :
    Evolves s₀ (State.setPip s n u) := by
  unfold State.setPip
  grind -lia -ring -linarith -ac -order (ematch := 60) (gen := 60) only [← Evolves.trg]

theorem State.setTrigPin_evolves {s₀ s : State} (h : Evolves s₀ s) (i : Nat) (p : TrigPin) :
    Evolves s₀ (State.setTrigPin s i p) := by
  unfold State.setTrigPin
  grind -lia -ring -linarith -ac -order (ematch := 60) (gen := 60) only [← Evolves.trg]

theorem State.setAcqU_evolves {s₀ s : State} (h : Evolves s₀ s) (a : Nat) (u : Acq) :
    Evolves s₀ (State.setAcqU s a u) := by
  unfold State.setAcqU
  grind -lia -ring -linarith -ac -order (ematch := 60) (gen := 60) only [← Evolves.acq]

theorem State.pipEvt_evolves {s₀ s : State} (h : Evolves s₀ s) (n : Nat) :
    Evolves s₀ (State.pipEvt s n) := by
  unfold State.pipEvt
  grind -lia -ring -linarith -ac -order (ematch := 60) (gen := 60) only [← State.setLevel_evolves]

theorem State.setJ_evolves {s₀ s : State} (h : Evolves s₀ s) (n : Nat) (j : Nat) :
    Evolves s₀ (State.setJ s n j) := by
  unfold State.setJ
  grind -lia -ring -linarith -ac -order (ematch := 60) (gen := 60) only [← State.setPair_evolves, ← State.setPip_evolves]

theorem State.pulse_evolves {s₀ s : State} (h : Evolves s₀ s) (i : Nat) (time : Nat) :
    Evolves s₀ (State.pulse s i time).1 := by
  unfold State.pulse
  grind -lia -ring -linarith -ac -order (ematch := 60) (gen := 60) only [← State.addSat_evolves, ← State.setTrigPin_evolves]
grind_pattern State.pulse_evolves => Evolves s₀ s, State.pulse s i time

theorem State.pulses_evolves {s₀ s : State} (h : Evolves s₀ s) (kind : Nat) (src : Nat) (time : Nat) :
    Evolves s₀ (State.pulses s kind src time).1 := by
  rw [State.pulses]
  try dsimp only
  repeat' first
    | with_reducible assumption | with_reducible apply State.pulse_evolves | with_reducible apply Evolves.ite | with_reducible apply Evolves.ite_fst
    | with_reducible apply List.foldl_evolves | with_reducible apply List.foldl_evolves_fst
    | intro _ _ _ | dsimp only | (split <;> try (rename_i hq; obtain ⟨rfl, rfl⟩ := Prod.eq_parts hq))
grind_pattern State.pulses_evolves => Evolves s₀ s, State.pulses s kind src time

theorem pinPulseStart_evolves {s₀ s : State} (h : Evolves s₀ s) (i : Nat) :
    Evolves s₀ (pinPulseStart i s) := by
  unfold pinPulseStart
  grind -lia -ring -linarith -ac -order (ematch := 60) (gen := 60) only [← State.emit_evolves, usr State.pulses_evolves, ← State.pulses_evolves, ← State.setTrigPin_evolves]

theorem pinPulseEnd_evolves {s₀ s : State} (h : Evolves s₀ s) (i : Nat) :
    Evolves s₀ (pinPulseEnd i s) := by
  unfold pinPulseEnd
  grind -lia -ring -linarith -ac -order (ematch := 60) (gen := 60) only [← State.emit_evolves, usr State.pulses_evolves, ← State.pulses_evolves, ← State.setTrigPin_evolves]

theorem trgPinWrite_evolves {s₀ s : State} (h : Evolves s₀ s) (i : Nat) (w : Word) :
    Evolves s₀ (trgPinWrite i w s) := by
  unfold trgPinWrite
  grind -lia -ring -linarith -ac -order (ematch := 60) (gen := 60) only [← State.setRg_evolves, ← State.setTrigPin_evolves]

theorem State.turnPins_evolves {s₀ s : State} (h : Evolves s₀ s) :
    Evolves s₀ (State.turnPins s) := by
  unfold State.turnPins
  grind -lia -ring -linarith -ac -order (ematch := 60) (gen := 60) only [← Evolves.trg]

theorem State.lineTaken_evolves {s₀ s : State} (h : Evolves s₀ s) (l : Nat) (time : Nat) :
    Evolves s₀ (State.lineTaken s l time).1 := by
  unfold State.lineTaken
  grind -lia -ring -linarith -ac -order (ematch := 60) (gen := 60) only [← State.addSat_evolves, usr State.pulses_evolves, ← State.pulses_evolves, ← State.setFd_evolves, ← State.setPip_evolves, ← List.foldl_evolves]
grind_pattern State.lineTaken_evolves => Evolves s₀ s, State.lineTaken s l time

theorem State.lineDown_evolves {s₀ s : State} (h : Evolves s₀ s) (slots : List Nat) :
    Evolves s₀ (State.lineDown s slots) := by
  unfold State.lineDown
  grind -lia -ring -linarith -ac -order (ematch := 60) (gen := 60) only [← State.sendSeq_evolves, ← List.foldl_evolves]

theorem State.lineEarlier_evolves {s₀ s : State} (h : Evolves s₀ s) (l : Nat) (t0 : Nat) (time : Nat) :
    Evolves s₀ (State.lineEarlier s l t0 time) := by
  unfold State.lineEarlier
  grind -lia -ring -linarith -ac -order (ematch := 60) (gen := 60) only [usr State.pulses_evolves, ← State.pulses_evolves, ← State.setTrigPin_evolves, ← Evolves.trg, ← List.foldl_evolves]

theorem State.lineOnce_evolves {s₀ s : State} (h : Evolves s₀ s) (l : Nat) (group : Nat) (time : Nat) (first : State → State × Bool) (first_h : ∀ u, Evolves s₀ u → Evolves s₀ (first u).1) :
    Evolves s₀ (State.lineOnce s l group time first).1 := by
  unfold State.lineOnce
  split
  · exact first_h _ (Evolves.casc h _)
  · dsimp only
    split
    · exact State.addSat_evolves h ..
    · dsimp only
      exact Evolves.ite (State.lineEarlier_evolves (Evolves.casc (State.addSat_evolves h ..) _) ..) (Evolves.casc (State.addSat_evolves h ..) _)
grind_pattern State.lineOnce_evolves => Evolves s₀ s, State.lineOnce s l group time first

theorem State.lineAtRoot_evolves {s₀ s : State} (h : Evolves s₀ s) (l : Nat) (group : Nat) (dev : Nat) (time : Nat) :
    Evolves s₀ (State.lineAtRoot s l group dev time).1 := by
  unfold State.lineAtRoot
  refine State.lineOnce_evolves h _ _ _ _ fun u hu => ?_
  dsimp only
  split
  · exact State.lineDown_evolves (State.lineTaken_evolves hu ..) _
  · exact State.lineDown_evolves hu _
grind_pattern State.lineAtRoot_evolves => Evolves s₀ s, State.lineAtRoot s l group dev time

theorem State.driveLine_evolves {s₀ s : State} (h : Evolves s₀ s) (l : Nat) (time : Nat) :
    Evolves s₀ (State.driveLine s l time).1 := by
  unfold State.driveLine
  dsimp only
  split
  · exact State.lineAtRoot_evolves h ..
  split
  · exact State.sendSeq_evolves h ..
  · exact State.lineOnce_evolves h _ _ _ _ fun u hu => State.lineTaken_evolves hu ..
grind_pattern State.driveLine_evolves => Evolves s₀ s, State.driveLine s l time

theorem State.pipGates_evolves {s₀ s : State} (h : Evolves s₀ s) (n : Nat) (time : Nat) :
    Evolves s₀ (State.pipGates s n time) := by
  unfold State.pipGates
  grind -lia -ring -linarith -ac -order (ematch := 60) (gen := 60) only [← State.modTask_evolves, ← List.foldl_evolves]

theorem State.fire_evolves {s₀ s : State} (h : Evolves s₀ s) (n : Nat) (time : Nat) (cause : Nat) (e : Option PEv) :
    Evolves s₀ (State.fire s n time cause e) := by
  rw [State.fire]
  try dsimp only
  repeat' first
    | with_reducible assumption | with_reducible apply State.driveLine_evolves | with_reducible apply State.pipEvt_evolves | with_reducible apply State.pipGates_evolves | with_reducible apply State.pulses_evolves | with_reducible apply State.pushPkt_evolves | with_reducible apply State.setAcqU_evolves | with_reducible apply State.setFd_evolves | with_reducible apply State.setPair_evolves | with_reducible apply State.setPip_evolves | with_reducible apply State.setRg_evolves | with_reducible apply Evolves.ite | with_reducible apply Evolves.ite_fst
    | with_reducible apply List.foldl_evolves | with_reducible apply List.foldl_evolves_fst
    | intro _ _ _ | dsimp only | (split <;> try (rename_i hq; obtain ⟨rfl, rfl⟩ := Prod.eq_parts hq))

theorem State.judgeTick_evolves {s₀ s : State} (h : Evolves s₀ s) (n : Nat) (T : Nat) (lim : Nat) (cfg : PipCfg) :
    Evolves s₀ (State.judgeTick s n T lim cfg) := by
  unfold State.judgeTick
  grind -lia -ring -linarith -ac -order (ematch := 60) (gen := 60) only [← State.fire_evolves, ← State.setJ_evolves, ← State.setPip_evolves]

theorem pipJudgeTick_evolves {s₀ s : State} (h : Evolves s₀ s) (n : Nat) :
    Evolves s₀ (pipJudgeTick n s) := by
  unfold pipJudgeTick
  grind -lia -ring -linarith -ac -order (ematch := 60) (gen := 60) only [← State.judgeTick_evolves, ← State.setJ_evolves, ← State.setPip_evolves]

theorem State.pipResult_evolves {s₀ s : State} (h : Evolves s₀ s) (n : Nat) (r : Nat) :
    Evolves s₀ (State.pipResult s n r) := by
  unfold State.pipResult
  grind -lia -ring -linarith -ac -order (ematch := 60) (gen := 60) only [← State.incFd_evolves, ← State.setFd_evolves]

theorem State.acqPipOff_evolves {s₀ s : State} (h : Evolves s₀ s) (n : Nat) (point : Nat) :
    Evolves s₀ (State.acqPipOff s n point) := by
  unfold State.acqPipOff
  grind -lia -ring -linarith -ac -order (ematch := 60) (gen := 60) only [← State.setAcqU_evolves, ← List.foldl_evolves]

theorem State.pipEffect_evolves {s₀ s : State} (h : Evolves s₀ s) (n : Nat) (c : PipCmd) :
    Evolves s₀ (State.pipEffect s n c) := by
  unfold State.pipEffect
  grind -lia -ring -linarith -ac -order (ematch := 60) (gen := 60) only [← State.acqPipOff_evolves, ← State.pipEvt_evolves, usr State.pushPkt_evolves, ← State.pushPkt_evolves, ← State.setFd_evolves, ← State.setJ_evolves, ← State.setPip_evolves, ← State.setRg_evolves]

theorem State.pipPoints_evolves {s₀ s : State} (h : Evolves s₀ s) (n : Nat) (x0 : Nat) :
    Evolves s₀ (State.pipPoints n x0 s) := by
  induction x0 generalizing s with
  | zero => unfold State.pipPoints; grind -lia -ring -linarith -ac -order (ematch := 60) (gen := 60) only [← State.pipEffect_evolves, ← State.setPip_evolves]
  | succ n ih => unfold State.pipPoints; grind -lia -ring -linarith -ac -order (ematch := 60) (gen := 60) only [← State.pipEffect_evolves, ← State.setPip_evolves]

theorem pipPointReached_evolves {s₀ s : State} (h : Evolves s₀ s) (n : Nat) :
    Evolves s₀ (pipPointReached n s) := by
  unfold pipPointReached
  grind -lia -ring -linarith -ac -order (ematch := 60) (gen := 60) only [← State.pipPoints_evolves]

theorem State.pipAccept_evolves {s₀ s : State} (h : Evolves s₀ s) (n : Nat) (op : Nat) (tag : Nat) (named : Option Nat) :
    Evolves s₀ (State.pipAccept s n op tag named) := by
  unfold State.pipAccept
  grind -lia -ring -linarith -ac -order (ematch := 60) (gen := 60) only [← State.setPip_evolves, ← pipPointReached_evolves]

theorem State.pipEnable_evolves {s₀ s : State} (h : Evolves s₀ s) (n : Nat) (named : Option Nat) (tag : Nat) :
    Evolves s₀ (State.pipEnable s n named tag) := by
  unfold State.pipEnable
  grind -lia -ring -linarith -ac -order (ematch := 60) (gen := 60) only [← State.pipAccept_evolves, ← State.pipResult_evolves]

theorem State.pipDisable_evolves {s₀ s : State} (h : Evolves s₀ s) (n : Nat) (named : Option Nat) (tag : Nat) :
    Evolves s₀ (State.pipDisable s n named tag) := by
  unfold State.pipDisable
  grind -lia -ring -linarith -ac -order (ematch := 60) (gen := 60) only [← State.pipAccept_evolves, ← State.pipResult_evolves]

theorem State.pipApply_evolves {s₀ s : State} (h : Evolves s₀ s) (n : Nat) (named : Option Nat) (tag : Nat) :
    Evolves s₀ (State.pipApply s n named tag) := by
  unfold State.pipApply
  grind -lia -ring -linarith -ac -order (ematch := 60) (gen := 60) only [← State.pipAccept_evolves, ← State.pipResult_evolves]

theorem State.pipSoft_evolves {s₀ s : State} (h : Evolves s₀ s) (n : Nat) (mask : Nat) (named : Option Nat) :
    Evolves s₀ (State.pipSoft s n mask named) := by
  unfold State.pipSoft
  grind -lia -ring -linarith -ac -order (ematch := 60) (gen := 60) only [← State.pipResult_evolves, ← State.setPip_evolves]

theorem lineEvent_evolves {s₀ s : State} (h : Evolves s₀ s) (l : Nat) (time : Nat) :
    Evolves s₀ (lineEvent l time s) := by
  unfold lineEvent
  grind -lia -ring -linarith -ac -order (ematch := 60) (gen := 60) only [usr State.lineTaken_evolves, ← State.lineTaken_evolves]

theorem State.pipTake_evolves {s₀ s : State} (h : Evolves s₀ s) (rs : List Rec) :
    Evolves s₀ (State.pipTake s rs) := by
  unfold State.pipTake
  grind -lia -ring -linarith -ac -order (ematch := 60) (gen := 60) only [← State.pipFeed_evolves]

theorem State.pipHold_evolves {s₀ s : State} (h : Evolves s₀ s) :
    Evolves s₀ (State.pipHold s) := by
  unfold State.pipHold
  grind -lia -ring -linarith -ac -order (ematch := 60) (gen := 60) only [← State.emit_evolves, usr State.pulses_evolves, ← State.pulses_evolves, ← State.setTrigPin_evolves, ← List.foldl_evolves]

theorem State.pipResume_evolves {s₀ s : State} (h : Evolves s₀ s) :
    Evolves s₀ (State.pipResume s) := by
  unfold State.pipResume
  grind -lia -ring -linarith -ac -order (ematch := 60) (gen := 60) only [← State.setJ_evolves, ← State.setPip_evolves, ← List.foldl_evolves]

end Sys2Proof.Machine
end

