-- ==== Sys2Proof/Laws/EvolvesDramStore.lean ====
section
/-! SUPPORT. What the operations of Machine/DramStore.lean may do to a state (`Evolves`): one lemma for each. -/

namespace Sys2Proof.Machine

theorem State.setStore_evolves {s₀ s : State} (h : Evolves s₀ s) (f : Store → Store) :
    Evolves s₀ (State.setStore s f) := by
  unfold State.setStore
  grind -lia -ring -linarith -ac -order (ematch := 60) (gen := 60) only [← Evolves.store]

theorem State.ddrEvents_evolves {s₀ s : State} (h : Evolves s₀ s) :
    Evolves s₀ (State.ddrEvents s) := by
  unfold State.ddrEvents
  grind -lia -ring -linarith -ac -order (ematch := 60) (gen := 60) only [← State.assertOnce_evolves, ← List.foldl_evolves]

theorem State.dramErr_evolves {s₀ s : State} (h : Evolves s₀ s) (a : Nat) (f : Fld) :
    Evolves s₀ (State.dramErr s a f) := by
  unfold State.dramErr
  grind -lia -ring -linarith -ac -order (ematch := 60) (gen := 60) only [← State.assertOnce_evolves, ← State.setFd_evolves, ← State.setPair_evolves]

theorem State.logRetire_evolves {s₀ s : State} (h : Evolves s₀ s) (j : Nat) (a : Nat) :
    Evolves s₀ (State.logRetire s j a) := by
  unfold State.logRetire
  grind -lia -ring -linarith -ac -order (ematch := 60) (gen := 60) only [← State.writeLog_evolves]

theorem State.retirePage_evolves {s₀ s : State} (h : Evolves s₀ s) (a : Nat) :
    Evolves s₀ (State.retirePage s a) := by
  unfold State.retirePage
  grind -lia -ring -linarith -ac -order (ematch := 60) (gen := 60) only [← State.assertOnce_evolves, ← State.logRetire_evolves, ← State.raise_evolves, ← State.setFd_evolves, ← State.setStore_evolves]

theorem dramCorrectedError_evolves {s₀ s : State} (h : Evolves s₀ s) (a : Nat) :
    Evolves s₀ (dramCorrectedError a s) := by
  rw [dramCorrectedError]
  try dsimp only
  repeat' first
    | with_reducible assumption | with_reducible apply State.addSat_evolves | with_reducible apply State.dramErr_evolves | with_reducible apply State.retirePage_evolves | with_reducible apply State.setStore_evolves | with_reducible apply Evolves.ite | with_reducible apply Evolves.ite_fst
    | with_reducible apply List.foldl_evolves | with_reducible apply List.foldl_evolves_fst
    | intro _ _ _ | dsimp only | (split <;> try (rename_i hq; obtain ⟨rfl, rfl⟩ := Prod.eq_parts hq))

theorem State.poisonLine_evolves {s₀ s : State} (h : Evolves s₀ s) (a : Nat) :
    Evolves s₀ (State.poisonLine s a) := by
  unfold State.poisonLine
  grind -lia -ring -linarith -ac -order (ematch := 60) (gen := 60) only [← State.setStore_evolves]

theorem State.dramUe_evolves {s₀ s : State} (h : Evolves s₀ s) (a : Nat) :
    Evolves s₀ (State.dramUe s a) := by
  unfold State.dramUe
  grind -lia -ring -linarith -ac -order (ematch := 60) (gen := 60) only [← State.addSat_evolves, ← State.dramErr_evolves, ← State.raise_evolves]

theorem dramUncorrectable_evolves {s₀ s : State} (h : Evolves s₀ s) (a : Nat) :
    Evolves s₀ (dramUncorrectable a s) := by
  rw [dramUncorrectable]
  try dsimp only
  repeat' first
    | with_reducible assumption | with_reducible apply State.dramUe_evolves | with_reducible apply State.poisonLine_evolves | with_reducible apply State.retirePage_evolves | with_reducible apply Evolves.ite | with_reducible apply Evolves.ite_fst
    | with_reducible apply List.foldl_evolves | with_reducible apply List.foldl_evolves_fst
    | intro _ _ _ | dsimp only | (split <;> try (rename_i hq; obtain ⟨rfl, rfl⟩ := Prod.eq_parts hq))

theorem patrolScrub_evolves {s₀ s : State} (h : Evolves s₀ s) (ecc : Ecc) :
    Evolves s₀ (patrolScrub ecc s) := by
  rw [patrolScrub]
  try dsimp only
  repeat' first
    | with_reducible assumption | with_reducible apply State.setStore_evolves | with_reducible apply dramCorrectedError_evolves | with_reducible apply dramUncorrectable_evolves | with_reducible apply Evolves.ite | with_reducible apply Evolves.ite_fst
    | with_reducible apply List.foldl_evolves | with_reducible apply List.foldl_evolves_fst
    | intro _ _ _ | dsimp only | (split <;> try (rename_i hq; obtain ⟨rfl, rfl⟩ := Prod.eq_parts hq))

theorem State.drmCmdSts_evolves {s₀ s : State} (h : Evolves s₀ s) (op : Nat) (result : Nat) :
    Evolves s₀ (State.drmCmdSts s op result) := by
  unfold State.drmCmdSts
  grind -lia -ring -linarith -ac -order (ematch := 60) (gen := 60) only [← State.incFd_evolves, ← State.setFd_evolves]

theorem drmRetire_evolves {s₀ s : State} (h : Evolves s₀ s) :
    Evolves s₀ (drmRetire s) := by
  unfold drmRetire
  grind -lia -ring -linarith -ac -order (ematch := 60) (gen := 60) only [← State.drmCmdSts_evolves, ← State.retirePage_evolves]

theorem drmScrubNow_evolves {s₀ s : State} (h : Evolves s₀ s) :
    Evolves s₀ (drmScrubNow s) := by
  unfold drmScrubNow
  grind -lia -ring -linarith -ac -order (ematch := 60) (gen := 60) only [← State.drmCmdSts_evolves, ← State.setStore_evolves]

theorem State.dramWrite_evolves {s₀ s : State} (h : Evolves s₀ s) (a : Nat) (bs : List Byte) :
    Evolves s₀ (State.dramWrite s a bs) := by
  unfold State.dramWrite
  grind -lia -ring -linarith -ac -order (ematch := 60) (gen := 60) only [← State.setStore_evolves, ← Evolves.dram]

theorem State.notePoison_evolves {s₀ s : State} (h : Evolves s₀ s) (a : Nat) (n : Nat) :
    Evolves s₀ (State.notePoison s a n) := by
  unfold State.notePoison
  grind -lia -ring -linarith -ac -order (ematch := 60) (gen := 60) only [← State.dramUe_evolves, ← State.setFd_evolves, ← List.foldl_evolves]

theorem State.setRing_evolves {s₀ s : State} (h : Evolves s₀ s) (r : Nat) (x : Ring) :
    Evolves s₀ (State.setRing s r x) := by
  unfold State.setRing
  grind -lia -ring -linarith -ac -order (ematch := 60) (gen := 60) only [← State.setStore_evolves]

theorem State.setWr_evolves {s₀ s : State} (h : Evolves s₀ s) (r : Nat) (v : Nat) :
    Evolves s₀ (State.setWr s r v) := by
  unfold State.setWr
  grind -lia -ring -linarith -ac -order (ematch := 60) (gen := 60) only [← State.setPair_evolves]

theorem State.setWriter_evolves {s₀ s : State} (h : Evolves s₀ s) (r : Nat) (w : Nat) :
    Evolves s₀ (State.setWriter s r w) := by
  unfold State.setWriter
  grind -lia -ring -linarith -ac -order (ematch := 60) (gen := 60) only [← State.setFd_evolves, ← State.setRing_evolves]

theorem State.ringPut_evolves {s₀ s : State} (h : Evolves s₀ s) (r : Nat) (pos : Nat) (rs : List Rec) :
    Evolves s₀ (State.ringPut s r pos rs) := by
  unfold State.ringPut
  grind -lia -ring -linarith -ac -order (ematch := 60) (gen := 60) only [← State.dramWrite_evolves]

theorem State.closeExtent_evolves {s₀ s : State} (h : Evolves s₀ s) (r : Nat) :
    Evolves s₀ (State.closeExtent s r) := by
  rw [State.closeExtent]
  try dsimp only
  repeat' first
    | with_reducible assumption | with_reducible apply State.ringPut_evolves | with_reducible apply State.setRing_evolves | with_reducible apply State.setWr_evolves | with_reducible apply Evolves.ite | with_reducible apply Evolves.ite_fst
    | with_reducible apply List.foldl_evolves | with_reducible apply List.foldl_evolves_fst
    | intro _ _ _ | dsimp only | (split <;> try (rename_i hq; obtain ⟨rfl, rfl⟩ := Prod.eq_parts hq))

theorem State.setDrive_evolves {s₀ s : State} (h : Evolves s₀ s) (d : Nat) (x : Drive) :
    Evolves s₀ (State.setDrive s d x) := by
  unfold State.setDrive
  grind -lia -ring -linarith -ac -order (ematch := 60) (gen := 60) only [← State.setStore_evolves]

theorem State.setDrv_evolves {s₀ s : State} (h : Evolves s₀ s) (d : Nat) (st : Nat) :
    Evolves s₀ (State.setDrv s d st) := by
  unfold State.setDrv
  grind -lia -ring -linarith -ac -order (ematch := 60) (gen := 60) only [← State.assertOnce_evolves, ← State.setFd_evolves]

theorem State.nvIssue_evolves {s₀ s : State} (h : Evolves s₀ s) (d : Nat) (opcode : Nat) (region : Nat) (xseq : Nat) (slot : Nat) (part : Nat) (args : List Nat) :
    Evolves s₀ (State.nvIssue s d opcode region xseq slot part args) := by
  unfold State.nvIssue
  grind -lia -ring -linarith -ac -order (ematch := 60) (gen := 60) only [← State.emit_evolves, ← State.setDrive_evolves]

theorem State.dirWrite_evolves {s₀ s : State} (h : Evolves s₀ s) (d : Nat) (slot : Nat) (e : Option DirEntry) :
    Evolves s₀ (State.dirWrite s d slot e) := by
  unfold State.dirWrite
  grind -lia -ring -linarith -ac -order (ematch := 60) (gen := 60) only [← State.nvIssue_evolves, ← State.setDrive_evolves]

theorem State.nvWrap_evolves {s₀ s : State} (h : Evolves s₀ s) (d : Nat) :
    Evolves s₀ (State.nvWrap s d) := by
  unfold State.nvWrap
  grind -lia -ring -linarith -ac -order (ematch := 60) (gen := 60) only [← State.dropLive_evolves, ← State.setDrv_evolves, ← State.setFd_evolves]

theorem State.giveTo_evolves {s₀ s : State} (h : Evolves s₀ s) (d : Nat) (r : Nat) (xs : Nat) :
    Evolves s₀ (State.giveTo s d r xs) := by
  unfold State.giveTo
  grind -lia -ring -linarith -ac -order (ematch := 60) (gen := 60) only [← State.dirWrite_evolves, ← State.notePoison_evolves, ← State.nvIssue_evolves, ← State.raise_evolves, ← State.setDrive_evolves, ← State.setDrv_evolves, ← State.setFd_evolves, ← List.foldl_evolves]

theorem State.giveOne_evolves {s₀ s : State} (h : Evolves s₀ s) :
    Evolves s₀ (State.giveOne s).1 := by
  unfold State.giveOne
  grind -lia -ring -linarith -ac -order (ematch := 60) (gen := 60) only [← State.giveTo_evolves, ← State.setRing_evolves, ← State.setStore_evolves]
grind_pattern State.giveOne_evolves => Evolves s₀ s, State.giveOne s

theorem State.giveAll_evolves {s₀ s : State} (h : Evolves s₀ s) (x0 : Nat) :
    Evolves s₀ (State.giveAll x0 s) := by
  induction x0 generalizing s with
  | zero => unfold State.giveAll; grind -lia -ring -linarith -ac -order (ematch := 60) (gen := 60) only [usr State.giveOne_evolves, ← State.giveOne_evolves]
  | succ n ih => unfold State.giveAll; grind -lia -ring -linarith -ac -order (ematch := 60) (gen := 60) only [usr State.giveOne_evolves, ← State.giveOne_evolves]

theorem State.spillGive_evolves {s₀ s : State} (h : Evolves s₀ s) :
    Evolves s₀ (State.spillGive s) := by
  unfold State.spillGive
  grind -lia -ring -linarith -ac -order (ematch := 60) (gen := 60) only [← State.giveAll_evolves, ← State.nvWrap_evolves]

theorem State.ringFull_evolves {s₀ s : State} (h : Evolves s₀ s) (r : Nat) :
    Evolves s₀ (State.ringFull s r) := by
  unfold State.ringFull
  grind -lia -ring -linarith -ac -order (ematch := 60) (gen := 60) only [← State.ddrEvents_evolves, ← State.setFd_evolves, ← State.setRing_evolves]

theorem State.ringWrite_evolves {s₀ s : State} (h : Evolves s₀ s) (r : Nat) (rs : List Rec) :
    Evolves s₀ (State.ringWrite s r rs).1 := by
  rw [State.ringWrite]
  try dsimp only
  repeat' first
    | with_reducible assumption | with_reducible apply State.closeExtent_evolves | with_reducible apply State.ringFull_evolves | with_reducible apply State.ringPut_evolves | with_reducible apply State.setRing_evolves | with_reducible apply State.setWr_evolves | with_reducible apply State.spillGive_evolves | with_reducible apply Evolves.ite | with_reducible apply Evolves.ite_fst
    | with_reducible apply List.foldl_evolves | with_reducible apply List.foldl_evolves_fst
    | intro _ _ _ | dsimp only | (split <;> try (rename_i hq; obtain ⟨rfl, rfl⟩ := Prod.eq_parts hq))
grind_pattern State.ringWrite_evolves => Evolves s₀ s, State.ringWrite s r rs

theorem State.ringLeave_evolves {s₀ s : State} (h : Evolves s₀ s) (r : Nat) :
    Evolves s₀ (State.ringLeave s r) := by
  unfold State.ringLeave
  grind -lia -ring -linarith -ac -order (ematch := 60) (gen := 60) only [← State.closeExtent_evolves, ← State.setWriter_evolves, ← State.spillGive_evolves]

theorem extentCloseTimeout_evolves {s₀ s : State} (h : Evolves s₀ s) (r : Nat) :
    Evolves s₀ (extentCloseTimeout r s) := by
  unfold extentCloseTimeout
  grind -lia -ring -linarith -ac -order (ematch := 60) (gen := 60) only [← State.closeExtent_evolves, ← State.spillGive_evolves]

theorem State.dropWriting_evolves {s₀ s : State} (h : Evolves s₀ s) (d : Nat) (r : Nat) :
    Evolves s₀ (State.dropWriting s d r) := by
  unfold State.dropWriting
  grind -lia -ring -linarith -ac -order (ematch := 60) (gen := 60) only [← State.setDrive_evolves]

theorem resetRing_evolves {s₀ s : State} (h : Evolves s₀ s) (r : Nat) :
    Evolves s₀ (resetRing r s) := by
  unfold resetRing
  grind -lia -ring -linarith -ac -order (ematch := 60) (gen := 60) only [← State.drmCmdSts_evolves, ← State.dropWriting_evolves, ← State.setPair_evolves, ← State.setRing_evolves, ← State.setWr_evolves]

theorem drmRgRdWrite_evolves {s₀ s : State} (h : Evolves s₀ s) (r : Nat) (v : Nat) :
    Evolves s₀ (drmRgRdWrite r v s) := by
  unfold drmRgRdWrite
  split
  · exact h
  split
  · exact State.setFd_evolves h ..
  · exact State.spillGive_evolves (State.setPair_evolves h ..)

theorem State.spAdvance_evolves {s₀ s : State} (h : Evolves s₀ s) (r : Nat) (x0 : Nat) :
    Evolves s₀ (State.spAdvance r x0 s) := by
  induction x0 generalizing s with
  | zero => unfold State.spAdvance; grind -lia -ring -linarith -ac -order (ematch := 60) (gen := 60) only [← State.setPair_evolves, ← State.setRing_evolves]
  | succ n ih => unfold State.spAdvance; grind -lia -ring -linarith -ac -order (ematch := 60) (gen := 60) only [← State.setPair_evolves, ← State.setRing_evolves]

theorem extentWriteComplete_evolves {s₀ s : State} (h : Evolves s₀ s) (d : Nat) (slot : Nat) :
    Evolves s₀ (extentWriteComplete d slot s) := by
  unfold extentWriteComplete
  grind -lia -ring -linarith -ac -order (ematch := 60) (gen := 60) only [← State.dirWrite_evolves, ← State.setDrive_evolves, ← State.setPair_evolves, ← State.setRing_evolves, ← State.spAdvance_evolves, ← State.spillGive_evolves]

theorem State.nvNone_evolves {s₀ s : State} (h : Evolves s₀ s) :
    Evolves s₀ (State.nvNone s) := by
  unfold State.nvNone
  grind -lia -ring -linarith -ac -order (ematch := 60) (gen := 60) only [← State.raise_evolves]

theorem State.redoExtent_evolves {s₀ s : State} (h : Evolves s₀ s) (r : Nat) (xs : Nat) :
    Evolves s₀ (State.redoExtent s r xs) := by
  unfold State.redoExtent
  grind -lia -ring -linarith -ac -order (ematch := 60) (gen := 60) only [← State.setRing_evolves]

theorem State.giveBack_evolves {s₀ s : State} (h : Evolves s₀ s) (d : Nat) (keep : NvCmd → Bool) :
    Evolves s₀ (State.giveBack s d keep) := by
  unfold State.giveBack
  grind -lia -ring -linarith -ac -order (ematch := 60) (gen := 60) only [← State.redoExtent_evolves, ← State.setDrive_evolves, ← List.foldl_evolves]

theorem State.readFails_evolves {s₀ s : State} (h : Evolves s₀ s) (d : Nat) :
    Evolves s₀ (State.readFails s d) := by
  unfold State.readFails
  grind -lia -ring -linarith -ac -order (ematch := 60) (gen := 60) only [← State.assertOnce_evolves, ← State.setFd_evolves, ← State.setStore_evolves]

theorem State.driveLost_evolves {s₀ s : State} (h : Evolves s₀ s) (d : Nat) :
    Evolves s₀ (State.driveLost s d) := by
  unfold State.driveLost
  grind -lia -ring -linarith -ac -order (ematch := 60) (gen := 60) only [← State.giveBack_evolves, ← State.readFails_evolves]

theorem State.degrade_evolves {s₀ s : State} (h : Evolves s₀ s) (d : Nat) :
    Evolves s₀ (State.degrade s d) := by
  unfold State.degrade
  grind -lia -ring -linarith -ac -order (ematch := 60) (gen := 60) only [← State.dropLive_evolves, usr State.free_evolves, ← State.free_evolves, ← State.giveBack_evolves, ← State.nvNone_evolves, ← State.raise_evolves, ← State.setDrv_evolves, ← State.spillGive_evolves]

theorem nvmeCompletion_evolves {s₀ s : State} (h : Evolves s₀ s) (d : Nat) (id : Nat) (status : Nat) :
    Evolves s₀ (nvmeCompletion d id status s) := by
  unfold nvmeCompletion
  grind -lia -ring -linarith -ac -order (ematch := 60) (gen := 60) only [← State.degrade_evolves, ← State.emit_evolves, ← State.setDrive_evolves, ← State.spillGive_evolves]

theorem nvmeCommandTimeout_evolves {s₀ s : State} (h : Evolves s₀ s) (d : Nat) (id : Nat) (ready : Bool) :
    Evolves s₀ (nvmeCommandTimeout d id ready s) := by
  unfold nvmeCommandTimeout
  grind -lia -ring -linarith -ac -order (ematch := 60) (gen := 60) only [← State.degrade_evolves, ← State.emit_evolves, ← State.incFd_evolves, ← State.raise_evolves, ← State.setDrive_evolves, ← State.setFd_evolves, ← List.foldl_evolves]

theorem nvmeLinkLoss_evolves {s₀ s : State} (h : Evolves s₀ s) (d : Nat) :
    Evolves s₀ (nvmeLinkLoss d s) := by
  unfold nvmeLinkLoss
  grind -lia -ring -linarith -ac -order (ematch := 60) (gen := 60) only [← State.degrade_evolves, ← State.setFd_evolves]

theorem driveInitDone_evolves {s₀ s : State} (h : Evolves s₀ s) (d : Nat) (env : DriveEnv) :
    Evolves s₀ (driveInitDone d env s) := by
  unfold driveInitDone
  grind -lia -ring -linarith -ac -order (ematch := 60) (gen := 60) only [← State.dropLive_evolves, usr State.free_evolves, ← State.free_evolves, ← State.nvNone_evolves, ← State.raise_evolves, ← State.setDrive_evolves, ← State.setDrv_evolves, ← State.setFd_evolves, ← State.spillGive_evolves, ← List.foldl_evolves, ← OpOut.within_ok, ← OpOut.within_abort, ← OpOut.within_abortIn, OpOut.Within]

theorem smartPoll_evolves {s₀ s : State} (h : Evolves s₀ s) (d : Nat) (warning : Nat) :
    Evolves s₀ (smartPoll d warning s) := by
  unfold smartPoll
  grind -lia -ring -linarith -ac -order (ematch := 60) (gen := 60) only [← State.dropLive_evolves, ← State.raise_evolves, ← State.setDrive_evolves, ← State.setFd_evolves]

theorem State.nvsCmdSts_evolves {s₀ s : State} (h : Evolves s₀ s) (d : Nat) (op : Nat) (result : Nat) :
    Evolves s₀ (State.nvsCmdSts s d op result) := by
  unfold State.nvsCmdSts
  grind -lia -ring -linarith -ac -order (ematch := 60) (gen := 60) only [← State.incFd_evolves, ← State.setFd_evolves]

theorem nvsReinit_evolves {s₀ s : State} (h : Evolves s₀ s) (d : Nat) :
    Evolves s₀ (nvsReinit d s) := by
  unfold nvsReinit
  grind -lia -ring -linarith -ac -order (ematch := 60) (gen := 60) only [← State.driveLost_evolves, ← State.nvsCmdSts_evolves, ← State.setDrv_evolves, ← State.spillGive_evolves]

theorem nvsFlush_evolves {s₀ s : State} (h : Evolves s₀ s) (d : Nat) :
    Evolves s₀ (nvsFlush d s) := by
  unfold nvsFlush
  grind -lia -ring -linarith -ac -order (ematch := 60) (gen := 60) only [← State.nvIssue_evolves, ← State.nvsCmdSts_evolves]

theorem nvsFormat_evolves {s₀ s : State} (h : Evolves s₀ s) (d : Nat) :
    Evolves s₀ (nvsFormat d s) := by
  unfold nvsFormat
  grind -lia -ring -linarith -ac -order (ematch := 60) (gen := 60) only [← State.dropLive_evolves, ← State.giveBack_evolves, ← State.nvIssue_evolves, ← State.nvsCmdSts_evolves, ← State.setDrive_evolves, ← State.setDrv_evolves, ← State.setFd_evolves, ← State.spillGive_evolves]

theorem extentRead_evolves {s₀ s : State} (h : Evolves s₀ s) :
    Evolves s₀ (extentRead s) := by
  unfold extentRead
  grind -lia -ring -linarith -ac -order (ematch := 60) (gen := 60) only [← State.assertOnce_evolves, ← State.incFd_evolves, ← State.nvIssue_evolves, ← State.setFd_evolves, ← State.setStore_evolves]

theorem extentReadDone_evolves {s₀ s : State} (h : Evolves s₀ s) (ok : Bool) (data : List Byte) :
    Evolves s₀ (extentReadDone ok data s) := by
  unfold extentReadDone
  grind -lia -ring -linarith -ac -order (ematch := 60) (gen := 60) only [← State.assertOnce_evolves, ← State.dramWrite_evolves, ← State.emit_evolves, usr State.mayRequest_evolves, ← State.mayRequest_evolves, ← State.setDrive_evolves, ← State.setFd_evolves, ← State.setStore_evolves, ← State.spillGive_evolves]

end Sys2Proof.Machine
end

