-- ==== Sys2Proof/Laws/EvolvesAcquire.lean ====
section
/-! SUPPORT. What the operations of Machine/Acquire.lean may do to a state (`Evolves`): one lemma for each. -/

namespace Sys2Proof.Machine

theorem State.acqPut_evolves {s₀ s : State} (h : Evolves s₀ s) (a : Nat) (e : AItem) :
    Evolves s₀ (State.acqPut s a e) := by
  unfold State.acqPut
  grind -lia -ring -linarith -ac -order (ematch := 60) (gen := 60) only [← State.setAcqU_evolves]

theorem State.acqTake_evolves {s₀ s : State} (h : Evolves s₀ s) (rs : List Rec) :
    Evolves s₀ (State.acqTake s rs) := by
  unfold State.acqTake
  grind -lia -ring -linarith -ac -order (ematch := 60) (gen := 60) only [← State.acqPut_evolves]

theorem State.acqEpoch_evolves {s₀ s : State} (h : Evolves s₀ s) (r : Rec) :
    Evolves s₀ (State.acqEpoch s r) := by
  unfold State.acqEpoch
  grind -lia -ring -linarith -ac -order (ematch := 60) (gen := 60) only [← State.acqPut_evolves, ← List.foldl_evolves]

theorem State.noteLost_evolves {s₀ s : State} (h : Evolves s₀ s) (a : Nat) (n : Nat) :
    Evolves s₀ (State.noteLost s a n) := by
  unfold State.noteLost
  grind -lia -ring -linarith -ac -order (ematch := 60) (gen := 60) only [← State.pipEvt_evolves, ← State.setFd_evolves, ← State.setPair_evolves]

theorem State.segFlush_evolves {s₀ s : State} (h : Evolves s₀ s) (a : Nat) (g : ASeg) :
    Evolves s₀ (State.segFlush s a g).1 := by
  unfold State.segFlush
  grind -lia -ring -linarith -ac -order (ematch := 60) (gen := 60) only [← State.noteLost_evolves]
grind_pattern State.segFlush_evolves => Evolves s₀ s, State.segFlush s a g

theorem State.commitPart_evolves {s₀ s : State} (h : Evolves s₀ s) (a : Nat) (g : ASeg) (final : Bool) :
    Evolves s₀ (State.commitPart s a g final).1 := by
  rw [State.commitPart]
  try dsimp only
  repeat' first
    | with_reducible assumption | with_reducible apply State.ringWrite_evolves | with_reducible apply Evolves.ite | with_reducible apply Evolves.ite_fst
    | with_reducible apply List.foldl_evolves | with_reducible apply List.foldl_evolves_fst
    | intro _ _ _ | dsimp only | (split <;> try (rename_i hq; obtain ⟨rfl, rfl⟩ := Prod.eq_parts hq))
grind_pattern State.commitPart_evolves => Evolves s₀ s, State.commitPart s a g final

theorem State.segAdd_evolves {s₀ s : State} (h : Evolves s₀ s) (a : Nat) (g : ASeg) (i : AItem) (post : Bool) :
    Evolves s₀ (State.segAdd s a g i post).1 := by
  unfold State.segAdd
  grind -lia -ring -linarith -ac -order (ematch := 60) (gen := 60) only [usr State.commitPart_evolves, ← State.commitPart_evolves, usr State.segFlush_evolves, ← State.segFlush_evolves]
grind_pattern State.segAdd_evolves => Evolves s₀ s, State.segAdd s a g i post

theorem State.openSegment_evolves {s₀ s : State} (h : Evolves s₀ s) (a : Nat) (t : ATrig) :
    Evolves s₀ (State.openSegment s a t) := by
  rw [State.openSegment]
  try dsimp only
  repeat' first
    | with_reducible assumption | with_reducible apply State.segAdd_evolves | with_reducible apply State.segFlush_evolves | with_reducible apply State.setAcqU_evolves | with_reducible apply State.setFd_evolves | with_reducible apply Evolves.ite | with_reducible apply Evolves.ite_fst
    | with_reducible apply List.foldl_evolves | with_reducible apply List.foldl_evolves_fst
    | intro _ _ _ | dsimp only | (split <;> try (rename_i hq; obtain ⟨rfl, rfl⟩ := Prod.eq_parts hq))

theorem State.controlPage_evolves {s₀ s : State} (h : Evolves s₀ s) (a : Nat) :
    Evolves s₀ (State.controlPage s a) := by
  unfold State.controlPage
  grind -lia -ring -linarith -ac -order (ematch := 60) (gen := 60) only [← State.dramWrite_evolves]

theorem State.acqLeave_evolves {s₀ s : State} (h : Evolves s₀ s) (a : Nat) (st : Nat) :
    Evolves s₀ (State.acqLeave s a st) := by
  unfold State.acqLeave
  grind -lia -ring -linarith -ac -order (ematch := 60) (gen := 60) only [← State.pipEvt_evolves, ← State.ringLeave_evolves, ← State.setAcqU_evolves, ← State.setFd_evolves]

theorem State.closeSegment_evolves {s₀ s : State} (h : Evolves s₀ s) (a : Nat) (tClose : Nat) (why : Nat) :
    Evolves s₀ (State.closeSegment s a tClose why) := by
  rw [State.closeSegment]
  try dsimp only
  repeat' first
    | with_reducible assumption | with_reducible apply State.acqLeave_evolves | with_reducible apply State.addSat_evolves | with_reducible apply State.commitPart_evolves | with_reducible apply State.controlPage_evolves | with_reducible apply State.dramWrite_evolves | with_reducible apply State.segFlush_evolves | with_reducible apply State.setAcqU_evolves | with_reducible apply State.setFd_evolves | with_reducible apply Evolves.ite | with_reducible apply Evolves.ite_fst
    | with_reducible apply List.foldl_evolves | with_reducible apply List.foldl_evolves_fst
    | intro _ _ _ | dsimp only | (split <;> try (rename_i hq; obtain ⟨rfl, rfl⟩ := Prod.eq_parts hq))

theorem State.acqTrigger_evolves {s₀ s : State} (h : Evolves s₀ s) (a : Nat) (t : ATrig) :
    Evolves s₀ (State.acqTrigger s a t) := by
  unfold State.acqTrigger
  grind -lia -ring -linarith -ac -order (ematch := 60) (gen := 60) only [← State.addSat_evolves, ← State.openSegment_evolves, ← State.setAcqU_evolves]

theorem State.streamPut_evolves {s₀ s : State} (h : Evolves s₀ s) (a : Nat) (time : Nat) (chan : Nat) (rs : List Rec) (lost : Bool) :
    Evolves s₀ (State.streamPut s a time chan rs lost) := by
  rw [State.streamPut]
  try dsimp only
  repeat' first
    | with_reducible assumption | with_reducible apply State.noteLost_evolves | with_reducible apply State.ringWrite_evolves | with_reducible apply State.setAcqU_evolves | with_reducible apply Evolves.ite | with_reducible apply Evolves.ite_fst
    | with_reducible apply List.foldl_evolves | with_reducible apply List.foldl_evolves_fst
    | intro _ _ _ | dsimp only | (split <;> try (rename_i hq; obtain ⟨rfl, rfl⟩ := Prod.eq_parts hq))

theorem State.acqDeliver_evolves {s₀ s : State} (h : Evolves s₀ s) (a : Nat) (i : AItem) :
    Evolves s₀ (State.acqDeliver s a i) := by
  unfold State.acqDeliver
  grind -lia -ring -linarith -ac -order (ematch := 60) (gen := 60) only [usr State.segAdd_evolves, ← State.segAdd_evolves, ← State.setAcqU_evolves, ← State.streamPut_evolves]

theorem State.acqTryStop_evolves {s₀ s : State} (h : Evolves s₀ s) (a : Nat) :
    Evolves s₀ (State.acqTryStop s a) := by
  rw [State.acqTryStop]
  try dsimp only
  repeat' first
    | with_reducible assumption | with_reducible apply State.acqLeave_evolves | with_reducible apply State.closeSegment_evolves | with_reducible apply State.noteLost_evolves | with_reducible apply State.pipEvt_evolves | with_reducible apply State.ringWrite_evolves | with_reducible apply State.setFd_evolves | with_reducible apply Evolves.ite | with_reducible apply Evolves.ite_fst
    | with_reducible apply List.foldl_evolves | with_reducible apply List.foldl_evolves_fst
    | intro _ _ _ | dsimp only | (split <;> try (rename_i hq; obtain ⟨rfl, rfl⟩ := Prod.eq_parts hq))

theorem State.releaseOne_evolves {s₀ s : State} (h : Evolves s₀ s) (a : Nat) :
    Evolves s₀ (State.releaseOne s a) := by
  unfold State.releaseOne
  grind -lia -ring -linarith -ac -order (ematch := 60) (gen := 60) only [← State.acqDeliver_evolves, ← State.acqTrigger_evolves, ← State.acqTryStop_evolves, ← State.closeSegment_evolves, ← State.setAcqU_evolves, ← State.streamPut_evolves]

theorem acqRelease_evolves {s₀ s : State} (h : Evolves s₀ s) (a : Nat) :
    Evolves s₀ (acqRelease a s) := by
  unfold acqRelease
  grind -lia -ring -linarith -ac -order (ematch := 60) (gen := 60) only [← State.acqTryStop_evolves, ← State.releaseOne_evolves]

theorem segmentClose_evolves {s₀ s : State} (h : Evolves s₀ s) (a : Nat) :
    Evolves s₀ (segmentClose a s) := by
  unfold segmentClose
  grind -lia -ring -linarith -ac -order (ematch := 60) (gen := 60) only [← State.acqTryStop_evolves, ← State.closeSegment_evolves]

theorem State.acqResult_evolves {s₀ s : State} (h : Evolves s₀ s) (a : Nat) (r : Nat) :
    Evolves s₀ (State.acqResult s a r) := by
  unfold State.acqResult
  grind -lia -ring -linarith -ac -order (ematch := 60) (gen := 60) only [← State.incFd_evolves, ← State.setFd_evolves]

theorem State.acqArm_evolves {s₀ s : State} (h : Evolves s₀ s) (a : Nat) (named : Option Nat) :
    Evolves s₀ (State.acqArm s a named) := by
  unfold State.acqArm
  grind -lia -ring -linarith -ac -order (ematch := 60) (gen := 60) only [← State.acqResult_evolves, ← State.controlPage_evolves, ← State.setAcqU_evolves, ← State.setFd_evolves, ← State.setPair_evolves, ← State.setRg_evolves, ← State.setWriter_evolves]

theorem State.acqStopAt_evolves {s₀ s : State} (h : Evolves s₀ s) (a : Nat) (point : Nat) (why : Nat) :
    Evolves s₀ (State.acqStopAt s a point why) := by
  unfold State.acqStopAt
  grind -lia -ring -linarith -ac -order (ematch := 60) (gen := 60) only [← State.acqTryStop_evolves, ← State.setAcqU_evolves]

theorem State.acqStop_evolves {s₀ s : State} (h : Evolves s₀ s) (a : Nat) (named : Option Nat) :
    Evolves s₀ (State.acqStop s a named) := by
  unfold State.acqStop
  grind -lia -ring -linarith -ac -order (ematch := 60) (gen := 60) only [← State.acqResult_evolves, ← State.acqStopAt_evolves]

theorem acqArmPoint_evolves {s₀ s : State} (h : Evolves s₀ s) (a : Nat) :
    Evolves s₀ (acqArmPoint a s) := by
  rw [acqArmPoint]
  try dsimp only
  repeat' first
    | with_reducible assumption | with_reducible apply State.ringWrite_evolves | with_reducible apply State.setAcqU_evolves | with_reducible apply State.setFd_evolves | with_reducible apply Evolves.ite | with_reducible apply Evolves.ite_fst
    | with_reducible apply List.foldl_evolves | with_reducible apply List.foldl_evolves_fst
    | intro _ _ _ | dsimp only | (split <;> try (rename_i hq; obtain ⟨rfl, rfl⟩ := Prod.eq_parts hq))

theorem acqSegRdWrite_evolves {s₀ s : State} (h : Evolves s₀ s) (a : Nat) (v : Nat) :
    Evolves s₀ (acqSegRdWrite a v s) := by
  unfold acqSegRdWrite
  grind -lia -ring -linarith -ac -order (ematch := 60) (gen := 60) only [← State.setFd_evolves]

theorem State.acqDrain_evolves {s₀ s : State} (h : Evolves s₀ s) (a : Nat) (x0 : Nat) :
    Evolves s₀ (State.acqDrain a x0 s) := by
  induction x0 generalizing s with
  | zero => unfold State.acqDrain; grind -lia -ring -linarith -ac -order (ematch := 60) (gen := 60) only [← State.releaseOne_evolves]
  | succ n ih => unfold State.acqDrain; grind -lia -ring -linarith -ac -order (ematch := 60) (gen := 60) only [← State.releaseOne_evolves]

theorem State.acqHold_evolves {s₀ s : State} (h : Evolves s₀ s) (why : Nat) :
    Evolves s₀ (State.acqHold s why) := by
  unfold State.acqHold
  grind -lia -ring -linarith -ac -order (ematch := 60) (gen := 60) only [← State.acqDrain_evolves, ← State.acqStopAt_evolves, ← List.foldl_evolves]

theorem State.acqShed_evolves {s₀ s : State} (h : Evolves s₀ s) :
    Evolves s₀ (State.acqShed s) := by
  unfold State.acqShed
  grind -lia -ring -linarith -ac -order (ematch := 60) (gen := 60) only [← State.setAcqU_evolves, ← State.setFd_evolves, ← State.setWriter_evolves, ← List.foldl_evolves]

end Sys2Proof.Machine
end

