-- ==== Sys2Proof/Laws/EvolvesCascade.lean ====
section
/-! SUPPORT. What the operations of Machine/Cascade.lean may do to a state (`Evolves`): one lemma for each. -/

namespace Sys2Proof.Machine

theorem State.setCasc_evolves {s₀ s : State} (h : Evolves s₀ s) (f : Casc → Casc) :
    Evolves s₀ (State.setCasc s f) := by
  unfold State.setCasc
  grind -lia -ring -linarith -ac -order (ematch := 60) (gen := 60) only [← Evolves.casc]

theorem State.ctlDown_evolves {s₀ s : State} (h : Evolves s₀ s) (slots : List Nat) :
    Evolves s₀ (State.ctlDown s slots) := by
  unfold State.ctlDown
  grind -lia -ring -linarith -ac -order (ematch := 60) (gen := 60) only [← State.sendCtl_evolves, ← List.foldl_evolves]

theorem State.detach_evolves {s₀ s : State} (h : Evolves s₀ s) (err : Int) :
    Evolves s₀ (State.detach s err) := by
  unfold State.detach
  grind -lia -ring -linarith -ac -order (ematch := 60) (gen := 60) only [← State.linkEvt_evolves, ← State.setFd_evolves]

theorem State.setMem_evolves {s₀ s : State} (h : Evolves s₀ s) (m : Nat) :
    Evolves s₀ (State.setMem s m) := by
  unfold State.setMem
  grind -lia -ring -linarith -ac -order (ematch := 60) (gen := 60) only [← State.linkLevel_evolves, ← State.setFd_evolves, ← State.setPair_evolves]

theorem State.lineDly_evolves {s₀ s : State} (h : Evolves s₀ s) :
    Evolves s₀ (State.lineDly s) := by
  unfold State.lineDly
  grind -lia -ring -linarith -ac -order (ematch := 60) (gen := 60) only [← State.ctlDown_evolves, ← State.setFd_evolves, ← List.foldl_evolves]

theorem State.childJoined_evolves {s₀ s : State} (h : Evolves s₀ s) (l : Nat) (dev : Nat) :
    Evolves s₀ (State.childJoined s l dev) := by
  unfold State.childJoined
  grind -lia -ring -linarith -ac -order (ematch := 60) (gen := 60) only [← State.modLink_evolves, ← State.stepCredit_evolves, ← State.stepSync_evolves]

theorem joinFlit_evolves {s₀ s : State} (h : Evolves s₀ s) (l : Nat) (f : Flit) :
    Evolves s₀ (joinFlit l f s) := by
  rw [joinFlit]
  try dsimp only
  repeat' first
    | with_reducible assumption | with_reducible apply State.accept_evolves | with_reducible apply State.childJoined_evolves | with_reducible apply State.lineDly_evolves | with_reducible apply State.linkEvt_evolves | with_reducible apply State.sendCtl_evolves | with_reducible apply State.setCasc_evolves | with_reducible apply State.setMem_evolves | with_reducible apply Evolves.ite | with_reducible apply Evolves.ite_fst
    | with_reducible apply List.foldl_evolves | with_reducible apply List.foldl_evolves_fst
    | intro _ _ _ | dsimp only | (split <;> try (rename_i hq; obtain ⟨rfl, rfl⟩ := Prod.eq_parts hq))

theorem acceptFlit_evolves {s₀ s : State} (h : Evolves s₀ s) (f : Flit) :
    Evolves s₀ (acceptFlit f s) := by
  unfold acceptFlit
  grind -lia -ring -linarith -ac -order (ematch := 60) (gen := 60) only [usr State.accept_evolves, ← State.accept_evolves, ← State.childJoined_evolves, ← State.linkEvt_evolves, ← State.sendCtl_evolves, ← State.setFd_evolves, ← State.stepCredit_evolves, ← State.stepSync_evolves]

theorem refuseFlit_evolves {s₀ s : State} (h : Evolves s₀ s) (f : Flit) :
    Evolves s₀ (refuseFlit f s) := by
  unfold refuseFlit
  grind -lia -ring -linarith -ac -order (ematch := 60) (gen := 60) only [usr State.accept_evolves, ← State.accept_evolves, ← State.detach_evolves, ← State.linkOff_evolves, ← State.raise_evolves, ← State.sendCtl_evolves, ← State.setFd_evolves]

theorem State.membersLost_evolves {s₀ s : State} (h : Evolves s₀ s) (l : Nat) (m : Nat) :
    Evolves s₀ (State.membersLost s l m) := by
  unfold State.membersLost
  grind -lia -ring -linarith -ac -order (ematch := 60) (gen := 60) only [← State.lineDly_evolves, ← State.linkEvt_evolves, ← State.modLink_evolves, ← State.raise_evolves, ← State.setMem_evolves]

theorem leaveFlit_evolves {s₀ s : State} (h : Evolves s₀ s) (l : Nat) (f : Flit) :
    Evolves s₀ (leaveFlit l f s) := by
  unfold leaveFlit
  grind -lia -ring -linarith -ac -order (ematch := 60) (gen := 60) only [usr State.accept_evolves, ← State.accept_evolves, ← State.membersLost_evolves, ← State.modLink_evolves, ← State.sendCtl_evolves]

theorem childLinkLost_evolves {s₀ s : State} (h : Evolves s₀ s) (l : Nat) :
    Evolves s₀ (childLinkLost l s) := by
  unfold childLinkLost
  grind -lia -ring -linarith -ac -order (ematch := 60) (gen := 60) only [← State.membersLost_evolves, ← State.sendCtl_evolves, ← State.setLink_evolves, ← List.foldl_evolves]

theorem dlyFlit_evolves {s₀ s : State} (h : Evolves s₀ s) (f : Flit) :
    Evolves s₀ (dlyFlit f s) := by
  unfold dlyFlit
  grind -lia -ring -linarith -ac -order (ematch := 60) (gen := 60) only [usr State.accept_evolves, ← State.accept_evolves, ← State.ctlDown_evolves, ← State.setFd_evolves]

theorem joinTimeout_evolves {s₀ s : State} (h : Evolves s₀ s) :
    Evolves s₀ (joinTimeout s) := by
  unfold joinTimeout
  grind -lia -ring -linarith -ac -order (ematch := 60) (gen := 60) only [← State.detach_evolves, ← State.linkOff_evolves, ← State.raise_evolves]

theorem lineFlit_evolves {s₀ s : State} (h : Evolves s₀ s) (l : Nat) (f : Flit) :
    Evolves s₀ (lineFlit l f s) := by
  unfold lineFlit
  grind -lia -ring -linarith -ac -order (ematch := 60) (gen := 60) only [usr State.accept_evolves, ← State.accept_evolves, usr State.lineAtRoot_evolves, ← State.lineAtRoot_evolves, usr State.lineTaken_evolves, ← State.lineTaken_evolves, ← State.sendSeq_evolves, ← List.foldl_evolves]

theorem State.joined_evolves {s₀ s : State} (h : Evolves s₀ s) :
    Evolves s₀ (State.joined s) := by
  unfold State.joined
  grind -lia -ring -linarith -ac -order (ematch := 60) (gen := 60) only [← State.setFd_evolves]

theorem State.loadTime_evolves {s₀ s : State} (h : Evolves s₀ s) (t : Nat) (own : Nat) :
    Evolves s₀ (State.loadTime s t own) := by
  unfold State.loadTime
  grind -lia -ring -linarith -ac -order (ematch := 60) (gen := 60) only [usr State.free_evolves, ← State.free_evolves, ← State.setCasc_evolves, ← State.setRg_evolves, ← State.setTb_evolves, ← Evolves.up]

theorem casTimeFlit_evolves {s₀ s : State} (h : Evolves s₀ s) (f : Flit) (own : Nat) :
    Evolves s₀ (casTimeFlit f own s) := by
  rw [casTimeFlit]
  try dsimp only
  repeat' first
    | with_reducible assumption | with_reducible apply State.accept_evolves | with_reducible apply State.detach_evolves | with_reducible apply State.joined_evolves | with_reducible apply State.linkEvt_evolves | with_reducible apply State.loadTime_evolves | with_reducible apply State.modLink_evolves | with_reducible apply State.noteErr_evolves | with_reducible apply State.raise_evolves | with_reducible apply State.setCasc_evolves | with_reducible apply State.setFd_evolves | with_reducible apply Evolves.ite | with_reducible apply Evolves.ite_fst
    | with_reducible apply List.foldl_evolves | with_reducible apply List.foldl_evolves_fst
    | intro _ _ _ | dsimp only | (split <;> try (rename_i hq; obtain ⟨rfl, rfl⟩ := Prod.eq_parts hq))

theorem offsetStep_evolves {s₀ s : State} (h : Evolves s₀ s) :
    Evolves s₀ (offsetStep s) := by
  unfold offsetStep
  grind -lia -ring -linarith -ac -order (ematch := 60) (gen := 60) only [← State.setCasc_evolves]

theorem treq_evolves {s₀ s : State} (h : Evolves s₀ s) (f : Flit) (t2 : Nat) :
    Evolves s₀ (treq f t2 s) := by
  unfold treq
  grind -lia -ring -linarith -ac -order (ematch := 60) (gen := 60) only [usr State.accept_evolves, ← State.accept_evolves, ← State.sendCtl_evolves]

theorem areq_evolves {s₀ s : State} (h : Evolves s₀ s) (l : Nat) (f : Flit) :
    Evolves s₀ (areq l f s) := by
  unfold areq
  grind -lia -ring -linarith -ac -order (ematch := 60) (gen := 60) only [usr State.accept_evolves, ← State.accept_evolves, ← State.sendCtl_evolves]

theorem State.casCmdSts_evolves {s₀ s : State} (h : Evolves s₀ s) (op : Nat) (result : Nat) :
    Evolves s₀ (State.casCmdSts s op result) := by
  unfold State.casCmdSts
  grind -lia -ring -linarith -ac -order (ematch := 60) (gen := 60) only [← State.incFd_evolves, ← State.setFd_evolves]

theorem resync_evolves {s₀ s : State} (h : Evolves s₀ s) :
    Evolves s₀ (resync s) := by
  unfold resync
  grind -lia -ring -linarith -ac -order (ematch := 60) (gen := 60) only [← State.casCmdSts_evolves, ← State.modLink_evolves, ← State.sendCtl_evolves, ← List.foldl_evolves]

theorem c0SignalDetect_evolves {s₀ s : State} (h : Evolves s₀ s) :
    Evolves s₀ (c0SignalDetect s) := by
  unfold c0SignalDetect
  grind -lia -ring -linarith -ac -order (ematch := 60) (gen := 60) only [← State.wakeStart_evolves]

theorem State.setTags_evolves {s₀ s : State} (h : Evolves s₀ s) (q : Nat) (l : List FwdTag) :
    Evolves s₀ (State.setTags s q l) := by
  unfold State.setTags
  grind -lia -ring -linarith -ac -order (ematch := 60) (gen := 60) only [← State.setCasc_evolves]

theorem State.fwdPush_evolves {s₀ s : State} (h : Evolves s₀ s) (q : Nat) (prod : Nat) (t : FwdTag) (x0 : List Rec) :
    Evolves s₀ (State.fwdPush s q prod t x0) := by
  induction x0 generalizing s with
  | nil => unfold State.fwdPush; grind -lia -ring -linarith -ac -order (ematch := 60) (gen := 60) only [usr State.push_evolves, ← State.push_evolves, ← State.setTags_evolves]
  | cons a l ih => unfold State.fwdPush; grind -lia -ring -linarith -ac -order (ematch := 60) (gen := 60) only [usr State.push_evolves, ← State.push_evolves, ← State.setTags_evolves]

theorem State.tunOff_evolves {s₀ s : State} (h : Evolves s₀ s) (l : Nat) (t : FwdTag) :
    Evolves s₀ (State.tunOff s l t) := by
  unfold State.tunOff
  grind -lia -ring -linarith -ac -order (ematch := 60) (gen := 60) only [← State.linkEvt_evolves]

theorem State.rxDrain_evolves {s₀ s : State} (h : Evolves s₀ s) (l : Nat) (x0 : Nat) :
    Evolves s₀ (State.rxDrain l x0 s) := by
  induction x0 generalizing s with
  | zero => unfold State.rxDrain; grind -lia -ring -linarith -ac -order (ematch := 60) (gen := 60) only [← State.fwdPush_evolves, ← State.setLink_evolves, ← State.setUO_evolves]
  | succ n ih => unfold State.rxDrain; grind -lia -ring -linarith -ac -order (ematch := 60) (gen := 60) only [← State.fwdPush_evolves, ← State.setLink_evolves, ← State.setUO_evolves]

theorem fwdFlit_evolves {s₀ s : State} (h : Evolves s₀ s) (l : Nat) (f : Flit) :
    Evolves s₀ (fwdFlit l f s) := by
  unfold fwdFlit
  grind -lia -ring -linarith -ac -order (ematch := 60) (gen := 60) only [usr State.accept_evolves, ← State.accept_evolves, ← State.linkEvt_evolves, ← State.modLink_evolves, ← State.rxDrain_evolves, ← State.setUO_evolves, ← State.tunOff_evolves]

theorem State.popPacket_evolves {s₀ s : State} (h : Evolves s₀ s) (q : Nat) (x0 : Nat) (x2 : List Rec) :
    Evolves s₀ (State.popPacket q x0 s x2).1 := by
  induction x0 generalizing s x2 with
  | zero => unfold State.popPacket; grind -lia -ring -linarith -ac -order (ematch := 60) (gen := 60) only [usr State.popOnce_evolves, ← State.popOnce_evolves]
  | succ n ih => unfold State.popPacket; grind -lia -ring -linarith -ac -order (ematch := 60) (gen := 60) only [usr State.popOnce_evolves, ← State.popOnce_evolves]
grind_pattern State.popPacket_evolves => Evolves s₀ s, State.popPacket q x0 s x2

theorem State.fwdSource_evolves {s₀ s : State} (h : Evolves s₀ s) (q : Nat) :
    Evolves s₀ (State.fwdSource s q) := by
  unfold State.fwdSource
  grind -lia -ring -linarith -ac -order (ematch := 60) (gen := 60) only [← State.fwdPush_evolves, usr State.popPacket_evolves, ← State.popPacket_evolves, ← State.setRg_evolves]

theorem State.fwdReceive_evolves {s₀ s : State} (h : Evolves s₀ s) (c : Nat) :
    Evolves s₀ (State.fwdReceive s c) := by
  unfold State.fwdReceive
  grind -lia -ring -linarith -ac -order (ematch := 60) (gen := 60) only [← State.fwdPush_evolves, usr State.popPacket_evolves, ← State.popPacket_evolves, usr State.pushPkt_evolves, ← State.pushPkt_evolves, ← State.rxDrain_evolves, ← State.setTags_evolves, ← State.tunOff_evolves]

theorem State.popThree_evolves {s₀ s : State} (h : Evolves s₀ s) (q : Nat) (x0 : Nat) (x2 : List Rec) :
    Evolves s₀ (State.popThree q x0 s x2).1 := by
  induction x0 generalizing s x2 with
  | zero => unfold State.popThree; grind -lia -ring -linarith -ac -order (ematch := 60) (gen := 60) only [usr State.popOnce_evolves, ← State.popOnce_evolves]
  | succ n ih => unfold State.popThree; grind -lia -ring -linarith -ac -order (ematch := 60) (gen := 60) only [usr State.popOnce_evolves, ← State.popOnce_evolves]
grind_pattern State.popThree_evolves => Evolves s₀ s, State.popThree q x0 s x2

theorem State.fwdTransmit_evolves {s₀ s : State} (h : Evolves s₀ s) (c : Nat) :
    Evolves s₀ (State.fwdTransmit s c) := by
  unfold State.fwdTransmit
  grind -lia -ring -linarith -ac -order (ematch := 60) (gen := 60) only [← State.modLink_evolves, usr State.popThree_evolves, ← State.popThree_evolves, ← State.sendSeq_evolves, ← State.setTags_evolves]

theorem State.fwdPop_evolves {s₀ s : State} (h : Evolves s₀ s) (q : Nat) :
    Evolves s₀ (State.fwdPop s q) := by
  unfold State.fwdPop
  grind -lia -ring -linarith -ac -order (ematch := 60) (gen := 60) only [← State.fwdReceive_evolves, ← State.fwdSource_evolves, ← State.fwdTransmit_evolves]

theorem casTunnelEnable_evolves {s₀ s : State} (h : Evolves s₀ s) (inbound : Bool) (t : Nat) (w : Word) :
    Evolves s₀ (casTunnelEnable inbound t w s) := by
  unfold casTunnelEnable
  grind -lia -ring -linarith -ac -order (ematch := 60) (gen := 60) only [← State.setRg_evolves]

end Sys2Proof.Machine
end

