-- ==== Sys2Proof/Laws/EvolvesHostRing.lean ====
section
/-! SUPPORT. What the operations of Machine/HostRing.lean may do to a state (`Evolves`): one lemma for each. -/

namespace Sys2Proof.Machine

theorem State.setHst_evolves {s₀ s : State} (h : Evolves s₀ s) (f : HostSt → HostSt) :
    Evolves s₀ (State.setHst s f) := by
  unfold State.setHst
  grind -lia -ring -linarith -ac -order (ematch := 60) (gen := 60) only [← Evolves.hst]

theorem State.setHring_evolves {s₀ s : State} (h : Evolves s₀ s) (r : Nat) (x : HRing) :
    Evolves s₀ (State.setHring s r x) := by
  unfold State.setHring
  grind -lia -ring -linarith -ac -order (ematch := 60) (gen := 60) only [← State.setHst_evolves]

theorem State.ringNotice_evolves {s₀ s : State} (h : Evolves s₀ s) (r : Nat) :
    Evolves s₀ (State.ringNotice s r) := by
  unfold State.ringNotice
  grind -lia -ring -linarith -ac -order (ematch := 60) (gen := 60) only [← State.hstLevel_evolves, ← State.setRg_evolves]

theorem State.ringData_evolves {s₀ s : State} (h : Evolves s₀ s) (r : Nat) (rs : List Rec) :
    Evolves s₀ (State.ringData s r rs) := by
  rw [State.ringData]
  try dsimp only
  repeat' first
    | with_reducible assumption | with_reducible apply State.emit_evolves | with_reducible apply Evolves.ite | with_reducible apply Evolves.ite_fst
    | with_reducible apply List.foldl_evolves | with_reducible apply List.foldl_evolves_fst
    | intro _ _ _ | dsimp only | (split <;> try (rename_i hq; obtain ⟨rfl, rfl⟩ := Prod.eq_parts hq))

theorem State.ringBack_evolves {s₀ s : State} (h : Evolves s₀ s) (r : Nat) :
    Evolves s₀ (State.ringBack s r) := by
  unfold State.ringBack
  grind -lia -ring -linarith -ac -order (ematch := 60) (gen := 60) only [← State.emit_evolves]

theorem State.ringWait_evolves {s₀ s : State} (h : Evolves s₀ s) (r : Nat) (n : Nat) :
    Evolves s₀ (State.ringWait s r n) := by
  unfold State.ringWait
  grind -lia -ring -linarith -ac -order (ematch := 60) (gen := 60) only [← State.ringNotice_evolves, ← State.setFd_evolves, ← State.setHring_evolves]

theorem State.ringTake_evolves {s₀ s : State} (h : Evolves s₀ s) (r : Nat) (q : Nat) :
    Evolves s₀ (State.ringTake s r q) := by
  rw [State.ringTake]
  try dsimp only
  repeat' first
    | with_reducible assumption | with_reducible apply State.popPacket_evolves | with_reducible apply State.ringBack_evolves | with_reducible apply State.ringData_evolves | with_reducible apply State.ringNotice_evolves | with_reducible apply State.ringWait_evolves | with_reducible apply State.setHring_evolves | with_reducible apply State.setPair_evolves | with_reducible apply Evolves.ite | with_reducible apply Evolves.ite_fst
    | with_reducible apply List.foldl_evolves | with_reducible apply List.foldl_evolves_fst
    | intro _ _ _ | dsimp only | (split <;> try (rename_i hq; obtain ⟨rfl, rfl⟩ := Prod.eq_parts hq))

theorem ringPacketWrite_evolves {s₀ s : State} (h : Evolves s₀ s) (r : Nat) :
    Evolves s₀ (ringPacketWrite r s) := by
  unfold ringPacketWrite
  grind -lia -ring -linarith -ac -order (ematch := 60) (gen := 60) only [usr State.mayRequest_evolves, ← State.mayRequest_evolves, ← State.ringTake_evolves]

theorem hstRingTailWrite_evolves {s₀ s : State} (h : Evolves s₀ s) (r : Nat) (v : Nat) :
    Evolves s₀ (hstRingTailWrite r v s) := by
  rw [hstRingTailWrite]
  try dsimp only
  repeat' first
    | with_reducible assumption | with_reducible apply State.setFd_evolves | with_reducible apply State.setHring_evolves | with_reducible apply State.setPair_evolves | with_reducible apply Evolves.ite | with_reducible apply Evolves.ite_fst
    | with_reducible apply List.foldl_evolves | with_reducible apply List.foldl_evolves_fst
    | intro _ _ _ | dsimp only | (split <;> try (rename_i hq; obtain ⟨rfl, rfl⟩ := Prod.eq_parts hq))

theorem hstRingCfgWrite_evolves {s₀ s : State} (h : Evolves s₀ s) (r : Nat) (w : Word) :
    Evolves s₀ (hstRingCfgWrite r w s) := by
  unfold hstRingCfgWrite
  grind -lia -ring -linarith -ac -order (ematch := 60) (gen := 60) only [← State.putFields_evolves, ← State.setFd_evolves, ← State.setHring_evolves, ← State.setPair_evolves]

theorem State.cplWrite_evolves {s₀ s : State} (h : Evolves s₀ s) (e : CplEntry) :
    Evolves s₀ (State.cplWrite s e) := by
  unfold State.cplWrite
  grind -lia -ring -linarith -ac -order (ematch := 60) (gen := 60) only [← State.emit_evolves, ← State.hstSts_evolves, ← State.setFd_evolves, ← State.setHst_evolves]

theorem State.complete_evolves {s₀ s : State} (h : Evolves s₀ s) (tag : Nat) (op : Nat) (status : Nat) (code : Nat) (point : Nat) :
    Evolves s₀ (State.complete s tag op status code point) := by
  unfold State.complete
  grind -lia -ring -linarith -ac -order (ematch := 60) (gen := 60) only [← State.cplWrite_evolves, ← State.setHst_evolves]

theorem State.cplDrain_evolves {s₀ s : State} (h : Evolves s₀ s) (x0 : List CplEntry) :
    Evolves s₀ (State.cplDrain s x0) := by
  induction x0 generalizing s with
  | nil => unfold State.cplDrain; grind -lia -ring -linarith -ac -order (ematch := 60) (gen := 60) only [← State.cplWrite_evolves, ← State.setHst_evolves]
  | cons a l ih => unfold State.cplDrain; grind -lia -ring -linarith -ac -order (ematch := 60) (gen := 60) only [← State.cplWrite_evolves, ← State.setHst_evolves]

theorem hstCplPtrWrite_evolves {s₀ s : State} (h : Evolves s₀ s) (w : Word) :
    Evolves s₀ (hstCplPtrWrite w s) := by
  unfold hstCplPtrWrite
  grind -lia -ring -linarith -ac -order (ematch := 60) (gen := 60) only [← State.cplDrain_evolves, ← State.hstSts_evolves, ← State.setFd_evolves]

end Sys2Proof.Machine
end

