-- ==== Sys2Proof/Laws/EvolvesEngCore.lean ====
section
/-! SUPPORT. What the operations of Machine/EngCore.lean may do to a state (`Evolves`): one lemma for each. -/

namespace Sys2Proof.Machine

theorem State.issue_evolves {s₀ s : State} (h : Evolves s₀ s) (cls : Nat) (op : Nat) (e : Nat) (x : Nat) (f : State → Ctx → Nat → OpOut) (f_h : ∀ u c w, Evolves s₀ u → OpOut.Within s₀ (f u c w)) :
    Evolves s₀ (State.issue s cls op e x f) := by
  unfold State.issue
  grind -lia -ring -linarith -ac -order (ematch := 60) (gen := 60) only [← State.abortCtx_evolves, ← State.setCtx_evolves, ← OpOut.within_ok, ← OpOut.within_abort, ← OpOut.within_abortIn, OpOut.Within]

theorem State.otherFlags_evolves {s₀ s : State} (h : Evolves s₀ s) (c : Ctx) (w : Nat) (z : Bool) (n : Bool) :
    Evolves s₀ (State.otherFlags s c w z n).1 := by
  unfold State.otherFlags
  grind -lia -ring -linarith -ac -order (ematch := 60) (gen := 60) only [usr State.free_evolves, ← State.free_evolves]
grind_pattern State.otherFlags_evolves => Evolves s₀ s, State.otherFlags s c w z n

theorem State.result_evolves {s₀ s : State} (h : Evolves s₀ s) (c : Ctx) (w : Nat) (r : BitVec 64) :
    OpOut.Within s₀ (State.result s c w r) := by
  unfold State.result
  grind -lia -ring -linarith -ac -order (ematch := 60) (gen := 60) only [usr State.otherFlags_evolves, ← State.otherFlags_evolves, ← OpOut.within_ok, ← OpOut.within_abort, ← OpOut.within_abortIn]

theorem State.accResult_evolves {s₀ s : State} (h : Evolves s₀ s) (c : Ctx) (w : Nat) (r : BitVec 128) :
    OpOut.Within s₀ (State.accResult s c w r) := by
  unfold State.accResult
  grind -lia -ring -linarith -ac -order (ematch := 60) (gen := 60) only [usr State.otherFlags_evolves, ← State.otherFlags_evolves, ← OpOut.within_ok, ← OpOut.within_abort, ← OpOut.within_abortIn]

end Sys2Proof.Machine
end

