-- ==== Sys2Proof/Laws/EvolvesEngAlu.lean ====
section
/-! SUPPORT. What the operations of Machine/EngAlu.lean may do to a state (`Evolves`): one lemma for each. -/

namespace Sys2Proof.Machine

theorem State.alu_evolves {s₀ s : State} (h : Evolves s₀ s) (op : Nat) (e : Nat) (x : Nat) (f : BitVec 64 → BitVec 64 → BitVec 64) :
    Evolves s₀ (State.alu s op e x f) := by
  unfold State.alu
  grind -lia -ring -linarith -ac -order (ematch := 60) (gen := 60) only [← State.issue_evolves, ← State.result_evolves]

theorem engAdd_evolves {s₀ s : State} (h : Evolves s₀ s) (e : Nat) (x : Nat) :
    Evolves s₀ (engAdd e x s) := by
  unfold engAdd
  grind -lia -ring -linarith -ac -order (ematch := 60) (gen := 60) only [← State.issue_evolves, ← OpOut.within_ok, ← OpOut.within_abort, ← OpOut.within_abortIn]

theorem engSub_evolves {s₀ s : State} (h : Evolves s₀ s) (e : Nat) (x : Nat) :
    Evolves s₀ (engSub e x s) := by
  unfold engSub
  grind -lia -ring -linarith -ac -order (ematch := 60) (gen := 60) only [← State.issue_evolves, ← OpOut.within_ok, ← OpOut.within_abort, ← OpOut.within_abortIn]

theorem engAnd_evolves {s₀ s : State} (h : Evolves s₀ s) (e : Nat) (x : Nat) :
    Evolves s₀ (engAnd e x s) := by
  unfold engAnd
  grind -lia -ring -linarith -ac -order (ematch := 60) (gen := 60) only [← State.alu_evolves]

theorem engOr_evolves {s₀ s : State} (h : Evolves s₀ s) (e : Nat) (x : Nat) :
    Evolves s₀ (engOr e x s) := by
  unfold engOr
  grind -lia -ring -linarith -ac -order (ematch := 60) (gen := 60) only [← State.alu_evolves]

theorem engXor_evolves {s₀ s : State} (h : Evolves s₀ s) (e : Nat) (x : Nat) :
    Evolves s₀ (engXor e x s) := by
  unfold engXor
  grind -lia -ring -linarith -ac -order (ematch := 60) (gen := 60) only [← State.alu_evolves]

theorem engShl_evolves {s₀ s : State} (h : Evolves s₀ s) (e : Nat) (x : Nat) :
    Evolves s₀ (engShl e x s) := by
  unfold engShl
  grind -lia -ring -linarith -ac -order (ematch := 60) (gen := 60) only [← State.alu_evolves]

theorem engShr_evolves {s₀ s : State} (h : Evolves s₀ s) (e : Nat) (x : Nat) :
    Evolves s₀ (engShr e x s) := by
  unfold engShr
  grind -lia -ring -linarith -ac -order (ematch := 60) (gen := 60) only [← State.alu_evolves]

theorem engSar_evolves {s₀ s : State} (h : Evolves s₀ s) (e : Nat) (x : Nat) :
    Evolves s₀ (engSar e x s) := by
  unfold engSar
  grind -lia -ring -linarith -ac -order (ematch := 60) (gen := 60) only [← State.alu_evolves]

theorem engMin_evolves {s₀ s : State} (h : Evolves s₀ s) (e : Nat) (x : Nat) :
    Evolves s₀ (engMin e x s) := by
  unfold engMin
  grind -lia -ring -linarith -ac -order (ematch := 60) (gen := 60) only [← State.alu_evolves]

theorem engMax_evolves {s₀ s : State} (h : Evolves s₀ s) (e : Nat) (x : Nat) :
    Evolves s₀ (engMax e x s) := by
  unfold engMax
  grind -lia -ring -linarith -ac -order (ematch := 60) (gen := 60) only [← State.alu_evolves]

theorem engMinu_evolves {s₀ s : State} (h : Evolves s₀ s) (e : Nat) (x : Nat) :
    Evolves s₀ (engMinu e x s) := by
  unfold engMinu
  grind -lia -ring -linarith -ac -order (ematch := 60) (gen := 60) only [← State.alu_evolves]

theorem engMaxu_evolves {s₀ s : State} (h : Evolves s₀ s) (e : Nat) (x : Nat) :
    Evolves s₀ (engMaxu e x s) := by
  unfold engMaxu
  grind -lia -ring -linarith -ac -order (ematch := 60) (gen := 60) only [← State.alu_evolves]

theorem engMov_evolves {s₀ s : State} (h : Evolves s₀ s) (e : Nat) (x : Nat) :
    Evolves s₀ (engMov e x s) := by
  unfold engMov
  grind -lia -ring -linarith -ac -order (ematch := 60) (gen := 60) only [← State.alu_evolves]

theorem engMovh_evolves {s₀ s : State} (h : Evolves s₀ s) (e : Nat) (x : Nat) :
    Evolves s₀ (engMovh e x s) := by
  unfold engMovh
  grind -lia -ring -linarith -ac -order (ematch := 60) (gen := 60) only [← State.issue_evolves, ← State.result_evolves]

theorem engCmp_evolves {s₀ s : State} (h : Evolves s₀ s) (e : Nat) (x : Nat) :
    Evolves s₀ (engCmp e x s) := by
  unfold engCmp
  grind -lia -ring -linarith -ac -order (ematch := 60) (gen := 60) only [← State.issue_evolves, ← OpOut.within_ok, ← OpOut.within_abort, ← OpOut.within_abortIn]

theorem engAdds_evolves {s₀ s : State} (h : Evolves s₀ s) (e : Nat) (x : Nat) :
    Evolves s₀ (engAdds e x s) := by
  unfold engAdds
  grind -lia -ring -linarith -ac -order (ematch := 60) (gen := 60) only [← State.issue_evolves, ← State.result_evolves]

theorem engSel_evolves {s₀ s : State} (h : Evolves s₀ s) (e : Nat) (x : Nat) :
    Evolves s₀ (engSel e x s) := by
  unfold engSel
  grind -lia -ring -linarith -ac -order (ematch := 60) (gen := 60) only [← State.issue_evolves, ← State.result_evolves]

theorem engMul_evolves {s₀ s : State} (h : Evolves s₀ s) (e : Nat) (x : Nat) :
    Evolves s₀ (engMul e x s) := by
  unfold engMul
  grind -lia -ring -linarith -ac -order (ematch := 60) (gen := 60) only [← State.issue_evolves, ← State.result_evolves]

theorem engMulhs_evolves {s₀ s : State} (h : Evolves s₀ s) (e : Nat) (x : Nat) :
    Evolves s₀ (engMulhs e x s) := by
  unfold engMulhs
  grind -lia -ring -linarith -ac -order (ematch := 60) (gen := 60) only [← State.issue_evolves, ← State.result_evolves]

theorem engMulhu_evolves {s₀ s : State} (h : Evolves s₀ s) (e : Nat) (x : Nat) :
    Evolves s₀ (engMulhu e x s) := by
  unfold engMulhu
  grind -lia -ring -linarith -ac -order (ematch := 60) (gen := 60) only [← State.issue_evolves, ← State.result_evolves]

theorem engAmac_evolves {s₀ s : State} (h : Evolves s₀ s) (e : Nat) (x : Nat) :
    Evolves s₀ (engAmac e x s) := by
  unfold engAmac
  grind -lia -ring -linarith -ac -order (ematch := 60) (gen := 60) only [← State.accResult_evolves, ← State.issue_evolves]

theorem engAmsb_evolves {s₀ s : State} (h : Evolves s₀ s) (e : Nat) (x : Nat) :
    Evolves s₀ (engAmsb e x s) := by
  unfold engAmsb
  grind -lia -ring -linarith -ac -order (ematch := 60) (gen := 60) only [← State.accResult_evolves, ← State.issue_evolves]

theorem engAclr_evolves {s₀ s : State} (h : Evolves s₀ s) (e : Nat) (x : Nat) :
    Evolves s₀ (engAclr e x s) := by
  unfold engAclr
  grind -lia -ring -linarith -ac -order (ematch := 60) (gen := 60) only [← State.accResult_evolves, ← State.issue_evolves]

theorem engAld_evolves {s₀ s : State} (h : Evolves s₀ s) (e : Nat) (x : Nat) :
    Evolves s₀ (engAld e x s) := by
  unfold engAld
  grind -lia -ring -linarith -ac -order (ematch := 60) (gen := 60) only [← State.accResult_evolves, ← State.issue_evolves]

theorem engArdl_evolves {s₀ s : State} (h : Evolves s₀ s) (e : Nat) (x : Nat) :
    Evolves s₀ (engArdl e x s) := by
  unfold engArdl
  grind -lia -ring -linarith -ac -order (ematch := 60) (gen := 60) only [← State.issue_evolves, ← State.result_evolves]

theorem engArdh_evolves {s₀ s : State} (h : Evolves s₀ s) (e : Nat) (x : Nat) :
    Evolves s₀ (engArdh e x s) := by
  unfold engArdh
  grind -lia -ring -linarith -ac -order (ematch := 60) (gen := 60) only [← State.issue_evolves, ← State.result_evolves]

theorem engAshl_evolves {s₀ s : State} (h : Evolves s₀ s) (e : Nat) (x : Nat) :
    Evolves s₀ (engAshl e x s) := by
  unfold engAshl
  grind -lia -ring -linarith -ac -order (ematch := 60) (gen := 60) only [← State.accResult_evolves, ← State.issue_evolves]

theorem engAshr_evolves {s₀ s : State} (h : Evolves s₀ s) (e : Nat) (x : Nat) :
    Evolves s₀ (engAshr e x s) := by
  unfold engAshr
  grind -lia -ring -linarith -ac -order (ematch := 60) (gen := 60) only [← State.accResult_evolves, ← State.issue_evolves]

theorem engAmulw_evolves {s₀ s : State} (h : Evolves s₀ s) (e : Nat) (x : Nat) :
    Evolves s₀ (engAmulw e x s) := by
  unfold engAmulw
  grind -lia -ring -linarith -ac -order (ematch := 60) (gen := 60) only [← State.accResult_evolves, ← State.issue_evolves]

theorem engAadd_evolves {s₀ s : State} (h : Evolves s₀ s) (e : Nat) (x : Nat) :
    Evolves s₀ (engAadd e x s) := by
  unfold engAadd
  grind -lia -ring -linarith -ac -order (ematch := 60) (gen := 60) only [← State.accResult_evolves, ← State.issue_evolves]

theorem engAxch_evolves {s₀ s : State} (h : Evolves s₀ s) (e : Nat) (x : Nat) :
    Evolves s₀ (engAxch e x s) := by
  unfold engAxch
  grind -lia -ring -linarith -ac -order (ematch := 60) (gen := 60) only [usr State.free_evolves, ← State.free_evolves, ← State.issue_evolves, usr State.otherFlags_evolves, ← State.otherFlags_evolves, ← OpOut.within_ok, ← OpOut.within_abort, ← OpOut.within_abortIn]

theorem State.divOp_evolves {s₀ s : State} (h : Evolves s₀ s) (op : Nat) (e : Nat) (x : Nat) (f : BitVec 64 → BitVec 64 → BitVec 64) :
    Evolves s₀ (State.divOp s op e x f) := by
  unfold State.divOp
  grind -lia -ring -linarith -ac -order (ematch := 60) (gen := 60) only [← State.issue_evolves, ← State.result_evolves]

theorem engDivs_evolves {s₀ s : State} (h : Evolves s₀ s) (e : Nat) (x : Nat) :
    Evolves s₀ (engDivs e x s) := by
  unfold engDivs
  grind -lia -ring -linarith -ac -order (ematch := 60) (gen := 60) only [← State.divOp_evolves]

theorem engDivu_evolves {s₀ s : State} (h : Evolves s₀ s) (e : Nat) (x : Nat) :
    Evolves s₀ (engDivu e x s) := by
  unfold engDivu
  grind -lia -ring -linarith -ac -order (ematch := 60) (gen := 60) only [← State.divOp_evolves]

theorem engRems_evolves {s₀ s : State} (h : Evolves s₀ s) (e : Nat) (x : Nat) :
    Evolves s₀ (engRems e x s) := by
  unfold engRems
  grind -lia -ring -linarith -ac -order (ematch := 60) (gen := 60) only [← State.divOp_evolves]

theorem engRemu_evolves {s₀ s : State} (h : Evolves s₀ s) (e : Nat) (x : Nat) :
    Evolves s₀ (engRemu e x s) := by
  unfold engRemu
  grind -lia -ring -linarith -ac -order (ematch := 60) (gen := 60) only [← State.divOp_evolves]

theorem engRdiv_evolves {s₀ s : State} (h : Evolves s₀ s) (e : Nat) (x : Nat) :
    Evolves s₀ (engRdiv e x s) := by
  unfold engRdiv
  grind -lia -ring -linarith -ac -order (ematch := 60) (gen := 60) only [← State.divOp_evolves]

theorem engAdiv_evolves {s₀ s : State} (h : Evolves s₀ s) (e : Nat) (x : Nat) :
    Evolves s₀ (engAdiv e x s) := by
  unfold engAdiv
  grind -lia -ring -linarith -ac -order (ematch := 60) (gen := 60) only [← State.accResult_evolves, ← State.issue_evolves]

end Sys2Proof.Machine
end

