-- ==== Sys2Proof/Laws/EvolvesEngFpu.lean ====
section
/-! SUPPORT. What the operations of Machine/EngFpu.lean may do to a state (`Evolves`): one lemma for each. -/

namespace Sys2Proof.Machine

theorem State.fpu_evolves {s₀ s : State} (h : Evolves s₀ s) (op : Nat) (e : Nat) (x : Nat) (f : Nat → Nat → Nat → Nat) :
    Evolves s₀ (State.fpu s op e x f) := by
  unfold State.fpu
  grind -lia -ring -linarith -ac -order (ematch := 60) (gen := 60) only [usr State.free_evolves, ← State.free_evolves, ← State.issue_evolves, ← State.result_evolves]

theorem State.fdivOp_evolves {s₀ s : State} (h : Evolves s₀ s) (op : Nat) (e : Nat) (x : Nat) (num : Ctx → Nat → Nat) (den : Ctx → Nat → Nat) :
    Evolves s₀ (State.fdivOp s op e x num den) := by
  unfold State.fdivOp
  grind -lia -ring -linarith -ac -order (ematch := 60) (gen := 60) only [usr State.free_evolves, ← State.free_evolves, ← State.issue_evolves, ← State.result_evolves]

theorem engFadd_evolves {s₀ s : State} (h : Evolves s₀ s) (e : Nat) (x : Nat) :
    Evolves s₀ (engFadd e x s) := by
  unfold engFadd
  grind -lia -ring -linarith -ac -order (ematch := 60) (gen := 60) only [← State.fpu_evolves]

theorem engFsub_evolves {s₀ s : State} (h : Evolves s₀ s) (e : Nat) (x : Nat) :
    Evolves s₀ (engFsub e x s) := by
  unfold engFsub
  grind -lia -ring -linarith -ac -order (ematch := 60) (gen := 60) only [← State.fpu_evolves]

theorem engFmul_evolves {s₀ s : State} (h : Evolves s₀ s) (e : Nat) (x : Nat) :
    Evolves s₀ (engFmul e x s) := by
  unfold engFmul
  grind -lia -ring -linarith -ac -order (ematch := 60) (gen := 60) only [← State.fpu_evolves]

theorem engFdiv_evolves {s₀ s : State} (h : Evolves s₀ s) (e : Nat) (x : Nat) :
    Evolves s₀ (engFdiv e x s) := by
  unfold engFdiv
  grind -lia -ring -linarith -ac -order (ematch := 60) (gen := 60) only [← State.fdivOp_evolves]

theorem engFsqrt_evolves {s₀ s : State} (h : Evolves s₀ s) (e : Nat) (x : Nat) :
    Evolves s₀ (engFsqrt e x s) := by
  unfold engFsqrt
  grind -lia -ring -linarith -ac -order (ematch := 60) (gen := 60) only [← State.fpu_evolves]

theorem engFrcp_evolves {s₀ s : State} (h : Evolves s₀ s) (e : Nat) (x : Nat) :
    Evolves s₀ (engFrcp e x s) := by
  unfold engFrcp
  grind -lia -ring -linarith -ac -order (ematch := 60) (gen := 60) only [← State.fdivOp_evolves]

theorem engFcvt_evolves {s₀ s : State} (h : Evolves s₀ s) (e : Nat) (x : Nat) :
    Evolves s₀ (engFcvt e x s) := by
  unfold engFcvt
  grind -lia -ring -linarith -ac -order (ematch := 60) (gen := 60) only [← State.issue_evolves, ← State.result_evolves]

theorem engFcvta_evolves {s₀ s : State} (h : Evolves s₀ s) (e : Nat) (x : Nat) :
    Evolves s₀ (engFcvta e x s) := by
  unfold engFcvta
  grind -lia -ring -linarith -ac -order (ematch := 60) (gen := 60) only [← State.issue_evolves, ← State.result_evolves]

theorem engFcmp_evolves {s₀ s : State} (h : Evolves s₀ s) (e : Nat) (x : Nat) :
    Evolves s₀ (engFcmp e x s) := by
  unfold engFcmp
  grind -lia -ring -linarith -ac -order (ematch := 60) (gen := 60) only [usr State.free_evolves, ← State.free_evolves, ← State.issue_evolves, ← OpOut.within_ok, ← OpOut.within_abort, ← OpOut.within_abortIn]

theorem engFint_evolves {s₀ s : State} (h : Evolves s₀ s) (e : Nat) (x : Nat) :
    Evolves s₀ (engFint e x s) := by
  unfold engFint
  grind -lia -ring -linarith -ac -order (ematch := 60) (gen := 60) only [usr State.free_evolves, ← State.free_evolves, ← State.issue_evolves, ← State.result_evolves]

end Sys2Proof.Machine
end

