-- ==== Sys2Proof/Laws/EvolvesEngMem.lean ====
section
/-! SUPPORT. What the operations of Machine/EngMem.lean may do to a state (`Evolves`): one lemma for each. -/

namespace Sys2Proof.Machine

theorem State.frameOp_evolves {s₀ s : State} (h : Evolves s₀ s) (op : Nat) (n : Nat) (e : Nat) (x : Nat) (ecc : Ecc) (f : State → Ctx → Nat → Nat → OpOut) (f_h : ∀ u c w n, Evolves s₀ u → OpOut.Within s₀ (f u c w n)) :
    Evolves s₀ (State.frameOp s op n e x ecc f) := by
  unfold State.frameOp
  grind -lia -ring -linarith -ac -order (ematch := 60) (gen := 60) only [← State.addSat_evolves, ← State.issue_evolves, ← OpOut.within_ok, ← OpOut.within_abort, ← OpOut.within_abortIn]

theorem engLd_evolves {s₀ s : State} (h : Evolves s₀ s) (e : Nat) (x : Nat) (ecc : Ecc) :
    Evolves s₀ (engLd e x ecc s) := by
  unfold engLd
  grind -lia -ring -linarith -ac -order (ematch := 60) (gen := 60) only [← State.frameOp_evolves, ← State.result_evolves]

theorem engSt_evolves {s₀ s : State} (h : Evolves s₀ s) (e : Nat) (x : Nat) (ecc : Ecc) :
    Evolves s₀ (engSt e x ecc s) := by
  unfold engSt
  grind -lia -ring -linarith -ac -order (ematch := 60) (gen := 60) only [← State.frameOp_evolves, ← OpOut.within_ok, ← OpOut.within_abort, ← OpOut.within_abortIn]

theorem engLdw_evolves {s₀ s : State} (h : Evolves s₀ s) (e : Nat) (x : Nat) (ecc : Ecc) :
    Evolves s₀ (engLdw e x ecc s) := by
  unfold engLdw
  grind -lia -ring -linarith -ac -order (ematch := 60) (gen := 60) only [← State.frameOp_evolves, ← State.result_evolves]

theorem engLdws_evolves {s₀ s : State} (h : Evolves s₀ s) (e : Nat) (x : Nat) (ecc : Ecc) :
    Evolves s₀ (engLdws e x ecc s) := by
  unfold engLdws
  grind -lia -ring -linarith -ac -order (ematch := 60) (gen := 60) only [← State.frameOp_evolves, ← State.result_evolves]

theorem engStw_evolves {s₀ s : State} (h : Evolves s₀ s) (e : Nat) (x : Nat) (ecc : Ecc) :
    Evolves s₀ (engStw e x ecc s) := by
  unfold engStw
  grind -lia -ring -linarith -ac -order (ematch := 60) (gen := 60) only [← State.frameOp_evolves, ← OpOut.within_ok, ← OpOut.within_abort, ← OpOut.within_abortIn]

theorem State.spillOp_evolves {s₀ s : State} (h : Evolves s₀ s) (op : Nat) (e : Nat) (x : Nat) (f : State → Ctx → Nat → Nat → OpOut) (f_h : ∀ u c w n, Evolves s₀ u → OpOut.Within s₀ (f u c w n)) :
    Evolves s₀ (State.spillOp s op e x f) := by
  unfold State.spillOp
  grind -lia -ring -linarith -ac -order (ematch := 60) (gen := 60) only [← State.issue_evolves, ← OpOut.within_ok, ← OpOut.within_abort, ← OpOut.within_abortIn]

theorem engSpld_evolves {s₀ s : State} (h : Evolves s₀ s) (e : Nat) (x : Nat) :
    Evolves s₀ (engSpld e x s) := by
  unfold engSpld
  refine State.spillOp_evolves h _ _ _ _ fun u c w n hu => ?_
  split
  · exact State.result_evolves hu ..
  · exact OpOut.within_abortIn (State.notePoison_evolves hu ..) _

theorem engSpst_evolves {s₀ s : State} (h : Evolves s₀ s) (e : Nat) (x : Nat) :
    Evolves s₀ (engSpst e x s) := by
  unfold engSpst
  grind -lia -ring -linarith -ac -order (ematch := 60) (gen := 60) only [← State.spillOp_evolves, ← Evolves.dram, ← OpOut.within_ok, ← OpOut.within_abort, ← OpOut.within_abortIn]

theorem engHcfg_evolves {s₀ s : State} (h : Evolves s₀ s) (e : Nat) (x : Nat) :
    Evolves s₀ (engHcfg e x s) := by
  unfold engHcfg
  grind -lia -ring -linarith -ac -order (ematch := 60) (gen := 60) only [← State.issue_evolves, ← OpOut.within_ok, ← OpOut.within_abort, ← OpOut.within_abortIn]

theorem engHadd_evolves {s₀ s : State} (h : Evolves s₀ s) (e : Nat) (x : Nat) :
    Evolves s₀ (engHadd e x s) := by
  unfold engHadd
  grind -lia -ring -linarith -ac -order (ematch := 60) (gen := 60) only [usr State.free_evolves, ← State.free_evolves, ← State.issue_evolves, ← OpOut.within_ok, ← OpOut.within_abort, ← OpOut.within_abortIn]

theorem engHrd_evolves {s₀ s : State} (h : Evolves s₀ s) (e : Nat) (x : Nat) :
    Evolves s₀ (engHrd e x s) := by
  unfold engHrd
  grind -lia -ring -linarith -ac -order (ematch := 60) (gen := 60) only [usr State.free_evolves, ← State.free_evolves, ← State.issue_evolves, ← State.result_evolves]

theorem engHruo_evolves {s₀ s : State} (h : Evolves s₀ s) (e : Nat) (x : Nat) :
    Evolves s₀ (engHruo e x s) := by
  unfold engHruo
  grind -lia -ring -linarith -ac -order (ematch := 60) (gen := 60) only [← State.issue_evolves, ← State.result_evolves]

theorem engHclr_evolves {s₀ s : State} (h : Evolves s₀ s) (e : Nat) (x : Nat) :
    Evolves s₀ (engHclr e x s) := by
  unfold engHclr
  grind -lia -ring -linarith -ac -order (ematch := 60) (gen := 60) only [← State.issue_evolves, ← OpOut.within_ok, ← OpOut.within_abort, ← OpOut.within_abortIn]

end Sys2Proof.Machine
end

