-- ==== Sys2Proof/Laws/EvolvesEngPort.lean ====
section
/-! SUPPORT. What the operations of Machine/EngPort.lean may do to a state (`Evolves`): one lemma for each. -/

namespace Sys2Proof.Machine

theorem engEvpop_evolves {s₀ s : State} (h : Evolves s₀ s) (e : Nat) (x : Nat) :
    Evolves s₀ (engEvpop e x s) := by
  unfold engEvpop
  grind -lia -ring -linarith -ac -order (ematch := 60) (gen := 60) only [← State.issue_evolves, ← OpOut.within_ok, ← OpOut.within_abort, ← OpOut.within_abortIn]

theorem engEvrd_evolves {s₀ s : State} (h : Evolves s₀ s) (e : Nat) (x : Nat) :
    Evolves s₀ (engEvrd e x s) := by
  unfold engEvrd
  grind -lia -ring -linarith -ac -order (ematch := 60) (gen := 60) only [← State.issue_evolves, ← State.result_evolves]

theorem engSkip_evolves {s₀ s : State} (h : Evolves s₀ s) (e : Nat) (x : Nat) :
    Evolves s₀ (engSkip e x s) := by
  unfold engSkip
  grind -lia -ring -linarith -ac -order (ematch := 60) (gen := 60) only [← State.issue_evolves, ← State.setRg_evolves, ← State.skipQ_evolves, ← Evolves.q, ← OpOut.within_ok, ← OpOut.within_abort, ← OpOut.within_abortIn]

theorem engOut_evolves {s₀ s : State} (h : Evolves s₀ s) (e : Nat) (x : Nat) :
    Evolves s₀ (engOut e x s) := by
  unfold engOut
  grind -lia -ring -linarith -ac -order (ematch := 60) (gen := 60) only [← State.issue_evolves, usr State.push_evolves, ← State.push_evolves, ← OpOut.within_ok, ← OpOut.within_abort, ← OpOut.within_abortIn]

theorem engOutr_evolves {s₀ s : State} (h : Evolves s₀ s) (e : Nat) (x : Nat) :
    Evolves s₀ (engOutr e x s) := by
  unfold engOutr
  grind -lia -ring -linarith -ac -order (ematch := 60) (gen := 60) only [← State.issue_evolves, ← State.rewindQ_evolves, ← OpOut.within_ok, ← OpOut.within_abort, ← OpOut.within_abortIn]

theorem engTime_evolves {s₀ s : State} (h : Evolves s₀ s) (e : Nat) (x : Nat) :
    Evolves s₀ (engTime e x s) := by
  unfold engTime
  grind -lia -ring -linarith -ac -order (ematch := 60) (gen := 60) only [← State.issue_evolves, ← State.result_evolves]

theorem engDesc_evolves {s₀ s : State} (h : Evolves s₀ s) (e : Nat) (x : Nat) :
    Evolves s₀ (engDesc e x s) := by
  unfold engDesc
  grind -lia -ring -linarith -ac -order (ematch := 60) (gen := 60) only [← State.issue_evolves, ← State.result_evolves]

theorem engTlyr_evolves {s₀ s : State} (h : Evolves s₀ s) (e : Nat) (x : Nat) :
    Evolves s₀ (engTlyr e x s) := by
  unfold engTlyr
  refine State.issue_evolves h _ _ _ _ _ fun u c w hu => ?_
  dsimp only
  split
  · exact OpOut.within_abort _ _
  · exact State.result_evolves hu ..

theorem engTlyw_evolves {s₀ s : State} (h : Evolves s₀ s) (e : Nat) (x : Nat) :
    Evolves s₀ (engTlyw e x s) := by
  unfold engTlyw
  grind -lia -ring -linarith -ac -order (ematch := 60) (gen := 60) only [← State.issue_evolves, ← State.setFd_evolves, ← State.setPair_evolves, ← State.setRg_evolves, ← OpOut.within_ok, ← OpOut.within_abort, ← OpOut.within_abortIn]

theorem engNop_evolves {s₀ s : State} (h : Evolves s₀ s) (e : Nat) (x : Nat) :
    Evolves s₀ (engNop e x s) := by
  unfold engNop
  grind -lia -ring -linarith -ac -order (ematch := 60) (gen := 60) only [← State.issue_evolves, ← OpOut.within_ok, ← OpOut.within_abort, ← OpOut.within_abortIn]

theorem engCsr_evolves {s₀ s : State} (h : Evolves s₀ s) (e : Nat) (x : Nat) :
    Evolves s₀ (engCsr e x s) := by
  unfold engCsr
  grind -lia -ring -linarith -ac -order (ematch := 60) (gen := 60) only [← State.issue_evolves, ← State.result_evolves]

theorem engFault_evolves {s₀ s : State} (h : Evolves s₀ s) (e : Nat) (x : Nat) :
    Evolves s₀ (engFault e x s) := by
  unfold engFault
  grind -lia -ring -linarith -ac -order (ematch := 60) (gen := 60) only [← State.issue_evolves, ← State.raise_evolves, ← OpOut.within_ok, ← OpOut.within_abort, ← OpOut.within_abortIn]

theorem State.seqRow_evolves {s₀ s : State} (h : Evolves s₀ s) (q : Nat) (e : Nat) (x : Nat) (f : State → Ctx → Nat → OpOut) (f_h : ∀ u c w, Evolves s₀ u → OpOut.Within s₀ (f u c w)) :
    Evolves s₀ (State.seqRow s q e x f) := by
  unfold State.seqRow
  grind -lia -ring -linarith -ac -order (ematch := 60) (gen := 60) only [← State.abortCtx_evolves, ← State.setCtx_evolves, ← OpOut.within_ok, ← OpOut.within_abort, ← OpOut.within_abortIn, OpOut.Within]

theorem seqJump_evolves {s₀ s : State} (h : Evolves s₀ s) (e : Nat) (x : Nat) :
    Evolves s₀ (seqJump e x s) := by
  unfold seqJump
  grind -lia -ring -linarith -ac -order (ematch := 60) (gen := 60) only [← State.seqRow_evolves, ← OpOut.within_ok, ← OpOut.within_abort, ← OpOut.within_abortIn]

theorem seqCall_evolves {s₀ s : State} (h : Evolves s₀ s) (e : Nat) (x : Nat) :
    Evolves s₀ (seqCall e x s) := by
  unfold seqCall
  grind -lia -ring -linarith -ac -order (ematch := 60) (gen := 60) only [← State.seqRow_evolves, ← OpOut.within_ok, ← OpOut.within_abort, ← OpOut.within_abortIn]

theorem seqRet_evolves {s₀ s : State} (h : Evolves s₀ s) (e : Nat) (x : Nat) :
    Evolves s₀ (seqRet e x s) := by
  unfold seqRet
  grind -lia -ring -linarith -ac -order (ematch := 60) (gen := 60) only [← State.seqRow_evolves, ← OpOut.within_ok, ← OpOut.within_abort, ← OpOut.within_abortIn]

theorem seqDisp_evolves {s₀ s : State} (h : Evolves s₀ s) (e : Nat) (x : Nat) :
    Evolves s₀ (seqDisp e x s) := by
  unfold seqDisp
  grind -lia -ring -linarith -ac -order (ematch := 60) (gen := 60) only [← State.seqRow_evolves, ← OpOut.within_ok, ← OpOut.within_abort, ← OpOut.within_abortIn]

theorem seqStop_evolves {s₀ s : State} (h : Evolves s₀ s) (e : Nat) (x : Nat) :
    Evolves s₀ (seqStop e x s) := by
  unfold seqStop
  grind -lia -ring -linarith -ac -order (ematch := 60) (gen := 60) only [← State.dropMovesOf_evolves, ← State.freeTask_evolves, ← State.rewindQ_evolves, ← State.setCtx_evolves]

theorem stopTimeout_evolves {s₀ s : State} (h : Evolves s₀ s) (e : Nat) (x : Nat) :
    Evolves s₀ (stopTimeout e x s) := by
  unfold stopTimeout
  grind -lia -ring -linarith -ac -order (ematch := 60) (gen := 60) only [← State.abortCtx_evolves]

end Sys2Proof.Machine
end

