-- ==== Sys2Proof/Laws/EvolvesEngMove.lean ====
section
/-! SUPPORT. What the operations of Machine/EngMove.lean may do to a state (`Evolves`): one lemma for each. -/

namespace Sys2Proof.Machine

theorem State.movePkt_evolves {s₀ s : State} (h : Evolves s₀ s) (t : Nat) (k : Task) (src : Nat) (tgt : Nat) (time : Nat) :
    Evolves s₀ (State.movePkt s t k src tgt time) := by
  unfold State.movePkt
  grind -lia -ring -linarith -ac -order (ematch := 60) (gen := 60) only [usr State.pushPkt_evolves, ← State.pushPkt_evolves]

theorem State.exportTask_evolves {s₀ s : State} (h : Evolves s₀ s) (t : Nat) (tgt : Nat) (time : Nat) :
    Evolves s₀ (State.exportTask s t tgt time) := by
  unfold State.exportTask
  grind -lia -ring -linarith -ac -order (ematch := 60) (gen := 60) only [← State.movePkt_evolves, ← State.setCtx_evolves, ← State.setFd_evolves, ← State.setTask_evolves, ← Evolves.eng, ← List.foldl_evolves]

theorem State.immediateMove_evolves {s₀ s : State} (h : Evolves s₀ s) (src : Nat) :
    Evolves s₀ (State.immediateMove s src) := by
  unfold State.immediateMove
  grind -lia -ring -linarith -ac -order (ematch := 60) (gen := 60) only [← State.markMoving_evolves, ← State.setLoad_evolves, ← State.setMove_evolves, ← State.showMove_evolves, ← State.startLoad_evolves]

theorem State.mchkInMove_evolves {s₀ s : State} (h : Evolves s₀ s) (e : Nat) :
    Evolves s₀ (State.mchkInMove s e) := by
  unfold State.mchkInMove
  grind -lia -ring -linarith -ac -order (ematch := 60) (gen := 60) only [← State.abandonMove_evolves, ← State.markMoving_evolves, ← State.setMove_evolves, ← State.showMove_evolves]

theorem machineCheck_evolves {s₀ s : State} (h : Evolves s₀ s) (e : Nat) (x : Nat) (mask : Nat) :
    Evolves s₀ (machineCheck e x mask s) := by
  unfold machineCheck
  grind -lia -ring -linarith -ac -order (ematch := 60) (gen := 60) only [← State.addSat_evolves, ← State.immediateMove_evolves, ← State.mchkInMove_evolves, ← State.raise_evolves, ← State.setEngState_evolves, ← State.setFd_evolves]

theorem immediateMoveDone_evolves {s₀ s : State} (h : Evolves s₀ s) (src : Nat) :
    Evolves s₀ (immediateMoveDone src s) := by
  unfold immediateMoveDone
  grind -lia -ring -linarith -ac -order (ematch := 60) (gen := 60) only [← State.dropLive_evolves, ← State.exportTask_evolves, ← State.moveEnd_evolves, ← State.setEngState_evolves, ← State.setLoad_evolves, ← State.setMove_evolves, ← State.showMove_evolves, ← State.startLoad_evolves, ← List.foldl_evolves]

theorem scrubParityError_evolves {s₀ s : State} (h : Evolves s₀ s) (e : Nat) (word : Nat) :
    Evolves s₀ (scrubParityError e word s) := by
  unfold scrubParityError
  grind -lia -ring -linarith -ac -order (ematch := 60) (gen := 60) only [← State.raise_evolves, ← State.setFd_evolves]

theorem State.loadFailed_evolves {s₀ s : State} (h : Evolves s₀ s) (e : Nat) (why : LoadWhy) :
    Evolves s₀ (State.loadFailed s e why) := by
  unfold State.loadFailed
  grind -lia -ring -linarith -ac -order (ematch := 60) (gen := 60) only [← State.engCmdEnd_evolves, ← State.immediateMove_evolves, ← State.markMoving_evolves, ← State.moveEnd_evolves, ← State.raise_evolves, ← State.retryLater_evolves, ← State.setEngState_evolves, ← State.setLoad_evolves, ← State.setMove_evolves, ← State.showMove_evolves]

theorem State.loadPassed_evolves {s₀ s : State} (h : Evolves s₀ s) (e : Nat) (why : LoadWhy) :
    Evolves s₀ (State.loadPassed s e why) := by
  unfold State.loadPassed
  grind -lia -ring -linarith -ac -order (ematch := 60) (gen := 60) only [← State.dropLive_evolves, ← State.engCmdEnd_evolves, ← State.markMoving_evolves, ← State.setEngState_evolves, ← State.setLoad_evolves, ← State.setMove_evolves, ← State.showMove_evolves]

theorem controlStoreLoadDone_evolves {s₀ s : State} (h : Evolves s₀ s) (e : Nat) (good : Bool) :
    Evolves s₀ (controlStoreLoadDone e good s) := by
  unfold controlStoreLoadDone
  grind -lia -ring -linarith -ac -order (ematch := 60) (gen := 60) only [← State.loadFailed_evolves, ← State.loadPassed_evolves, ← State.setLoad_evolves]

theorem State.startMove_evolves {s₀ s : State} (h : Evolves s₀ s) (src : Nat) (tgt : Nat) (ts : List Nat) (whole : Bool) (auto : Nat) (cmd : Option EngCmd) :
    Evolves s₀ (State.startMove s src tgt ts whole auto cmd) := by
  unfold State.startMove
  grind -lia -ring -linarith -ac -order (ematch := 60) (gen := 60) only [← State.setMove_evolves, ← State.showMove_evolves, ← State.startLoad_evolves]

theorem engHandover_evolves {s₀ s : State} (h : Evolves s₀ s) (t : Nat) (tgt : Nat) :
    Evolves s₀ (engHandover t tgt s) := by
  unfold engHandover
  grind -lia -ring -linarith -ac -order (ematch := 60) (gen := 60) only [← State.engCmdEnd_evolves, ← State.engCmdTaken_evolves, ← State.startMove_evolves]

theorem State.evacuateTo_evolves {s₀ s : State} (h : Evolves s₀ s) (src : Nat) (tgt : Nat) (auto : Nat) (cmd : Option EngCmd) :
    Evolves s₀ (State.evacuateTo s src tgt auto cmd) := by
  unfold State.evacuateTo
  grind -lia -ring -linarith -ac -order (ematch := 60) (gen := 60) only [← State.startMove_evolves]

theorem evacuate_evolves {s₀ s : State} (h : Evolves s₀ s) (src : Nat) (tgt : Nat) :
    Evolves s₀ (evacuate src tgt s) := by
  unfold evacuate
  grind -lia -ring -linarith -ac -order (ematch := 60) (gen := 60) only [← State.engCmdEnd_evolves, ← State.engCmdTaken_evolves, ← State.evacuateTo_evolves]

theorem State.autoEvacuate_evolves {s₀ s : State} (h : Evolves s₀ s) (src : Nat) (tries : Nat) :
    Evolves s₀ (State.autoEvacuate s src tries) := by
  unfold State.autoEvacuate
  grind -lia -ring -linarith -ac -order (ematch := 60) (gen := 60) only [← State.evacuateTo_evolves, ← State.retryLater_evolves]

theorem evacuationRetry_evolves {s₀ s : State} (h : Evolves s₀ s) (src : Nat) :
    Evolves s₀ (evacuationRetry src s) := by
  unfold evacuationRetry
  grind -lia -ring -linarith -ac -order (ematch := 60) (gen := 60) only [← State.autoEvacuate_evolves, ← State.setEng_evolves]

theorem engRetry_evolves {s₀ s : State} (h : Evolves s₀ s) (e : Nat) :
    Evolves s₀ (engRetry e s) := by
  unfold engRetry
  grind -lia -ring -linarith -ac -order (ematch := 60) (gen := 60) only [← State.engCmdEnd_evolves, ← State.engCmdTaken_evolves, ← State.startLoad_evolves]

theorem handoverShadow_evolves {s₀ s : State} (h : Evolves s₀ s) (tgt : Nat) :
    Evolves s₀ (handoverShadow tgt s) := by
  unfold handoverShadow
  grind -lia -ring -linarith -ac -order (ematch := 60) (gen := 60) only [← State.markMoving_evolves, ← State.setMove_evolves, ← State.setPair_evolves, ← State.showMove_evolves]

theorem State.importTask_evolves {s₀ s : State} (h : Evolves s₀ s) (t : Nat) (m : Move) :
    Evolves s₀ (State.importTask s t m) := by
  unfold State.importTask
  grind -lia -ring -linarith -ac -order (ematch := 60) (gen := 60) only [← State.setTask_evolves, ← List.foldl_evolves]

theorem handoverDrain_evolves {s₀ s : State} (h : Evolves s₀ s) (tgt : Nat) :
    Evolves s₀ (handoverDrain tgt s) := by
  unfold handoverDrain
  grind -lia -ring -linarith -ac -order (ematch := 60) (gen := 60) only [← State.abandonMove_evolves, ← State.drainTask_evolves, ← State.exportTask_evolves, ← State.importTask_evolves, ← State.moveEnd_evolves, ← State.setEngState_evolves, ← State.setMove_evolves, ← State.showMove_evolves, ← State.startLoad_evolves, ← List.foldl_evolves]

end Sys2Proof.Machine
end

