-- ==== Sys2Proof/Laws/EvolvesRouter.lean ====
section
/-! SUPPORT. What the operations of Machine/Router.lean may do to a state (`Evolves`): one lemma for each. -/

namespace Sys2Proof.Machine

theorem State.lateMark_evolves {s₀ s : State} (h : Evolves s₀ s) (rs : List Rec) :
    Evolves s₀ (State.lateMark s rs).1 := by
  unfold State.lateMark
  grind -lia -ring -linarith -ac -order (ematch := 60) (gen := 60) only [← State.addSat_evolves, ← State.linkEvt_evolves]
grind_pattern State.lateMark_evolves => Evolves s₀ s, State.lateMark s rs

theorem State.toSubs_evolves {s₀ s : State} (h : Evolves s₀ s) (chan : Nat) (rs : List Rec) :
    Evolves s₀ (State.toSubs s chan rs) := by
  unfold State.toSubs
  grind -lia -ring -linarith -ac -order (ematch := 60) (gen := 60) only [usr State.pushPkt_evolves, ← State.pushPkt_evolves, ← List.foldl_evolves]

theorem State.toGates_evolves {s₀ s : State} (h : Evolves s₀ s) (chan : Nat) (code : Nat) (t : Nat) :
    Evolves s₀ (State.toGates s chan code t) := by
  unfold State.toGates
  grind -lia -ring -linarith -ac -order (ematch := 60) (gen := 60) only [← State.modTask_evolves, ← List.foldl_evolves]

theorem State.toShadows_evolves {s₀ s : State} (h : Evolves s₀ s) (chan : Nat) (rs : List Rec) :
    Evolves s₀ (State.toShadows s chan rs) := by
  unfold State.toShadows
  grind -lia -ring -linarith -ac -order (ematch := 60) (gen := 60) only [← State.shadowCopy_evolves, ← List.foldl_evolves]

theorem State.route_evolves {s₀ s : State} (h : Evolves s₀ s) (rs0 : List Rec) :
    Evolves s₀ (State.route s rs0) := by
  unfold State.route
  grind -lia -ring -linarith -ac -order (ematch := 60) (gen := 60) only [← State.acqTake_evolves, ← State.decTake_evolves, usr State.lateMark_evolves, ← State.lateMark_evolves, ← State.pipTake_evolves, ← State.toGates_evolves, ← State.toShadows_evolves, ← State.toSubs_evolves]

theorem State.routerPop_evolves {s₀ s : State} (h : Evolves s₀ s) (q : Nat) :
    Evolves s₀ (State.routerPop s q) := by
  unfold State.routerPop
  grind -lia -ring -linarith -ac -order (ematch := 60) (gen := 60) only [usr State.popOnce_evolves, ← State.popOnce_evolves, ← State.route_evolves, ← State.setEng_evolves]

theorem State.memPop_evolves {s₀ s : State} (h : Evolves s₀ s) (q : Nat) :
    Evolves s₀ (State.memPop s q) := by
  rw [State.memPop]
  try dsimp only
  repeat' first
    | with_reducible assumption | with_reducible apply State.closeExtent_evolves | with_reducible apply State.popPacket_evolves | with_reducible apply State.ringFull_evolves | with_reducible apply State.ringWrite_evolves | with_reducible apply Evolves.ite | with_reducible apply Evolves.ite_fst
    | with_reducible apply List.foldl_evolves | with_reducible apply List.foldl_evolves_fst
    | intro _ _ _ | dsimp only | (split <;> try (rename_i hq; obtain ⟨rfl, rfl⟩ := Prod.eq_parts hq))

theorem State.barPop_evolves {s₀ s : State} (h : Evolves s₀ s) (q : Nat) :
    Evolves s₀ (State.barPop s q) := by
  unfold State.barPop
  grind -lia -ring -linarith -ac -order (ematch := 60) (gen := 60) only [usr State.popOnce_evolves, ← State.popOnce_evolves, ← State.setRg_evolves]

theorem queuePop_evolves {s₀ s : State} (h : Evolves s₀ s) (q : Nat) :
    Evolves s₀ (queuePop q s) := by
  unfold queuePop
  grind -lia -ring -linarith -ac -order (ematch := 60) (gen := 60) only [← State.barPop_evolves, ← State.fwdPop_evolves, usr State.mayRequest_evolves, ← State.mayRequest_evolves, ← State.memPop_evolves, usr State.popOnce_evolves, ← State.popOnce_evolves, ← State.portTake_evolves, ← State.ringTake_evolves, ← State.routerPop_evolves]

theorem quePopW0Read_evolves {s₀ s : State} (h : Evolves s₀ s) (who : Requester) :
    Evolves s₀ (quePopW0Read who s) := by
  unfold quePopW0Read
  grind -lia -ring -linarith -ac -order (ematch := 60) (gen := 60) only [← State.barPop_evolves, ← State.emit_evolves, ← State.setFd_evolves]

theorem queuePush_evolves {s₀ s : State} (h : Evolves s₀ s) (q : Nat) (prod : Nat) (cls : PClass) (r : Rec) (last : Bool) :
    Evolves s₀ (queuePush q prod cls r last s) := by
  unfold queuePush
  grind -lia -ring -linarith -ac -order (ematch := 60) (gen := 60) only [usr State.push_evolves, ← State.push_evolves]

theorem packetRewind_evolves {s₀ s : State} (h : Evolves s₀ s) (q : Nat) (prod : Nat) :
    Evolves s₀ (packetRewind q prod s) := by
  unfold packetRewind
  grind -lia -ring -linarith -ac -order (ematch := 60) (gen := 60) only [← State.rewindQ_evolves]

theorem skipPkt_evolves {s₀ s : State} (h : Evolves s₀ s) (q : Nat) :
    Evolves s₀ (skipPkt q s) := by
  unfold skipPkt
  grind -lia -ring -linarith -ac -order (ematch := 60) (gen := 60) only [← State.skipQ_evolves]

theorem queFlush_evolves {s₀ s : State} (h : Evolves s₀ s) (q : Nat) :
    Evolves s₀ (queFlush q s) := by
  unfold queFlush
  grind -lia -ring -linarith -ac -order (ematch := 60) (gen := 60) only [← State.flushQ_evolves]

theorem xqCommitVisible_evolves {s₀ s : State} (h : Evolves s₀ s) (q : Nat) :
    Evolves s₀ (xqCommitVisible q s) := by
  unfold xqCommitVisible
  grind -lia -ring -linarith -ac -order (ematch := 60) (gen := 60) only [← State.setQueue_evolves]

theorem xqFreeVisible_evolves {s₀ s : State} (h : Evolves s₀ s) (q : Nat) :
    Evolves s₀ (xqFreeVisible q s) := by
  unfold xqFreeVisible
  grind -lia -ring -linarith -ac -order (ematch := 60) (gen := 60) only [← State.setQueue_evolves]

theorem State.ringJoin_evolves {s₀ s : State} (h : Evolves s₀ s) (q : Nat) :
    Evolves s₀ (State.ringJoin s q) := by
  unfold State.ringJoin
  grind -lia -ring -linarith -ac -order (ematch := 60) (gen := 60) only [usr State.ringWrite_evolves, ← State.ringWrite_evolves, ← State.setFd_evolves, ← State.setWriter_evolves]

theorem State.ringQuit_evolves {s₀ s : State} (h : Evolves s₀ s) (q : Nat) :
    Evolves s₀ (State.ringQuit s q) := by
  unfold State.ringQuit
  grind -lia -ring -linarith -ac -order (ematch := 60) (gen := 60) only [← State.ringLeave_evolves]

theorem queQCfgWrite_evolves {s₀ s : State} (h : Evolves s₀ s) (q : Nat) (w : Word) :
    Evolves s₀ (queQCfgWrite q w s) := by
  unfold queQCfgWrite
  grind -lia -ring -linarith -ac -order (ematch := 60) (gen := 60) only [← State.putFields_evolves, ← State.ringJoin_evolves, ← State.ringQuit_evolves, ← State.setFd_evolves, ← State.setRg_evolves]

theorem State.queCmdSts_evolves {s₀ s : State} (h : Evolves s₀ s) (q : Nat) (op : Nat) (result : Nat) :
    Evolves s₀ (State.queCmdSts s q op result) := by
  unfold State.queCmdSts
  grind -lia -ring -linarith -ac -order (ematch := 60) (gen := 60) only [← State.incFd_evolves, ← State.setFd_evolves]

theorem State.testRows_evolves {s₀ s : State} (h : Evolves s₀ s) (q : Nat) (faulty : Nat) :
    Evolves s₀ (State.testRows s q faulty) := by
  unfold State.testRows
  grind -lia -ring -linarith -ac -order (ematch := 60) (gen := 60) only [← State.assertOnce_evolves, ← State.dropLive_evolves, ← State.raise_evolves, ← State.setFd_evolves, ← State.setQueue_evolves]

theorem queTest_evolves {s₀ s : State} (h : Evolves s₀ s) (q : Nat) (faulty : Nat) :
    Evolves s₀ (queTest q faulty s) := by
  unfold queTest
  grind -lia -ring -linarith -ac -order (ematch := 60) (gen := 60) only [← State.queCmdSts_evolves, ← State.testRows_evolves]

theorem State.levelPkt_evolves {s₀ s : State} (h : Evolves s₀ s) (cause : Nat) :
    Evolves s₀ (State.levelPkt s cause) := by
  unfold State.levelPkt
  grind -lia -ring -linarith -ac -order (ematch := 60) (gen := 60) only [usr State.pushPkt_evolves, ← State.pushPkt_evolves]

theorem queLevel_evolves {s₀ s : State} (h : Evolves s₀ s) :
    Evolves s₀ (queLevel s) := by
  unfold queLevel
  grind -lia -ring -linarith -ac -order (ematch := 60) (gen := 60) only [← State.levelPkt_evolves, ← State.queCmdSts_evolves]

theorem State.flushAll_evolves {s₀ s : State} (h : Evolves s₀ s) :
    Evolves s₀ (State.flushAll s) := by
  unfold State.flushAll
  grind -lia -ring -linarith -ac -order (ematch := 60) (gen := 60) only [← State.flushQ_evolves, ← State.setCasc_evolves, ← State.setEng_evolves, ← State.setQueue_evolves, ← List.foldl_evolves]

theorem queueDrainEnd_evolves {s₀ s : State} (h : Evolves s₀ s) :
    Evolves s₀ (queueDrainEnd s) := by
  unfold queueDrainEnd
  grind -lia -ring -linarith -ac -order (ematch := 60) (gen := 60) only [← State.flushAll_evolves, ← State.setDev_evolves]

theorem State.closeAllSamples_evolves {s₀ s : State} (h : Evolves s₀ s) :
    Evolves s₀ (State.closeAllSamples s) := by
  unfold State.closeAllSamples
  grind -lia -ring -linarith -ac -order (ematch := 60) (gen := 60) only [usr State.closeSamples_evolves, ← State.closeSamples_evolves, ← State.setDctx_evolves, ← List.foldl_evolves]

theorem epochRecord_evolves {s₀ s : State} (h : Evolves s₀ s) :
    Evolves s₀ (epochRecord s) := by
  unfold epochRecord
  grind -lia -ring -linarith -ac -order (ematch := 60) (gen := 60) only [← State.acqEpoch_evolves, ← State.closeAllSamples_evolves, usr State.pushPkt_evolves, ← State.pushPkt_evolves, ← State.setTb_evolves, ← List.foldl_evolves]

theorem State.svcRelease_evolves {s₀ s : State} (h : Evolves s₀ s) :
    Evolves s₀ (State.svcRelease s) := by
  unfold State.svcRelease
  grind -lia -ring -linarith -ac -order (ematch := 60) (gen := 60) only [← State.route_evolves, ← State.setTb_evolves, ← List.foldl_evolves]

theorem State.serviceEdge_evolves {s₀ s : State} (h : Evolves s₀ s) (i : Nat) (t : Nat) (ps : Nat) (r : Rec) :
    Evolves s₀ (State.serviceEdge s i t ps r) := by
  unfold State.serviceEdge
  grind -lia -ring -linarith -ac -order (ematch := 60) (gen := 60) only [← State.bufLose_evolves, usr State.bufTake_evolves, ← State.bufTake_evolves, ← State.closeLoss_evolves, ← State.route_evolves, ← State.svcRelease_evolves]

theorem State.countService_evolves {s₀ s : State} (h : Evolves s₀ s) (i : Nat) (t : Nat) :
    Evolves s₀ (State.countService s i t) := by
  unfold State.countService
  grind -lia -ring -linarith -ac -order (ematch := 60) (gen := 60) only [← State.noteCount_evolves, ← State.raise_evolves, ← State.setPair_evolves]

theorem serviceTransition_evolves {s₀ s : State} (h : Evolves s₀ s) (i : Nat) (rising : Bool) (slot : Nat) (code : Nat) :
    Evolves s₀ (serviceTransition i rising slot code s) := by
  rw [serviceTransition]
  try dsimp only
  repeat' first
    | with_reducible assumption | with_reducible apply State.countService_evolves | with_reducible apply State.serviceEdge_evolves | with_reducible apply State.setRg_evolves | with_reducible apply State.svcRelease_evolves | with_reducible apply Evolves.ite | with_reducible apply Evolves.ite_fst
    | with_reducible apply List.foldl_evolves | with_reducible apply List.foldl_evolves_fst
    | intro _ _ _ | dsimp only | (split <;> try (rename_i hq; obtain ⟨rfl, rfl⟩ := Prod.eq_parts hq))

theorem passEnd_evolves {s₀ s : State} (h : Evolves s₀ s) (lane : Nat) (hist : List Nat) :
    Evolves s₀ (passEnd lane hist s) := by
  unfold passEnd
  grind -lia -ring -linarith -ac -order (ematch := 60) (gen := 60) only [← State.svcRelease_evolves, ← calibrationPassEnd_evolves]

end Sys2Proof.Machine
end

