-- ==== Sys2Proof/Laws/EvolvesCommands.lean ====
section
/-! SUPPORT. What the operations of Machine/Commands.lean may do to a state (`Evolves`): one lemma for each. -/

namespace Sys2Proof.Machine

theorem State.cmdOk_evolves {s₀ s : State} (h : Evolves s₀ s) (point : Nat) :
    Evolves s₀ (State.cmdOk s point).st := by
  unfold State.cmdOk
  grind -lia -ring -linarith -ac -order (ematch := 60) (gen := 60) only []
grind_pattern State.cmdOk_evolves => Evolves s₀ s, State.cmdOk s point

theorem State.cmdRefused_evolves {s₀ s : State} (h : Evolves s₀ s) (code : Nat) :
    Evolves s₀ (State.cmdRefused s code).st := by
  unfold State.cmdRefused
  grind -lia -ring -linarith -ac -order (ematch := 60) (gen := 60) only []
grind_pattern State.cmdRefused_evolves => Evolves s₀ s, State.cmdRefused s code

theorem State.cmdNoCode_evolves {s₀ s : State} (h : Evolves s₀ s) :
    Evolves s₀ (State.cmdNoCode s).st := by
  unfold State.cmdNoCode
  grind -lia -ring -linarith -ac -order (ematch := 60) (gen := 60) only [usr State.free_evolves, ← State.free_evolves]
grind_pattern State.cmdNoCode_evolves => Evolves s₀ s, State.cmdNoCode s

theorem State.cmdBad_evolves {s₀ s : State} (h : Evolves s₀ s) :
    Evolves s₀ (State.cmdBad s).st := by
  unfold State.cmdBad
  grind -lia -ring -linarith -ac -order (ematch := 60) (gen := 60) only []
grind_pattern State.cmdBad_evolves => Evolves s₀ s, State.cmdBad s

theorem State.cmdBadPoint_evolves {s₀ s : State} (h : Evolves s₀ s) :
    Evolves s₀ (State.cmdBadPoint s).st := by
  unfold State.cmdBadPoint
  grind -lia -ring -linarith -ac -order (ematch := 60) (gen := 60) only []
grind_pattern State.cmdBadPoint_evolves => Evolves s₀ s, State.cmdBadPoint s

theorem State.cmdStart_evolves {s₀ s : State} (h : Evolves s₀ s) (e : CmdEntry) (time : Option Nat) :
    Evolves s₀ (State.cmdStart s e time).st := by
  unfold State.cmdStart
  grind -lia -ring -linarith -ac -order (ematch := 60) (gen := 60) only [usr State.cmdNoCode_evolves, ← State.cmdNoCode_evolves, usr State.cmdOk_evolves, ← State.cmdOk_evolves, usr State.cmdRefused_evolves, ← State.cmdRefused_evolves, usr State.placeTask_evolves, ← State.placeTask_evolves]
grind_pattern State.cmdStart_evolves => Evolves s₀ s, State.cmdStart s e time

theorem State.cmdStop_evolves {s₀ s : State} (h : Evolves s₀ s) (e : CmdEntry) (time : Option Nat) (gate : Option Nat) :
    Evolves s₀ (State.cmdStop s e time gate).st := by
  unfold State.cmdStop
  grind -lia -ring -linarith -ac -order (ematch := 60) (gen := 60) only [usr State.cmdNoCode_evolves, ← State.cmdNoCode_evolves, usr State.cmdOk_evolves, ← State.cmdOk_evolves, ← State.dropMovesOf_evolves, ← State.freeTask_evolves, ← State.setTask_evolves]
grind_pattern State.cmdStop_evolves => Evolves s₀ s, State.cmdStop s e time gate

theorem State.cmdSwitch_evolves {s₀ s : State} (h : Evolves s₀ s) (e : CmdEntry) (time : Option Nat) (gate : Option Nat) :
    Evolves s₀ (State.cmdSwitch s e time gate).st := by
  rw [State.cmdSwitch]
  try dsimp only
  repeat' first
    | with_reducible assumption | with_reducible apply State.bindSubs_evolves | with_reducible apply State.cmdBadPoint_evolves | with_reducible apply State.cmdNoCode_evolves | with_reducible apply State.cmdOk_evolves | with_reducible apply State.cmdRefused_evolves | with_reducible apply State.openStreams_evolves | with_reducible apply State.setTask_evolves | with_reducible apply Evolves.ite | with_reducible apply Evolves.ite_fst
    | with_reducible apply List.foldl_evolves | with_reducible apply List.foldl_evolves_fst
    | intro _ _ _ | dsimp only | (split <;> try (rename_i hq; obtain ⟨rfl, rfl⟩ := Prod.eq_parts hq))
grind_pattern State.cmdSwitch_evolves => Evolves s₀ s, State.cmdSwitch s e time gate

theorem State.cmdGate_evolves {s₀ s : State} (h : Evolves s₀ s) (e : CmdEntry) (time : Option Nat) :
    Evolves s₀ (State.cmdGate s e time).st := by
  unfold State.cmdGate
  grind -lia -ring -linarith -ac -order (ematch := 60) (gen := 60) only [usr State.cmdBadPoint_evolves, ← State.cmdBadPoint_evolves, usr State.cmdNoCode_evolves, ← State.cmdNoCode_evolves, usr State.cmdOk_evolves, ← State.cmdOk_evolves, ← State.setTask_evolves]
grind_pattern State.cmdGate_evolves => Evolves s₀ s, State.cmdGate s e time

theorem State.cmdDec_evolves {s₀ s : State} (h : Evolves s₀ s) (e : CmdEntry) (time : Option Nat) :
    Evolves s₀ (State.cmdDec s e time).st := by
  unfold State.cmdDec
  grind -lia -ring -linarith -ac -order (ematch := 60) (gen := 60) only [usr State.cmdBad_evolves, ← State.cmdBad_evolves, usr State.cmdNoCode_evolves, ← State.cmdNoCode_evolves, usr State.cmdOk_evolves, ← State.cmdOk_evolves, usr State.cmdRefused_evolves, ← State.cmdRefused_evolves, ← State.decApply_evolves, ← State.decFade_evolves, ← State.decStart_evolves, ← State.decStop_evolves]
grind_pattern State.cmdDec_evolves => Evolves s₀ s, State.cmdDec s e time

theorem State.cmdPip_evolves {s₀ s : State} (h : Evolves s₀ s) (e : CmdEntry) (time : Option Nat) :
    Evolves s₀ (State.cmdPip s e time).st := by
  unfold State.cmdPip
  grind -lia -ring -linarith -ac -order (ematch := 60) (gen := 60) only [usr State.cmdBad_evolves, ← State.cmdBad_evolves, usr State.cmdNoCode_evolves, ← State.cmdNoCode_evolves, usr State.cmdOk_evolves, ← State.cmdOk_evolves, usr State.cmdRefused_evolves, ← State.cmdRefused_evolves, ← State.pipApply_evolves, ← State.pipDisable_evolves, ← State.pipEnable_evolves, ← State.pipSoft_evolves]
grind_pattern State.cmdPip_evolves => Evolves s₀ s, State.cmdPip s e time

theorem State.cmdAcq_evolves {s₀ s : State} (h : Evolves s₀ s) (e : CmdEntry) (time : Option Nat) :
    Evolves s₀ (State.cmdAcq s e time).st := by
  unfold State.cmdAcq
  grind -lia -ring -linarith -ac -order (ematch := 60) (gen := 60) only [← State.acqArm_evolves, ← State.acqStop_evolves, usr State.cmdBad_evolves, ← State.cmdBad_evolves, usr State.cmdNoCode_evolves, ← State.cmdNoCode_evolves, usr State.cmdOk_evolves, ← State.cmdOk_evolves, usr State.cmdRefused_evolves, ← State.cmdRefused_evolves]
grind_pattern State.cmdAcq_evolves => Evolves s₀ s, State.cmdAcq s e time

theorem State.noteLive_evolves {s₀ s : State} (h : Evolves s₀ s) (e : CmdEntry) (point : Nat) :
    Evolves s₀ (State.noteLive s e point) := by
  unfold State.noteLive
  grind -lia -ring -linarith -ac -order (ematch := 60) (gen := 60) only [← State.setHst_evolves]

theorem State.runCmd_evolves {s₀ s : State} (h : Evolves s₀ s) (e0 : CmdEntry) (e : CmdEntry) (first : Bool) :
    Evolves s₀ (State.runCmd s e0 e first).st := by
  unfold State.runCmd
  grind -lia -ring -linarith -ac -order (ematch := 60) (gen := 60) only [usr State.cmdAcq_evolves, ← State.cmdAcq_evolves, usr State.cmdBad_evolves, ← State.cmdBad_evolves, usr State.cmdBadPoint_evolves, ← State.cmdBadPoint_evolves, usr State.cmdDec_evolves, ← State.cmdDec_evolves, usr State.cmdGate_evolves, ← State.cmdGate_evolves, usr State.cmdOk_evolves, ← State.cmdOk_evolves, usr State.cmdPip_evolves, ← State.cmdPip_evolves, usr State.cmdStart_evolves, ← State.cmdStart_evolves, usr State.cmdStop_evolves, ← State.cmdStop_evolves, usr State.cmdSwitch_evolves, ← State.cmdSwitch_evolves, ← State.noteLive_evolves, ← State.setHst_evolves]
grind_pattern State.runCmd_evolves => Evolves s₀ s, State.runCmd s e0 e first

theorem State.tryGroup_evolves {s₀ s : State} (h : Evolves s₀ s) (e0 : CmdEntry) (x0 : List CmdEntry) (x1 : Bool) :
    Evolves s₀ (State.tryGroup e0 x0 x1 s).1 := by
  induction x0 generalizing s x1 with
  | nil => unfold State.tryGroup; grind -lia -ring -linarith -ac -order (ematch := 60) (gen := 60) only [usr State.runCmd_evolves, ← State.runCmd_evolves]
  | cons a l ih => unfold State.tryGroup; grind -lia -ring -linarith -ac -order (ematch := 60) (gen := 60) only [usr State.runCmd_evolves, ← State.runCmd_evolves]
grind_pattern State.tryGroup_evolves => Evolves s₀ s, State.tryGroup e0 x0 x1 s

theorem State.groupDone_evolves {s₀ s : State} (h : Evolves s₀ s) (all : Bool) (x0 : List (CmdEntry × CmdOut)) :
    Evolves s₀ (State.groupDone s all x0) := by
  induction x0 generalizing s with
  | nil => exact h
  | cons a l ih =>
    obtain ⟨e, o⟩ := a
    rw [State.groupDone]
    exact ih (Evolves.ite h (State.complete_evolves h ..))

theorem State.cmdGroup_evolves {s₀ s : State} (h : Evolves s₀ s) (es : List CmdEntry) :
    Evolves s₀ (State.cmdGroup s es) := by
  unfold State.cmdGroup
  split
  · exact h
  split
  · exact List.foldl_evolves _ _ h fun t e ht => State.complete_evolves ht ..
  · dsimp only
    apply State.groupDone_evolves
    split
    · exact State.tryGroup_evolves h ..
    · exact Evolves.freeCtr h _ (State.tryGroup_evolves (Evolves.refl s) ..).fresh

theorem State.oneCmd_evolves {s₀ s : State} (h : Evolves s₀ s) (op : Nat) (e : CmdEntry) :
    Evolves s₀ (State.oneCmd s op e) := by
  unfold State.oneCmd
  grind -lia -ring -linarith -ac -order (ematch := 60) (gen := 60) only [← State.cmdGroup_evolves]

theorem State.fetchReq_evolves {s₀ s : State} (h : Evolves s₀ s) :
    Evolves s₀ (State.fetchReq s) := by
  unfold State.fetchReq
  grind -lia -ring -linarith -ac -order (ematch := 60) (gen := 60) only [← State.emit_evolves]

theorem commandFetch_evolves {s₀ s : State} (h : Evolves s₀ s) (e : CmdEntry) :
    Evolves s₀ (commandFetch e s) := by
  unfold commandFetch
  grind -lia -ring -linarith -ac -order (ematch := 60) (gen := 60) only [← State.cmdGroup_evolves, ← State.fetchReq_evolves, usr State.mayRequest_evolves, ← State.mayRequest_evolves, ← State.setFd_evolves, ← State.setHst_evolves]

theorem completionTimeout_evolves {s₀ s : State} (h : Evolves s₀ s) (failed : Bool) :
    Evolves s₀ (completionTimeout failed s) := by
  unfold completionTimeout
  grind -lia -ring -linarith -ac -order (ematch := 60) (gen := 60) only [← State.fetchReq_evolves, ← State.hstSts_evolves, ← State.setFd_evolves]

theorem fenceComplete_evolves {s₀ s : State} (h : Evolves s₀ s) :
    Evolves s₀ (fenceComplete s) := by
  unfold fenceComplete
  grind -lia -ring -linarith -ac -order (ematch := 60) (gen := 60) only [← State.complete_evolves, usr State.mayRequest_evolves, ← State.mayRequest_evolves, ← State.setHst_evolves]

theorem hstCqDb_evolves {s₀ s : State} (h : Evolves s₀ s) (v : Nat) :
    Evolves s₀ (hstCqDb v s) := by
  unfold hstCqDb
  grind -lia -ring -linarith -ac -order (ematch := 60) (gen := 60) only [← State.hstSts_evolves, ← State.setFd_evolves, ← State.wakeStart_evolves]

theorem State.doorbell_evolves {s₀ s : State} (h : Evolves s₀ s) (i : Nat) (w : Word) :
    Evolves s₀ (State.doorbell s i w) := by
  unfold State.doorbell
  grind -lia -ring -linarith -ac -order (ematch := 60) (gen := 60) only [← State.assertOnce_evolves, ← State.setRg_evolves, ← State.wakeStart_evolves]

theorem hstDb_evolves {s₀ s : State} (h : Evolves s₀ s) (i : Nat) (w : Word) :
    Evolves s₀ (hstDb i w s) := by
  unfold hstDb
  grind -lia -ring -linarith -ac -order (ematch := 60) (gen := 60) only [← State.doorbell_evolves]

theorem taskStart_evolves {s₀ s : State} (h : Evolves s₀ s) (e : CmdEntry) :
    Evolves s₀ (taskStart e s) := by
  unfold taskStart
  grind -lia -ring -linarith -ac -order (ematch := 60) (gen := 60) only [← State.oneCmd_evolves]

theorem taskStop_evolves {s₀ s : State} (h : Evolves s₀ s) (e : CmdEntry) :
    Evolves s₀ (taskStop e s) := by
  unfold taskStop
  grind -lia -ring -linarith -ac -order (ematch := 60) (gen := 60) only [← State.oneCmd_evolves]

theorem taskSwitch_evolves {s₀ s : State} (h : Evolves s₀ s) (e : CmdEntry) :
    Evolves s₀ (taskSwitch e s) := by
  unfold taskSwitch
  grind -lia -ring -linarith -ac -order (ematch := 60) (gen := 60) only [← State.oneCmd_evolves]

theorem gateCmd_evolves {s₀ s : State} (h : Evolves s₀ s) (e : CmdEntry) :
    Evolves s₀ (gateCmd e s) := by
  unfold gateCmd
  grind -lia -ring -linarith -ac -order (ematch := 60) (gen := 60) only [← State.oneCmd_evolves]

theorem decCmd_evolves {s₀ s : State} (h : Evolves s₀ s) (e : CmdEntry) :
    Evolves s₀ (decCmd e s) := by
  unfold decCmd
  grind -lia -ring -linarith -ac -order (ematch := 60) (gen := 60) only [← State.oneCmd_evolves]

theorem pipCmd_evolves {s₀ s : State} (h : Evolves s₀ s) (e : CmdEntry) :
    Evolves s₀ (pipCmd e s) := by
  unfold pipCmd
  grind -lia -ring -linarith -ac -order (ematch := 60) (gen := 60) only [← State.oneCmd_evolves]

theorem acqCmd_evolves {s₀ s : State} (h : Evolves s₀ s) (e : CmdEntry) :
    Evolves s₀ (acqCmd e s) := by
  unfold acqCmd
  grind -lia -ring -linarith -ac -order (ematch := 60) (gen := 60) only [← State.oneCmd_evolves]

theorem fenceCmd_evolves {s₀ s : State} (h : Evolves s₀ s) (e : CmdEntry) :
    Evolves s₀ (fenceCmd e s) := by
  unfold fenceCmd
  grind -lia -ring -linarith -ac -order (ematch := 60) (gen := 60) only [← State.oneCmd_evolves]

end Sys2Proof.Machine
end

