-- ==== Sys2Proof/Laws/EvolvesPower.lean ====
section
/-! SUPPORT. What the operations of Machine/Power.lean may do to a state (`Evolves`): one lemma for each. -/

namespace Sys2Proof.Machine

theorem State.beginFinal_evolves {s₀ s : State} (h : Evolves s₀ s) (t : Trans) (cause : Nat) :
    Evolves s₀ (State.beginFinal s t cause) := by
  unfold State.beginFinal
  grind -lia -ring -linarith -ac -order (ematch := 60) (gen := 60) only [← State.begin_evolves, ← State.setDev_evolves]

theorem State.latchCut_evolves {s₀ s : State} (h : Evolves s₀ s) (c : Nat) :
    Evolves s₀ (State.latchCut s c) := by
  unfold State.latchCut
  grind -lia -ring -linarith -ac -order (ematch := 60) (gen := 60) only [← Evolves.ldg]

theorem State.shedPorts_evolves {s₀ s : State} (h : Evolves s₀ s) :
    Evolves s₀ (State.shedPorts s) := by
  unfold State.shedPorts
  grind -lia -ring -linarith -ac -order (ematch := 60) (gen := 60) only [← State.linksOff_evolves, ← State.setDev_evolves]

theorem finalCheckpointSnapshot_evolves {s₀ s : State} (h : Evolves s₀ s) :
    Evolves s₀ (finalCheckpointSnapshot s) := by
  unfold finalCheckpointSnapshot
  grind -lia -ring -linarith -ac -order (ematch := 60) (gen := 60) only [← State.beginCkpt_evolves, ← State.latchCut_evolves, ← State.setDev_evolves, ← State.shedPorts_evolves, ← State.writeBridge_evolves, ← Evolves.ldg]

theorem State.startReset_evolves {s₀ s : State} (h : Evolves s₀ s) :
    Evolves s₀ (State.startReset s) := by
  unfold State.startReset
  grind -lia -ring -linarith -ac -order (ematch := 60) (gen := 60) only [← State.beginFinal_evolves, ← State.domUp_evolves]

theorem State.resetCause_evolves {s₀ s : State} (h : Evolves s₀ s) (bit : Nat) :
    Evolves s₀ (State.resetCause s bit) := by
  unfold State.resetCause
  grind -lia -ring -linarith -ac -order (ematch := 60) (gen := 60) only [← State.begin_evolves, ← State.setDev_evolves, ← State.startReset_evolves]

theorem State.faultReset_evolves {s₀ s : State} (h : Evolves s₀ s) (i : Nat) :
    Evolves s₀ (State.faultReset s i) := by
  unfold State.faultReset
  grind -lia -ring -linarith -ac -order (ematch := 60) (gen := 60) only [← State.begin_evolves, ← State.setDev_evolves, ← Evolves.ldg]

theorem State.startHalt_evolves {s₀ s : State} (h : Evolves s₀ s) (cause : Nat) :
    Evolves s₀ (State.startHalt s cause) := by
  unfold State.startHalt
  grind -lia -ring -linarith -ac -order (ematch := 60) (gen := 60) only [← State.acqHold_evolves, ← State.beginFinal_evolves, ← State.domsUp_evolves, ← State.logFlush_evolves, ← State.pipHold_evolves, ← State.setFd_evolves]

theorem State.askHalt_evolves {s₀ s : State} (h : Evolves s₀ s) (cause : Nat) :
    Evolves s₀ (State.askHalt s cause) := by
  unfold State.askHalt
  grind -lia -ring -linarith -ac -order (ematch := 60) (gen := 60) only [← State.setDev_evolves, ← State.startHalt_evolves]

theorem State.afterTransition_evolves {s₀ s : State} (h : Evolves s₀ s) :
    Evolves s₀ (State.afterTransition s) := by
  unfold State.afterTransition
  grind -lia -ring -linarith -ac -order (ematch := 60) (gen := 60) only [← State.askHalt_evolves, ← State.setDev_evolves, ← State.startReset_evolves, ← State.wakeStart_evolves]

theorem State.haltReached_evolves {s₀ s : State} (h : Evolves s₀ s) :
    Evolves s₀ (State.haltReached s) := by
  unfold State.haltReached
  grind -lia -ring -linarith -ac -order (ematch := 60) (gen := 60) only [← State.abandonAll_evolves, ← State.afterTransition_evolves, ← State.decHold_evolves, ← State.enter_evolves, ← State.linksOff_evolves, ← State.madcHalt_evolves, ← State.setDev_evolves, ← State.setFd_evolves]

theorem frameDone_evolves {s₀ s : State} (h : Evolves s₀ s) (failed : List Nat) (corrected : List Nat) :
    Evolves s₀ (frameDone failed corrected s) := by
  unfold frameDone
  grind -lia -ring -linarith -ac -order (ematch := 60) (gen := 60) only [← State.haltReached_evolves, ← frameWriteDone_evolves]

theorem State.glbSts_evolves {s₀ s : State} (h : Evolves s₀ s) (cmd : Nat) (result : Nat) :
    Evolves s₀ (State.glbSts s cmd result) := by
  unfold State.glbSts
  grind -lia -ring -linarith -ac -order (ematch := 60) (gen := 60) only [← State.incFd_evolves, ← State.setFd_evolves]

theorem haltCmd_evolves {s₀ s : State} (h : Evolves s₀ s) :
    Evolves s₀ (haltCmd s) := by
  unfold haltCmd
  grind -lia -ring -linarith -ac -order (ematch := 60) (gen := 60) only [← State.glbSts_evolves, ← State.startHalt_evolves]

theorem State.restartTask_evolves {s₀ s : State} (h : Evolves s₀ s) (t : Nat) (wake : Bool) :
    Evolves s₀ (State.restartTask s t wake) := by
  unfold State.restartTask
  grind -lia -ring -linarith -ac -order (ematch := 60) (gen := 60) only [← State.begin_evolves, usr State.endRun_evolves, ← State.endRun_evolves, ← State.setCtx_evolves, ← State.setTask_evolves]

theorem State.restartTasks_evolves {s₀ s : State} (h : Evolves s₀ s) (wake : Bool) :
    Evolves s₀ (State.restartTasks s wake) := by
  unfold State.restartTasks
  grind -lia -ring -linarith -ac -order (ematch := 60) (gen := 60) only [← State.restartTask_evolves, ← List.foldl_evolves]

theorem State.replaceTask_evolves {s₀ s : State} (h : Evolves s₀ s) (t : Nat) (k : Task) :
    Evolves s₀ (State.replaceTask s t k) := by
  unfold State.replaceTask
  grind -lia -ring -linarith -ac -order (ematch := 60) (gen := 60) only [← State.freeTask_evolves, usr State.placeTask_evolves, ← State.placeTask_evolves]

theorem State.portAnew_evolves {s₀ s : State} (h : Evolves s₀ s) (p : Nat) :
    Evolves s₀ (State.portAnew s p) := by
  unfold State.portAnew
  grind -lia -ring -linarith -ac -order (ematch := 60) (gen := 60) only [← State.chkResult_evolves, ← State.nextChk_evolves, ← State.setPort_evolves]

theorem State.portsUnknown_evolves {s₀ s : State} (h : Evolves s₀ s) (all : Bool) :
    Evolves s₀ (State.portsUnknown s all) := by
  unfold State.portsUnknown
  grind -lia -ring -linarith -ac -order (ematch := 60) (gen := 60) only [← State.portAnew_evolves, ← List.foldl_evolves]

theorem State.wakeForward_evolves {s₀ s : State} (h : Evolves s₀ s) :
    Evolves s₀ (State.wakeForward s) := by
  unfold State.wakeForward
  grind -lia -ring -linarith -ac -order (ematch := 60) (gen := 60) only [← State.emit_evolves, ← List.foldl_evolves]

theorem State.drivesLost_evolves {s₀ s : State} (h : Evolves s₀ s) :
    Evolves s₀ (State.drivesLost s) := by
  unfold State.drivesLost
  grind -lia -ring -linarith -ac -order (ematch := 60) (gen := 60) only [← State.driveLost_evolves]

theorem State.drivesAnew_evolves {s₀ s : State} (h : Evolves s₀ s) :
    Evolves s₀ (State.drivesAnew s) := by
  unfold State.drivesAnew
  grind -lia -ring -linarith -ac -order (ematch := 60) (gen := 60) only [← State.setDrv_evolves, ← List.foldl_evolves]

theorem State.runAgain_evolves {s₀ s : State} (h : Evolves s₀ s) (cause : Nat) :
    Evolves s₀ (State.runAgain s cause) := by
  unfold State.runAgain
  grind -lia -ring -linarith -ac -order (ematch := 60) (gen := 60) only [← State.decResume_evolves, ← State.drivesAnew_evolves, ← State.enter_evolves, ← State.levelPkt_evolves, ← State.linksTrain_evolves, ← State.pipResume_evolves, ← State.restartTasks_evolves, ← State.setDev_evolves, ← State.wakeForward_evolves]

theorem resumeCmd_evolves {s₀ s : State} (h : Evolves s₀ s) (vinLow : Bool) :
    Evolves s₀ (resumeCmd vinLow s) := by
  unfold resumeCmd
  grind -lia -ring -linarith -ac -order (ematch := 60) (gen := 60) only [← State.glbSts_evolves, ← State.portsUnknown_evolves, ← State.runAgain_evolves]

theorem enterWatch_evolves {s₀ s : State} (h : Evolves s₀ s) :
    Evolves s₀ (enterWatch s) := by
  unfold enterWatch
  grind -lia -ring -linarith -ac -order (ematch := 60) (gen := 60) only [← State.acqHold_evolves, ← State.beginFinal_evolves, ← State.decHold_evolves, ← State.glbSts_evolves, ← State.pipHold_evolves]

theorem watchEntryDone_evolves {s₀ s : State} (h : Evolves s₀ s) :
    Evolves s₀ (watchEntryDone s) := by
  unfold watchEntryDone
  grind -lia -ring -linarith -ac -order (ematch := 60) (gen := 60) only [← State.abandonAll_evolves, ← State.afterTransition_evolves, ← State.domsDown_evolves, ← State.drivesLost_evolves, ← State.enter_evolves, ← State.flushAll_evolves, ← State.linksOff_evolves, ← State.madcHalt_evolves, ← State.setDev_evolves, ← State.setFd_evolves]

theorem wakeEvent_evolves {s₀ s : State} (h : Evolves s₀ s) (c : WakeCause) (n : Nat) :
    Evolves s₀ (wakeEvent c n s) := by
  unfold wakeEvent
  grind -lia -ring -linarith -ac -order (ematch := 60) (gen := 60) only [← State.doorbell_evolves, ← State.runTo_evolves, ← State.wakeStart_evolves]

theorem State.wakeLoss_evolves {s₀ s : State} (h : Evolves s₀ s) (e : Nat) :
    Evolves s₀ (State.wakeLoss s e) := by
  unfold State.wakeLoss
  grind -lia -ring -linarith -ac -order (ematch := 60) (gen := 60) only [← State.raise_evolves, ← State.replaceTask_evolves, ← State.setEngState_evolves, ← List.foldl_evolves]

theorem wakeDone_evolves {s₀ s : State} (h : Evolves s₀ s) (bad : List Nat) :
    Evolves s₀ (wakeDone bad s) := by
  unfold wakeDone
  grind -lia -ring -linarith -ac -order (ematch := 60) (gen := 60) only [← State.afterTransition_evolves, ← State.portsUnknown_evolves, ← State.runAgain_evolves, ← State.wakeLoss_evolves, ← List.foldl_evolves]

theorem State.shedLoad_evolves {s₀ s : State} (h : Evolves s₀ s) :
    Evolves s₀ (State.shedLoad s) := by
  unfold State.shedLoad
  grind -lia -ring -linarith -ac -order (ematch := 60) (gen := 60) only [← State.acqShed_evolves, ← State.decHold_evolves, ← State.drivesLost_evolves, ← State.pipHold_evolves, ← State.pwrSts_evolves, ← State.setDev_evolves]

theorem State.stopWriter_evolves {s₀ s : State} (h : Evolves s₀ s) (keep : Bool) :
    Evolves s₀ (State.stopWriter s keep) := by
  unfold State.stopWriter
  grind -lia -ring -linarith -ac -order (ematch := 60) (gen := 60) only [← Evolves.ldg]

theorem powerFailWarning_evolves {s₀ s : State} (h : Evolves s₀ s) (vin : Bool) (pin : Bool) :
    Evolves s₀ (powerFailWarning vin pin s) := by
  unfold powerFailWarning
  grind -lia -ring -linarith -ac -order (ematch := 60) (gen := 60) only [← State.beginFinal_evolves, ← State.domUp_evolves, ← State.pwrSts_evolves, ← State.raise_evolves, ← State.setDev_evolves, ← State.setFd_evolves, ← State.shedLoad_evolves, ← State.shedPorts_evolves, ← State.stopWriter_evolves]

theorem powerFailSequenceEnd_evolves {s₀ s : State} (h : Evolves s₀ s) (micros : Nat) :
    Evolves s₀ (powerFailSequenceEnd micros s) := by
  unfold powerFailSequenceEnd
  grind -lia -ring -linarith -ac -order (ematch := 60) (gen := 60) only [← State.abandonAll_evolves, ← State.begin_evolves, ← State.enter_evolves, ← State.madcHalt_evolves, ← State.setDev_evolves, ← State.setFd_evolves, ← State.shedPorts_evolves]

theorem State.reaction_evolves {s₀ s : State} (h : Evolves s₀ s) (code : Nat) (unit : Nat) :
    Evolves s₀ (State.reaction s code unit) := by
  unfold State.reaction
  grind -lia -ring -linarith -ac -order (ematch := 60) (gen := 60) only [← State.autoEvacuate_evolves, ← State.linkFault_evolves, ← State.madcEscalate_evolves, ← State.replaceTask_evolves, ← State.schedule_evolves, ← State.setEng_evolves, ← State.setFd_evolves]

theorem State.reactions_evolves {s₀ s : State} (h : Evolves s₀ s) (i : Nat) (r : FaultRec) :
    Evolves s₀ (State.reactions s i r) := by
  unfold State.reactions
  grind -lia -ring -linarith -ac -order (ematch := 60) (gen := 60) only [← State.reaction_evolves, ← List.foldl_evolves]

theorem State.markEsc_evolves {s₀ s : State} (h : Evolves s₀ s) (i : Nat) (r : FaultRec) :
    Evolves s₀ (State.markEsc s i r) := by
  unfold State.markEsc
  grind -lia -ring -linarith -ac -order (ematch := 60) (gen := 60) only [← State.assertOnce_evolves, ← State.faultLog_evolves, ← State.faultPkt_evolves, ← State.logFlush_evolves, ← State.logWrite_evolves, ← State.setDom_evolves, ← State.setFrec_evolves]

theorem escalation_evolves {s₀ s : State} (h : Evolves s₀ s) (i : Nat) :
    Evolves s₀ (escalation i s) := by
  unfold escalation
  grind -lia -ring -linarith -ac -order (ematch := 60) (gen := 60) only [← State.askHalt_evolves, ← State.faultReset_evolves, ← State.markEsc_evolves, ← State.reactions_evolves]

theorem railOut_evolves {s₀ s : State} (h : Evolves s₀ s) (r : Nat) (mv : Int) :
    Evolves s₀ (railOut r mv s) := by
  unfold railOut
  grind -lia -ring -linarith -ac -order (ematch := 60) (gen := 60) only [← State.pwrSts_evolves, ← State.raise_evolves]

theorem railLimit_evolves {s₀ s : State} (h : Evolves s₀ s) (r : Nat) (ma10 : Nat) :
    Evolves s₀ (railLimit r ma10 s) := by
  unfold railLimit
  grind -lia -ring -linarith -ac -order (ematch := 60) (gen := 60) only [← State.pwrSts_evolves, ← State.raise_evolves]

theorem vinHigh_evolves {s₀ s : State} (h : Evolves s₀ s) (mv : Nat) :
    Evolves s₀ (vinHigh mv s) := by
  unfold vinHigh
  grind -lia -ring -linarith -ac -order (ematch := 60) (gen := 60) only [← State.pwrSts_evolves, ← State.raise_evolves]

theorem powerConditionClear_evolves {s₀ s : State} (h : Evolves s₀ s) (c : PowerCond) (mv : Int) :
    Evolves s₀ (powerConditionClear c mv s) := by
  unfold powerConditionClear
  grind -lia -ring -linarith -ac -order (ematch := 60) (gen := 60) only [← State.dropLive_evolves]

theorem State.domSts_evolves {s₀ s : State} (h : Evolves s₀ s) (d : Nat) (result : Nat) :
    Evolves s₀ (State.domSts s d result) := by
  unfold State.domSts
  grind -lia -ring -linarith -ac -order (ematch := 60) (gen := 60) only [← State.incFd_evolves, ← State.setFd_evolves]

theorem domainOff_evolves {s₀ s : State} (h : Evolves s₀ s) (d : Nat) :
    Evolves s₀ (domainOff d s) := by
  unfold domainOff
  grind -lia -ring -linarith -ac -order (ematch := 60) (gen := 60) only [← State.domSts_evolves, ← State.setDom_evolves, ← State.sparesFrom_evolves, ← Evolves.domReq]

theorem domainOn_evolves {s₀ s : State} (h : Evolves s₀ s) (d : Nat) :
    Evolves s₀ (domainOn d s) := by
  unfold domainOn
  grind -lia -ring -linarith -ac -order (ematch := 60) (gen := 60) only [← State.domSts_evolves, ← State.dropLive_evolves, ← State.setDom_evolves, ← State.sparesFrom_evolves, ← Evolves.domReq]

theorem powerGoodTimeout_evolves {s₀ s : State} (h : Evolves s₀ s) (d : Nat) :
    Evolves s₀ (powerGoodTimeout d s) := by
  unfold powerGoodTimeout
  grind -lia -ring -linarith -ac -order (ematch := 60) (gen := 60) only [← State.pwrSts_evolves, ← State.raise_evolves, ← State.setDom_evolves, ← State.setFd_evolves, ← State.sparesFrom_evolves, ← Evolves.domReq]

theorem timerExpiry_evolves {s₀ s : State} (h : Evolves s₀ s) (i : Nat) :
    Evolves s₀ (timerExpiry i s) := by
  unfold timerExpiry
  grind -lia -ring -linarith -ac -order (ematch := 60) (gen := 60) only [← State.assertOnce_evolves, ← State.setTmr_evolves, ← State.wakeStart_evolves]

theorem State.tempTrip_evolves {s₀ s : State} (h : Evolves s₀ s) (unit : Nat) :
    Evolves s₀ (State.tempTrip s unit) := by
  unfold State.tempTrip
  grind -lia -ring -linarith -ac -order (ematch := 60) (gen := 60) only [← State.askHalt_evolves, ← State.markEsc_evolves, ← State.shedLoad_evolves]

theorem State.readSensor_evolves {s₀ s : State} (h : Evolves s₀ s) (i : Nat) (t : Int) :
    Evolves s₀ (State.readSensor s i t) := by
  unfold State.readSensor
  grind -lia -ring -linarith -ac -order (ematch := 60) (gen := 60) only [← State.assertOnce_evolves, ← State.dropLive_evolves, ← State.raise_evolves, ← State.setFd_evolves, ← State.tempTrip_evolves, ← List.foldl_evolves]

theorem tempSample_evolves {s₀ s : State} (h : Evolves s₀ s) (t0 : Int) (t1 : Int) (t2 : Int) (t3 : Int) :
    Evolves s₀ (tempSample t0 t1 t2 t3 s) := by
  unfold tempSample
  grind -lia -ring -linarith -ac -order (ematch := 60) (gen := 60) only [← State.readSensor_evolves]

end Sys2Proof.Machine
end

