-- ==== Sys2Proof/Laws/EvolvesBootImage.lean ====
section
/-! SUPPORT. What the operations of Machine/BootImage.lean may do to a state (`Evolves`): one lemma for each. -/

namespace Sys2Proof.Machine

theorem State.skipEntry_evolves {s₀ s : State} (h : Evolves s₀ s) (off : Nat) :
    Evolves s₀ (State.skipEntry s off) := by
  unfold State.skipEntry
  grind -lia -ring -linarith -ac -order (ematch := 60) (gen := 60) only [← State.addSat_evolves, ← State.raise_evolves]

theorem State.putImg_evolves {s₀ s : State} (h : Evolves s₀ s) (r : Reg) (m : Word) (v : Word) (i : Nat) (j : Nat) :
    Evolves s₀ (State.putImg s r m v i j) := by
  unfold State.putImg
  grind -lia -ring -linarith -ac -order (ematch := 60) (gen := 60) only [← State.setRg_evolves, ← List.foldl_evolves]

theorem State.presetRule_evolves {s₀ s : State} (h : Evolves s₀ s) (was : State) (r : Reg) (m : Word) (w : Word) (i : Nat) :
    Evolves s₀ (State.presetRule s was r m w i) := by
  unfold State.presetRule
  grind -lia -ring -linarith -ac -order (ematch := 60) (gen := 60) only [← State.loadPreset_evolves, ← State.setFd_evolves]

theorem State.listWrite_evolves {s₀ s : State} (h : Evolves s₀ s) (r : Reg) (m : Word) (v : Word) (i : Nat) (j : Nat) :
    Evolves s₀ (State.listWrite s r m v i j) := by
  unfold State.listWrite
  grind -lia -ring -linarith -ac -order (ematch := 60) (gen := 60) only [← State.presetRule_evolves, ← State.putImg_evolves, ← State.putOut_evolves, ← State.putTmr_evolves, ← State.setRg_evolves, ← casTunnelEnable_evolves, ← prtWinWrite_evolves, ← trgPinWrite_evolves]

theorem State.listEntry_evolves {s₀ s : State} (h : Evolves s₀ s) (blocks : List Nat) (e : List Byte) :
    Evolves s₀ (State.listEntry s blocks e) := by
  unfold State.listEntry
  grind -lia -ring -linarith -ac -order (ematch := 60) (gen := 60) only [← State.listWrite_evolves, ← State.skipEntry_evolves]

theorem State.applyList_evolves {s₀ s : State} (h : Evolves s₀ s) (blocks : List Nat) (bs : List Byte) :
    Evolves s₀ (State.applyList s blocks bs) := by
  unfold State.applyList
  grind -lia -ring -linarith -ac -order (ematch := 60) (gen := 60) only [← State.listEntry_evolves, ← List.foldl_evolves]

end Sys2Proof.Machine
end

