-- ==== Sys2Proof/Laws/EvolvesBoot.lean ====
section
/-! SUPPORT. What the operations of Machine/Boot.lean may do to a state (`Evolves`): one lemma for each. -/

namespace Sys2Proof.Machine

theorem State.scramble_evolves {s₀ s : State} (h : Evolves s₀ s) (n a : Nat) : Evolves s₀ (State.scramble n a s) := by
  induction n generalizing s a with
  | zero => exact h
  | succ n ih => exact ih (Evolves.flashWrite (State.free_evolves h) _ _) _

theorem State.cutFlash_evolves {s₀ s : State} (h : Evolves s₀ s) :
    Evolves s₀ (State.cutFlash s) := by
  unfold State.cutFlash
  grind -lia -ring -linarith -ac -order (ematch := 60) (gen := 60) only [← State.scramble_evolves, ← Evolves.boot]

theorem State.keepRegs_evolves {s₀ t : State} (h : Evolves s₀ t) (s : State) (l : List (Reg × Nat)) :
    Evolves s₀ (State.keepRegs t s l) := by
  unfold State.keepRegs
  grind -lia -ring -linarith -ac -order (ematch := 60) (gen := 60) only [← State.setRg_evolves, ← List.foldl_evolves]

theorem State.ledgerRegs_evolves {s₀ t : State} (h : Evolves s₀ t) (s : State) :
    Evolves s₀ (State.ledgerRegs t s) := by
  unfold State.ledgerRegs
  grind -lia -ring -linarith -ac -order (ematch := 60) (gen := 60) only [← State.setFd_evolves]

theorem Tab.wf_foldl {α : Type} [DecidableEq α] {d : α} {β : Type} (f : Tab α → β → Tab α) (l : List β) {t : Tab α} (h : Tab.wf d t = true)
    (hf : ∀ t x, Tab.wf d t = true → Tab.wf d (f t x) = true) : Tab.wf d (l.foldl f t) = true := by
  induction l generalizing t with
  | nil => exact h
  | cons a l ih => exact ih (hf _ _ h)

theorem resetRegs_wf : Tab.wf 0 resetRegs = true := by
  refine Tab.wf_foldl _ _ (Tab.wf_foldl _ _ rfl fun t r h => ?_) fun t e h => Tab.wf_set _ _ h
  split
  · exact h
  · exact Tab.wf_foldl _ _ h fun t a h => Tab.wf_set _ _ h

theorem State.reset_regs : State.reset.regs = resetRegs := by simp only [State.reset]

/-- Only what has nothing to do with the invariant, or stands in it as it was, is kept by a reset. -/
theorem Evolves.reset {s₀ s : State} (h : Evolves s₀ s) (t : State) (hq : t.pending = s.pending) (ho : t.out = s.out) (hf : t.freeCtr = s.freeCtr)
    (hr : t.regs = resetRegs) (hp : t.pairs = []) (hd : t.dram = []) (hl : t.flash = s.flash) (hb : t.boot.otp = s.boot.otp) : Evolves s₀ t :=
  h.trans ⟨hq, ⟨[], by simp [ho]⟩, Nat.le_of_eq hf.symm,
    fun i => ⟨hr ▸ resetRegs_wf, by rw [hd]; rfl, hl ▸ i.flash, by rw [hp]; exact ⟨by simp, by simp⟩, hb ▸ i.fuses⟩, hb ▸ Otp.grows_refl _⟩

theorem State.por_evolves {s₀ s0 : State} (h : Evolves s₀ s0) : Evolves s₀ (State.por s0) := by
  unfold State.por
  refine State.ledgerRegs_evolves (State.keepRegs_evolves ?_ _ _) _
  refine State.setFd_evolves (State.setFd_evolves (State.setFd_evolves ?_ ..) ..) ..
  exact Evolves.reset (State.cutFlash_evolves h) _ (by rfl) (by rfl) (by rfl) (by dsimp only; exact State.reset_regs) (by rfl) (by rfl) (by rfl) (by rfl)

theorem State.clear_evolves {s₀ s0 : State} (h : Evolves s₀ s0) (m : Nat) : Evolves s₀ (State.clear s0 m) := by
  unfold State.clear
  refine State.ledgerRegs_evolves (State.keepRegs_evolves ?_ _ _) _
  exact Evolves.reset (State.cutFlash_evolves h) _ (by rfl) (by rfl) (by rfl) (by dsimp only; exact State.reset_regs) (by rfl) (by rfl) (by rfl) (by rfl)

theorem State.atStep_evolves {s₀ s : State} (h : Evolves s₀ s) (n : Nat) :
    Evolves s₀ (State.atStep s n) := by
  unfold State.atStep
  grind -lia -ring -linarith -ac -order (ematch := 60) (gen := 60) only [← State.setDev_evolves, ← State.setFd_evolves]

theorem State.holdBoot_evolves {s₀ s : State} (h : Evolves s₀ s) (err : Nat) :
    Evolves s₀ (State.holdBoot s err) := by
  unfold State.holdBoot
  grind -lia -ring -linarith -ac -order (ematch := 60) (gen := 60) only [← State.assertOnce_evolves, ← State.setFd_evolves]

theorem State.latchStraps_evolves {s₀ s : State} (h : Evolves s₀ s) (e : BootEnv) :
    Evolves s₀ (State.latchStraps s e) := by
  unfold State.latchStraps
  grind -lia -ring -linarith -ac -order (ematch := 60) (gen := 60) only [← State.setDev_evolves, ← State.setFd_evolves]

theorem State.role_evolves {s₀ s : State} (h : Evolves s₀ s) :
    Evolves s₀ (State.role s) := by
  unfold State.role
  grind -lia -ring -linarith -ac -order (ematch := 60) (gen := 60) only [← State.raise_evolves, ← State.setFd_evolves]

theorem State.loadStore_evolves {s₀ s : State} (h : Evolves s₀ s) (bs : List Byte) :
    Evolves s₀ (State.loadStore s bs) := by
  unfold State.loadStore
  grind -lia -ring -linarith -ac -order (ematch := 60) (gen := 60) only [usr State.free_evolves, ← State.free_evolves, ← State.setEng_evolves, ← State.setRg_evolves, ← Evolves.store, ← List.foldl_evolves]

theorem State.partition_evolves {s₀ s : State} (h : Evolves s₀ s) (bad : List Nat) :
    Evolves s₀ (State.partition s bad) := by
  unfold State.partition
  grind -lia -ring -linarith -ac -order (ematch := 60) (gen := 60) only [← State.raise_evolves, ← State.setEngState_evolves, ← Evolves.boot, ← List.foldl_evolves]

theorem State.loadCoef_evolves {s₀ s : State} (h : Evolves s₀ s) (es : List CoefEntry) :
    Evolves s₀ (State.loadCoef s es) := by
  unfold State.loadCoef
  grind -lia -ring -linarith -ac -order (ematch := 60) (gen := 60) only [← State.setDec_evolves, ← List.foldl_evolves]

theorem State.noteChoice_evolves {s₀ s : State} (h : Evolves s₀ s) (x : Choice) :
    Evolves s₀ (State.noteChoice s x) := by
  unfold State.noteChoice
  grind -lia -ring -linarith -ac -order (ematch := 60) (gen := 60) only [← State.raise_evolves, ← State.setFd_evolves, ← State.setRg_evolves]

theorem State.loadImage_evolves {s₀ s : State} (h : Evolves s₀ s) (e : BootEnv) (img : List Byte) :
    Evolves s₀ (State.loadImage s e img) := by
  unfold State.loadImage
  grind -lia -ring -linarith -ac -order (ematch := 60) (gen := 60) only [← State.applyList_evolves, ← State.loadCoef_evolves, ← State.loadStore_evolves, ← State.partition_evolves, ← State.testRows_evolves, ← Evolves.boot, ← List.foldl_evolves]

theorem State.calLane_evolves {s₀ s : State} (h : Evolves s₀ s) (e : BootEnv) (lane : Nat) :
    Evolves s₀ (State.calLane s e lane).1 := by
  unfold State.calLane
  grind -lia -ring -linarith -ac -order (ematch := 60) (gen := 60) only [usr State.bootCalLane_evolves, ← State.bootCalLane_evolves, ← State.setFd_evolves, ← List.foldl_evolves]
grind_pattern State.calLane_evolves => Evolves s₀ s, State.calLane s e lane

theorem State.bootLane_evolves {s₀ s : State} (h : Evolves s₀ s) (e : BootEnv) (lane : Nat) :
    Evolves s₀ (State.bootLane s e lane) := by
  unfold State.bootLane
  grind -lia -ring -linarith -ac -order (ematch := 60) (gen := 60) only [usr State.calLane_evolves, ← State.calLane_evolves, ← State.raise_evolves, ← State.setLane_evolves]

theorem State.bootLanes_evolves {s₀ s : State} (h : Evolves s₀ s) (e : BootEnv) :
    Evolves s₀ (State.bootLanes s e) := by
  unfold State.bootLanes
  grind -lia -ring -linarith -ac -order (ematch := 60) (gen := 60) only [← State.bootLane_evolves, ← List.foldl_evolves]

theorem State.bootPorts_evolves {s₀ s : State} (h : Evolves s₀ s) :
    Evolves s₀ (State.bootPorts s) := by
  unfold State.bootPorts
  grind -lia -ring -linarith -ac -order (ematch := 60) (gen := 60) only [← State.takeSet_evolves, ← List.foldl_evolves]

theorem State.trainDram_evolves {s₀ s : State} (h : Evolves s₀ s) (e : BootEnv) (cap : Nat) :
    Evolves s₀ (State.trainDram s e cap) := by
  unfold State.trainDram
  grind -lia -ring -linarith -ac -order (ematch := 60) (gen := 60) only [← State.raise_evolves, ← State.setFd_evolves, ← List.foldl_evolves]

theorem State.setRegions_evolves {s₀ s : State} (h : Evolves s₀ s) (x0 x1 : List RegionEntry) : Evolves s₀ (State.setRegions x0 x1 s) := by
  induction x1 generalizing s x0 with
  | nil => exact h
  | cons x t ih =>
    rw [State.setRegions]
    apply ih
    repeat' with_reducible apply Evolves.ite
    · exact h
    · exact h
    · exact State.setRg_evolves (State.setRg_evolves (State.setRg_evolves h ..) ..) ..
    · exact State.raise_evolves h ..

theorem State.loadLog_evolves {s₀ s : State} (h : Evolves s₀ s) :
    Evolves s₀ (State.loadLog s) := by
  unfold State.loadLog
  grind -lia -ring -linarith -ac -order (ematch := 60) (gen := 60) only [← Evolves.flt, ← List.foldl_evolves]

theorem State.writeRetireList_evolves {s₀ s : State} (h : Evolves s₀ s) (l : List Nat) (lines : Nat) :
    Evolves s₀ (State.writeRetireList s l lines) := by
  unfold State.writeRetireList
  grind -lia -ring -linarith -ac -order (ematch := 60) (gen := 60) only [← State.writeLog_evolves, ← List.foldl_evolves]

theorem State.reapplyPages_evolves {s₀ s : State} (h : Evolves s₀ s) (serials : List Nat) :
    Evolves s₀ (State.reapplyPages s serials) := by
  unfold State.reapplyPages
  grind -lia -ring -linarith -ac -order (ematch := 60) (gen := 60) only [← State.setFd_evolves, ← State.setStore_evolves, ← State.writeRetireList_evolves, ← Evolves.flt]

theorem State.writeGolden_evolves {s₀ s : State} (h : Evolves s₀ s) (bs : List Byte) :
    Evolves s₀ (State.writeGolden s bs) := by
  unfold State.writeGolden
  grind -lia -ring -linarith -ac -order (ematch := 60) (gen := 60) only [← State.dramWrite_evolves]

theorem State.stepSix_evolves {s₀ s : State} (h : Evolves s₀ s) (e : BootEnv) (img : List Byte) :
    Evolves s₀ (State.stepSix s e img) := by
  unfold State.stepSix
  grind -lia -ring -linarith -ac -order (ematch := 60) (gen := 60) only [← State.atStep_evolves, ← State.loadLog_evolves, ← State.nvNone_evolves, ← State.reapplyPages_evolves, ← State.setDev_evolves, ← State.setDrv_evolves, ← State.setRegions_evolves, ← State.trainDram_evolves, ← State.writeGolden_evolves, ← List.foldl_evolves]

theorem State.bootEntry_evolves {s₀ s : State} (h : Evolves s₀ s) :
    Evolves s₀ (State.bootEntry s) := by
  unfold State.bootEntry
  grind -lia -ring -linarith -ac -order (ematch := 60) (gen := 60) only [← State.logWrite_evolves]

theorem State.stepSeven_evolves {s₀ s : State} (h : Evolves s₀ s) (img : List Byte) :
    Evolves s₀ (State.stepSeven s img) := by
  unfold State.stepSeven
  grind -lia -ring -linarith -ac -order (ematch := 60) (gen := 60) only [← State.applyList_evolves, ← State.atStep_evolves, ← State.bootEntry_evolves, ← State.logFlush_evolves, ← State.recoverLedger_evolves]

theorem State.stepLinks_evolves {s₀ s : State} (h : Evolves s₀ s) (img : List Byte) :
    Evolves s₀ (State.stepLinks s img) := by
  unfold State.stepLinks
  grind -lia -ring -linarith -ac -order (ematch := 60) (gen := 60) only [← State.applyList_evolves, ← State.atStep_evolves, ← State.linkStart_evolves, ← State.setFd_evolves, ← Evolves.casc, ← List.foldl_evolves]

theorem State.xspiReset_evolves {s₀ s : State} (h : Evolves s₀ s) :
    Evolves s₀ (State.xspiReset s) := by
  unfold State.xspiReset
  grind -lia -ring -linarith -ac -order (ematch := 60) (gen := 60) only [← State.emit_evolves]

theorem State.stepFour_evolves {s₀ s : State} (h : Evolves s₀ s) (e : BootEnv) :
    Evolves s₀ (State.stepFour s e) := by
  unfold State.stepFour
  grind -lia -ring -linarith -ac -order (ematch := 60) (gen := 60) only [← State.applyList_evolves, ← State.atStep_evolves, ← State.bootLanes_evolves, ← State.bootPorts_evolves, ← State.holdBoot_evolves, ← State.loadImage_evolves, ← State.noteChoice_evolves, ← State.setFd_evolves, ← State.stepLinks_evolves, ← State.stepSeven_evolves, ← State.stepSix_evolves, ← State.xspiReset_evolves, ← Evolves.boot]

theorem State.stepThree_evolves {s₀ s : State} (h : Evolves s₀ s) (e : BootEnv) :
    Evolves s₀ (State.stepThree s e) := by
  unfold State.stepThree
  grind -lia -ring -linarith -ac -order (ematch := 60) (gen := 60) only [← State.atStep_evolves, ← State.holdBoot_evolves, ← State.role_evolves, ← State.stepFour_evolves, ← Evolves.boot]

theorem State.beginBoot_evolves {s₀ s : State} (h : Evolves s₀ s) :
    Evolves s₀ (State.beginBoot s) := by
  unfold State.beginBoot
  grind -lia -ring -linarith -ac -order (ematch := 60) (gen := 60) only [← State.domsUp_evolves, ← State.enter_evolves, ← State.incFd_evolves]

theorem porLow_evolves {s₀ s : State} (h : Evolves s₀ s) :
    Evolves s₀ (porLow s) := by
  unfold porLow
  grind -lia -ring -linarith -ac -order (ematch := 60) (gen := 60) only [← State.por_evolves, ← State.setDev_evolves]

theorem powerFailEnd_evolves {s₀ s : State} (h : Evolves s₀ s) (micros : Nat) :
    Evolves s₀ (powerFailEnd micros s) := by
  unfold powerFailEnd
  grind -lia -ring -linarith -ac -order (ematch := 60) (gen := 60) only [← State.por_evolves, ← powerFailSequenceEnd_evolves]

theorem undervoltage_evolves {s₀ s : State} (h : Evolves s₀ s) :
    Evolves s₀ (undervoltage s) := by
  unfold undervoltage
  grind -lia -ring -linarith -ac -order (ematch := 60) (gen := 60) only [← State.por_evolves]

theorem powerStageUp_evolves {s₀ s : State} (h : Evolves s₀ s) (e : BootEnv) :
    Evolves s₀ (powerStageUp e s) := by
  unfold powerStageUp
  grind -lia -ring -linarith -ac -order (ematch := 60) (gen := 60) only [← State.beginBoot_evolves, ← State.latchStraps_evolves, ← State.stepThree_evolves]

theorem resetTakesEffect_evolves {s₀ s : State} (h : Evolves s₀ s) (e : BootEnv) :
    Evolves s₀ (resetTakesEffect e s) := by
  unfold resetTakesEffect
  grind -lia -ring -linarith -ac -order (ematch := 60) (gen := 60) only [← State.beginBoot_evolves, ← State.clear_evolves, ← State.por_evolves, ← State.setFd_evolves, ← State.setRg_evolves, ← State.stepThree_evolves]

theorem bootPfRestart_evolves {s₀ s : State} (h : Evolves s₀ s) (e : BootEnv) :
    Evolves s₀ (bootPfRestart e s) := by
  unfold bootPfRestart
  grind -lia -ring -linarith -ac -order (ematch := 60) (gen := 60) only [← State.beginBoot_evolves, ← State.clear_evolves, ← State.setDev_evolves, ← State.setFd_evolves, ← State.stepThree_evolves]

theorem perstFall_evolves {s₀ s : State} (h : Evolves s₀ s) :
    Evolves s₀ (perstFall s) := by
  unfold perstFall
  grind -lia -ring -linarith -ac -order (ematch := 60) (gen := 60) only [← State.resetCause_evolves, ← State.setDev_evolves]

theorem perstRise_evolves {s₀ s : State} (h : Evolves s₀ s) :
    Evolves s₀ (perstRise s) := by
  unfold perstRise
  grind -lia -ring -linarith -ac -order (ematch := 60) (gen := 60) only [← State.setDev_evolves]

theorem functionLevelReset_evolves {s₀ s : State} (h : Evolves s₀ s) :
    Evolves s₀ (functionLevelReset s) := by
  unfold functionLevelReset
  grind -lia -ring -linarith -ac -order (ematch := 60) (gen := 60) only [← State.resetCause_evolves]

theorem cascadeReset_evolves {s₀ s : State} (h : Evolves s₀ s) (f : Flit) :
    Evolves s₀ (cascadeReset f s) := by
  unfold cascadeReset
  grind -lia -ring -linarith -ac -order (ematch := 60) (gen := 60) only [usr State.accept_evolves, ← State.accept_evolves, ← State.ctlDown_evolves, ← State.resetCause_evolves]

theorem resetAll_evolves {s₀ s : State} (h : Evolves s₀ s) :
    Evolves s₀ (resetAll s) := by
  unfold resetAll
  grind -lia -ring -linarith -ac -order (ematch := 60) (gen := 60) only [← State.casCmdSts_evolves, ← State.ctlDown_evolves, ← State.resetCause_evolves]

theorem State.bootTask_evolves {s₀ s : State} (h : Evolves s₀ s) (e : List Byte) :
    Evolves s₀ (State.bootTask s e) := by
  unfold State.bootTask
  grind -lia -ring -linarith -ac -order (ematch := 60) (gen := 60) only [← State.addSat_evolves, usr State.placeTask_evolves, ← State.placeTask_evolves, ← State.raise_evolves]

theorem State.startStreams_evolves {s₀ s : State} (h : Evolves s₀ s) :
    Evolves s₀ (State.startStreams s) := by
  unfold State.startStreams
  grind -lia -ring -linarith -ac -order (ematch := 60) (gen := 60) only [usr State.pushPkt_evolves, ← State.pushPkt_evolves, ← State.ringJoin_evolves, ← List.foldl_evolves]

theorem bootComplete_evolves {s₀ s : State} (h : Evolves s₀ s) :
    Evolves s₀ (bootComplete s) := by
  unfold bootComplete
  grind -lia -ring -linarith -ac -order (ematch := 60) (gen := 60) only [← State.assertOnce_evolves, ← State.atStep_evolves, ← State.bootTask_evolves, ← State.enter_evolves, usr State.free_evolves, ← State.free_evolves, ← State.setDev_evolves, ← State.setFd_evolves, ← State.startStreams_evolves, ← List.foldl_evolves]

theorem bootStepTimeout_evolves {s₀ s : State} (h : Evolves s₀ s) (step : Nat) :
    Evolves s₀ (bootStepTimeout step s) := by
  unfold bootStepTimeout
  grind -lia -ring -linarith -ac -order (ematch := 60) (gen := 60) only [← State.raise_evolves, ← State.setFd_evolves]

theorem bootLoopClear_evolves {s₀ s : State} (h : Evolves s₀ s) :
    Evolves s₀ (bootLoopClear s) := by
  unfold bootLoopClear
  grind -lia -ring -linarith -ac -order (ematch := 60) (gen := 60) only [← State.setDev_evolves, ← State.setFd_evolves]

theorem State.bootCmdSts_evolves {s₀ s : State} (h : Evolves s₀ s) (op : Nat) (result : Nat) :
    Evolves s₀ (State.bootCmdSts s op result) := by
  unfold State.bootCmdSts
  grind -lia -ring -linarith -ac -order (ematch := 60) (gen := 60) only [← State.incFd_evolves, ← State.setFd_evolves]

theorem softReset_evolves {s₀ s : State} (h : Evolves s₀ s) :
    Evolves s₀ (softReset s) := by
  unfold softReset
  grind -lia -ring -linarith -ac -order (ematch := 60) (gen := 60) only [← State.bootCmdSts_evolves, ← State.resetCause_evolves]

theorem State.leaveHold_evolves {s₀ s : State} (h : Evolves s₀ s) (e : BootEnv) :
    Evolves s₀ (State.leaveHold s e) := by
  unfold State.leaveHold
  grind -lia -ring -linarith -ac -order (ematch := 60) (gen := 60) only [← State.setRg_evolves, ← State.stepFour_evolves]

theorem continueBoot_evolves {s₀ s : State} (h : Evolves s₀ s) (e : BootEnv) :
    Evolves s₀ (continueBoot e s) := by
  unfold continueBoot
  grind -lia -ring -linarith -ac -order (ematch := 60) (gen := 60) only [← State.bootCmdSts_evolves, ← State.leaveHold_evolves]

theorem restartBoot_evolves {s₀ s : State} (h : Evolves s₀ s) (e : BootEnv) :
    Evolves s₀ (restartBoot e s) := by
  unfold restartBoot
  grind -lia -ring -linarith -ac -order (ematch := 60) (gen := 60) only [← State.bootCmdSts_evolves, ← State.leaveHold_evolves, ← State.setFd_evolves]

theorem otpDigest_evolves {s₀ s : State} (h : Evolves s₀ s) : Evolves s₀ (otpDigest s) := by
  unfold otpDigest
  split
  · exact State.bootCmdSts_evolves h ..
  · rename_i hc
    refine State.bootCmdSts_evolves (State.setFd_evolves (State.setFd_evolves (List.foldl_evolves _ _ ?_ fun t e ht => State.setRg_evolves ht ..) ..) ..) ..
    have hn : s.boot.otp.digest = none := by simpa using fun x => hc (Or.inr x)
    refine Evolves.otp h _ ⟨fun d e => by simp [hn] at e, fun e => e, Nat.le_refl _⟩ fun k => ⟨fun _ => rfl, fun d e => ?_, k.2.2⟩
    cases e
    exact Memory.readN_length ..

theorem otpDigEn_evolves {s₀ s : State} (h : Evolves s₀ s) : Evolves s₀ (otpDigEn s) := by
  unfold otpDigEn
  split
  · exact State.bootCmdSts_evolves h ..
  · rename_i hc
    refine State.bootCmdSts_evolves (State.setFd_evolves ?_ ..) ..
    have hn : s.boot.otp.digest.isSome = true := by
      cases hd : s.boot.otp.digest with
      | none => exact absurd (Or.inr hd) hc
      | some d => rfl
    exact Evolves.otp h _ ⟨fun d e => e, fun _ => rfl, Nat.le_refl _⟩ fun k => ⟨fun _ => hn, k.2.1, k.2.2⟩

theorem otpJtag_evolves {s₀ s : State} (h : Evolves s₀ s) (level : Nat) : Evolves s₀ (otpJtag level s) := by
  unfold otpJtag
  split
  · exact State.bootCmdSts_evolves h ..
  · rename_i hc
    refine State.bootCmdSts_evolves (State.setFd_evolves ?_ ..) ..
    have hl : s.boot.otp.jtag ≤ level % 4 := by
      have : ¬ level % 4 ≤ s.boot.otp.jtag := fun x => hc (Or.inr x)
      omega
    exact Evolves.otp h _ ⟨fun d e => e, fun e => e, hl⟩ fun k => ⟨k.1, k.2.1, by show level % 4 ≤ 3; omega⟩

theorem State.flashCmd_evolves {s₀ s : State} (h : Evolves s₀ s) (op : Nat) (n : Nat) :
    Evolves s₀ (State.flashCmd s op n) := by
  unfold State.flashCmd
  grind -lia -ring -linarith -ac -order (ematch := 60) (gen := 60) only [← State.incFd_evolves, ← State.setFd_evolves, ← State.setRg_evolves, ← Evolves.boot]

theorem flashReadCmd_evolves {s₀ s : State} (h : Evolves s₀ s) :
    Evolves s₀ (flashReadCmd s) := by
  unfold flashReadCmd
  grind -lia -ring -linarith -ac -order (ematch := 60) (gen := 60) only [← State.flashCmd_evolves]

theorem flashProgram_evolves {s₀ s : State} (h : Evolves s₀ s) :
    Evolves s₀ (flashProgram s) := by
  unfold flashProgram
  grind -lia -ring -linarith -ac -order (ematch := 60) (gen := 60) only [← State.flashCmd_evolves]

theorem flashErase_evolves {s₀ s : State} (h : Evolves s₀ s) :
    Evolves s₀ (flashErase s) := by
  unfold flashErase
  grind -lia -ring -linarith -ac -order (ematch := 60) (gen := 60) only [← State.flashCmd_evolves]

theorem flashDone_evolves {s₀ s : State} (h : Evolves s₀ s) (ok : Bool) : Evolves s₀ (flashDone ok s) := by
  unfold flashDone
  split
  · exact h
  rename_i op a _
  dsimp only
  have h1 := State.setRg_evolves (Evolves.boot h { s.boot with flash := none } rfl) .BOOT_FL_STS (setBits (s.rg .BOOT_FL_STS) 0 3 (if ok then 2 else 6)) 0 0
  repeat' with_reducible apply Evolves.ite
  · exact Evolves.boot h1 _ rfl
  · exact List.foldl_evolves _ _ h1 fun t e ht => Evolves.boot (State.free_evolves ht) _ rfl
  · exact Evolves.flashWriteN h1 _ _
  · exact State.scramble_evolves h1 _ _
  · exact Evolves.flashFilter h1 _
  · exact State.scramble_evolves h1 _ _

theorem flDataAccess_evolves {s₀ s : State} (h : Evolves s₀ s) (who : Requester) (write : Option Word) :
    Evolves s₀ (flDataAccess who write s) := by
  unfold flDataAccess
  grind -lia -ring -linarith -ac -order (ematch := 60) (gen := 60) only [← State.dropHeld_evolves, ← State.emit_evolves, ← State.incFd_evolves, ← Evolves.boot]

theorem bootLockSet_evolves {s₀ s : State} (h : Evolves s₀ s) (w : Word) :
    Evolves s₀ (bootLockSet w s) := by
  unfold bootLockSet
  grind -lia -ring -linarith -ac -order (ematch := 60) (gen := 60) only [← State.putFields_evolves]

theorem State.loadCells_evolves {s₀ s : State} (h : Evolves s₀ s) (scan : List Bool) :
    Evolves s₀ (State.loadCells s scan) := by
  unfold State.loadCells
  grind -lia -ring -linarith -ac -order (ematch := 60) (gen := 60) only [← State.setDev_evolves]

theorem State.takePins_evolves {s₀ s : State} (h : Evolves s₀ s) :
    Evolves s₀ (State.takePins s) := by
  unfold State.takePins
  grind -lia -ring -linarith -ac -order (ematch := 60) (gen := 60) only [← State.askHalt_evolves, ← State.setDev_evolves]

theorem State.returnPins_evolves {s₀ s : State} (h : Evolves s₀ s) :
    Evolves s₀ (State.returnPins s) := by
  unfold State.returnPins
  grind -lia -ring -linarith -ac -order (ematch := 60) (gen := 60) only [← State.setDev_evolves]

theorem jtagUpdateIr_evolves {s₀ s : State} (h : Evolves s₀ s) (opcode : Nat) (scan : List Bool) :
    Evolves s₀ (jtagUpdateIr opcode scan s) := by
  unfold jtagUpdateIr
  grind -lia -ring -linarith -ac -order (ematch := 60) (gen := 60) only [← State.begin_evolves, ← State.loadCells_evolves, ← State.returnPins_evolves, ← State.setDev_evolves, ← State.takePins_evolves]

theorem tapRelease_evolves {s₀ s : State} (h : Evolves s₀ s) (e : BootEnv) :
    Evolves s₀ (tapRelease e s) := by
  unfold tapRelease
  grind -lia -ring -linarith -ac -order (ematch := 60) (gen := 60) only [← State.beginBoot_evolves, ← State.clear_evolves, ← State.returnPins_evolves, ← State.setDev_evolves, ← State.stepThree_evolves]

end Sys2Proof.Machine
end

