-- ==== Sys2Proof/Laws/EvolvesBusRead.lean ====
section
/-! SUPPORT. What the operations of Machine/BusRead.lean may do to a state (`Evolves`): one lemma for each. -/

namespace Sys2Proof.Machine

theorem State.hostTouch_evolves {s₀ s : State} (h : Evolves s₀ s) (x0 : Requester) :
    Evolves s₀ (State.hostTouch s x0) := by
  unfold State.hostTouch
  grind -lia -ring -linarith -ac -order (ematch := 60) (gen := 60) only [← State.setFd_evolves]

theorem State.regRead_evolves {s₀ s : State} (h : Evolves s₀ s) (who : Requester) (r : Reg) (i : Nat) (j : Nat) :
    Evolves s₀ (State.regRead s who r i j).1 := by
  unfold State.regRead
  grind -lia -ring -linarith -ac -order (ematch := 60) (gen := 60) only [← State.clearRc_evolves, ← State.noteShadow_evolves, usr State.takeShadow_evolves, ← State.takeShadow_evolves]
grind_pattern State.regRead_evolves => Evolves s₀ s, State.regRead s who r i j

theorem State.regReadAct_evolves {s₀ s : State} (h : Evolves s₀ s) (who : Requester) (r : Reg) (i : Nat) (j : Nat) :
    Evolves s₀ (State.regReadAct s who r i j) := by
  unfold State.regReadAct
  grind -lia -ring -linarith -ac -order (ematch := 60) (gen := 60) only [← State.emit_evolves, usr State.free_evolves, ← State.free_evolves, usr State.regRead_evolves, ← State.regRead_evolves, ← decCoefDataAccess_evolves, ← flDataAccess_evolves, ← quePopW0Read_evolves]

theorem State.unsupported_evolves {s₀ s : State} (h : Evolves s₀ s) :
    Evolves s₀ (State.unsupported s) := by
  unfold State.unsupported
  grind -lia -ring -linarith -ac -order (ematch := 60) (gen := 60) only [← State.addSat_evolves, ← State.emit_evolves, ← State.hstSts_evolves]

theorem State.completerAbort_evolves {s₀ s : State} (h : Evolves s₀ s) :
    Evolves s₀ (State.completerAbort s) := by
  unfold State.completerAbort
  grind -lia -ring -linarith -ac -order (ematch := 60) (gen := 60) only [← State.addSat_evolves, ← State.emit_evolves, ← State.hstSts_evolves]

theorem busRead_evolves {s₀ s : State} (h : Evolves s₀ s) (who : Requester) (off : Nat) :
    Evolves s₀ (busRead who off s) := by
  unfold busRead
  grind -lia -ring -linarith -ac -order (ematch := 60) (gen := 60) only [← State.completerAbort_evolves, ← State.emit_evolves, ← State.hostTouch_evolves, ← State.regReadAct_evolves]

theorem windowRead_evolves {s₀ s : State} (h : Evolves s₀ s) (who : Requester) (off : Nat) :
    Evolves s₀ (windowRead who off s) := by
  unfold windowRead
  grind -lia -ring -linarith -ac -order (ematch := 60) (gen := 60) only [← State.emit_evolves, ← State.hostTouch_evolves, ← busRead_evolves]

theorem rcFieldRead_evolves {s₀ s : State} (h : Evolves s₀ s) (who : Requester) (off : Nat) :
    Evolves s₀ (rcFieldRead who off s) := by
  unfold rcFieldRead
  grind -lia -ring -linarith -ac -order (ematch := 60) (gen := 60) only [← windowRead_evolves]

theorem pairLowRead_evolves {s₀ s : State} (h : Evolves s₀ s) (who : Requester) (off : Nat) :
    Evolves s₀ (pairLowRead who off s) := by
  unfold pairLowRead
  grind -lia -ring -linarith -ac -order (ematch := 60) (gen := 60) only [← windowRead_evolves]

theorem pairHighRead_evolves {s₀ s : State} (h : Evolves s₀ s) (who : Requester) (off : Nat) :
    Evolves s₀ (pairHighRead who off s) := by
  unfold pairHighRead
  grind -lia -ring -linarith -ac -order (ematch := 60) (gen := 60) only [← windowRead_evolves]

theorem bar2Read_evolves {s₀ s : State} (h : Evolves s₀ s) (off : Nat) (len : Nat) :
    Evolves s₀ (bar2Read off len s) := by
  unfold bar2Read
  grind -lia -ring -linarith -ac -order (ematch := 60) (gen := 60) only [← State.emit_evolves, ← State.hostTouch_evolves, ← State.notePoison_evolves, ← State.unsupported_evolves]

end Sys2Proof.Machine
end

