-- ==== Sys2Proof/Laws/EvolvesBus.lean ====
section
/-! SUPPORT. What the operations of Machine/Bus.lean may do to a state (`Evolves`): one lemma for each. -/

namespace Sys2Proof.Machine

theorem glbCmdWrite_evolves {s₀ s : State} (h : Evolves s₀ s) (w : Word) :
    Evolves s₀ (glbCmdWrite w s) := by
  unfold glbCmdWrite
  grind -lia -ring -linarith -ac -order (ematch := 60) (gen := 60) only [usr State.free_evolves, ← State.free_evolves, ← enterWatch_evolves, ← haltCmd_evolves, ← resumeCmd_evolves]

theorem outCfgWrite_evolves {s₀ s : State} (h : Evolves s₀ s) (w : Word) :
    Evolves s₀ (outCfgWrite w s) := by
  unfold outCfgWrite
  grind -lia -ring -linarith -ac -order (ematch := 60) (gen := 60) only [← State.putFields_evolves, ← State.putOut_evolves]

theorem chkCtlWrite_evolves {s₀ s : State} (h : Evolves s₀ s) (p : Nat) (w : Word) :
    Evolves s₀ (chkCtlWrite p w s) := by
  unfold chkCtlWrite
  grind -lia -ring -linarith -ac -order (ematch := 60) (gen := 60) only [← State.putFields_evolves, ← checkAbort_evolves, ← checkRun_evolves]

theorem calCmdWrite_evolves {s₀ s : State} (h : Evolves s₀ s) (w : Word) :
    Evolves s₀ (calCmdWrite w s) := by
  unfold calCmdWrite
  grind -lia -ring -linarith -ac -order (ematch := 60) (gen := 60) only [← tbCalibrate_evolves, ← tbHandover_evolves, ← tbRetry_evolves, ← tbReturn_evolves]

theorem tlyCmdWrite_evolves {s₀ s : State} (h : Evolves s₀ s) (w : Word) :
    Evolves s₀ (tlyCmdWrite w s) := by
  unfold tlyCmdWrite
  grind -lia -ring -linarith -ac -order (ematch := 60) (gen := 60) only [← clearInexact_evolves, ← tlyPreset_evolves, ← tlyZero_evolves]

theorem ldgCmdWrite_evolves {s₀ s : State} (h : Evolves s₀ s) (w : Word) :
    Evolves s₀ (ldgCmdWrite w s) := by
  unfold ldgCmdWrite
  grind -lia -ring -linarith -ac -order (ematch := 60) (gen := 60) only [← checkpointCmd_evolves, ← releaseHold_evolves]

theorem decCmdWrite_evolves {s₀ s : State} (h : Evolves s₀ s) (n : Nat) (w : Word) :
    Evolves s₀ (decCmdWrite n w s) := by
  unfold decCmdWrite
  grind -lia -ring -linarith -ac -order (ematch := 60) (gen := 60) only [← State.decApply_evolves, ← State.decFade_evolves, ← State.decStart_evolves, ← State.decStop_evolves]

theorem decStageWrite_evolves {s₀ s : State} (h : Evolves s₀ s) (r : Reg) (n : Nat) (w : Word) :
    Evolves s₀ (decStageWrite r n w s) := by
  unfold decStageWrite
  grind -lia -ring -linarith -ac -order (ematch := 60) (gen := 60) only [← State.presetRule_evolves, ← State.putFields_evolves]

theorem madcCmdWrite_evolves {s₀ s : State} (h : Evolves s₀ s) (w : Word) :
    Evolves s₀ (madcCmdWrite w s) := by
  unfold madcCmdWrite
  grind -lia -ring -linarith -ac -order (ematch := 60) (gen := 60) only [← madcCheckCmd_evolves, ← madcRetry_evolves, ← madcSubstitute_evolves]

theorem trgCmdWrite_evolves {s₀ s : State} (h : Evolves s₀ s) (n : Nat) (w : Word) :
    Evolves s₀ (trgCmdWrite n w s) := by
  unfold trgCmdWrite
  grind -lia -ring -linarith -ac -order (ematch := 60) (gen := 60) only [← State.pipApply_evolves, ← State.pipDisable_evolves, ← State.pipEnable_evolves, ← State.pipSoft_evolves]

theorem acqCmdWrite_evolves {s₀ s : State} (h : Evolves s₀ s) (a : Nat) (w : Word) :
    Evolves s₀ (acqCmdWrite a w s) := by
  unfold acqCmdWrite
  grind -lia -ring -linarith -ac -order (ematch := 60) (gen := 60) only [← State.acqArm_evolves, ← State.acqStop_evolves]

theorem acqCfgWrite_evolves {s₀ s : State} (h : Evolves s₀ s) (r : Reg) (a : Nat) (j : Nat) (w : Word) :
    Evolves s₀ (acqCfgWrite r a j w s) := by
  unfold acqCfgWrite
  grind -lia -ring -linarith -ac -order (ematch := 60) (gen := 60) only [← State.putFields_evolves, ← State.setFd_evolves]

theorem queCmdWrite_evolves {s₀ s : State} (h : Evolves s₀ s) (w : Word) :
    Evolves s₀ (queCmdWrite w s) := by
  unfold queCmdWrite
  grind -lia -ring -linarith -ac -order (ematch := 60) (gen := 60) only [usr State.free_evolves, ← State.free_evolves, ← queLevel_evolves, ← queTest_evolves]

theorem queCtlWrite_evolves {s₀ s : State} (h : Evolves s₀ s) (q : Nat) (w : Word) :
    Evolves s₀ (queCtlWrite q w s) := by
  unfold queCtlWrite
  grind -lia -ring -linarith -ac -order (ematch := 60) (gen := 60) only [← State.setFd_evolves, ← queFlush_evolves, ← skipPkt_evolves]

theorem sysqWrite_evolves {s₀ s : State} (h : Evolves s₀ s) (r : Reg) (w : Word) :
    Evolves s₀ (sysqWrite r w s) := by
  unfold sysqWrite
  grind -lia -ring -linarith -ac -order (ematch := 60) (gen := 60) only [usr State.pushPkt_evolves, ← State.pushPkt_evolves, ← State.putFields_evolves, ← List.foldl_evolves]

theorem linkCfgWrite_evolves {s₀ s : State} (h : Evolves s₀ s) (r : Reg) (i : Nat) (l : Nat) (w : Word) :
    Evolves s₀ (linkCfgWrite r i l w s) := by
  unfold linkCfgWrite
  grind -lia -ring -linarith -ac -order (ematch := 60) (gen := 60) only [← State.linkOff_evolves, ← State.linkStart_evolves, ← State.putFields_evolves]

theorem lnkCmdWrite_evolves {s₀ s : State} (h : Evolves s₀ s) (l : Nat) (w : Word) :
    Evolves s₀ (lnkCmdWrite l w s) := by
  unfold lnkCmdWrite
  grind -lia -ring -linarith -ac -order (ematch := 60) (gen := 60) only [← lnkAudit_evolves, ← lnkRetrain_evolves]

theorem engCmdWrite_evolves {s₀ s : State} (h : Evolves s₀ s) (w : Word) :
    Evolves s₀ (engCmdWrite w s) := by
  unfold engCmdWrite
  grind -lia -ring -linarith -ac -order (ematch := 60) (gen := 60) only [← engHandover_evolves, ← engRetry_evolves, ← evacuate_evolves]

theorem drmCmdWrite_evolves {s₀ s : State} (h : Evolves s₀ s) (w : Word) :
    Evolves s₀ (drmCmdWrite w s) := by
  unfold drmCmdWrite
  grind -lia -ring -linarith -ac -order (ematch := 60) (gen := 60) only [← drmRetire_evolves, ← drmScrubNow_evolves, ← resetRing_evolves]

theorem State.driveOff_evolves {s₀ s : State} (h : Evolves s₀ s) (d : Nat) :
    Evolves s₀ (State.driveOff s d) := by
  unfold State.driveOff
  grind -lia -ring -linarith -ac -order (ematch := 60) (gen := 60) only [← State.driveLost_evolves, ← State.setDrv_evolves]

theorem nvsCfgWrite_evolves {s₀ s : State} (h : Evolves s₀ s) (w : Word) :
    Evolves s₀ (nvsCfgWrite w s) := by
  unfold nvsCfgWrite
  grind -lia -ring -linarith -ac -order (ematch := 60) (gen := 60) only [← State.driveOff_evolves, ← State.nvNone_evolves, ← State.putFields_evolves, ← State.setDrv_evolves, ← State.spillGive_evolves, ← List.foldl_evolves]

theorem nvsCmdWrite_evolves {s₀ s : State} (h : Evolves s₀ s) (w : Word) :
    Evolves s₀ (nvsCmdWrite w s) := by
  unfold nvsCmdWrite
  grind -lia -ring -linarith -ac -order (ematch := 60) (gen := 60) only [← nvsFlush_evolves, ← nvsFormat_evolves, ← nvsReinit_evolves]

theorem cqCfgWrite_evolves {s₀ s : State} (h : Evolves s₀ s) (w : Word) :
    Evolves s₀ (cqCfgWrite w s) := by
  unfold cqCfgWrite
  grind -lia -ring -linarith -ac -order (ematch := 60) (gen := 60) only [← State.hstSts_evolves, ← State.putFields_evolves, ← State.setFd_evolves, ← State.setHst_evolves, ← State.setRg_evolves]

theorem cplCfgWrite_evolves {s₀ s : State} (h : Evolves s₀ s) (w : Word) :
    Evolves s₀ (cplCfgWrite w s) := by
  unfold cplCfgWrite
  grind -lia -ring -linarith -ac -order (ematch := 60) (gen := 60) only [← State.hstSts_evolves, ← State.putFields_evolves, ← State.setFd_evolves, ← State.setHst_evolves, ← State.setRg_evolves]

theorem evtRouteWrite_evolves {s₀ s : State} (h : Evolves s₀ s) (src : Nat) (w : Word) :
    Evolves s₀ (evtRouteWrite src w s) := by
  unfold evtRouteWrite
  grind -lia -ring -linarith -ac -order (ematch := 60) (gen := 60) only [← State.alertRefresh_evolves, ← State.putFields_evolves, ← Evolves.evt]

theorem casCmdWrite_evolves {s₀ s : State} (h : Evolves s₀ s) (w : Word) :
    Evolves s₀ (casCmdWrite w s) := by
  unfold casCmdWrite
  grind -lia -ring -linarith -ac -order (ematch := 60) (gen := 60) only [← resetAll_evolves, ← resync_evolves]

theorem bootCmdWrite_evolves {s₀ s : State} (h : Evolves s₀ s) (w : Word) :
    Evolves s₀ (bootCmdWrite w s) := by
  unfold bootCmdWrite
  grind -lia -ring -linarith -ac -order (ematch := 60) (gen := 60) only [← State.bootCmdSts_evolves, ← continueBoot_evolves, ← otpDigEn_evolves, ← otpDigest_evolves, ← otpJtag_evolves, ← restartBoot_evolves, ← softReset_evolves]

theorem flCmdWrite_evolves {s₀ s : State} (h : Evolves s₀ s) (w : Word) :
    Evolves s₀ (flCmdWrite w s) := by
  unfold flCmdWrite
  grind -lia -ring -linarith -ac -order (ematch := 60) (gen := 60) only [← flashErase_evolves, ← flashProgram_evolves, ← flashReadCmd_evolves]

theorem fltCtlWrite_evolves {s₀ s : State} (h : Evolves s₀ s) (w : Word) :
    Evolves s₀ (fltCtlWrite w s) := by
  unfold fltCtlWrite
  grind -lia -ring -linarith -ac -order (ematch := 60) (gen := 60) only [← State.putFields_evolves, ← State.setFrec_evolves, ← List.foldl_evolves]

theorem fltAckWrite_evolves {s₀ s : State} (h : Evolves s₀ s) (w : Word) :
    Evolves s₀ (fltAckWrite w s) := by
  unfold fltAckWrite
  grind -lia -ring -linarith -ac -order (ematch := 60) (gen := 60) only [← fltAck_evolves, ← fltClear_evolves]

theorem domReqWrite_evolves {s₀ s : State} (h : Evolves s₀ s) (w : Word) :
    Evolves s₀ (domReqWrite w s) := by
  unfold domReqWrite
  grind -lia -ring -linarith -ac -order (ematch := 60) (gen := 60) only [← domainOff_evolves, ← domainOn_evolves]

theorem tempThrWrite_evolves {s₀ s : State} (h : Evolves s₀ s) (w : Word) :
    Evolves s₀ (tempThrWrite w s) := by
  unfold tempThrWrite
  grind -lia -ring -linarith -ac -order (ematch := 60) (gen := 60) only [← State.putFields_evolves]

theorem State.regWrite_evolves {s₀ s : State} (h : Evolves s₀ s) (who : Requester) (r : Reg) (i : Nat) (j : Nat) (w : Word) :
    Evolves s₀ (State.regWrite s who r i j w) := by
  unfold State.regWrite
  grind -lia -ring -linarith -ac -order (ematch := 60) (gen := 60) only [← State.clearPending_evolves, ← State.hstLevel_evolves, ← State.linkLevel_evolves, ← State.pipEvt_evolves, ← State.portEvents_evolves, ← State.putFields_evolves, ← State.putTmr_evolves, ← State.pwrLevel_evolves, ← State.writeMask_evolves, ← acqCfgWrite_evolves, ← acqCmdWrite_evolves, ← acqSegRdWrite_evolves, ← bootCmdWrite_evolves, ← bootLockSet_evolves, ← calCmdWrite_evolves, ← casCmdWrite_evolves, ← casTunnelEnable_evolves, ← chkCtlWrite_evolves, ← cplCfgWrite_evolves, ← cqCfgWrite_evolves, ← decCmdWrite_evolves, ← decCoefDataAccess_evolves, ← decCoefHdrWrite_evolves, ← decStageWrite_evolves, ← domReqWrite_evolves, ← drmCmdWrite_evolves, ← engCmdWrite_evolves, ← evtRouteWrite_evolves, ← extentRead_evolves, ← flCmdWrite_evolves, ← flDataAccess_evolves, ← fltAckWrite_evolves, ← fltCtlWrite_evolves, ← fltInj_evolves, ← glbCmdWrite_evolves, ← hstCplPtrWrite_evolves, ← hstRingCfgWrite_evolves, ← ldgCmdWrite_evolves, ← linkCfgWrite_evolves, ← lnkCmdWrite_evolves, ← madcCmdWrite_evolves, ← madcTapWrite_evolves, ← nvsCfgWrite_evolves, ← nvsCmdWrite_evolves, ← outCfgWrite_evolves, ← prtCfgWrite_evolves, ← prtFiltWrite_evolves, ← prtHystWrite_evolves, ← prtPscWrite_evolves, ← prtWinWrite_evolves, ← queCmdWrite_evolves, ← queCtlWrite_evolves, ← queQCfgWrite_evolves, ← sysqWrite_evolves, ← tempThrWrite_evolves, ← tlyCfgWrite_evolves, ← tlyCmdWrite_evolves, ← trgCmdWrite_evolves, ← trgPinWrite_evolves]

theorem State.pairCommit_evolves {s₀ s : State} (h : Evolves s₀ s) (lo : Reg) (hi : Reg) (i : Nat) (j : Nat) (v : Nat) :
    Evolves s₀ (State.pairCommit s lo hi i j v) := by
  unfold State.pairCommit
  grind -lia -ring -linarith -ac -order (ematch := 60) (gen := 60) only [← State.hstSts_evolves, ← State.setFd_evolves, ← State.setPair_evolves, ← drmRgRdWrite_evolves, ← hstRingTailWrite_evolves, ← tlyCfgWrite_evolves]

theorem State.highWrite_evolves {s₀ s : State} (h : Evolves s₀ s) (who : Requester) (lo : Reg) (hi : Reg) (i : Nat) (j : Nat) (w : Word) :
    Evolves s₀ (State.highWrite s who lo hi i j w) := by
  unfold State.highWrite
  grind -lia -ring -linarith -ac -order (ematch := 60) (gen := 60) only [← State.pairCommit_evolves, usr State.takeHeldLow_evolves, ← State.takeHeldLow_evolves]

theorem State.regPut_evolves {s₀ s : State} (h : Evolves s₀ s) (who : Requester) (r : Reg) (i : Nat) (j : Nat) (w : Word) :
    Evolves s₀ (State.regPut s who r i j w) := by
  unfold State.regPut
  grind -lia -ring -linarith -ac -order (ematch := 60) (gen := 60) only [← State.dropHeld_evolves, ← State.highWrite_evolves, ← State.holdLow_evolves, ← State.regWrite_evolves]

theorem busWrite_evolves {s₀ s : State} (h : Evolves s₀ s) (who : Requester) (off : Nat) (w : Word) :
    Evolves s₀ (busWrite who off w s) := by
  unfold busWrite
  grind -lia -ring -linarith -ac -order (ematch := 60) (gen := 60) only [← State.dropHeld_evolves, ← State.hostTouch_evolves, ← State.regPut_evolves, ← State.unsupported_evolves]

theorem bar4Write_evolves {s₀ s : State} (h : Evolves s₀ s) (off : Nat) (w : Word) :
    Evolves s₀ (bar4Write off w s) := by
  unfold bar4Write
  grind -lia -ring -linarith -ac -order (ematch := 60) (gen := 60) only [← State.pbaRelease_evolves, ← State.unsupported_evolves, ← hstCqDb_evolves, ← hstDb_evolves, ← Evolves.evt]

theorem State.bar4Touch_evolves {s₀ s : State} (h : Evolves s₀ s) (who : Requester) (off : Nat) :
    Evolves s₀ (State.bar4Touch s who off) := by
  unfold State.bar4Touch
  grind -lia -ring -linarith -ac -order (ematch := 60) (gen := 60) only [← State.dropHeld_evolves, ← State.hostTouch_evolves]

theorem windowWrite_evolves {s₀ s : State} (h : Evolves s₀ s) (who : Requester) (off : Nat) (w : Word) :
    Evolves s₀ (windowWrite who off w s) := by
  unfold windowWrite
  grind -lia -ring -linarith -ac -order (ematch := 60) (gen := 60) only [← State.bar4Touch_evolves, ← bar4Write_evolves, ← busWrite_evolves]

theorem registerWrite_evolves {s₀ s : State} (h : Evolves s₀ s) (who : Requester) (off : Nat) (w : Word) :
    Evolves s₀ (registerWrite who off w s) := by
  unfold registerWrite
  grind -lia -ring -linarith -ac -order (ematch := 60) (gen := 60) only [← windowWrite_evolves]

theorem pairLowWrite_evolves {s₀ s : State} (h : Evolves s₀ s) (who : Requester) (off : Nat) (w : Word) :
    Evolves s₀ (pairLowWrite who off w s) := by
  unfold pairLowWrite
  grind -lia -ring -linarith -ac -order (ematch := 60) (gen := 60) only [← windowWrite_evolves]

theorem pairHighWrite_evolves {s₀ s : State} (h : Evolves s₀ s) (who : Requester) (off : Nat) (w : Word) :
    Evolves s₀ (pairHighWrite who off w s) := by
  unfold pairHighWrite
  grind -lia -ring -linarith -ac -order (ematch := 60) (gen := 60) only [← windowWrite_evolves]

theorem evtPendClear_evolves {s₀ s : State} (h : Evolves s₀ s) (k : Nat) (mask : Word) :
    Evolves s₀ (evtPendClear k mask s) := by
  unfold evtPendClear
  grind -lia -ring -linarith -ac -order (ematch := 60) (gen := 60) only [← State.clearPending_evolves]

theorem fltCtlLock_evolves {s₀ s : State} (h : Evolves s₀ s) (w : Word) :
    Evolves s₀ (fltCtlLock w s) := by
  unfold fltCtlLock
  grind -lia -ring -linarith -ac -order (ematch := 60) (gen := 60) only [← fltCtlWrite_evolves]

theorem eventSourceAssert_evolves {s₀ s : State} (h : Evolves s₀ s) (src : Nat) :
    Evolves s₀ (eventSourceAssert src s) := by
  unfold eventSourceAssert
  grind -lia -ring -linarith -ac -order (ematch := 60) (gen := 60) only [← State.setPending_evolves]

theorem holdoffEnd_evolves {s₀ s : State} (h : Evolves s₀ s) (v : Nat) :
    Evolves s₀ (holdoffEnd v s) := by
  unfold holdoffEnd
  grind -lia -ring -linarith -ac -order (ematch := 60) (gen := 60) only [← State.msiOut_evolves, ← State.setVec_evolves]

theorem d3hotTransition_evolves {s₀ s : State} (h : Evolves s₀ s) (enter : Bool) :
    Evolves s₀ (d3hotTransition enter s) := by
  unfold d3hotTransition
  grind -lia -ring -linarith -ac -order (ematch := 60) (gen := 60) only [← State.pbaRelease_evolves, ← Evolves.evt]

theorem State.cfgWord_evolves {s₀ s : State} (h : Evolves s₀ s) (off : Nat) :
    Evolves s₀ (State.cfgWord s off).2 := by
  unfold State.cfgWord
  grind -lia -ring -linarith -ac -order (ematch := 60) (gen := 60) only [usr State.free_evolves, ← State.free_evolves]
grind_pattern State.cfgWord_evolves => Evolves s₀ s, State.cfgWord s off

theorem configurationRequest_evolves {s₀ s : State} (h : Evolves s₀ s) (c : CfgChange) :
    Evolves s₀ (configurationRequest c s) := by
  unfold configurationRequest
  grind -lia -ring -linarith -ac -order (ematch := 60) (gen := 60) only [usr State.cfgWord_evolves, ← State.cfgWord_evolves, ← State.emit_evolves, ← State.hostTouch_evolves, ← State.hstSts_evolves, ← State.pbaRelease_evolves, ← State.setFd_evolves, ← Evolves.evt]

theorem hostLinkChange_evolves {s₀ s : State} (h : Evolves s₀ s) (gen : Nat) (width : Nat) :
    Evolves s₀ (hostLinkChange gen width s) := by
  unfold hostLinkChange
  grind -lia -ring -linarith -ac -order (ematch := 60) (gen := 60) only [← State.hstSts_evolves, ← State.setFd_evolves]

theorem smbReadStatus_evolves {s₀ s : State} (h : Evolves s₀ s) :
    Evolves s₀ (smbReadStatus s) := by
  unfold smbReadStatus
  grind -lia -ring -linarith -ac -order (ematch := 60) (gen := 60) only [← State.emit_evolves]

theorem smbBar0Write_evolves {s₀ s : State} (h : Evolves s₀ s) (off : Nat) (w : Word) (pec : SmbPec) :
    Evolves s₀ (smbBar0Write off w pec s) := by
  unfold smbBar0Write
  grind -lia -ring -linarith -ac -order (ematch := 60) (gen := 60) only [← State.emit_evolves, ← busWrite_evolves]

theorem smbBar0Read_evolves {s₀ s : State} (h : Evolves s₀ s) (off : Nat) :
    Evolves s₀ (smbBar0Read off s) := by
  unfold smbBar0Read
  grind -lia -ring -linarith -ac -order (ematch := 60) (gen := 60) only [← busRead_evolves]

theorem smbDoorbell_evolves {s₀ s : State} (h : Evolves s₀ s) (i : Nat) (pec : SmbPec) :
    Evolves s₀ (smbDoorbell i pec s) := by
  unfold smbDoorbell
  grind -lia -ring -linarith -ac -order (ematch := 60) (gen := 60) only [← State.doorbell_evolves, ← State.dropHeld_evolves, ← State.emit_evolves]

theorem alertResponse_evolves {s₀ s : State} (h : Evolves s₀ s) :
    Evolves s₀ (alertResponse s) := by
  unfold alertResponse
  grind -lia -ring -linarith -ac -order (ematch := 60) (gen := 60) only [← State.emit_evolves, ← Evolves.evt]

theorem smbusTimeout_evolves {s₀ s : State} (h : Evolves s₀ s) :
    Evolves s₀ (smbusTimeout s) := by
  unfold smbusTimeout
  grind -lia -ring -linarith -ac -order (ematch := 60) (gen := 60) only []

end Sys2Proof.Machine
end

