-- ==== Sys2Proof/Laws/EvolvesTick.lean ====
section
/-! SUPPORT. What the operations of Machine/Tick.lean may do to a state (`Evolves`): one lemma for each. -/

namespace Sys2Proof.Machine

theorem State.islandFlush_evolves {s₀ s0 : State} (h : Evolves s₀ s0) (i : Nat) :
    Evolves s₀ (State.islandFlush s0 i) := by
  unfold State.islandFlush
  grind -lia -ring -linarith -ac -order (ematch := 60) (gen := 60) only [← State.closeLosses_evolves, usr State.pushPkt_evolves, ← State.pushPkt_evolves, ← State.setTb_evolves, ← List.foldl_evolves]

theorem State.pullDirect_evolves {s₀ s : State} (h : Evolves s₀ s) (q : Nat) (x0 : Nat) :
    Evolves s₀ (State.pullDirect q x0 s) := by
  induction x0 generalizing s with
  | zero => unfold State.pullDirect; grind -lia -ring -linarith -ac -order (ematch := 60) (gen := 60) only [← State.routerPop_evolves, ← State.setQueue_evolves]
  | succ n ih => unfold State.pullDirect; grind -lia -ring -linarith -ac -order (ematch := 60) (gen := 60) only [← State.routerPop_evolves, ← State.setQueue_evolves]

theorem State.reachRouter_evolves {s₀ s : State} (h : Evolves s₀ s) :
    Evolves s₀ (State.reachRouter s) := by
  unfold State.reachRouter
  grind -lia -ring -linarith -ac -order (ematch := 60) (gen := 60) only [← State.islandFlush_evolves, ← State.pullDirect_evolves, ← List.foldl_evolves]

theorem State.serviceLosses_evolves {s₀ s : State} (h : Evolves s₀ s) :
    Evolves s₀ (State.serviceLosses s) := by
  unfold State.serviceLosses
  grind -lia -ring -linarith -ac -order (ematch := 60) (gen := 60) only [← State.closeLoss_evolves, ← State.svcRelease_evolves, ← List.foldl_evolves]

theorem tickAdvance_evolves {s₀ s : State} (h : Evolves s₀ s) :
    Evolves s₀ (tickAdvance s) := by
  unfold tickAdvance
  grind -lia -ring -linarith -ac -order (ematch := 60) (gen := 60) only [← State.countTick_evolves, ← State.reachRouter_evolves, ← State.runPorts_evolves, ← State.serviceLosses_evolves, ← State.turnPins_evolves]

theorem horizonAdvance_evolves {s₀ s : State} (h : Evolves s₀ s) :
    Evolves s₀ (horizonAdvance s) := by
  unfold horizonAdvance
  grind -lia -ring -linarith -ac -order (ematch := 60) (gen := 60) only [← tickAdvance_evolves]

theorem epochWrap_evolves {s₀ s : State} (h : Evolves s₀ s) :
    Evolves s₀ (epochWrap s) := by
  unfold epochWrap
  grind -lia -ring -linarith -ac -order (ematch := 60) (gen := 60) only [← tickAdvance_evolves]

end Sys2Proof.Machine
end

