-- ==== Sys2Proof/Laws/State.lean ====
section
/-! SUPPORT. What each update of State leaves as it was, field by field; reading a register back after a write; what a reset keeps. -/

namespace Sys2Proof.Machine

/-! ### State.setRg -/

@[simp] theorem State.setRg_pending (s : State) (r : Reg) (w : Word) (i j : Nat) : (s.setRg r w i j).pending = s.pending := rfl
@[simp] theorem State.setRg_freeCtr (s : State) (r : Reg) (w : Word) (i j : Nat) : (s.setRg r w i j).freeCtr = s.freeCtr := rfl
@[simp] theorem State.setRg_time (s : State) (r : Reg) (w : Word) (i j : Nat) : (s.setRg r w i j).time = s.time := rfl
@[simp] theorem State.setRg_up (s : State) (r : Reg) (w : Word) (i j : Nat) : (s.setRg r w i j).up = s.up := rfl
@[simp] theorem State.setRg_pairs (s : State) (r : Reg) (w : Word) (i j : Nat) : (s.setRg r w i j).pairs = s.pairs := rfl
@[simp] theorem State.setRg_out (s : State) (r : Reg) (w : Word) (i j : Nat) : (s.setRg r w i j).out = s.out := rfl
@[simp] theorem State.setRg_dev (s : State) (r : Reg) (w : Word) (i j : Nat) : (s.setRg r w i j).dev = s.dev := rfl
@[simp] theorem State.setRg_q (s : State) (r : Reg) (w : Word) (i j : Nat) : (s.setRg r w i j).q = s.q := rfl
@[simp] theorem State.setRg_evt (s : State) (r : Reg) (w : Word) (i j : Nat) : (s.setRg r w i j).evt = s.evt := rfl
@[simp] theorem State.setRg_flt (s : State) (r : Reg) (w : Word) (i j : Nat) : (s.setRg r w i j).flt = s.flt := rfl
@[simp] theorem State.setRg_ldg (s : State) (r : Reg) (w : Word) (i j : Nat) : (s.setRg r w i j).ldg = s.ldg := rfl
@[simp] theorem State.setRg_ports (s : State) (r : Reg) (w : Word) (i j : Nat) : (s.setRg r w i j).ports = s.ports := rfl
@[simp] theorem State.setRg_tb (s : State) (r : Reg) (w : Word) (i j : Nat) : (s.setRg r w i j).tb = s.tb := rfl
@[simp] theorem State.setRg_domReq (s : State) (r : Reg) (w : Word) (i j : Nat) : (s.setRg r w i j).domReq = s.domReq := rfl
@[simp] theorem State.setRg_eng (s : State) (r : Reg) (w : Word) (i j : Nat) : (s.setRg r w i j).eng = s.eng := rfl
@[simp] theorem State.setRg_thrs (s : State) (r : Reg) (w : Word) (i j : Nat) : (s.setRg r w i j).thrs = s.thrs := rfl
@[simp] theorem State.setRg_dram (s : State) (r : Reg) (w : Word) (i j : Nat) : (s.setRg r w i j).dram = s.dram := rfl
@[simp] theorem State.setRg_dec (s : State) (r : Reg) (w : Word) (i j : Nat) : (s.setRg r w i j).dec = s.dec := rfl
@[simp] theorem State.setRg_links (s : State) (r : Reg) (w : Word) (i j : Nat) : (s.setRg r w i j).links = s.links := rfl
@[simp] theorem State.setRg_casc (s : State) (r : Reg) (w : Word) (i j : Nat) : (s.setRg r w i j).casc = s.casc := rfl
@[simp] theorem State.setRg_trg (s : State) (r : Reg) (w : Word) (i j : Nat) : (s.setRg r w i j).trg = s.trg := rfl
@[simp] theorem State.setRg_acq (s : State) (r : Reg) (w : Word) (i j : Nat) : (s.setRg r w i j).acq = s.acq := rfl
@[simp] theorem State.setRg_store (s : State) (r : Reg) (w : Word) (i j : Nat) : (s.setRg r w i j).store = s.store := rfl
@[simp] theorem State.setRg_hst (s : State) (r : Reg) (w : Word) (i j : Nat) : (s.setRg r w i j).hst = s.hst := rfl
@[simp] theorem State.setRg_flash (s : State) (r : Reg) (w : Word) (i j : Nat) : (s.setRg r w i j).flash = s.flash := rfl
@[simp] theorem State.setRg_boot (s : State) (r : Reg) (w : Word) (i j : Nat) : (s.setRg r w i j).boot = s.boot := rfl

/-! ### State.setFd -/

@[simp] theorem State.setFd_pending (s : State) (f : Fld) (v i j : Nat) : (s.setFd f v i j).pending = s.pending := rfl
@[simp] theorem State.setFd_freeCtr (s : State) (f : Fld) (v i j : Nat) : (s.setFd f v i j).freeCtr = s.freeCtr := rfl
@[simp] theorem State.setFd_time (s : State) (f : Fld) (v i j : Nat) : (s.setFd f v i j).time = s.time := rfl
@[simp] theorem State.setFd_up (s : State) (f : Fld) (v i j : Nat) : (s.setFd f v i j).up = s.up := rfl
@[simp] theorem State.setFd_pairs (s : State) (f : Fld) (v i j : Nat) : (s.setFd f v i j).pairs = s.pairs := rfl
@[simp] theorem State.setFd_out (s : State) (f : Fld) (v i j : Nat) : (s.setFd f v i j).out = s.out := rfl
@[simp] theorem State.setFd_dev (s : State) (f : Fld) (v i j : Nat) : (s.setFd f v i j).dev = s.dev := rfl
@[simp] theorem State.setFd_q (s : State) (f : Fld) (v i j : Nat) : (s.setFd f v i j).q = s.q := rfl
@[simp] theorem State.setFd_evt (s : State) (f : Fld) (v i j : Nat) : (s.setFd f v i j).evt = s.evt := rfl
@[simp] theorem State.setFd_flt (s : State) (f : Fld) (v i j : Nat) : (s.setFd f v i j).flt = s.flt := rfl
@[simp] theorem State.setFd_ldg (s : State) (f : Fld) (v i j : Nat) : (s.setFd f v i j).ldg = s.ldg := rfl
@[simp] theorem State.setFd_ports (s : State) (f : Fld) (v i j : Nat) : (s.setFd f v i j).ports = s.ports := rfl
@[simp] theorem State.setFd_tb (s : State) (f : Fld) (v i j : Nat) : (s.setFd f v i j).tb = s.tb := rfl
@[simp] theorem State.setFd_domReq (s : State) (f : Fld) (v i j : Nat) : (s.setFd f v i j).domReq = s.domReq := rfl
@[simp] theorem State.setFd_eng (s : State) (f : Fld) (v i j : Nat) : (s.setFd f v i j).eng = s.eng := rfl
@[simp] theorem State.setFd_thrs (s : State) (f : Fld) (v i j : Nat) : (s.setFd f v i j).thrs = s.thrs := rfl
@[simp] theorem State.setFd_dram (s : State) (f : Fld) (v i j : Nat) : (s.setFd f v i j).dram = s.dram := rfl
@[simp] theorem State.setFd_dec (s : State) (f : Fld) (v i j : Nat) : (s.setFd f v i j).dec = s.dec := rfl
@[simp] theorem State.setFd_links (s : State) (f : Fld) (v i j : Nat) : (s.setFd f v i j).links = s.links := rfl
@[simp] theorem State.setFd_casc (s : State) (f : Fld) (v i j : Nat) : (s.setFd f v i j).casc = s.casc := rfl
@[simp] theorem State.setFd_trg (s : State) (f : Fld) (v i j : Nat) : (s.setFd f v i j).trg = s.trg := rfl
@[simp] theorem State.setFd_acq (s : State) (f : Fld) (v i j : Nat) : (s.setFd f v i j).acq = s.acq := rfl
@[simp] theorem State.setFd_store (s : State) (f : Fld) (v i j : Nat) : (s.setFd f v i j).store = s.store := rfl
@[simp] theorem State.setFd_hst (s : State) (f : Fld) (v i j : Nat) : (s.setFd f v i j).hst = s.hst := rfl
@[simp] theorem State.setFd_flash (s : State) (f : Fld) (v i j : Nat) : (s.setFd f v i j).flash = s.flash := rfl
@[simp] theorem State.setFd_boot (s : State) (f : Fld) (v i j : Nat) : (s.setFd f v i j).boot = s.boot := rfl

/-! ### State.setPair -/

@[simp] theorem State.setPair_pending (s : State) (lo hi : Reg) (v i j : Nat) : (s.setPair lo hi v i j).pending = s.pending := rfl
@[simp] theorem State.setPair_freeCtr (s : State) (lo hi : Reg) (v i j : Nat) : (s.setPair lo hi v i j).freeCtr = s.freeCtr := rfl
@[simp] theorem State.setPair_time (s : State) (lo hi : Reg) (v i j : Nat) : (s.setPair lo hi v i j).time = s.time := rfl
@[simp] theorem State.setPair_up (s : State) (lo hi : Reg) (v i j : Nat) : (s.setPair lo hi v i j).up = s.up := rfl
@[simp] theorem State.setPair_pairs (s : State) (lo hi : Reg) (v i j : Nat) : (s.setPair lo hi v i j).pairs = s.pairs := rfl
@[simp] theorem State.setPair_out (s : State) (lo hi : Reg) (v i j : Nat) : (s.setPair lo hi v i j).out = s.out := rfl
@[simp] theorem State.setPair_dev (s : State) (lo hi : Reg) (v i j : Nat) : (s.setPair lo hi v i j).dev = s.dev := rfl
@[simp] theorem State.setPair_q (s : State) (lo hi : Reg) (v i j : Nat) : (s.setPair lo hi v i j).q = s.q := rfl
@[simp] theorem State.setPair_evt (s : State) (lo hi : Reg) (v i j : Nat) : (s.setPair lo hi v i j).evt = s.evt := rfl
@[simp] theorem State.setPair_flt (s : State) (lo hi : Reg) (v i j : Nat) : (s.setPair lo hi v i j).flt = s.flt := rfl
@[simp] theorem State.setPair_ldg (s : State) (lo hi : Reg) (v i j : Nat) : (s.setPair lo hi v i j).ldg = s.ldg := rfl
@[simp] theorem State.setPair_ports (s : State) (lo hi : Reg) (v i j : Nat) : (s.setPair lo hi v i j).ports = s.ports := rfl
@[simp] theorem State.setPair_tb (s : State) (lo hi : Reg) (v i j : Nat) : (s.setPair lo hi v i j).tb = s.tb := rfl
@[simp] theorem State.setPair_domReq (s : State) (lo hi : Reg) (v i j : Nat) : (s.setPair lo hi v i j).domReq = s.domReq := rfl
@[simp] theorem State.setPair_eng (s : State) (lo hi : Reg) (v i j : Nat) : (s.setPair lo hi v i j).eng = s.eng := rfl
@[simp] theorem State.setPair_thrs (s : State) (lo hi : Reg) (v i j : Nat) : (s.setPair lo hi v i j).thrs = s.thrs := rfl
@[simp] theorem State.setPair_dram (s : State) (lo hi : Reg) (v i j : Nat) : (s.setPair lo hi v i j).dram = s.dram := rfl
@[simp] theorem State.setPair_dec (s : State) (lo hi : Reg) (v i j : Nat) : (s.setPair lo hi v i j).dec = s.dec := rfl
@[simp] theorem State.setPair_links (s : State) (lo hi : Reg) (v i j : Nat) : (s.setPair lo hi v i j).links = s.links := rfl
@[simp] theorem State.setPair_casc (s : State) (lo hi : Reg) (v i j : Nat) : (s.setPair lo hi v i j).casc = s.casc := rfl
@[simp] theorem State.setPair_trg (s : State) (lo hi : Reg) (v i j : Nat) : (s.setPair lo hi v i j).trg = s.trg := rfl
@[simp] theorem State.setPair_acq (s : State) (lo hi : Reg) (v i j : Nat) : (s.setPair lo hi v i j).acq = s.acq := rfl
@[simp] theorem State.setPair_store (s : State) (lo hi : Reg) (v i j : Nat) : (s.setPair lo hi v i j).store = s.store := rfl
@[simp] theorem State.setPair_hst (s : State) (lo hi : Reg) (v i j : Nat) : (s.setPair lo hi v i j).hst = s.hst := rfl
@[simp] theorem State.setPair_flash (s : State) (lo hi : Reg) (v i j : Nat) : (s.setPair lo hi v i j).flash = s.flash := rfl
@[simp] theorem State.setPair_boot (s : State) (lo hi : Reg) (v i j : Nat) : (s.setPair lo hi v i j).boot = s.boot := rfl

/-! ### State.setEvBit -/

@[simp] theorem State.setEvBit_pending (s : State) (r : Reg) (n : Nat) (b : Bool) : (s.setEvBit r n b).pending = s.pending := rfl
@[simp] theorem State.setEvBit_freeCtr (s : State) (r : Reg) (n : Nat) (b : Bool) : (s.setEvBit r n b).freeCtr = s.freeCtr := rfl
@[simp] theorem State.setEvBit_time (s : State) (r : Reg) (n : Nat) (b : Bool) : (s.setEvBit r n b).time = s.time := rfl
@[simp] theorem State.setEvBit_up (s : State) (r : Reg) (n : Nat) (b : Bool) : (s.setEvBit r n b).up = s.up := rfl
@[simp] theorem State.setEvBit_pairs (s : State) (r : Reg) (n : Nat) (b : Bool) : (s.setEvBit r n b).pairs = s.pairs := rfl
@[simp] theorem State.setEvBit_out (s : State) (r : Reg) (n : Nat) (b : Bool) : (s.setEvBit r n b).out = s.out := rfl
@[simp] theorem State.setEvBit_dev (s : State) (r : Reg) (n : Nat) (b : Bool) : (s.setEvBit r n b).dev = s.dev := rfl
@[simp] theorem State.setEvBit_q (s : State) (r : Reg) (n : Nat) (b : Bool) : (s.setEvBit r n b).q = s.q := rfl
@[simp] theorem State.setEvBit_evt (s : State) (r : Reg) (n : Nat) (b : Bool) : (s.setEvBit r n b).evt = s.evt := rfl
@[simp] theorem State.setEvBit_flt (s : State) (r : Reg) (n : Nat) (b : Bool) : (s.setEvBit r n b).flt = s.flt := rfl
@[simp] theorem State.setEvBit_ldg (s : State) (r : Reg) (n : Nat) (b : Bool) : (s.setEvBit r n b).ldg = s.ldg := rfl
@[simp] theorem State.setEvBit_ports (s : State) (r : Reg) (n : Nat) (b : Bool) : (s.setEvBit r n b).ports = s.ports := rfl
@[simp] theorem State.setEvBit_tb (s : State) (r : Reg) (n : Nat) (b : Bool) : (s.setEvBit r n b).tb = s.tb := rfl
@[simp] theorem State.setEvBit_domReq (s : State) (r : Reg) (n : Nat) (b : Bool) : (s.setEvBit r n b).domReq = s.domReq := rfl
@[simp] theorem State.setEvBit_eng (s : State) (r : Reg) (n : Nat) (b : Bool) : (s.setEvBit r n b).eng = s.eng := rfl
@[simp] theorem State.setEvBit_thrs (s : State) (r : Reg) (n : Nat) (b : Bool) : (s.setEvBit r n b).thrs = s.thrs := rfl
@[simp] theorem State.setEvBit_dram (s : State) (r : Reg) (n : Nat) (b : Bool) : (s.setEvBit r n b).dram = s.dram := rfl
@[simp] theorem State.setEvBit_dec (s : State) (r : Reg) (n : Nat) (b : Bool) : (s.setEvBit r n b).dec = s.dec := rfl
@[simp] theorem State.setEvBit_links (s : State) (r : Reg) (n : Nat) (b : Bool) : (s.setEvBit r n b).links = s.links := rfl
@[simp] theorem State.setEvBit_casc (s : State) (r : Reg) (n : Nat) (b : Bool) : (s.setEvBit r n b).casc = s.casc := rfl
@[simp] theorem State.setEvBit_trg (s : State) (r : Reg) (n : Nat) (b : Bool) : (s.setEvBit r n b).trg = s.trg := rfl
@[simp] theorem State.setEvBit_acq (s : State) (r : Reg) (n : Nat) (b : Bool) : (s.setEvBit r n b).acq = s.acq := rfl
@[simp] theorem State.setEvBit_store (s : State) (r : Reg) (n : Nat) (b : Bool) : (s.setEvBit r n b).store = s.store := rfl
@[simp] theorem State.setEvBit_hst (s : State) (r : Reg) (n : Nat) (b : Bool) : (s.setEvBit r n b).hst = s.hst := rfl
@[simp] theorem State.setEvBit_flash (s : State) (r : Reg) (n : Nat) (b : Bool) : (s.setEvBit r n b).flash = s.flash := rfl
@[simp] theorem State.setEvBit_boot (s : State) (r : Reg) (n : Nat) (b : Bool) : (s.setEvBit r n b).boot = s.boot := rfl

/-! ### State.emit -/

@[simp] theorem State.emit_pending (s : State) (o : Out) : (s.emit o).pending = s.pending := rfl
@[simp] theorem State.emit_freeCtr (s : State) (o : Out) : (s.emit o).freeCtr = s.freeCtr := rfl
@[simp] theorem State.emit_time (s : State) (o : Out) : (s.emit o).time = s.time := rfl
@[simp] theorem State.emit_up (s : State) (o : Out) : (s.emit o).up = s.up := rfl
@[simp] theorem State.emit_regs (s : State) (o : Out) : (s.emit o).regs = s.regs := rfl
@[simp] theorem State.emit_pairs (s : State) (o : Out) : (s.emit o).pairs = s.pairs := rfl
@[simp] theorem State.emit_dev (s : State) (o : Out) : (s.emit o).dev = s.dev := rfl
@[simp] theorem State.emit_q (s : State) (o : Out) : (s.emit o).q = s.q := rfl
@[simp] theorem State.emit_evt (s : State) (o : Out) : (s.emit o).evt = s.evt := rfl
@[simp] theorem State.emit_flt (s : State) (o : Out) : (s.emit o).flt = s.flt := rfl
@[simp] theorem State.emit_ldg (s : State) (o : Out) : (s.emit o).ldg = s.ldg := rfl
@[simp] theorem State.emit_ports (s : State) (o : Out) : (s.emit o).ports = s.ports := rfl
@[simp] theorem State.emit_tb (s : State) (o : Out) : (s.emit o).tb = s.tb := rfl
@[simp] theorem State.emit_domReq (s : State) (o : Out) : (s.emit o).domReq = s.domReq := rfl
@[simp] theorem State.emit_eng (s : State) (o : Out) : (s.emit o).eng = s.eng := rfl
@[simp] theorem State.emit_thrs (s : State) (o : Out) : (s.emit o).thrs = s.thrs := rfl
@[simp] theorem State.emit_dram (s : State) (o : Out) : (s.emit o).dram = s.dram := rfl
@[simp] theorem State.emit_dec (s : State) (o : Out) : (s.emit o).dec = s.dec := rfl
@[simp] theorem State.emit_links (s : State) (o : Out) : (s.emit o).links = s.links := rfl
@[simp] theorem State.emit_casc (s : State) (o : Out) : (s.emit o).casc = s.casc := rfl
@[simp] theorem State.emit_trg (s : State) (o : Out) : (s.emit o).trg = s.trg := rfl
@[simp] theorem State.emit_acq (s : State) (o : Out) : (s.emit o).acq = s.acq := rfl
@[simp] theorem State.emit_store (s : State) (o : Out) : (s.emit o).store = s.store := rfl
@[simp] theorem State.emit_hst (s : State) (o : Out) : (s.emit o).hst = s.hst := rfl
@[simp] theorem State.emit_flash (s : State) (o : Out) : (s.emit o).flash = s.flash := rfl
@[simp] theorem State.emit_boot (s : State) (o : Out) : (s.emit o).boot = s.boot := rfl
@[simp] theorem State.emit_rg (s : State) (o : Out) (r' : Reg) (i' j' : Nat) : (s.emit o).rg r' i' j' = s.rg r' i' j' := rfl
@[simp] theorem State.emit_fd (s : State) (o : Out) (f' : Fld) (i' j' : Nat) : (s.emit o).fd f' i' j' = s.fd f' i' j' := rfl

/-! ### State.setDev -/

@[simp] theorem State.setDev_pending (s : State) (f : Dev → Dev) : (s.setDev f).pending = s.pending := rfl
@[simp] theorem State.setDev_freeCtr (s : State) (f : Dev → Dev) : (s.setDev f).freeCtr = s.freeCtr := rfl
@[simp] theorem State.setDev_time (s : State) (f : Dev → Dev) : (s.setDev f).time = s.time := rfl
@[simp] theorem State.setDev_up (s : State) (f : Dev → Dev) : (s.setDev f).up = s.up := rfl
@[simp] theorem State.setDev_regs (s : State) (f : Dev → Dev) : (s.setDev f).regs = s.regs := rfl
@[simp] theorem State.setDev_pairs (s : State) (f : Dev → Dev) : (s.setDev f).pairs = s.pairs := rfl
@[simp] theorem State.setDev_out (s : State) (f : Dev → Dev) : (s.setDev f).out = s.out := rfl
@[simp] theorem State.setDev_q (s : State) (f : Dev → Dev) : (s.setDev f).q = s.q := rfl
@[simp] theorem State.setDev_evt (s : State) (f : Dev → Dev) : (s.setDev f).evt = s.evt := rfl
@[simp] theorem State.setDev_flt (s : State) (f : Dev → Dev) : (s.setDev f).flt = s.flt := rfl
@[simp] theorem State.setDev_ldg (s : State) (f : Dev → Dev) : (s.setDev f).ldg = s.ldg := rfl
@[simp] theorem State.setDev_ports (s : State) (f : Dev → Dev) : (s.setDev f).ports = s.ports := rfl
@[simp] theorem State.setDev_tb (s : State) (f : Dev → Dev) : (s.setDev f).tb = s.tb := rfl
@[simp] theorem State.setDev_domReq (s : State) (f : Dev → Dev) : (s.setDev f).domReq = s.domReq := rfl
@[simp] theorem State.setDev_eng (s : State) (f : Dev → Dev) : (s.setDev f).eng = s.eng := rfl
@[simp] theorem State.setDev_thrs (s : State) (f : Dev → Dev) : (s.setDev f).thrs = s.thrs := rfl
@[simp] theorem State.setDev_dram (s : State) (f : Dev → Dev) : (s.setDev f).dram = s.dram := rfl
@[simp] theorem State.setDev_dec (s : State) (f : Dev → Dev) : (s.setDev f).dec = s.dec := rfl
@[simp] theorem State.setDev_links (s : State) (f : Dev → Dev) : (s.setDev f).links = s.links := rfl
@[simp] theorem State.setDev_casc (s : State) (f : Dev → Dev) : (s.setDev f).casc = s.casc := rfl
@[simp] theorem State.setDev_trg (s : State) (f : Dev → Dev) : (s.setDev f).trg = s.trg := rfl
@[simp] theorem State.setDev_acq (s : State) (f : Dev → Dev) : (s.setDev f).acq = s.acq := rfl
@[simp] theorem State.setDev_store (s : State) (f : Dev → Dev) : (s.setDev f).store = s.store := rfl
@[simp] theorem State.setDev_hst (s : State) (f : Dev → Dev) : (s.setDev f).hst = s.hst := rfl
@[simp] theorem State.setDev_flash (s : State) (f : Dev → Dev) : (s.setDev f).flash = s.flash := rfl
@[simp] theorem State.setDev_boot (s : State) (f : Dev → Dev) : (s.setDev f).boot = s.boot := rfl
@[simp] theorem State.setDev_rg (s : State) (f : Dev → Dev) (r' : Reg) (i' j' : Nat) : (s.setDev f).rg r' i' j' = s.rg r' i' j' := rfl
@[simp] theorem State.setDev_fd (s : State) (f : Dev → Dev) (f' : Fld) (i' j' : Nat) : (s.setDev f).fd f' i' j' = s.fd f' i' j' := rfl

/-! ### State.setTb -/

@[simp] theorem State.setTb_pending (s : State) (f : TimeBase → TimeBase) : (s.setTb f).pending = s.pending := rfl
@[simp] theorem State.setTb_freeCtr (s : State) (f : TimeBase → TimeBase) : (s.setTb f).freeCtr = s.freeCtr := rfl
@[simp] theorem State.setTb_time (s : State) (f : TimeBase → TimeBase) : (s.setTb f).time = s.time := rfl
@[simp] theorem State.setTb_up (s : State) (f : TimeBase → TimeBase) : (s.setTb f).up = s.up := rfl
@[simp] theorem State.setTb_regs (s : State) (f : TimeBase → TimeBase) : (s.setTb f).regs = s.regs := rfl
@[simp] theorem State.setTb_pairs (s : State) (f : TimeBase → TimeBase) : (s.setTb f).pairs = s.pairs := rfl
@[simp] theorem State.setTb_out (s : State) (f : TimeBase → TimeBase) : (s.setTb f).out = s.out := rfl
@[simp] theorem State.setTb_dev (s : State) (f : TimeBase → TimeBase) : (s.setTb f).dev = s.dev := rfl
@[simp] theorem State.setTb_q (s : State) (f : TimeBase → TimeBase) : (s.setTb f).q = s.q := rfl
@[simp] theorem State.setTb_evt (s : State) (f : TimeBase → TimeBase) : (s.setTb f).evt = s.evt := rfl
@[simp] theorem State.setTb_flt (s : State) (f : TimeBase → TimeBase) : (s.setTb f).flt = s.flt := rfl
@[simp] theorem State.setTb_ldg (s : State) (f : TimeBase → TimeBase) : (s.setTb f).ldg = s.ldg := rfl
@[simp] theorem State.setTb_ports (s : State) (f : TimeBase → TimeBase) : (s.setTb f).ports = s.ports := rfl
@[simp] theorem State.setTb_domReq (s : State) (f : TimeBase → TimeBase) : (s.setTb f).domReq = s.domReq := rfl
@[simp] theorem State.setTb_eng (s : State) (f : TimeBase → TimeBase) : (s.setTb f).eng = s.eng := rfl
@[simp] theorem State.setTb_thrs (s : State) (f : TimeBase → TimeBase) : (s.setTb f).thrs = s.thrs := rfl
@[simp] theorem State.setTb_dram (s : State) (f : TimeBase → TimeBase) : (s.setTb f).dram = s.dram := rfl
@[simp] theorem State.setTb_dec (s : State) (f : TimeBase → TimeBase) : (s.setTb f).dec = s.dec := rfl
@[simp] theorem State.setTb_links (s : State) (f : TimeBase → TimeBase) : (s.setTb f).links = s.links := rfl
@[simp] theorem State.setTb_casc (s : State) (f : TimeBase → TimeBase) : (s.setTb f).casc = s.casc := rfl
@[simp] theorem State.setTb_trg (s : State) (f : TimeBase → TimeBase) : (s.setTb f).trg = s.trg := rfl
@[simp] theorem State.setTb_acq (s : State) (f : TimeBase → TimeBase) : (s.setTb f).acq = s.acq := rfl
@[simp] theorem State.setTb_store (s : State) (f : TimeBase → TimeBase) : (s.setTb f).store = s.store := rfl
@[simp] theorem State.setTb_hst (s : State) (f : TimeBase → TimeBase) : (s.setTb f).hst = s.hst := rfl
@[simp] theorem State.setTb_flash (s : State) (f : TimeBase → TimeBase) : (s.setTb f).flash = s.flash := rfl
@[simp] theorem State.setTb_boot (s : State) (f : TimeBase → TimeBase) : (s.setTb f).boot = s.boot := rfl
@[simp] theorem State.setTb_rg (s : State) (f : TimeBase → TimeBase) (r' : Reg) (i' j' : Nat) : (s.setTb f).rg r' i' j' = s.rg r' i' j' := rfl
@[simp] theorem State.setTb_fd (s : State) (f : TimeBase → TimeBase) (f' : Fld) (i' j' : Nat) : (s.setTb f).fd f' i' j' = s.fd f' i' j' := rfl

/-! ### State.setCasc -/

@[simp] theorem State.setCasc_pending (s : State) (f : Casc → Casc) : (s.setCasc f).pending = s.pending := rfl
@[simp] theorem State.setCasc_freeCtr (s : State) (f : Casc → Casc) : (s.setCasc f).freeCtr = s.freeCtr := rfl
@[simp] theorem State.setCasc_time (s : State) (f : Casc → Casc) : (s.setCasc f).time = s.time := rfl
@[simp] theorem State.setCasc_up (s : State) (f : Casc → Casc) : (s.setCasc f).up = s.up := rfl
@[simp] theorem State.setCasc_regs (s : State) (f : Casc → Casc) : (s.setCasc f).regs = s.regs := rfl
@[simp] theorem State.setCasc_pairs (s : State) (f : Casc → Casc) : (s.setCasc f).pairs = s.pairs := rfl
@[simp] theorem State.setCasc_out (s : State) (f : Casc → Casc) : (s.setCasc f).out = s.out := rfl
@[simp] theorem State.setCasc_dev (s : State) (f : Casc → Casc) : (s.setCasc f).dev = s.dev := rfl
@[simp] theorem State.setCasc_q (s : State) (f : Casc → Casc) : (s.setCasc f).q = s.q := rfl
@[simp] theorem State.setCasc_evt (s : State) (f : Casc → Casc) : (s.setCasc f).evt = s.evt := rfl
@[simp] theorem State.setCasc_flt (s : State) (f : Casc → Casc) : (s.setCasc f).flt = s.flt := rfl
@[simp] theorem State.setCasc_ldg (s : State) (f : Casc → Casc) : (s.setCasc f).ldg = s.ldg := rfl
@[simp] theorem State.setCasc_ports (s : State) (f : Casc → Casc) : (s.setCasc f).ports = s.ports := rfl
@[simp] theorem State.setCasc_tb (s : State) (f : Casc → Casc) : (s.setCasc f).tb = s.tb := rfl
@[simp] theorem State.setCasc_domReq (s : State) (f : Casc → Casc) : (s.setCasc f).domReq = s.domReq := rfl
@[simp] theorem State.setCasc_eng (s : State) (f : Casc → Casc) : (s.setCasc f).eng = s.eng := rfl
@[simp] theorem State.setCasc_thrs (s : State) (f : Casc → Casc) : (s.setCasc f).thrs = s.thrs := rfl
@[simp] theorem State.setCasc_dram (s : State) (f : Casc → Casc) : (s.setCasc f).dram = s.dram := rfl
@[simp] theorem State.setCasc_dec (s : State) (f : Casc → Casc) : (s.setCasc f).dec = s.dec := rfl
@[simp] theorem State.setCasc_links (s : State) (f : Casc → Casc) : (s.setCasc f).links = s.links := rfl
@[simp] theorem State.setCasc_trg (s : State) (f : Casc → Casc) : (s.setCasc f).trg = s.trg := rfl
@[simp] theorem State.setCasc_acq (s : State) (f : Casc → Casc) : (s.setCasc f).acq = s.acq := rfl
@[simp] theorem State.setCasc_store (s : State) (f : Casc → Casc) : (s.setCasc f).store = s.store := rfl
@[simp] theorem State.setCasc_hst (s : State) (f : Casc → Casc) : (s.setCasc f).hst = s.hst := rfl
@[simp] theorem State.setCasc_flash (s : State) (f : Casc → Casc) : (s.setCasc f).flash = s.flash := rfl
@[simp] theorem State.setCasc_boot (s : State) (f : Casc → Casc) : (s.setCasc f).boot = s.boot := rfl
@[simp] theorem State.setCasc_rg (s : State) (f : Casc → Casc) (r' : Reg) (i' j' : Nat) : (s.setCasc f).rg r' i' j' = s.rg r' i' j' := rfl
@[simp] theorem State.setCasc_fd (s : State) (f : Casc → Casc) (f' : Fld) (i' j' : Nat) : (s.setCasc f).fd f' i' j' = s.fd f' i' j' := rfl

/-! ### State.setDec -/

@[simp] theorem State.setDec_pending (s : State) (f : Decim → Decim) : (s.setDec f).pending = s.pending := rfl
@[simp] theorem State.setDec_freeCtr (s : State) (f : Decim → Decim) : (s.setDec f).freeCtr = s.freeCtr := rfl
@[simp] theorem State.setDec_time (s : State) (f : Decim → Decim) : (s.setDec f).time = s.time := rfl
@[simp] theorem State.setDec_up (s : State) (f : Decim → Decim) : (s.setDec f).up = s.up := rfl
@[simp] theorem State.setDec_regs (s : State) (f : Decim → Decim) : (s.setDec f).regs = s.regs := rfl
@[simp] theorem State.setDec_pairs (s : State) (f : Decim → Decim) : (s.setDec f).pairs = s.pairs := rfl
@[simp] theorem State.setDec_out (s : State) (f : Decim → Decim) : (s.setDec f).out = s.out := rfl
@[simp] theorem State.setDec_dev (s : State) (f : Decim → Decim) : (s.setDec f).dev = s.dev := rfl
@[simp] theorem State.setDec_q (s : State) (f : Decim → Decim) : (s.setDec f).q = s.q := rfl
@[simp] theorem State.setDec_evt (s : State) (f : Decim → Decim) : (s.setDec f).evt = s.evt := rfl
@[simp] theorem State.setDec_flt (s : State) (f : Decim → Decim) : (s.setDec f).flt = s.flt := rfl
@[simp] theorem State.setDec_ldg (s : State) (f : Decim → Decim) : (s.setDec f).ldg = s.ldg := rfl
@[simp] theorem State.setDec_ports (s : State) (f : Decim → Decim) : (s.setDec f).ports = s.ports := rfl
@[simp] theorem State.setDec_tb (s : State) (f : Decim → Decim) : (s.setDec f).tb = s.tb := rfl
@[simp] theorem State.setDec_domReq (s : State) (f : Decim → Decim) : (s.setDec f).domReq = s.domReq := rfl
@[simp] theorem State.setDec_eng (s : State) (f : Decim → Decim) : (s.setDec f).eng = s.eng := rfl
@[simp] theorem State.setDec_thrs (s : State) (f : Decim → Decim) : (s.setDec f).thrs = s.thrs := rfl
@[simp] theorem State.setDec_dram (s : State) (f : Decim → Decim) : (s.setDec f).dram = s.dram := rfl
@[simp] theorem State.setDec_links (s : State) (f : Decim → Decim) : (s.setDec f).links = s.links := rfl
@[simp] theorem State.setDec_casc (s : State) (f : Decim → Decim) : (s.setDec f).casc = s.casc := rfl
@[simp] theorem State.setDec_trg (s : State) (f : Decim → Decim) : (s.setDec f).trg = s.trg := rfl
@[simp] theorem State.setDec_acq (s : State) (f : Decim → Decim) : (s.setDec f).acq = s.acq := rfl
@[simp] theorem State.setDec_store (s : State) (f : Decim → Decim) : (s.setDec f).store = s.store := rfl
@[simp] theorem State.setDec_hst (s : State) (f : Decim → Decim) : (s.setDec f).hst = s.hst := rfl
@[simp] theorem State.setDec_flash (s : State) (f : Decim → Decim) : (s.setDec f).flash = s.flash := rfl
@[simp] theorem State.setDec_boot (s : State) (f : Decim → Decim) : (s.setDec f).boot = s.boot := rfl
@[simp] theorem State.setDec_rg (s : State) (f : Decim → Decim) (r' : Reg) (i' j' : Nat) : (s.setDec f).rg r' i' j' = s.rg r' i' j' := rfl
@[simp] theorem State.setDec_fd (s : State) (f : Decim → Decim) (f' : Fld) (i' j' : Nat) : (s.setDec f).fd f' i' j' = s.fd f' i' j' := rfl

/-! ### State.setDctx -/

@[simp] theorem State.setDctx_pending (s : State) (n : Nat) (c : DecCtx) : (s.setDctx n c).pending = s.pending := rfl
@[simp] theorem State.setDctx_freeCtr (s : State) (n : Nat) (c : DecCtx) : (s.setDctx n c).freeCtr = s.freeCtr := rfl
@[simp] theorem State.setDctx_time (s : State) (n : Nat) (c : DecCtx) : (s.setDctx n c).time = s.time := rfl
@[simp] theorem State.setDctx_up (s : State) (n : Nat) (c : DecCtx) : (s.setDctx n c).up = s.up := rfl
@[simp] theorem State.setDctx_regs (s : State) (n : Nat) (c : DecCtx) : (s.setDctx n c).regs = s.regs := rfl
@[simp] theorem State.setDctx_pairs (s : State) (n : Nat) (c : DecCtx) : (s.setDctx n c).pairs = s.pairs := rfl
@[simp] theorem State.setDctx_out (s : State) (n : Nat) (c : DecCtx) : (s.setDctx n c).out = s.out := rfl
@[simp] theorem State.setDctx_dev (s : State) (n : Nat) (c : DecCtx) : (s.setDctx n c).dev = s.dev := rfl
@[simp] theorem State.setDctx_q (s : State) (n : Nat) (c : DecCtx) : (s.setDctx n c).q = s.q := rfl
@[simp] theorem State.setDctx_evt (s : State) (n : Nat) (c : DecCtx) : (s.setDctx n c).evt = s.evt := rfl
@[simp] theorem State.setDctx_flt (s : State) (n : Nat) (c : DecCtx) : (s.setDctx n c).flt = s.flt := rfl
@[simp] theorem State.setDctx_ldg (s : State) (n : Nat) (c : DecCtx) : (s.setDctx n c).ldg = s.ldg := rfl
@[simp] theorem State.setDctx_ports (s : State) (n : Nat) (c : DecCtx) : (s.setDctx n c).ports = s.ports := rfl
@[simp] theorem State.setDctx_tb (s : State) (n : Nat) (c : DecCtx) : (s.setDctx n c).tb = s.tb := rfl
@[simp] theorem State.setDctx_domReq (s : State) (n : Nat) (c : DecCtx) : (s.setDctx n c).domReq = s.domReq := rfl
@[simp] theorem State.setDctx_eng (s : State) (n : Nat) (c : DecCtx) : (s.setDctx n c).eng = s.eng := rfl
@[simp] theorem State.setDctx_thrs (s : State) (n : Nat) (c : DecCtx) : (s.setDctx n c).thrs = s.thrs := rfl
@[simp] theorem State.setDctx_dram (s : State) (n : Nat) (c : DecCtx) : (s.setDctx n c).dram = s.dram := rfl
@[simp] theorem State.setDctx_links (s : State) (n : Nat) (c : DecCtx) : (s.setDctx n c).links = s.links := rfl
@[simp] theorem State.setDctx_casc (s : State) (n : Nat) (c : DecCtx) : (s.setDctx n c).casc = s.casc := rfl
@[simp] theorem State.setDctx_trg (s : State) (n : Nat) (c : DecCtx) : (s.setDctx n c).trg = s.trg := rfl
@[simp] theorem State.setDctx_acq (s : State) (n : Nat) (c : DecCtx) : (s.setDctx n c).acq = s.acq := rfl
@[simp] theorem State.setDctx_store (s : State) (n : Nat) (c : DecCtx) : (s.setDctx n c).store = s.store := rfl
@[simp] theorem State.setDctx_hst (s : State) (n : Nat) (c : DecCtx) : (s.setDctx n c).hst = s.hst := rfl
@[simp] theorem State.setDctx_flash (s : State) (n : Nat) (c : DecCtx) : (s.setDctx n c).flash = s.flash := rfl
@[simp] theorem State.setDctx_boot (s : State) (n : Nat) (c : DecCtx) : (s.setDctx n c).boot = s.boot := rfl
@[simp] theorem State.setDctx_rg (s : State) (n : Nat) (c : DecCtx) (r' : Reg) (i' j' : Nat) : (s.setDctx n c).rg r' i' j' = s.rg r' i' j' := rfl
@[simp] theorem State.setDctx_fd (s : State) (n : Nat) (c : DecCtx) (f' : Fld) (i' j' : Nat) : (s.setDctx n c).fd f' i' j' = s.fd f' i' j' := rfl

/-! ### State.setMadc -/

@[simp] theorem State.setMadc_pending (s : State) (n : Nat) (c : Madc) : (s.setMadc n c).pending = s.pending := rfl
@[simp] theorem State.setMadc_freeCtr (s : State) (n : Nat) (c : Madc) : (s.setMadc n c).freeCtr = s.freeCtr := rfl
@[simp] theorem State.setMadc_time (s : State) (n : Nat) (c : Madc) : (s.setMadc n c).time = s.time := rfl
@[simp] theorem State.setMadc_up (s : State) (n : Nat) (c : Madc) : (s.setMadc n c).up = s.up := rfl
@[simp] theorem State.setMadc_regs (s : State) (n : Nat) (c : Madc) : (s.setMadc n c).regs = s.regs := rfl
@[simp] theorem State.setMadc_pairs (s : State) (n : Nat) (c : Madc) : (s.setMadc n c).pairs = s.pairs := rfl
@[simp] theorem State.setMadc_out (s : State) (n : Nat) (c : Madc) : (s.setMadc n c).out = s.out := rfl
@[simp] theorem State.setMadc_dev (s : State) (n : Nat) (c : Madc) : (s.setMadc n c).dev = s.dev := rfl
@[simp] theorem State.setMadc_q (s : State) (n : Nat) (c : Madc) : (s.setMadc n c).q = s.q := rfl
@[simp] theorem State.setMadc_evt (s : State) (n : Nat) (c : Madc) : (s.setMadc n c).evt = s.evt := rfl
@[simp] theorem State.setMadc_flt (s : State) (n : Nat) (c : Madc) : (s.setMadc n c).flt = s.flt := rfl
@[simp] theorem State.setMadc_ldg (s : State) (n : Nat) (c : Madc) : (s.setMadc n c).ldg = s.ldg := rfl
@[simp] theorem State.setMadc_ports (s : State) (n : Nat) (c : Madc) : (s.setMadc n c).ports = s.ports := rfl
@[simp] theorem State.setMadc_tb (s : State) (n : Nat) (c : Madc) : (s.setMadc n c).tb = s.tb := rfl
@[simp] theorem State.setMadc_domReq (s : State) (n : Nat) (c : Madc) : (s.setMadc n c).domReq = s.domReq := rfl
@[simp] theorem State.setMadc_eng (s : State) (n : Nat) (c : Madc) : (s.setMadc n c).eng = s.eng := rfl
@[simp] theorem State.setMadc_thrs (s : State) (n : Nat) (c : Madc) : (s.setMadc n c).thrs = s.thrs := rfl
@[simp] theorem State.setMadc_dram (s : State) (n : Nat) (c : Madc) : (s.setMadc n c).dram = s.dram := rfl
@[simp] theorem State.setMadc_links (s : State) (n : Nat) (c : Madc) : (s.setMadc n c).links = s.links := rfl
@[simp] theorem State.setMadc_casc (s : State) (n : Nat) (c : Madc) : (s.setMadc n c).casc = s.casc := rfl
@[simp] theorem State.setMadc_trg (s : State) (n : Nat) (c : Madc) : (s.setMadc n c).trg = s.trg := rfl
@[simp] theorem State.setMadc_acq (s : State) (n : Nat) (c : Madc) : (s.setMadc n c).acq = s.acq := rfl
@[simp] theorem State.setMadc_store (s : State) (n : Nat) (c : Madc) : (s.setMadc n c).store = s.store := rfl
@[simp] theorem State.setMadc_hst (s : State) (n : Nat) (c : Madc) : (s.setMadc n c).hst = s.hst := rfl
@[simp] theorem State.setMadc_flash (s : State) (n : Nat) (c : Madc) : (s.setMadc n c).flash = s.flash := rfl
@[simp] theorem State.setMadc_boot (s : State) (n : Nat) (c : Madc) : (s.setMadc n c).boot = s.boot := rfl
@[simp] theorem State.setMadc_rg (s : State) (n : Nat) (c : Madc) (r' : Reg) (i' j' : Nat) : (s.setMadc n c).rg r' i' j' = s.rg r' i' j' := rfl
@[simp] theorem State.setMadc_fd (s : State) (n : Nat) (c : Madc) (f' : Fld) (i' j' : Nat) : (s.setMadc n c).fd f' i' j' = s.fd f' i' j' := rfl

/-! ### State.setStore -/

@[simp] theorem State.setStore_pending (s : State) (f : Store → Store) : (s.setStore f).pending = s.pending := rfl
@[simp] theorem State.setStore_freeCtr (s : State) (f : Store → Store) : (s.setStore f).freeCtr = s.freeCtr := rfl
@[simp] theorem State.setStore_time (s : State) (f : Store → Store) : (s.setStore f).time = s.time := rfl
@[simp] theorem State.setStore_up (s : State) (f : Store → Store) : (s.setStore f).up = s.up := rfl
@[simp] theorem State.setStore_regs (s : State) (f : Store → Store) : (s.setStore f).regs = s.regs := rfl
@[simp] theorem State.setStore_pairs (s : State) (f : Store → Store) : (s.setStore f).pairs = s.pairs := rfl
@[simp] theorem State.setStore_out (s : State) (f : Store → Store) : (s.setStore f).out = s.out := rfl
@[simp] theorem State.setStore_dev (s : State) (f : Store → Store) : (s.setStore f).dev = s.dev := rfl
@[simp] theorem State.setStore_q (s : State) (f : Store → Store) : (s.setStore f).q = s.q := rfl
@[simp] theorem State.setStore_evt (s : State) (f : Store → Store) : (s.setStore f).evt = s.evt := rfl
@[simp] theorem State.setStore_flt (s : State) (f : Store → Store) : (s.setStore f).flt = s.flt := rfl
@[simp] theorem State.setStore_ldg (s : State) (f : Store → Store) : (s.setStore f).ldg = s.ldg := rfl
@[simp] theorem State.setStore_ports (s : State) (f : Store → Store) : (s.setStore f).ports = s.ports := rfl
@[simp] theorem State.setStore_tb (s : State) (f : Store → Store) : (s.setStore f).tb = s.tb := rfl
@[simp] theorem State.setStore_domReq (s : State) (f : Store → Store) : (s.setStore f).domReq = s.domReq := rfl
@[simp] theorem State.setStore_eng (s : State) (f : Store → Store) : (s.setStore f).eng = s.eng := rfl
@[simp] theorem State.setStore_thrs (s : State) (f : Store → Store) : (s.setStore f).thrs = s.thrs := rfl
@[simp] theorem State.setStore_dram (s : State) (f : Store → Store) : (s.setStore f).dram = s.dram := rfl
@[simp] theorem State.setStore_dec (s : State) (f : Store → Store) : (s.setStore f).dec = s.dec := rfl
@[simp] theorem State.setStore_links (s : State) (f : Store → Store) : (s.setStore f).links = s.links := rfl
@[simp] theorem State.setStore_casc (s : State) (f : Store → Store) : (s.setStore f).casc = s.casc := rfl
@[simp] theorem State.setStore_trg (s : State) (f : Store → Store) : (s.setStore f).trg = s.trg := rfl
@[simp] theorem State.setStore_acq (s : State) (f : Store → Store) : (s.setStore f).acq = s.acq := rfl
@[simp] theorem State.setStore_hst (s : State) (f : Store → Store) : (s.setStore f).hst = s.hst := rfl
@[simp] theorem State.setStore_flash (s : State) (f : Store → Store) : (s.setStore f).flash = s.flash := rfl
@[simp] theorem State.setStore_boot (s : State) (f : Store → Store) : (s.setStore f).boot = s.boot := rfl
@[simp] theorem State.setStore_rg (s : State) (f : Store → Store) (r' : Reg) (i' j' : Nat) : (s.setStore f).rg r' i' j' = s.rg r' i' j' := rfl
@[simp] theorem State.setStore_fd (s : State) (f : Store → Store) (f' : Fld) (i' j' : Nat) : (s.setStore f).fd f' i' j' = s.fd f' i' j' := rfl

/-! ### State.setRing -/

@[simp] theorem State.setRing_pending (s : State) (n : Nat) (x : Ring) : (s.setRing n x).pending = s.pending := rfl
@[simp] theorem State.setRing_freeCtr (s : State) (n : Nat) (x : Ring) : (s.setRing n x).freeCtr = s.freeCtr := rfl
@[simp] theorem State.setRing_time (s : State) (n : Nat) (x : Ring) : (s.setRing n x).time = s.time := rfl
@[simp] theorem State.setRing_up (s : State) (n : Nat) (x : Ring) : (s.setRing n x).up = s.up := rfl
@[simp] theorem State.setRing_regs (s : State) (n : Nat) (x : Ring) : (s.setRing n x).regs = s.regs := rfl
@[simp] theorem State.setRing_pairs (s : State) (n : Nat) (x : Ring) : (s.setRing n x).pairs = s.pairs := rfl
@[simp] theorem State.setRing_out (s : State) (n : Nat) (x : Ring) : (s.setRing n x).out = s.out := rfl
@[simp] theorem State.setRing_dev (s : State) (n : Nat) (x : Ring) : (s.setRing n x).dev = s.dev := rfl
@[simp] theorem State.setRing_q (s : State) (n : Nat) (x : Ring) : (s.setRing n x).q = s.q := rfl
@[simp] theorem State.setRing_evt (s : State) (n : Nat) (x : Ring) : (s.setRing n x).evt = s.evt := rfl
@[simp] theorem State.setRing_flt (s : State) (n : Nat) (x : Ring) : (s.setRing n x).flt = s.flt := rfl
@[simp] theorem State.setRing_ldg (s : State) (n : Nat) (x : Ring) : (s.setRing n x).ldg = s.ldg := rfl
@[simp] theorem State.setRing_ports (s : State) (n : Nat) (x : Ring) : (s.setRing n x).ports = s.ports := rfl
@[simp] theorem State.setRing_tb (s : State) (n : Nat) (x : Ring) : (s.setRing n x).tb = s.tb := rfl
@[simp] theorem State.setRing_domReq (s : State) (n : Nat) (x : Ring) : (s.setRing n x).domReq = s.domReq := rfl
@[simp] theorem State.setRing_eng (s : State) (n : Nat) (x : Ring) : (s.setRing n x).eng = s.eng := rfl
@[simp] theorem State.setRing_thrs (s : State) (n : Nat) (x : Ring) : (s.setRing n x).thrs = s.thrs := rfl
@[simp] theorem State.setRing_dram (s : State) (n : Nat) (x : Ring) : (s.setRing n x).dram = s.dram := rfl
@[simp] theorem State.setRing_dec (s : State) (n : Nat) (x : Ring) : (s.setRing n x).dec = s.dec := rfl
@[simp] theorem State.setRing_links (s : State) (n : Nat) (x : Ring) : (s.setRing n x).links = s.links := rfl
@[simp] theorem State.setRing_casc (s : State) (n : Nat) (x : Ring) : (s.setRing n x).casc = s.casc := rfl
@[simp] theorem State.setRing_trg (s : State) (n : Nat) (x : Ring) : (s.setRing n x).trg = s.trg := rfl
@[simp] theorem State.setRing_acq (s : State) (n : Nat) (x : Ring) : (s.setRing n x).acq = s.acq := rfl
@[simp] theorem State.setRing_hst (s : State) (n : Nat) (x : Ring) : (s.setRing n x).hst = s.hst := rfl
@[simp] theorem State.setRing_flash (s : State) (n : Nat) (x : Ring) : (s.setRing n x).flash = s.flash := rfl
@[simp] theorem State.setRing_boot (s : State) (n : Nat) (x : Ring) : (s.setRing n x).boot = s.boot := rfl
@[simp] theorem State.setRing_rg (s : State) (n : Nat) (x : Ring) (r' : Reg) (i' j' : Nat) : (s.setRing n x).rg r' i' j' = s.rg r' i' j' := rfl
@[simp] theorem State.setRing_fd (s : State) (n : Nat) (x : Ring) (f' : Fld) (i' j' : Nat) : (s.setRing n x).fd f' i' j' = s.fd f' i' j' := rfl

/-! ### State.setDrive -/

@[simp] theorem State.setDrive_pending (s : State) (n : Nat) (x : Drive) : (s.setDrive n x).pending = s.pending := rfl
@[simp] theorem State.setDrive_freeCtr (s : State) (n : Nat) (x : Drive) : (s.setDrive n x).freeCtr = s.freeCtr := rfl
@[simp] theorem State.setDrive_time (s : State) (n : Nat) (x : Drive) : (s.setDrive n x).time = s.time := rfl
@[simp] theorem State.setDrive_up (s : State) (n : Nat) (x : Drive) : (s.setDrive n x).up = s.up := rfl
@[simp] theorem State.setDrive_regs (s : State) (n : Nat) (x : Drive) : (s.setDrive n x).regs = s.regs := rfl
@[simp] theorem State.setDrive_pairs (s : State) (n : Nat) (x : Drive) : (s.setDrive n x).pairs = s.pairs := rfl
@[simp] theorem State.setDrive_out (s : State) (n : Nat) (x : Drive) : (s.setDrive n x).out = s.out := rfl
@[simp] theorem State.setDrive_dev (s : State) (n : Nat) (x : Drive) : (s.setDrive n x).dev = s.dev := rfl
@[simp] theorem State.setDrive_q (s : State) (n : Nat) (x : Drive) : (s.setDrive n x).q = s.q := rfl
@[simp] theorem State.setDrive_evt (s : State) (n : Nat) (x : Drive) : (s.setDrive n x).evt = s.evt := rfl
@[simp] theorem State.setDrive_flt (s : State) (n : Nat) (x : Drive) : (s.setDrive n x).flt = s.flt := rfl
@[simp] theorem State.setDrive_ldg (s : State) (n : Nat) (x : Drive) : (s.setDrive n x).ldg = s.ldg := rfl
@[simp] theorem State.setDrive_ports (s : State) (n : Nat) (x : Drive) : (s.setDrive n x).ports = s.ports := rfl
@[simp] theorem State.setDrive_tb (s : State) (n : Nat) (x : Drive) : (s.setDrive n x).tb = s.tb := rfl
@[simp] theorem State.setDrive_domReq (s : State) (n : Nat) (x : Drive) : (s.setDrive n x).domReq = s.domReq := rfl
@[simp] theorem State.setDrive_eng (s : State) (n : Nat) (x : Drive) : (s.setDrive n x).eng = s.eng := rfl
@[simp] theorem State.setDrive_thrs (s : State) (n : Nat) (x : Drive) : (s.setDrive n x).thrs = s.thrs := rfl
@[simp] theorem State.setDrive_dram (s : State) (n : Nat) (x : Drive) : (s.setDrive n x).dram = s.dram := rfl
@[simp] theorem State.setDrive_dec (s : State) (n : Nat) (x : Drive) : (s.setDrive n x).dec = s.dec := rfl
@[simp] theorem State.setDrive_links (s : State) (n : Nat) (x : Drive) : (s.setDrive n x).links = s.links := rfl
@[simp] theorem State.setDrive_casc (s : State) (n : Nat) (x : Drive) : (s.setDrive n x).casc = s.casc := rfl
@[simp] theorem State.setDrive_trg (s : State) (n : Nat) (x : Drive) : (s.setDrive n x).trg = s.trg := rfl
@[simp] theorem State.setDrive_acq (s : State) (n : Nat) (x : Drive) : (s.setDrive n x).acq = s.acq := rfl
@[simp] theorem State.setDrive_hst (s : State) (n : Nat) (x : Drive) : (s.setDrive n x).hst = s.hst := rfl
@[simp] theorem State.setDrive_flash (s : State) (n : Nat) (x : Drive) : (s.setDrive n x).flash = s.flash := rfl
@[simp] theorem State.setDrive_boot (s : State) (n : Nat) (x : Drive) : (s.setDrive n x).boot = s.boot := rfl
@[simp] theorem State.setDrive_rg (s : State) (n : Nat) (x : Drive) (r' : Reg) (i' j' : Nat) : (s.setDrive n x).rg r' i' j' = s.rg r' i' j' := rfl
@[simp] theorem State.setDrive_fd (s : State) (n : Nat) (x : Drive) (f' : Fld) (i' j' : Nat) : (s.setDrive n x).fd f' i' j' = s.fd f' i' j' := rfl

/-! ### State.setVec -/

@[simp] theorem State.setVec_pending (s : State) (n : Nat) (x : VecSt) : (s.setVec n x).pending = s.pending := rfl
@[simp] theorem State.setVec_freeCtr (s : State) (n : Nat) (x : VecSt) : (s.setVec n x).freeCtr = s.freeCtr := rfl
@[simp] theorem State.setVec_time (s : State) (n : Nat) (x : VecSt) : (s.setVec n x).time = s.time := rfl
@[simp] theorem State.setVec_up (s : State) (n : Nat) (x : VecSt) : (s.setVec n x).up = s.up := rfl
@[simp] theorem State.setVec_regs (s : State) (n : Nat) (x : VecSt) : (s.setVec n x).regs = s.regs := rfl
@[simp] theorem State.setVec_pairs (s : State) (n : Nat) (x : VecSt) : (s.setVec n x).pairs = s.pairs := rfl
@[simp] theorem State.setVec_out (s : State) (n : Nat) (x : VecSt) : (s.setVec n x).out = s.out := rfl
@[simp] theorem State.setVec_dev (s : State) (n : Nat) (x : VecSt) : (s.setVec n x).dev = s.dev := rfl
@[simp] theorem State.setVec_q (s : State) (n : Nat) (x : VecSt) : (s.setVec n x).q = s.q := rfl
@[simp] theorem State.setVec_flt (s : State) (n : Nat) (x : VecSt) : (s.setVec n x).flt = s.flt := rfl
@[simp] theorem State.setVec_ldg (s : State) (n : Nat) (x : VecSt) : (s.setVec n x).ldg = s.ldg := rfl
@[simp] theorem State.setVec_ports (s : State) (n : Nat) (x : VecSt) : (s.setVec n x).ports = s.ports := rfl
@[simp] theorem State.setVec_tb (s : State) (n : Nat) (x : VecSt) : (s.setVec n x).tb = s.tb := rfl
@[simp] theorem State.setVec_domReq (s : State) (n : Nat) (x : VecSt) : (s.setVec n x).domReq = s.domReq := rfl
@[simp] theorem State.setVec_eng (s : State) (n : Nat) (x : VecSt) : (s.setVec n x).eng = s.eng := rfl
@[simp] theorem State.setVec_thrs (s : State) (n : Nat) (x : VecSt) : (s.setVec n x).thrs = s.thrs := rfl
@[simp] theorem State.setVec_dram (s : State) (n : Nat) (x : VecSt) : (s.setVec n x).dram = s.dram := rfl
@[simp] theorem State.setVec_dec (s : State) (n : Nat) (x : VecSt) : (s.setVec n x).dec = s.dec := rfl
@[simp] theorem State.setVec_links (s : State) (n : Nat) (x : VecSt) : (s.setVec n x).links = s.links := rfl
@[simp] theorem State.setVec_casc (s : State) (n : Nat) (x : VecSt) : (s.setVec n x).casc = s.casc := rfl
@[simp] theorem State.setVec_trg (s : State) (n : Nat) (x : VecSt) : (s.setVec n x).trg = s.trg := rfl
@[simp] theorem State.setVec_acq (s : State) (n : Nat) (x : VecSt) : (s.setVec n x).acq = s.acq := rfl
@[simp] theorem State.setVec_store (s : State) (n : Nat) (x : VecSt) : (s.setVec n x).store = s.store := rfl
@[simp] theorem State.setVec_hst (s : State) (n : Nat) (x : VecSt) : (s.setVec n x).hst = s.hst := rfl
@[simp] theorem State.setVec_flash (s : State) (n : Nat) (x : VecSt) : (s.setVec n x).flash = s.flash := rfl
@[simp] theorem State.setVec_boot (s : State) (n : Nat) (x : VecSt) : (s.setVec n x).boot = s.boot := rfl
@[simp] theorem State.setVec_rg (s : State) (n : Nat) (x : VecSt) (r' : Reg) (i' j' : Nat) : (s.setVec n x).rg r' i' j' = s.rg r' i' j' := rfl
@[simp] theorem State.setVec_fd (s : State) (n : Nat) (x : VecSt) (f' : Fld) (i' j' : Nat) : (s.setVec n x).fd f' i' j' = s.fd f' i' j' := rfl

/-! ### State.setFrec -/

@[simp] theorem State.setFrec_pending (s : State) (n : Nat) (x : Option FaultRec) : (s.setFrec n x).pending = s.pending := rfl
@[simp] theorem State.setFrec_freeCtr (s : State) (n : Nat) (x : Option FaultRec) : (s.setFrec n x).freeCtr = s.freeCtr := rfl
@[simp] theorem State.setFrec_time (s : State) (n : Nat) (x : Option FaultRec) : (s.setFrec n x).time = s.time := rfl
@[simp] theorem State.setFrec_up (s : State) (n : Nat) (x : Option FaultRec) : (s.setFrec n x).up = s.up := rfl
@[simp] theorem State.setFrec_regs (s : State) (n : Nat) (x : Option FaultRec) : (s.setFrec n x).regs = s.regs := rfl
@[simp] theorem State.setFrec_pairs (s : State) (n : Nat) (x : Option FaultRec) : (s.setFrec n x).pairs = s.pairs := rfl
@[simp] theorem State.setFrec_out (s : State) (n : Nat) (x : Option FaultRec) : (s.setFrec n x).out = s.out := rfl
@[simp] theorem State.setFrec_dev (s : State) (n : Nat) (x : Option FaultRec) : (s.setFrec n x).dev = s.dev := rfl
@[simp] theorem State.setFrec_q (s : State) (n : Nat) (x : Option FaultRec) : (s.setFrec n x).q = s.q := rfl
@[simp] theorem State.setFrec_evt (s : State) (n : Nat) (x : Option FaultRec) : (s.setFrec n x).evt = s.evt := rfl
@[simp] theorem State.setFrec_ldg (s : State) (n : Nat) (x : Option FaultRec) : (s.setFrec n x).ldg = s.ldg := rfl
@[simp] theorem State.setFrec_ports (s : State) (n : Nat) (x : Option FaultRec) : (s.setFrec n x).ports = s.ports := rfl
@[simp] theorem State.setFrec_tb (s : State) (n : Nat) (x : Option FaultRec) : (s.setFrec n x).tb = s.tb := rfl
@[simp] theorem State.setFrec_domReq (s : State) (n : Nat) (x : Option FaultRec) : (s.setFrec n x).domReq = s.domReq := rfl
@[simp] theorem State.setFrec_eng (s : State) (n : Nat) (x : Option FaultRec) : (s.setFrec n x).eng = s.eng := rfl
@[simp] theorem State.setFrec_thrs (s : State) (n : Nat) (x : Option FaultRec) : (s.setFrec n x).thrs = s.thrs := rfl
@[simp] theorem State.setFrec_dram (s : State) (n : Nat) (x : Option FaultRec) : (s.setFrec n x).dram = s.dram := rfl
@[simp] theorem State.setFrec_dec (s : State) (n : Nat) (x : Option FaultRec) : (s.setFrec n x).dec = s.dec := rfl
@[simp] theorem State.setFrec_links (s : State) (n : Nat) (x : Option FaultRec) : (s.setFrec n x).links = s.links := rfl
@[simp] theorem State.setFrec_casc (s : State) (n : Nat) (x : Option FaultRec) : (s.setFrec n x).casc = s.casc := rfl
@[simp] theorem State.setFrec_trg (s : State) (n : Nat) (x : Option FaultRec) : (s.setFrec n x).trg = s.trg := rfl
@[simp] theorem State.setFrec_acq (s : State) (n : Nat) (x : Option FaultRec) : (s.setFrec n x).acq = s.acq := rfl
@[simp] theorem State.setFrec_store (s : State) (n : Nat) (x : Option FaultRec) : (s.setFrec n x).store = s.store := rfl
@[simp] theorem State.setFrec_hst (s : State) (n : Nat) (x : Option FaultRec) : (s.setFrec n x).hst = s.hst := rfl
@[simp] theorem State.setFrec_flash (s : State) (n : Nat) (x : Option FaultRec) : (s.setFrec n x).flash = s.flash := rfl
@[simp] theorem State.setFrec_boot (s : State) (n : Nat) (x : Option FaultRec) : (s.setFrec n x).boot = s.boot := rfl
@[simp] theorem State.setFrec_rg (s : State) (n : Nat) (x : Option FaultRec) (r' : Reg) (i' j' : Nat) : (s.setFrec n x).rg r' i' j' = s.rg r' i' j' := rfl
@[simp] theorem State.setFrec_fd (s : State) (n : Nat) (x : Option FaultRec) (f' : Fld) (i' j' : Nat) : (s.setFrec n x).fd f' i' j' = s.fd f' i' j' := rfl

/-! ### State.setHst -/

@[simp] theorem State.setHst_pending (s : State) (f : HostSt → HostSt) : (s.setHst f).pending = s.pending := rfl
@[simp] theorem State.setHst_freeCtr (s : State) (f : HostSt → HostSt) : (s.setHst f).freeCtr = s.freeCtr := rfl
@[simp] theorem State.setHst_time (s : State) (f : HostSt → HostSt) : (s.setHst f).time = s.time := rfl
@[simp] theorem State.setHst_up (s : State) (f : HostSt → HostSt) : (s.setHst f).up = s.up := rfl
@[simp] theorem State.setHst_regs (s : State) (f : HostSt → HostSt) : (s.setHst f).regs = s.regs := rfl
@[simp] theorem State.setHst_pairs (s : State) (f : HostSt → HostSt) : (s.setHst f).pairs = s.pairs := rfl
@[simp] theorem State.setHst_out (s : State) (f : HostSt → HostSt) : (s.setHst f).out = s.out := rfl
@[simp] theorem State.setHst_dev (s : State) (f : HostSt → HostSt) : (s.setHst f).dev = s.dev := rfl
@[simp] theorem State.setHst_q (s : State) (f : HostSt → HostSt) : (s.setHst f).q = s.q := rfl
@[simp] theorem State.setHst_evt (s : State) (f : HostSt → HostSt) : (s.setHst f).evt = s.evt := rfl
@[simp] theorem State.setHst_flt (s : State) (f : HostSt → HostSt) : (s.setHst f).flt = s.flt := rfl
@[simp] theorem State.setHst_ldg (s : State) (f : HostSt → HostSt) : (s.setHst f).ldg = s.ldg := rfl
@[simp] theorem State.setHst_ports (s : State) (f : HostSt → HostSt) : (s.setHst f).ports = s.ports := rfl
@[simp] theorem State.setHst_tb (s : State) (f : HostSt → HostSt) : (s.setHst f).tb = s.tb := rfl
@[simp] theorem State.setHst_domReq (s : State) (f : HostSt → HostSt) : (s.setHst f).domReq = s.domReq := rfl
@[simp] theorem State.setHst_eng (s : State) (f : HostSt → HostSt) : (s.setHst f).eng = s.eng := rfl
@[simp] theorem State.setHst_thrs (s : State) (f : HostSt → HostSt) : (s.setHst f).thrs = s.thrs := rfl
@[simp] theorem State.setHst_dram (s : State) (f : HostSt → HostSt) : (s.setHst f).dram = s.dram := rfl
@[simp] theorem State.setHst_dec (s : State) (f : HostSt → HostSt) : (s.setHst f).dec = s.dec := rfl
@[simp] theorem State.setHst_links (s : State) (f : HostSt → HostSt) : (s.setHst f).links = s.links := rfl
@[simp] theorem State.setHst_casc (s : State) (f : HostSt → HostSt) : (s.setHst f).casc = s.casc := rfl
@[simp] theorem State.setHst_trg (s : State) (f : HostSt → HostSt) : (s.setHst f).trg = s.trg := rfl
@[simp] theorem State.setHst_acq (s : State) (f : HostSt → HostSt) : (s.setHst f).acq = s.acq := rfl
@[simp] theorem State.setHst_store (s : State) (f : HostSt → HostSt) : (s.setHst f).store = s.store := rfl
@[simp] theorem State.setHst_flash (s : State) (f : HostSt → HostSt) : (s.setHst f).flash = s.flash := rfl
@[simp] theorem State.setHst_boot (s : State) (f : HostSt → HostSt) : (s.setHst f).boot = s.boot := rfl
@[simp] theorem State.setHst_rg (s : State) (f : HostSt → HostSt) (r' : Reg) (i' j' : Nat) : (s.setHst f).rg r' i' j' = s.rg r' i' j' := rfl
@[simp] theorem State.setHst_fd (s : State) (f : HostSt → HostSt) (f' : Fld) (i' j' : Nat) : (s.setHst f).fd f' i' j' = s.fd f' i' j' := rfl

/-! ### State.setHring -/

@[simp] theorem State.setHring_pending (s : State) (n : Nat) (x : HRing) : (s.setHring n x).pending = s.pending := rfl
@[simp] theorem State.setHring_freeCtr (s : State) (n : Nat) (x : HRing) : (s.setHring n x).freeCtr = s.freeCtr := rfl
@[simp] theorem State.setHring_time (s : State) (n : Nat) (x : HRing) : (s.setHring n x).time = s.time := rfl
@[simp] theorem State.setHring_up (s : State) (n : Nat) (x : HRing) : (s.setHring n x).up = s.up := rfl
@[simp] theorem State.setHring_regs (s : State) (n : Nat) (x : HRing) : (s.setHring n x).regs = s.regs := rfl
@[simp] theorem State.setHring_pairs (s : State) (n : Nat) (x : HRing) : (s.setHring n x).pairs = s.pairs := rfl
@[simp] theorem State.setHring_out (s : State) (n : Nat) (x : HRing) : (s.setHring n x).out = s.out := rfl
@[simp] theorem State.setHring_dev (s : State) (n : Nat) (x : HRing) : (s.setHring n x).dev = s.dev := rfl
@[simp] theorem State.setHring_q (s : State) (n : Nat) (x : HRing) : (s.setHring n x).q = s.q := rfl
@[simp] theorem State.setHring_evt (s : State) (n : Nat) (x : HRing) : (s.setHring n x).evt = s.evt := rfl
@[simp] theorem State.setHring_flt (s : State) (n : Nat) (x : HRing) : (s.setHring n x).flt = s.flt := rfl
@[simp] theorem State.setHring_ldg (s : State) (n : Nat) (x : HRing) : (s.setHring n x).ldg = s.ldg := rfl
@[simp] theorem State.setHring_ports (s : State) (n : Nat) (x : HRing) : (s.setHring n x).ports = s.ports := rfl
@[simp] theorem State.setHring_tb (s : State) (n : Nat) (x : HRing) : (s.setHring n x).tb = s.tb := rfl
@[simp] theorem State.setHring_domReq (s : State) (n : Nat) (x : HRing) : (s.setHring n x).domReq = s.domReq := rfl
@[simp] theorem State.setHring_eng (s : State) (n : Nat) (x : HRing) : (s.setHring n x).eng = s.eng := rfl
@[simp] theorem State.setHring_thrs (s : State) (n : Nat) (x : HRing) : (s.setHring n x).thrs = s.thrs := rfl
@[simp] theorem State.setHring_dram (s : State) (n : Nat) (x : HRing) : (s.setHring n x).dram = s.dram := rfl
@[simp] theorem State.setHring_dec (s : State) (n : Nat) (x : HRing) : (s.setHring n x).dec = s.dec := rfl
@[simp] theorem State.setHring_links (s : State) (n : Nat) (x : HRing) : (s.setHring n x).links = s.links := rfl
@[simp] theorem State.setHring_casc (s : State) (n : Nat) (x : HRing) : (s.setHring n x).casc = s.casc := rfl
@[simp] theorem State.setHring_trg (s : State) (n : Nat) (x : HRing) : (s.setHring n x).trg = s.trg := rfl
@[simp] theorem State.setHring_acq (s : State) (n : Nat) (x : HRing) : (s.setHring n x).acq = s.acq := rfl
@[simp] theorem State.setHring_store (s : State) (n : Nat) (x : HRing) : (s.setHring n x).store = s.store := rfl
@[simp] theorem State.setHring_flash (s : State) (n : Nat) (x : HRing) : (s.setHring n x).flash = s.flash := rfl
@[simp] theorem State.setHring_boot (s : State) (n : Nat) (x : HRing) : (s.setHring n x).boot = s.boot := rfl
@[simp] theorem State.setHring_rg (s : State) (n : Nat) (x : HRing) (r' : Reg) (i' j' : Nat) : (s.setHring n x).rg r' i' j' = s.rg r' i' j' := rfl
@[simp] theorem State.setHring_fd (s : State) (n : Nat) (x : HRing) (f' : Fld) (i' j' : Nat) : (s.setHring n x).fd f' i' j' = s.fd f' i' j' := rfl

/-! ### State.setLink -/

@[simp] theorem State.setLink_pending (s : State) (n : Nat) (x : Link) : (s.setLink n x).pending = s.pending := rfl
@[simp] theorem State.setLink_freeCtr (s : State) (n : Nat) (x : Link) : (s.setLink n x).freeCtr = s.freeCtr := rfl
@[simp] theorem State.setLink_time (s : State) (n : Nat) (x : Link) : (s.setLink n x).time = s.time := rfl
@[simp] theorem State.setLink_up (s : State) (n : Nat) (x : Link) : (s.setLink n x).up = s.up := rfl
@[simp] theorem State.setLink_regs (s : State) (n : Nat) (x : Link) : (s.setLink n x).regs = s.regs := rfl
@[simp] theorem State.setLink_pairs (s : State) (n : Nat) (x : Link) : (s.setLink n x).pairs = s.pairs := rfl
@[simp] theorem State.setLink_out (s : State) (n : Nat) (x : Link) : (s.setLink n x).out = s.out := rfl
@[simp] theorem State.setLink_dev (s : State) (n : Nat) (x : Link) : (s.setLink n x).dev = s.dev := rfl
@[simp] theorem State.setLink_q (s : State) (n : Nat) (x : Link) : (s.setLink n x).q = s.q := rfl
@[simp] theorem State.setLink_evt (s : State) (n : Nat) (x : Link) : (s.setLink n x).evt = s.evt := rfl
@[simp] theorem State.setLink_flt (s : State) (n : Nat) (x : Link) : (s.setLink n x).flt = s.flt := rfl
@[simp] theorem State.setLink_ldg (s : State) (n : Nat) (x : Link) : (s.setLink n x).ldg = s.ldg := rfl
@[simp] theorem State.setLink_ports (s : State) (n : Nat) (x : Link) : (s.setLink n x).ports = s.ports := rfl
@[simp] theorem State.setLink_tb (s : State) (n : Nat) (x : Link) : (s.setLink n x).tb = s.tb := rfl
@[simp] theorem State.setLink_domReq (s : State) (n : Nat) (x : Link) : (s.setLink n x).domReq = s.domReq := rfl
@[simp] theorem State.setLink_eng (s : State) (n : Nat) (x : Link) : (s.setLink n x).eng = s.eng := rfl
@[simp] theorem State.setLink_thrs (s : State) (n : Nat) (x : Link) : (s.setLink n x).thrs = s.thrs := rfl
@[simp] theorem State.setLink_dram (s : State) (n : Nat) (x : Link) : (s.setLink n x).dram = s.dram := rfl
@[simp] theorem State.setLink_dec (s : State) (n : Nat) (x : Link) : (s.setLink n x).dec = s.dec := rfl
@[simp] theorem State.setLink_casc (s : State) (n : Nat) (x : Link) : (s.setLink n x).casc = s.casc := rfl
@[simp] theorem State.setLink_trg (s : State) (n : Nat) (x : Link) : (s.setLink n x).trg = s.trg := rfl
@[simp] theorem State.setLink_acq (s : State) (n : Nat) (x : Link) : (s.setLink n x).acq = s.acq := rfl
@[simp] theorem State.setLink_store (s : State) (n : Nat) (x : Link) : (s.setLink n x).store = s.store := rfl
@[simp] theorem State.setLink_hst (s : State) (n : Nat) (x : Link) : (s.setLink n x).hst = s.hst := rfl
@[simp] theorem State.setLink_flash (s : State) (n : Nat) (x : Link) : (s.setLink n x).flash = s.flash := rfl
@[simp] theorem State.setLink_boot (s : State) (n : Nat) (x : Link) : (s.setLink n x).boot = s.boot := rfl
@[simp] theorem State.setLink_rg (s : State) (n : Nat) (x : Link) (r' : Reg) (i' j' : Nat) : (s.setLink n x).rg r' i' j' = s.rg r' i' j' := rfl
@[simp] theorem State.setLink_fd (s : State) (n : Nat) (x : Link) (f' : Fld) (i' j' : Nat) : (s.setLink n x).fd f' i' j' = s.fd f' i' j' := rfl

/-! ### State.setPip -/

@[simp] theorem State.setPip_pending (s : State) (n : Nat) (x : Pip) : (s.setPip n x).pending = s.pending := rfl
@[simp] theorem State.setPip_freeCtr (s : State) (n : Nat) (x : Pip) : (s.setPip n x).freeCtr = s.freeCtr := rfl
@[simp] theorem State.setPip_time (s : State) (n : Nat) (x : Pip) : (s.setPip n x).time = s.time := rfl
@[simp] theorem State.setPip_up (s : State) (n : Nat) (x : Pip) : (s.setPip n x).up = s.up := rfl
@[simp] theorem State.setPip_regs (s : State) (n : Nat) (x : Pip) : (s.setPip n x).regs = s.regs := rfl
@[simp] theorem State.setPip_pairs (s : State) (n : Nat) (x : Pip) : (s.setPip n x).pairs = s.pairs := rfl
@[simp] theorem State.setPip_out (s : State) (n : Nat) (x : Pip) : (s.setPip n x).out = s.out := rfl
@[simp] theorem State.setPip_dev (s : State) (n : Nat) (x : Pip) : (s.setPip n x).dev = s.dev := rfl
@[simp] theorem State.setPip_q (s : State) (n : Nat) (x : Pip) : (s.setPip n x).q = s.q := rfl
@[simp] theorem State.setPip_evt (s : State) (n : Nat) (x : Pip) : (s.setPip n x).evt = s.evt := rfl
@[simp] theorem State.setPip_flt (s : State) (n : Nat) (x : Pip) : (s.setPip n x).flt = s.flt := rfl
@[simp] theorem State.setPip_ldg (s : State) (n : Nat) (x : Pip) : (s.setPip n x).ldg = s.ldg := rfl
@[simp] theorem State.setPip_ports (s : State) (n : Nat) (x : Pip) : (s.setPip n x).ports = s.ports := rfl
@[simp] theorem State.setPip_tb (s : State) (n : Nat) (x : Pip) : (s.setPip n x).tb = s.tb := rfl
@[simp] theorem State.setPip_domReq (s : State) (n : Nat) (x : Pip) : (s.setPip n x).domReq = s.domReq := rfl
@[simp] theorem State.setPip_eng (s : State) (n : Nat) (x : Pip) : (s.setPip n x).eng = s.eng := rfl
@[simp] theorem State.setPip_thrs (s : State) (n : Nat) (x : Pip) : (s.setPip n x).thrs = s.thrs := rfl
@[simp] theorem State.setPip_dram (s : State) (n : Nat) (x : Pip) : (s.setPip n x).dram = s.dram := rfl
@[simp] theorem State.setPip_dec (s : State) (n : Nat) (x : Pip) : (s.setPip n x).dec = s.dec := rfl
@[simp] theorem State.setPip_links (s : State) (n : Nat) (x : Pip) : (s.setPip n x).links = s.links := rfl
@[simp] theorem State.setPip_casc (s : State) (n : Nat) (x : Pip) : (s.setPip n x).casc = s.casc := rfl
@[simp] theorem State.setPip_acq (s : State) (n : Nat) (x : Pip) : (s.setPip n x).acq = s.acq := rfl
@[simp] theorem State.setPip_store (s : State) (n : Nat) (x : Pip) : (s.setPip n x).store = s.store := rfl
@[simp] theorem State.setPip_hst (s : State) (n : Nat) (x : Pip) : (s.setPip n x).hst = s.hst := rfl
@[simp] theorem State.setPip_flash (s : State) (n : Nat) (x : Pip) : (s.setPip n x).flash = s.flash := rfl
@[simp] theorem State.setPip_boot (s : State) (n : Nat) (x : Pip) : (s.setPip n x).boot = s.boot := rfl
@[simp] theorem State.setPip_rg (s : State) (n : Nat) (x : Pip) (r' : Reg) (i' j' : Nat) : (s.setPip n x).rg r' i' j' = s.rg r' i' j' := rfl
@[simp] theorem State.setPip_fd (s : State) (n : Nat) (x : Pip) (f' : Fld) (i' j' : Nat) : (s.setPip n x).fd f' i' j' = s.fd f' i' j' := rfl

/-! ### State.setTrigPin -/

@[simp] theorem State.setTrigPin_pending (s : State) (n : Nat) (x : TrigPin) : (s.setTrigPin n x).pending = s.pending := rfl
@[simp] theorem State.setTrigPin_freeCtr (s : State) (n : Nat) (x : TrigPin) : (s.setTrigPin n x).freeCtr = s.freeCtr := rfl
@[simp] theorem State.setTrigPin_time (s : State) (n : Nat) (x : TrigPin) : (s.setTrigPin n x).time = s.time := rfl
@[simp] theorem State.setTrigPin_up (s : State) (n : Nat) (x : TrigPin) : (s.setTrigPin n x).up = s.up := rfl
@[simp] theorem State.setTrigPin_regs (s : State) (n : Nat) (x : TrigPin) : (s.setTrigPin n x).regs = s.regs := rfl
@[simp] theorem State.setTrigPin_pairs (s : State) (n : Nat) (x : TrigPin) : (s.setTrigPin n x).pairs = s.pairs := rfl
@[simp] theorem State.setTrigPin_out (s : State) (n : Nat) (x : TrigPin) : (s.setTrigPin n x).out = s.out := rfl
@[simp] theorem State.setTrigPin_dev (s : State) (n : Nat) (x : TrigPin) : (s.setTrigPin n x).dev = s.dev := rfl
@[simp] theorem State.setTrigPin_q (s : State) (n : Nat) (x : TrigPin) : (s.setTrigPin n x).q = s.q := rfl
@[simp] theorem State.setTrigPin_evt (s : State) (n : Nat) (x : TrigPin) : (s.setTrigPin n x).evt = s.evt := rfl
@[simp] theorem State.setTrigPin_flt (s : State) (n : Nat) (x : TrigPin) : (s.setTrigPin n x).flt = s.flt := rfl
@[simp] theorem State.setTrigPin_ldg (s : State) (n : Nat) (x : TrigPin) : (s.setTrigPin n x).ldg = s.ldg := rfl
@[simp] theorem State.setTrigPin_ports (s : State) (n : Nat) (x : TrigPin) : (s.setTrigPin n x).ports = s.ports := rfl
@[simp] theorem State.setTrigPin_tb (s : State) (n : Nat) (x : TrigPin) : (s.setTrigPin n x).tb = s.tb := rfl
@[simp] theorem State.setTrigPin_domReq (s : State) (n : Nat) (x : TrigPin) : (s.setTrigPin n x).domReq = s.domReq := rfl
@[simp] theorem State.setTrigPin_eng (s : State) (n : Nat) (x : TrigPin) : (s.setTrigPin n x).eng = s.eng := rfl
@[simp] theorem State.setTrigPin_thrs (s : State) (n : Nat) (x : TrigPin) : (s.setTrigPin n x).thrs = s.thrs := rfl
@[simp] theorem State.setTrigPin_dram (s : State) (n : Nat) (x : TrigPin) : (s.setTrigPin n x).dram = s.dram := rfl
@[simp] theorem State.setTrigPin_dec (s : State) (n : Nat) (x : TrigPin) : (s.setTrigPin n x).dec = s.dec := rfl
@[simp] theorem State.setTrigPin_links (s : State) (n : Nat) (x : TrigPin) : (s.setTrigPin n x).links = s.links := rfl
@[simp] theorem State.setTrigPin_casc (s : State) (n : Nat) (x : TrigPin) : (s.setTrigPin n x).casc = s.casc := rfl
@[simp] theorem State.setTrigPin_acq (s : State) (n : Nat) (x : TrigPin) : (s.setTrigPin n x).acq = s.acq := rfl
@[simp] theorem State.setTrigPin_store (s : State) (n : Nat) (x : TrigPin) : (s.setTrigPin n x).store = s.store := rfl
@[simp] theorem State.setTrigPin_hst (s : State) (n : Nat) (x : TrigPin) : (s.setTrigPin n x).hst = s.hst := rfl
@[simp] theorem State.setTrigPin_flash (s : State) (n : Nat) (x : TrigPin) : (s.setTrigPin n x).flash = s.flash := rfl
@[simp] theorem State.setTrigPin_boot (s : State) (n : Nat) (x : TrigPin) : (s.setTrigPin n x).boot = s.boot := rfl
@[simp] theorem State.setTrigPin_rg (s : State) (n : Nat) (x : TrigPin) (r' : Reg) (i' j' : Nat) : (s.setTrigPin n x).rg r' i' j' = s.rg r' i' j' := rfl
@[simp] theorem State.setTrigPin_fd (s : State) (n : Nat) (x : TrigPin) (f' : Fld) (i' j' : Nat) : (s.setTrigPin n x).fd f' i' j' = s.fd f' i' j' := rfl

/-! ### State.setAcqU -/

@[simp] theorem State.setAcqU_pending (s : State) (n : Nat) (x : Acq) : (s.setAcqU n x).pending = s.pending := rfl
@[simp] theorem State.setAcqU_freeCtr (s : State) (n : Nat) (x : Acq) : (s.setAcqU n x).freeCtr = s.freeCtr := rfl
@[simp] theorem State.setAcqU_time (s : State) (n : Nat) (x : Acq) : (s.setAcqU n x).time = s.time := rfl
@[simp] theorem State.setAcqU_up (s : State) (n : Nat) (x : Acq) : (s.setAcqU n x).up = s.up := rfl
@[simp] theorem State.setAcqU_regs (s : State) (n : Nat) (x : Acq) : (s.setAcqU n x).regs = s.regs := rfl
@[simp] theorem State.setAcqU_pairs (s : State) (n : Nat) (x : Acq) : (s.setAcqU n x).pairs = s.pairs := rfl
@[simp] theorem State.setAcqU_out (s : State) (n : Nat) (x : Acq) : (s.setAcqU n x).out = s.out := rfl
@[simp] theorem State.setAcqU_dev (s : State) (n : Nat) (x : Acq) : (s.setAcqU n x).dev = s.dev := rfl
@[simp] theorem State.setAcqU_q (s : State) (n : Nat) (x : Acq) : (s.setAcqU n x).q = s.q := rfl
@[simp] theorem State.setAcqU_evt (s : State) (n : Nat) (x : Acq) : (s.setAcqU n x).evt = s.evt := rfl
@[simp] theorem State.setAcqU_flt (s : State) (n : Nat) (x : Acq) : (s.setAcqU n x).flt = s.flt := rfl
@[simp] theorem State.setAcqU_ldg (s : State) (n : Nat) (x : Acq) : (s.setAcqU n x).ldg = s.ldg := rfl
@[simp] theorem State.setAcqU_ports (s : State) (n : Nat) (x : Acq) : (s.setAcqU n x).ports = s.ports := rfl
@[simp] theorem State.setAcqU_tb (s : State) (n : Nat) (x : Acq) : (s.setAcqU n x).tb = s.tb := rfl
@[simp] theorem State.setAcqU_domReq (s : State) (n : Nat) (x : Acq) : (s.setAcqU n x).domReq = s.domReq := rfl
@[simp] theorem State.setAcqU_eng (s : State) (n : Nat) (x : Acq) : (s.setAcqU n x).eng = s.eng := rfl
@[simp] theorem State.setAcqU_thrs (s : State) (n : Nat) (x : Acq) : (s.setAcqU n x).thrs = s.thrs := rfl
@[simp] theorem State.setAcqU_dram (s : State) (n : Nat) (x : Acq) : (s.setAcqU n x).dram = s.dram := rfl
@[simp] theorem State.setAcqU_dec (s : State) (n : Nat) (x : Acq) : (s.setAcqU n x).dec = s.dec := rfl
@[simp] theorem State.setAcqU_links (s : State) (n : Nat) (x : Acq) : (s.setAcqU n x).links = s.links := rfl
@[simp] theorem State.setAcqU_casc (s : State) (n : Nat) (x : Acq) : (s.setAcqU n x).casc = s.casc := rfl
@[simp] theorem State.setAcqU_trg (s : State) (n : Nat) (x : Acq) : (s.setAcqU n x).trg = s.trg := rfl
@[simp] theorem State.setAcqU_store (s : State) (n : Nat) (x : Acq) : (s.setAcqU n x).store = s.store := rfl
@[simp] theorem State.setAcqU_hst (s : State) (n : Nat) (x : Acq) : (s.setAcqU n x).hst = s.hst := rfl
@[simp] theorem State.setAcqU_flash (s : State) (n : Nat) (x : Acq) : (s.setAcqU n x).flash = s.flash := rfl
@[simp] theorem State.setAcqU_boot (s : State) (n : Nat) (x : Acq) : (s.setAcqU n x).boot = s.boot := rfl
@[simp] theorem State.setAcqU_rg (s : State) (n : Nat) (x : Acq) (r' : Reg) (i' j' : Nat) : (s.setAcqU n x).rg r' i' j' = s.rg r' i' j' := rfl
@[simp] theorem State.setAcqU_fd (s : State) (n : Nat) (x : Acq) (f' : Fld) (i' j' : Nat) : (s.setAcqU n x).fd f' i' j' = s.fd f' i' j' := rfl

/-! ### State.setPort -/

@[simp] theorem State.setPort_pending (s : State) (n : Nat) (x : Port) : (s.setPort n x).pending = s.pending := rfl
@[simp] theorem State.setPort_freeCtr (s : State) (n : Nat) (x : Port) : (s.setPort n x).freeCtr = s.freeCtr := rfl
@[simp] theorem State.setPort_time (s : State) (n : Nat) (x : Port) : (s.setPort n x).time = s.time := rfl
@[simp] theorem State.setPort_up (s : State) (n : Nat) (x : Port) : (s.setPort n x).up = s.up := rfl
@[simp] theorem State.setPort_regs (s : State) (n : Nat) (x : Port) : (s.setPort n x).regs = s.regs := rfl
@[simp] theorem State.setPort_pairs (s : State) (n : Nat) (x : Port) : (s.setPort n x).pairs = s.pairs := rfl
@[simp] theorem State.setPort_out (s : State) (n : Nat) (x : Port) : (s.setPort n x).out = s.out := rfl
@[simp] theorem State.setPort_dev (s : State) (n : Nat) (x : Port) : (s.setPort n x).dev = s.dev := rfl
@[simp] theorem State.setPort_q (s : State) (n : Nat) (x : Port) : (s.setPort n x).q = s.q := rfl
@[simp] theorem State.setPort_evt (s : State) (n : Nat) (x : Port) : (s.setPort n x).evt = s.evt := rfl
@[simp] theorem State.setPort_flt (s : State) (n : Nat) (x : Port) : (s.setPort n x).flt = s.flt := rfl
@[simp] theorem State.setPort_ldg (s : State) (n : Nat) (x : Port) : (s.setPort n x).ldg = s.ldg := rfl
@[simp] theorem State.setPort_tb (s : State) (n : Nat) (x : Port) : (s.setPort n x).tb = s.tb := rfl
@[simp] theorem State.setPort_domReq (s : State) (n : Nat) (x : Port) : (s.setPort n x).domReq = s.domReq := rfl
@[simp] theorem State.setPort_eng (s : State) (n : Nat) (x : Port) : (s.setPort n x).eng = s.eng := rfl
@[simp] theorem State.setPort_thrs (s : State) (n : Nat) (x : Port) : (s.setPort n x).thrs = s.thrs := rfl
@[simp] theorem State.setPort_dram (s : State) (n : Nat) (x : Port) : (s.setPort n x).dram = s.dram := rfl
@[simp] theorem State.setPort_dec (s : State) (n : Nat) (x : Port) : (s.setPort n x).dec = s.dec := rfl
@[simp] theorem State.setPort_links (s : State) (n : Nat) (x : Port) : (s.setPort n x).links = s.links := rfl
@[simp] theorem State.setPort_casc (s : State) (n : Nat) (x : Port) : (s.setPort n x).casc = s.casc := rfl
@[simp] theorem State.setPort_trg (s : State) (n : Nat) (x : Port) : (s.setPort n x).trg = s.trg := rfl
@[simp] theorem State.setPort_acq (s : State) (n : Nat) (x : Port) : (s.setPort n x).acq = s.acq := rfl
@[simp] theorem State.setPort_store (s : State) (n : Nat) (x : Port) : (s.setPort n x).store = s.store := rfl
@[simp] theorem State.setPort_hst (s : State) (n : Nat) (x : Port) : (s.setPort n x).hst = s.hst := rfl
@[simp] theorem State.setPort_flash (s : State) (n : Nat) (x : Port) : (s.setPort n x).flash = s.flash := rfl
@[simp] theorem State.setPort_boot (s : State) (n : Nat) (x : Port) : (s.setPort n x).boot = s.boot := rfl
@[simp] theorem State.setPort_rg (s : State) (n : Nat) (x : Port) (r' : Reg) (i' j' : Nat) : (s.setPort n x).rg r' i' j' = s.rg r' i' j' := rfl
@[simp] theorem State.setPort_fd (s : State) (n : Nat) (x : Port) (f' : Fld) (i' j' : Nat) : (s.setPort n x).fd f' i' j' = s.fd f' i' j' := rfl

/-! ### State.setQueue -/

@[simp] theorem State.setQueue_pending (s : State) (n : Nat) (x : Queue) : (s.setQueue n x).pending = s.pending := rfl
@[simp] theorem State.setQueue_freeCtr (s : State) (n : Nat) (x : Queue) : (s.setQueue n x).freeCtr = s.freeCtr := rfl
@[simp] theorem State.setQueue_time (s : State) (n : Nat) (x : Queue) : (s.setQueue n x).time = s.time := rfl
@[simp] theorem State.setQueue_up (s : State) (n : Nat) (x : Queue) : (s.setQueue n x).up = s.up := rfl
@[simp] theorem State.setQueue_regs (s : State) (n : Nat) (x : Queue) : (s.setQueue n x).regs = s.regs := rfl
@[simp] theorem State.setQueue_pairs (s : State) (n : Nat) (x : Queue) : (s.setQueue n x).pairs = s.pairs := rfl
@[simp] theorem State.setQueue_out (s : State) (n : Nat) (x : Queue) : (s.setQueue n x).out = s.out := rfl
@[simp] theorem State.setQueue_dev (s : State) (n : Nat) (x : Queue) : (s.setQueue n x).dev = s.dev := rfl
@[simp] theorem State.setQueue_evt (s : State) (n : Nat) (x : Queue) : (s.setQueue n x).evt = s.evt := rfl
@[simp] theorem State.setQueue_flt (s : State) (n : Nat) (x : Queue) : (s.setQueue n x).flt = s.flt := rfl
@[simp] theorem State.setQueue_ldg (s : State) (n : Nat) (x : Queue) : (s.setQueue n x).ldg = s.ldg := rfl
@[simp] theorem State.setQueue_ports (s : State) (n : Nat) (x : Queue) : (s.setQueue n x).ports = s.ports := rfl
@[simp] theorem State.setQueue_tb (s : State) (n : Nat) (x : Queue) : (s.setQueue n x).tb = s.tb := rfl
@[simp] theorem State.setQueue_domReq (s : State) (n : Nat) (x : Queue) : (s.setQueue n x).domReq = s.domReq := rfl
@[simp] theorem State.setQueue_eng (s : State) (n : Nat) (x : Queue) : (s.setQueue n x).eng = s.eng := rfl
@[simp] theorem State.setQueue_thrs (s : State) (n : Nat) (x : Queue) : (s.setQueue n x).thrs = s.thrs := rfl
@[simp] theorem State.setQueue_dram (s : State) (n : Nat) (x : Queue) : (s.setQueue n x).dram = s.dram := rfl
@[simp] theorem State.setQueue_dec (s : State) (n : Nat) (x : Queue) : (s.setQueue n x).dec = s.dec := rfl
@[simp] theorem State.setQueue_links (s : State) (n : Nat) (x : Queue) : (s.setQueue n x).links = s.links := rfl
@[simp] theorem State.setQueue_casc (s : State) (n : Nat) (x : Queue) : (s.setQueue n x).casc = s.casc := rfl
@[simp] theorem State.setQueue_trg (s : State) (n : Nat) (x : Queue) : (s.setQueue n x).trg = s.trg := rfl
@[simp] theorem State.setQueue_acq (s : State) (n : Nat) (x : Queue) : (s.setQueue n x).acq = s.acq := rfl
@[simp] theorem State.setQueue_store (s : State) (n : Nat) (x : Queue) : (s.setQueue n x).store = s.store := rfl
@[simp] theorem State.setQueue_hst (s : State) (n : Nat) (x : Queue) : (s.setQueue n x).hst = s.hst := rfl
@[simp] theorem State.setQueue_flash (s : State) (n : Nat) (x : Queue) : (s.setQueue n x).flash = s.flash := rfl
@[simp] theorem State.setQueue_boot (s : State) (n : Nat) (x : Queue) : (s.setQueue n x).boot = s.boot := rfl
@[simp] theorem State.setQueue_rg (s : State) (n : Nat) (x : Queue) (r' : Reg) (i' j' : Nat) : (s.setQueue n x).rg r' i' j' = s.rg r' i' j' := rfl
@[simp] theorem State.setQueue_fd (s : State) (n : Nat) (x : Queue) (f' : Fld) (i' j' : Nat) : (s.setQueue n x).fd f' i' j' = s.fd f' i' j' := rfl

/-! ### State.setEng -/

@[simp] theorem State.setEng_pending (s : State) (f : Engines → Engines) : (s.setEng f).pending = s.pending := rfl
@[simp] theorem State.setEng_freeCtr (s : State) (f : Engines → Engines) : (s.setEng f).freeCtr = s.freeCtr := rfl
@[simp] theorem State.setEng_time (s : State) (f : Engines → Engines) : (s.setEng f).time = s.time := rfl
@[simp] theorem State.setEng_up (s : State) (f : Engines → Engines) : (s.setEng f).up = s.up := rfl
@[simp] theorem State.setEng_regs (s : State) (f : Engines → Engines) : (s.setEng f).regs = s.regs := rfl
@[simp] theorem State.setEng_pairs (s : State) (f : Engines → Engines) : (s.setEng f).pairs = s.pairs := rfl
@[simp] theorem State.setEng_out (s : State) (f : Engines → Engines) : (s.setEng f).out = s.out := rfl
@[simp] theorem State.setEng_dev (s : State) (f : Engines → Engines) : (s.setEng f).dev = s.dev := rfl
@[simp] theorem State.setEng_q (s : State) (f : Engines → Engines) : (s.setEng f).q = s.q := rfl
@[simp] theorem State.setEng_evt (s : State) (f : Engines → Engines) : (s.setEng f).evt = s.evt := rfl
@[simp] theorem State.setEng_flt (s : State) (f : Engines → Engines) : (s.setEng f).flt = s.flt := rfl
@[simp] theorem State.setEng_ldg (s : State) (f : Engines → Engines) : (s.setEng f).ldg = s.ldg := rfl
@[simp] theorem State.setEng_ports (s : State) (f : Engines → Engines) : (s.setEng f).ports = s.ports := rfl
@[simp] theorem State.setEng_tb (s : State) (f : Engines → Engines) : (s.setEng f).tb = s.tb := rfl
@[simp] theorem State.setEng_domReq (s : State) (f : Engines → Engines) : (s.setEng f).domReq = s.domReq := rfl
@[simp] theorem State.setEng_thrs (s : State) (f : Engines → Engines) : (s.setEng f).thrs = s.thrs := rfl
@[simp] theorem State.setEng_dram (s : State) (f : Engines → Engines) : (s.setEng f).dram = s.dram := rfl
@[simp] theorem State.setEng_dec (s : State) (f : Engines → Engines) : (s.setEng f).dec = s.dec := rfl
@[simp] theorem State.setEng_links (s : State) (f : Engines → Engines) : (s.setEng f).links = s.links := rfl
@[simp] theorem State.setEng_casc (s : State) (f : Engines → Engines) : (s.setEng f).casc = s.casc := rfl
@[simp] theorem State.setEng_trg (s : State) (f : Engines → Engines) : (s.setEng f).trg = s.trg := rfl
@[simp] theorem State.setEng_acq (s : State) (f : Engines → Engines) : (s.setEng f).acq = s.acq := rfl
@[simp] theorem State.setEng_store (s : State) (f : Engines → Engines) : (s.setEng f).store = s.store := rfl
@[simp] theorem State.setEng_hst (s : State) (f : Engines → Engines) : (s.setEng f).hst = s.hst := rfl
@[simp] theorem State.setEng_flash (s : State) (f : Engines → Engines) : (s.setEng f).flash = s.flash := rfl
@[simp] theorem State.setEng_boot (s : State) (f : Engines → Engines) : (s.setEng f).boot = s.boot := rfl
@[simp] theorem State.setEng_rg (s : State) (f : Engines → Engines) (r' : Reg) (i' j' : Nat) : (s.setEng f).rg r' i' j' = s.rg r' i' j' := rfl
@[simp] theorem State.setEng_fd (s : State) (f : Engines → Engines) (f' : Fld) (i' j' : Nat) : (s.setEng f).fd f' i' j' = s.fd f' i' j' := rfl

/-! ### State.setTask -/

@[simp] theorem State.setTask_pending (s : State) (n : Nat) (x : Option Task) : (s.setTask n x).pending = s.pending := rfl
@[simp] theorem State.setTask_freeCtr (s : State) (n : Nat) (x : Option Task) : (s.setTask n x).freeCtr = s.freeCtr := rfl
@[simp] theorem State.setTask_time (s : State) (n : Nat) (x : Option Task) : (s.setTask n x).time = s.time := rfl
@[simp] theorem State.setTask_up (s : State) (n : Nat) (x : Option Task) : (s.setTask n x).up = s.up := rfl
@[simp] theorem State.setTask_regs (s : State) (n : Nat) (x : Option Task) : (s.setTask n x).regs = s.regs := rfl
@[simp] theorem State.setTask_pairs (s : State) (n : Nat) (x : Option Task) : (s.setTask n x).pairs = s.pairs := rfl
@[simp] theorem State.setTask_out (s : State) (n : Nat) (x : Option Task) : (s.setTask n x).out = s.out := rfl
@[simp] theorem State.setTask_dev (s : State) (n : Nat) (x : Option Task) : (s.setTask n x).dev = s.dev := rfl
@[simp] theorem State.setTask_q (s : State) (n : Nat) (x : Option Task) : (s.setTask n x).q = s.q := rfl
@[simp] theorem State.setTask_evt (s : State) (n : Nat) (x : Option Task) : (s.setTask n x).evt = s.evt := rfl
@[simp] theorem State.setTask_flt (s : State) (n : Nat) (x : Option Task) : (s.setTask n x).flt = s.flt := rfl
@[simp] theorem State.setTask_ldg (s : State) (n : Nat) (x : Option Task) : (s.setTask n x).ldg = s.ldg := rfl
@[simp] theorem State.setTask_ports (s : State) (n : Nat) (x : Option Task) : (s.setTask n x).ports = s.ports := rfl
@[simp] theorem State.setTask_tb (s : State) (n : Nat) (x : Option Task) : (s.setTask n x).tb = s.tb := rfl
@[simp] theorem State.setTask_domReq (s : State) (n : Nat) (x : Option Task) : (s.setTask n x).domReq = s.domReq := rfl
@[simp] theorem State.setTask_thrs (s : State) (n : Nat) (x : Option Task) : (s.setTask n x).thrs = s.thrs := rfl
@[simp] theorem State.setTask_dram (s : State) (n : Nat) (x : Option Task) : (s.setTask n x).dram = s.dram := rfl
@[simp] theorem State.setTask_dec (s : State) (n : Nat) (x : Option Task) : (s.setTask n x).dec = s.dec := rfl
@[simp] theorem State.setTask_links (s : State) (n : Nat) (x : Option Task) : (s.setTask n x).links = s.links := rfl
@[simp] theorem State.setTask_casc (s : State) (n : Nat) (x : Option Task) : (s.setTask n x).casc = s.casc := rfl
@[simp] theorem State.setTask_trg (s : State) (n : Nat) (x : Option Task) : (s.setTask n x).trg = s.trg := rfl
@[simp] theorem State.setTask_acq (s : State) (n : Nat) (x : Option Task) : (s.setTask n x).acq = s.acq := rfl
@[simp] theorem State.setTask_store (s : State) (n : Nat) (x : Option Task) : (s.setTask n x).store = s.store := rfl
@[simp] theorem State.setTask_hst (s : State) (n : Nat) (x : Option Task) : (s.setTask n x).hst = s.hst := rfl
@[simp] theorem State.setTask_flash (s : State) (n : Nat) (x : Option Task) : (s.setTask n x).flash = s.flash := rfl
@[simp] theorem State.setTask_boot (s : State) (n : Nat) (x : Option Task) : (s.setTask n x).boot = s.boot := rfl
@[simp] theorem State.setTask_rg (s : State) (n : Nat) (x : Option Task) (r' : Reg) (i' j' : Nat) : (s.setTask n x).rg r' i' j' = s.rg r' i' j' := rfl
@[simp] theorem State.setTask_fd (s : State) (n : Nat) (x : Option Task) (f' : Fld) (i' j' : Nat) : (s.setTask n x).fd f' i' j' = s.fd f' i' j' := rfl

/-! ### State.setCtx -/

@[simp] theorem State.setCtx_pending (s : State) (e x : Nat) (c : Ctx) : (s.setCtx e x c).pending = s.pending := rfl
@[simp] theorem State.setCtx_freeCtr (s : State) (e x : Nat) (c : Ctx) : (s.setCtx e x c).freeCtr = s.freeCtr := rfl
@[simp] theorem State.setCtx_time (s : State) (e x : Nat) (c : Ctx) : (s.setCtx e x c).time = s.time := rfl
@[simp] theorem State.setCtx_up (s : State) (e x : Nat) (c : Ctx) : (s.setCtx e x c).up = s.up := rfl
@[simp] theorem State.setCtx_regs (s : State) (e x : Nat) (c : Ctx) : (s.setCtx e x c).regs = s.regs := rfl
@[simp] theorem State.setCtx_pairs (s : State) (e x : Nat) (c : Ctx) : (s.setCtx e x c).pairs = s.pairs := rfl
@[simp] theorem State.setCtx_out (s : State) (e x : Nat) (c : Ctx) : (s.setCtx e x c).out = s.out := rfl
@[simp] theorem State.setCtx_dev (s : State) (e x : Nat) (c : Ctx) : (s.setCtx e x c).dev = s.dev := rfl
@[simp] theorem State.setCtx_q (s : State) (e x : Nat) (c : Ctx) : (s.setCtx e x c).q = s.q := rfl
@[simp] theorem State.setCtx_evt (s : State) (e x : Nat) (c : Ctx) : (s.setCtx e x c).evt = s.evt := rfl
@[simp] theorem State.setCtx_flt (s : State) (e x : Nat) (c : Ctx) : (s.setCtx e x c).flt = s.flt := rfl
@[simp] theorem State.setCtx_ldg (s : State) (e x : Nat) (c : Ctx) : (s.setCtx e x c).ldg = s.ldg := rfl
@[simp] theorem State.setCtx_ports (s : State) (e x : Nat) (c : Ctx) : (s.setCtx e x c).ports = s.ports := rfl
@[simp] theorem State.setCtx_tb (s : State) (e x : Nat) (c : Ctx) : (s.setCtx e x c).tb = s.tb := rfl
@[simp] theorem State.setCtx_domReq (s : State) (e x : Nat) (c : Ctx) : (s.setCtx e x c).domReq = s.domReq := rfl
@[simp] theorem State.setCtx_thrs (s : State) (e x : Nat) (c : Ctx) : (s.setCtx e x c).thrs = s.thrs := rfl
@[simp] theorem State.setCtx_dram (s : State) (e x : Nat) (c : Ctx) : (s.setCtx e x c).dram = s.dram := rfl
@[simp] theorem State.setCtx_dec (s : State) (e x : Nat) (c : Ctx) : (s.setCtx e x c).dec = s.dec := rfl
@[simp] theorem State.setCtx_links (s : State) (e x : Nat) (c : Ctx) : (s.setCtx e x c).links = s.links := rfl
@[simp] theorem State.setCtx_casc (s : State) (e x : Nat) (c : Ctx) : (s.setCtx e x c).casc = s.casc := rfl
@[simp] theorem State.setCtx_trg (s : State) (e x : Nat) (c : Ctx) : (s.setCtx e x c).trg = s.trg := rfl
@[simp] theorem State.setCtx_acq (s : State) (e x : Nat) (c : Ctx) : (s.setCtx e x c).acq = s.acq := rfl
@[simp] theorem State.setCtx_store (s : State) (e x : Nat) (c : Ctx) : (s.setCtx e x c).store = s.store := rfl
@[simp] theorem State.setCtx_hst (s : State) (e x : Nat) (c : Ctx) : (s.setCtx e x c).hst = s.hst := rfl
@[simp] theorem State.setCtx_flash (s : State) (e x : Nat) (c : Ctx) : (s.setCtx e x c).flash = s.flash := rfl
@[simp] theorem State.setCtx_boot (s : State) (e x : Nat) (c : Ctx) : (s.setCtx e x c).boot = s.boot := rfl
@[simp] theorem State.setCtx_rg (s : State) (e x : Nat) (c : Ctx) (r' : Reg) (i' j' : Nat) : (s.setCtx e x c).rg r' i' j' = s.rg r' i' j' := rfl
@[simp] theorem State.setCtx_fd (s : State) (e x : Nat) (c : Ctx) (f' : Fld) (i' j' : Nat) : (s.setCtx e x c).fd f' i' j' = s.fd f' i' j' := rfl

/-! ### State.setPairEntry -/

@[simp] theorem State.setPairEntry_pending (s : State) (e : PairEntry) : (s.setPairEntry e).pending = s.pending := rfl
@[simp] theorem State.setPairEntry_freeCtr (s : State) (e : PairEntry) : (s.setPairEntry e).freeCtr = s.freeCtr := rfl
@[simp] theorem State.setPairEntry_time (s : State) (e : PairEntry) : (s.setPairEntry e).time = s.time := rfl
@[simp] theorem State.setPairEntry_up (s : State) (e : PairEntry) : (s.setPairEntry e).up = s.up := rfl
@[simp] theorem State.setPairEntry_regs (s : State) (e : PairEntry) : (s.setPairEntry e).regs = s.regs := rfl
@[simp] theorem State.setPairEntry_out (s : State) (e : PairEntry) : (s.setPairEntry e).out = s.out := rfl
@[simp] theorem State.setPairEntry_dev (s : State) (e : PairEntry) : (s.setPairEntry e).dev = s.dev := rfl
@[simp] theorem State.setPairEntry_q (s : State) (e : PairEntry) : (s.setPairEntry e).q = s.q := rfl
@[simp] theorem State.setPairEntry_evt (s : State) (e : PairEntry) : (s.setPairEntry e).evt = s.evt := rfl
@[simp] theorem State.setPairEntry_flt (s : State) (e : PairEntry) : (s.setPairEntry e).flt = s.flt := rfl
@[simp] theorem State.setPairEntry_ldg (s : State) (e : PairEntry) : (s.setPairEntry e).ldg = s.ldg := rfl
@[simp] theorem State.setPairEntry_ports (s : State) (e : PairEntry) : (s.setPairEntry e).ports = s.ports := rfl
@[simp] theorem State.setPairEntry_tb (s : State) (e : PairEntry) : (s.setPairEntry e).tb = s.tb := rfl
@[simp] theorem State.setPairEntry_domReq (s : State) (e : PairEntry) : (s.setPairEntry e).domReq = s.domReq := rfl
@[simp] theorem State.setPairEntry_eng (s : State) (e : PairEntry) : (s.setPairEntry e).eng = s.eng := rfl
@[simp] theorem State.setPairEntry_thrs (s : State) (e : PairEntry) : (s.setPairEntry e).thrs = s.thrs := rfl
@[simp] theorem State.setPairEntry_dram (s : State) (e : PairEntry) : (s.setPairEntry e).dram = s.dram := rfl
@[simp] theorem State.setPairEntry_dec (s : State) (e : PairEntry) : (s.setPairEntry e).dec = s.dec := rfl
@[simp] theorem State.setPairEntry_links (s : State) (e : PairEntry) : (s.setPairEntry e).links = s.links := rfl
@[simp] theorem State.setPairEntry_casc (s : State) (e : PairEntry) : (s.setPairEntry e).casc = s.casc := rfl
@[simp] theorem State.setPairEntry_trg (s : State) (e : PairEntry) : (s.setPairEntry e).trg = s.trg := rfl
@[simp] theorem State.setPairEntry_acq (s : State) (e : PairEntry) : (s.setPairEntry e).acq = s.acq := rfl
@[simp] theorem State.setPairEntry_store (s : State) (e : PairEntry) : (s.setPairEntry e).store = s.store := rfl
@[simp] theorem State.setPairEntry_hst (s : State) (e : PairEntry) : (s.setPairEntry e).hst = s.hst := rfl
@[simp] theorem State.setPairEntry_flash (s : State) (e : PairEntry) : (s.setPairEntry e).flash = s.flash := rfl
@[simp] theorem State.setPairEntry_boot (s : State) (e : PairEntry) : (s.setPairEntry e).boot = s.boot := rfl
@[simp] theorem State.setPairEntry_rg (s : State) (e : PairEntry) (r' : Reg) (i' j' : Nat) : (s.setPairEntry e).rg r' i' j' = s.rg r' i' j' := rfl
@[simp] theorem State.setPairEntry_fd (s : State) (e : PairEntry) (f' : Fld) (i' j' : Nat) : (s.setPairEntry e).fd f' i' j' = s.fd f' i' j' := rfl

/-! ### State.touchPair -/

@[simp] theorem State.touchPair_pending (s : State) (e : PairEntry) : (s.touchPair e).pending = s.pending := rfl
@[simp] theorem State.touchPair_freeCtr (s : State) (e : PairEntry) : (s.touchPair e).freeCtr = s.freeCtr := rfl
@[simp] theorem State.touchPair_time (s : State) (e : PairEntry) : (s.touchPair e).time = s.time := rfl
@[simp] theorem State.touchPair_up (s : State) (e : PairEntry) : (s.touchPair e).up = s.up := rfl
@[simp] theorem State.touchPair_regs (s : State) (e : PairEntry) : (s.touchPair e).regs = s.regs := rfl
@[simp] theorem State.touchPair_out (s : State) (e : PairEntry) : (s.touchPair e).out = s.out := rfl
@[simp] theorem State.touchPair_dev (s : State) (e : PairEntry) : (s.touchPair e).dev = s.dev := rfl
@[simp] theorem State.touchPair_q (s : State) (e : PairEntry) : (s.touchPair e).q = s.q := rfl
@[simp] theorem State.touchPair_evt (s : State) (e : PairEntry) : (s.touchPair e).evt = s.evt := rfl
@[simp] theorem State.touchPair_flt (s : State) (e : PairEntry) : (s.touchPair e).flt = s.flt := rfl
@[simp] theorem State.touchPair_ldg (s : State) (e : PairEntry) : (s.touchPair e).ldg = s.ldg := rfl
@[simp] theorem State.touchPair_ports (s : State) (e : PairEntry) : (s.touchPair e).ports = s.ports := rfl
@[simp] theorem State.touchPair_tb (s : State) (e : PairEntry) : (s.touchPair e).tb = s.tb := rfl
@[simp] theorem State.touchPair_domReq (s : State) (e : PairEntry) : (s.touchPair e).domReq = s.domReq := rfl
@[simp] theorem State.touchPair_eng (s : State) (e : PairEntry) : (s.touchPair e).eng = s.eng := rfl
@[simp] theorem State.touchPair_thrs (s : State) (e : PairEntry) : (s.touchPair e).thrs = s.thrs := rfl
@[simp] theorem State.touchPair_dram (s : State) (e : PairEntry) : (s.touchPair e).dram = s.dram := rfl
@[simp] theorem State.touchPair_dec (s : State) (e : PairEntry) : (s.touchPair e).dec = s.dec := rfl
@[simp] theorem State.touchPair_links (s : State) (e : PairEntry) : (s.touchPair e).links = s.links := rfl
@[simp] theorem State.touchPair_casc (s : State) (e : PairEntry) : (s.touchPair e).casc = s.casc := rfl
@[simp] theorem State.touchPair_trg (s : State) (e : PairEntry) : (s.touchPair e).trg = s.trg := rfl
@[simp] theorem State.touchPair_acq (s : State) (e : PairEntry) : (s.touchPair e).acq = s.acq := rfl
@[simp] theorem State.touchPair_store (s : State) (e : PairEntry) : (s.touchPair e).store = s.store := rfl
@[simp] theorem State.touchPair_hst (s : State) (e : PairEntry) : (s.touchPair e).hst = s.hst := rfl
@[simp] theorem State.touchPair_flash (s : State) (e : PairEntry) : (s.touchPair e).flash = s.flash := rfl
@[simp] theorem State.touchPair_boot (s : State) (e : PairEntry) : (s.touchPair e).boot = s.boot := rfl
@[simp] theorem State.touchPair_rg (s : State) (e : PairEntry) (r' : Reg) (i' j' : Nat) : (s.touchPair e).rg r' i' j' = s.rg r' i' j' := rfl
@[simp] theorem State.touchPair_fd (s : State) (e : PairEntry) (f' : Fld) (i' j' : Nat) : (s.touchPair e).fd f' i' j' = s.fd f' i' j' := rfl

/-! ### State.dropHeld -/

@[simp] theorem State.dropHeld_pending (s : State) (who : Requester) : (s.dropHeld who).pending = s.pending := rfl
@[simp] theorem State.dropHeld_freeCtr (s : State) (who : Requester) : (s.dropHeld who).freeCtr = s.freeCtr := rfl
@[simp] theorem State.dropHeld_time (s : State) (who : Requester) : (s.dropHeld who).time = s.time := rfl
@[simp] theorem State.dropHeld_up (s : State) (who : Requester) : (s.dropHeld who).up = s.up := rfl
@[simp] theorem State.dropHeld_regs (s : State) (who : Requester) : (s.dropHeld who).regs = s.regs := rfl
@[simp] theorem State.dropHeld_out (s : State) (who : Requester) : (s.dropHeld who).out = s.out := rfl
@[simp] theorem State.dropHeld_dev (s : State) (who : Requester) : (s.dropHeld who).dev = s.dev := rfl
@[simp] theorem State.dropHeld_q (s : State) (who : Requester) : (s.dropHeld who).q = s.q := rfl
@[simp] theorem State.dropHeld_evt (s : State) (who : Requester) : (s.dropHeld who).evt = s.evt := rfl
@[simp] theorem State.dropHeld_flt (s : State) (who : Requester) : (s.dropHeld who).flt = s.flt := rfl
@[simp] theorem State.dropHeld_ldg (s : State) (who : Requester) : (s.dropHeld who).ldg = s.ldg := rfl
@[simp] theorem State.dropHeld_ports (s : State) (who : Requester) : (s.dropHeld who).ports = s.ports := rfl
@[simp] theorem State.dropHeld_tb (s : State) (who : Requester) : (s.dropHeld who).tb = s.tb := rfl
@[simp] theorem State.dropHeld_domReq (s : State) (who : Requester) : (s.dropHeld who).domReq = s.domReq := rfl
@[simp] theorem State.dropHeld_eng (s : State) (who : Requester) : (s.dropHeld who).eng = s.eng := rfl
@[simp] theorem State.dropHeld_thrs (s : State) (who : Requester) : (s.dropHeld who).thrs = s.thrs := rfl
@[simp] theorem State.dropHeld_dram (s : State) (who : Requester) : (s.dropHeld who).dram = s.dram := rfl
@[simp] theorem State.dropHeld_dec (s : State) (who : Requester) : (s.dropHeld who).dec = s.dec := rfl
@[simp] theorem State.dropHeld_links (s : State) (who : Requester) : (s.dropHeld who).links = s.links := rfl
@[simp] theorem State.dropHeld_casc (s : State) (who : Requester) : (s.dropHeld who).casc = s.casc := rfl
@[simp] theorem State.dropHeld_trg (s : State) (who : Requester) : (s.dropHeld who).trg = s.trg := rfl
@[simp] theorem State.dropHeld_acq (s : State) (who : Requester) : (s.dropHeld who).acq = s.acq := rfl
@[simp] theorem State.dropHeld_store (s : State) (who : Requester) : (s.dropHeld who).store = s.store := rfl
@[simp] theorem State.dropHeld_hst (s : State) (who : Requester) : (s.dropHeld who).hst = s.hst := rfl
@[simp] theorem State.dropHeld_flash (s : State) (who : Requester) : (s.dropHeld who).flash = s.flash := rfl
@[simp] theorem State.dropHeld_boot (s : State) (who : Requester) : (s.dropHeld who).boot = s.boot := rfl
@[simp] theorem State.dropHeld_rg (s : State) (who : Requester) (r' : Reg) (i' j' : Nat) : (s.dropHeld who).rg r' i' j' = s.rg r' i' j' := rfl
@[simp] theorem State.dropHeld_fd (s : State) (who : Requester) (f' : Fld) (i' j' : Nat) : (s.dropHeld who).fd f' i' j' = s.fd f' i' j' := rfl

/-! ### State.free -/

@[simp] theorem State.free_pending (s : State) : s.free.2.pending = s.pending := rfl
@[simp] theorem State.free_time (s : State) : s.free.2.time = s.time := rfl
@[simp] theorem State.free_up (s : State) : s.free.2.up = s.up := rfl
@[simp] theorem State.free_regs (s : State) : s.free.2.regs = s.regs := rfl
@[simp] theorem State.free_pairs (s : State) : s.free.2.pairs = s.pairs := rfl
@[simp] theorem State.free_out (s : State) : s.free.2.out = s.out := rfl
@[simp] theorem State.free_dev (s : State) : s.free.2.dev = s.dev := rfl
@[simp] theorem State.free_q (s : State) : s.free.2.q = s.q := rfl
@[simp] theorem State.free_evt (s : State) : s.free.2.evt = s.evt := rfl
@[simp] theorem State.free_flt (s : State) : s.free.2.flt = s.flt := rfl
@[simp] theorem State.free_ldg (s : State) : s.free.2.ldg = s.ldg := rfl
@[simp] theorem State.free_ports (s : State) : s.free.2.ports = s.ports := rfl
@[simp] theorem State.free_tb (s : State) : s.free.2.tb = s.tb := rfl
@[simp] theorem State.free_domReq (s : State) : s.free.2.domReq = s.domReq := rfl
@[simp] theorem State.free_eng (s : State) : s.free.2.eng = s.eng := rfl
@[simp] theorem State.free_thrs (s : State) : s.free.2.thrs = s.thrs := rfl
@[simp] theorem State.free_dram (s : State) : s.free.2.dram = s.dram := rfl
@[simp] theorem State.free_dec (s : State) : s.free.2.dec = s.dec := rfl
@[simp] theorem State.free_links (s : State) : s.free.2.links = s.links := rfl
@[simp] theorem State.free_casc (s : State) : s.free.2.casc = s.casc := rfl
@[simp] theorem State.free_trg (s : State) : s.free.2.trg = s.trg := rfl
@[simp] theorem State.free_acq (s : State) : s.free.2.acq = s.acq := rfl
@[simp] theorem State.free_store (s : State) : s.free.2.store = s.store := rfl
@[simp] theorem State.free_hst (s : State) : s.free.2.hst = s.hst := rfl
@[simp] theorem State.free_flash (s : State) : s.free.2.flash = s.flash := rfl
@[simp] theorem State.free_boot (s : State) : s.free.2.boot = s.boot := rfl
@[simp] theorem State.free_freeCtr (s : State) : s.free.2.freeCtr = s.freeCtr + 1 := rfl

/-! ### Registers read back -/

/-- A register just written reads as written. -/
theorem State.rg_setRg_same {s : State} (h : s.Inv) (r : Reg) (w : Word) (i j : Nat) : (s.setRg r w i j).rg r i j = w :=
  Tab.get_set_same _ _ h.regs

/-- A write of one register leaves every register at another offset. -/
theorem State.rg_setRg_ne {s : State} (h : s.Inv) (r r' : Reg) (w : Word) (i j i' j' : Nat) (n : regAddr r' i' j' ≠ regAddr r i j) :
    (s.setRg r w i j).rg r' i' j' = s.rg r' i' j' :=
  Tab.get_set_ne _ n h.regs

/-- A write of one field leaves every register at another offset. -/
theorem State.rg_setFd_ne {s : State} (h : s.Inv) (f : Fld) (r' : Reg) (v i j i' j' : Nat) (n : regAddr r' i' j' ≠ regAddr f.reg i j) :
    (s.setFd f v i j).rg r' i' j' = s.rg r' i' j' :=
  State.rg_setRg_ne h _ _ _ _ _ _ _ n

/-- A write of one field leaves the fields of every register at another offset. -/
theorem State.fd_setFd_ne {s : State} (h : s.Inv) (f f' : Fld) (v i j i' j' : Nat) (n : regAddr f'.reg i' j' ≠ regAddr f.reg i j) :
    (s.setFd f v i j).fd f' i' j' = s.fd f' i' j' := by
  simp only [State.fd, State.rg_setFd_ne h f f'.reg v i j i' j' n]

/-! ### Bits of a word -/

theorem natBit_eq (v k : Nat) : natBit v k = v.testBit k := by simp [natBit, Nat.testBit]

theorem testBit_natSetBits (v lo n x k : Nat) :
    (natSetBits v lo n x).testBit k = if k < lo ∨ lo + n ≤ k then v.testBit k else x.testBit (k - lo) := by
  have e : natSetBits v lo n x = 2 ^ lo * (2 ^ n * (v / 2 ^ (lo + n)) + x % 2 ^ n) + v % 2 ^ lo := by
    unfold natSetBits natBits
    rw [Nat.shiftRight_eq_div_pow]
    have a := Nat.div_add_mod v (2 ^ lo)
    have b := Nat.div_add_mod (v / 2 ^ lo) (2 ^ n)
    rw [Nat.div_div_eq_div_mul, ← Nat.pow_add] at b
    generalize v / 2 ^ (lo + n) = q at *
    generalize v / 2 ^ lo % 2 ^ n = m at *
    have c : 2 ^ lo * (2 ^ n * q + m) + v % 2 ^ lo = v := by rw [b, a]
    have : 2 ^ lo * (2 ^ n * q + m) = 2 ^ lo * (2 ^ n * q) + 2 ^ lo * m := Nat.mul_add ..
    have : 2 ^ lo * (2 ^ n * q + x % 2 ^ n) = 2 ^ lo * (2 ^ n * q) + 2 ^ lo * (x % 2 ^ n) := Nat.mul_add ..
    omega
  rw [e, Nat.testBit_two_pow_mul_add _ (Nat.mod_lt _ (Nat.two_pow_pos _))]
  by_cases h : k < lo
  · simp [h, Nat.testBit_mod_two_pow]
  · rw [if_neg h, Nat.testBit_two_pow_mul_add _ (Nat.mod_lt _ (Nat.two_pow_pos _))]
    by_cases g : k - lo < n
    · rw [if_pos g, if_neg (by omega)]; simp [Nat.testBit_mod_two_pow, g]
    · rw [if_neg g, if_pos (by omega), ← Nat.shiftRight_eq_div_pow, Nat.testBit_shiftRight]; congr 1; omega

/-- Each bit of a word after a write of one of its fields. -/
theorem natBit_setBits (w : Word) (lo n x k : Nat) (hk : k < 32) :
    natBit (setBits w lo n x).toNat k = if k < lo ∨ lo + n ≤ k then natBit w.toNat k else x.testBit (k - lo) := by
  rw [natBit_eq, natBit_eq, setBits, BitVec.toNat_ofNat, Nat.testBit_mod_two_pow, testBit_natSetBits]; simp [hk]

theorem testBit_bitsOf (w : Word) (lo n k : Nat) : (bitsOf w lo n).testBit k = (decide (k < n) && natBit w.toNat (lo + k)) := by
  rw [bitsOf, natBits, Nat.testBit_mod_two_pow, Nat.testBit_shiftRight, natBit_eq]

theorem bitsOf_lt (w : Word) (lo n : Nat) : bitsOf w lo n < 2 ^ n := Nat.mod_lt _ (Nat.two_pow_pos _)

/-- A field just written reads as written. -/
theorem bitsOf_setBits (w : Word) (lo n x : Nat) (h : lo + n ≤ 32) (hx : x < 2 ^ n) : bitsOf (setBits w lo n x) lo n = x := by
  apply Nat.eq_of_testBit_eq
  intro k
  rw [testBit_bitsOf]
  by_cases hk : k < n
  · rw [natBit_setBits _ _ _ _ _ (by omega), if_neg (by omega)]; simp [hk]
  · rw [Nat.testBit_lt_two_pow (Nat.lt_of_lt_of_le hx (Nat.pow_le_pow_right (by decide) (by omega)))]; simp [hk]

/-- A field of a register just written reads as written. -/
theorem State.fd_setFd_same {s : State} (h : s.Inv) (f : Fld) (v i j : Nat) (hf : f.lo + f.w ≤ 32) (hv : v < 2 ^ f.w) :
    (s.setFd f v i j).fd f i j = v := by
  simp only [State.fd, State.setFd, State.rg_setRg_same h]
  exact bitsOf_setBits _ _ _ _ hf hv

/-! ### The register at an offset -/

/-- regAt finds a register at its own offset. -/
theorem regIndex_addr {r : Reg} {off i j : Nat} (h : regIndex r off = some (i, j)) : regAddr r i j = off := by
  simp only [regIndex] at h
  unfold regAddr
  by_cases h1 : off < (regShape r).base
  · simp [h1] at h
  · rw [if_neg h1] at h
    generalize hi : (if (regShape r).s1 = 0 then 0 else (off - (regShape r).base) / (regShape r).s1) = i' at h
    generalize hj : (if (regShape r).s2 = 0 then 0 else (off - (regShape r).base - i' * (regShape r).s1) / (regShape r).s2) = j' at h
    split at h
    · rename_i h2; simp at h; obtain ⟨rfl, rfl⟩ := h; have := h2.2.2; grind
    · cases h

theorem regAt_addr {r : Reg} {off i j : Nat} (h : regAt off = some (r, i, j)) : regAddr r i j = off := by
  unfold regAt at h
  obtain ⟨_, a, _, _, h2, _⟩ := List.findSome?_eq_some_iff.mp h
  cases h4 : regIndex a off with
  | none => simp [h4] at h2
  | some x => obtain ⟨_, _⟩ := x; simp [h4] at h2; obtain ⟨rfl, rfl, rfl⟩ := h2; exact regIndex_addr h4

/-! ### What a reset keeps -/

/-- Restoring registers changes registers only. -/
theorem State.keepRegs_eq (l : List (Reg × Nat)) : ∀ t s : State, ∃ g, t.keepRegs s l = { t with regs := g } := by
  induction l with
  | nil => intro t _; exact ⟨_, rfl⟩
  | cons a l ih =>
    intro t s
    obtain ⟨g, h⟩ := ih (t.setRg a.1 (s.rg a.1 a.2) a.2) s
    exact ⟨g, by simp only [State.keepRegs, List.foldl_cons] at *; rw [h]; rfl⟩

theorem State.ledgerRegs_eq (t s : State) : ∃ g, t.ledgerRegs s = { t with regs := g } := ⟨_, rfl⟩

end Sys2Proof.Machine
end

