-- ==== Sys2Proof/Tests/Slice0.lean ====
section
/-! SUPPORT. Tests: ill-formed commands that WellFormed refuses, and, for every clause of every statement, a state and operands that meet its
hypotheses together (`wit_<statement>_<clause>`). -/

open Sys2Proof.Machine

namespace Sys2Proof.Tests

set_option Elab.async false

theorem test_refuses_port : wellFormed (.checkRun 96) = false := by decide
theorem test_refuses_quad : wellFormed (.vttOverload 24) = false := by decide
theorem test_refuses_lane : wellFormed (.tbCalibrate 221) = false := by decide
theorem test_refuses_queue : wellFormed (.queuePop 1280) = false := by decide
theorem test_refuses_converter : wellFormed (.madcRetry 12) = false := by decide
theorem test_refuses_muxInput : wellFormed (.madcTapWrite 8 0) = false := by decide
theorem test_refuses_engine : wellFormed (.engRetry 208) = false := by decide
theorem test_refuses_context : wellFormed (.add 0 32) = false := by decide
theorem test_refuses_engineOrChosen : wellFormed (.evacuate 0 256) = false := by decide
theorem test_refuses_link : wellFormed (.flitLock 20) = false := by decide
theorem test_refuses_channelLink : wellFormed (.lnkAudit 16) = false := by decide
theorem test_refuses_task : wellFormed (.gateClose 4096) = false := by decide
theorem test_refuses_decContext : wellFormed (.contextRun 4608) = false := by decide
theorem test_refuses_pipUnit : wellFormed (.pipJudgeTick 16) = false := by decide
theorem test_refuses_acqUnit : wellFormed (.segmentClose 16) = false := by decide
theorem test_refuses_record : wellFormed (.clear 64) = false := by decide
theorem test_refuses_timer : wellFormed (.generalTimerExpiry 8) = false := by decide
theorem test_refuses_service : wellFormed (.serviceTransition 5 true 0 0) = false := by decide
theorem test_refuses_doorbell : wellFormed (.hstDb 10 0) = false := by decide
theorem test_refuses_byte : wellFormed (.smartPoll 0 256) = false := by decide
theorem test_refuses_pin : wellFormed (.pinPulseEnd 4) = false := by decide
theorem test_refuses_rail : wellFormed (.railCurrentLimit 12 0) = false := by decide
theorem test_refuses_hostRing : wellFormed (.ringPacketWrite 64) = false := by decide
theorem test_refuses_region : wellFormed (.resetRing 256) = false := by decide
theorem test_refuses_domain : wellFormed (.domainOff 80) = false := by decide
theorem test_refuses_drive : wellFormed (.nvsFlush 2) = false := by decide
theorem test_refuses_slot : wellFormed (.zero 4192) = false := by decide
theorem test_refuses_source : wellFormed (.eventSourceAssert 320) = false := by decide
theorem test_refuses_vector : wellFormed (.holdoffEnd 512) = false := by decide
theorem test_refuses_island : wellFormed (.timeCheckWord 40 0) = false := by decide
theorem test_refuses_tunnel : wellFormed (.casTunnelEnable true 16 0) = false := by decide
theorem test_refuses_eventWord : wellFormed (.evtPendClear 10 0) = false := by decide
theorem test_refuses_line : wellFormed (.lineEvent 8 0) = false := by decide
theorem test_refuses_nibble : wellFormed (.bootStepTimeout 16) = false := by decide
theorem test_refuses_sample : wellFormed (.serviceTransition 0 true 4 0) = false := by decide
theorem test_refuses_bank : wellFormed (.decFade 0 256 0 true) = false := by decide
theorem test_refuses_lockLevel : wellFormed (.otpJtag 4) = false := by decide
theorem test_refuses_flitType : wellFormed (.badType 0 16 ⟨0, 0, 0, 0, 0, []⟩) = false := by decide
theorem test_refuses_eventCode : wellFormed (.linkEvtGapEnd 0 20) = false := by decide
theorem test_refuses_nvmeId : wellFormed (.nvmeCompletion 0 65536 0) = false := by decide
theorem test_refuses_offset : wellFormed (.registerWrite .smbus 4294967296 0) = false := by decide
theorem test_refuses_word12 : wellFormed (.scrubParityError 0 4096) = false := by decide
theorem test_refuses_linkGen : wellFormed (.hostLinkChange 6 1) = false := by decide
theorem test_refuses_reg16 : wellFormed (.fltInj 65536 0) = false := by decide
theorem test_accepts_last : wellFormed (.checkRun 95) = true ∧ wellFormed (.add 207 31) = true ∧ wellFormed (.linkEvtGapEnd 19 19) = true ∧ wellFormed (.zero 4191) = true ∧ wellFormed (.evacuate 207 255) = true ∧
    wellFormed (.hostLinkChange 5 8) = true ∧ wellFormed (.contextRun 4607) = true := by decide

/-- A state after reset with every register at zero. -/
def st0 : State := { State.reset with regs := [] }
/-- A plain fault record. -/
def rec0 : FaultRec :=
  { cls := 0, code := 0x060, unit := 0x3000, cause := 1, detail := 0, merges := 1, opened := 0, seen := 0, live := false, conds := [], ack := false,
    esc := false, deadline := none, mergeDue := false, sent := 0 }
/-- A plain checkpoint. -/
def ckpt0 : Ckpt := { seq := 0, kind := 1, cause := 0, time := 0, image := 0, bound := 0, cmd := false, start := 0, totals := [] }


theorem wit_IdleOnEmpty_empty : step st0 = .next st0 ∧ st0.pending = [] := ⟨rfl, rfl⟩
theorem wit_IdleOnEmpty_tail : ∃ t, step { st0 with pending := [.bootLoopClear, .bootLoopClear] } = .next t := ⟨_, rfl⟩

theorem st0_inv : st0.Inv :=
  ⟨by decide, by decide, by decide, ⟨by decide, by decide⟩, ⟨by decide, ⟨fun d h => by simp [st0, State.reset, BootSt.init] at h, by decide⟩⟩⟩
theorem inv_like {s : State} (h : Tab.wf 0 s.regs = true) (hd : s.dram = []) (hf : s.flash = []) (hp : s.pairs = [])
    (ho : s.boot.otp = st0.boot.otp) : s.Inv :=
  ⟨h, by rw [hd]; rfl, by rw [hf]; rfl, by rw [hp]; exact st0_inv.pairs, by rw [ho]; exact st0_inv.fuses⟩
theorem wit_StepKeepsInvariant : ({ st0 with pending := [.bootLoopClear] } : State).Inv ∧
    ∃ t, step { st0 with pending := [.bootLoopClear] } = .next t :=
  ⟨⟨st0_inv.regs, st0_inv.dram, st0_inv.flash, st0_inv.pairs, st0_inv.fuses⟩, _, rfl⟩

theorem wit_NothingTakenBack : ∃ t, exec .bootLoopClear st0 = .next t := ⟨_, rfl⟩

theorem wit_FusesOneWay_step :
    ∃ t, step { st0 with pending := [.otpJtag 3], boot := { st0.boot with otp := ⟨some (List.replicate 32 0), true, 3⟩ } } = .next t := ⟨_, rfl⟩
theorem wit_FusesOneWay_digest :
    ({ st0 with boot := { st0.boot with otp := ⟨some (List.replicate 32 255), true, 3⟩ } } : State).Inv :=
  ⟨st0_inv.regs, st0_inv.dram, st0_inv.flash, st0_inv.pairs, ⟨by decide, ⟨fun d h => by cases h; decide, by decide⟩⟩⟩
theorem wit_FusesOneWay_levels : (6 ≤ 6 ∧ 0x80 ≤ 0xFF ∧ 0x80 ≤ 0xFE) ∧ 2 ≤ 3 := by decide

theorem wit_EveryCommandRuns_any : ∀ op scan, Instr.bootLoopClear ≠ .jtagUpdateIr ⟨op, scan⟩ := by intro op scan h; cases h
theorem wit_EveryCommandRuns_jtag : ¬ (0x80 ≤ jtagEffective (st0.fd F.BOOT_OTP_STS_jtag) (0xFF % 256) ∧
    jtagEffective (st0.fd F.BOOT_OTP_STS_jtag) (0xFF % 256) ≤ 0xFE) := by decide

def haltState : State := { st0 with dev := { st0.dev with st := .halt } }
theorem wit_JtagCommands_private : st0.fd F.BOOT_OTP_STS_jtag = 0 ∧ 0x80 ≤ 0xFE % 256 ∧ 0xFE % 256 ≤ 0xFE := by decide
theorem wit_JtagCommands_take :
    (haltState.setFd F.BOOT_OTP_STS_jtag 1).dev.st = .halt ∧ (haltState.setFd F.BOOT_OTP_STS_jtag 1).fd F.BOOT_OTP_STS_jtag ≤ 1 ∧
      6 % 256 ∈ [0, 3, 4, 5, 6] := by decide
theorem wit_JtagCommands_give : haltState.dev.st = .halt ∧ haltState.fd F.BOOT_OTP_STS_jtag ≤ 1 ∧ 0x1FF % 256 ∈ [1, 2, 0xFF] := by decide
theorem wit_JtagCommands_closed : (haltState.setFd F.BOOT_OTP_STS_jtag 2).dev.st = .halt ∧
    2 ≤ (haltState.setFd F.BOOT_OTP_STS_jtag 2).fd F.BOOT_OTP_STS_jtag ∧ 1 % 256 ≠ 2 := by decide
theorem wit_JtagCommands_run : (({ st0 with dev := { st0.dev with st := .run } } : State).dev.st = .run ∨
    ({ st0 with dev := { st0.dev with st := .run } } : State).dev.st = .watch) ∧ st0.fd F.BOOT_OTP_STS_jtag ≤ 1 ∧ 0 % 256 ∈ [0, 3, 4, 5, 6] := by decide
theorem wit_JtagCommands_pins :
    ({ st0 with dev := { st0.dev with pinsTaken := true, jtagIr := 6 } } : State).dev.pinsTaken = true ∧ 6 ∈ [0, 3, 5, 6] ∧ st0.dev.pinsTaken = false := by decide
theorem wit_JtagCommands_release : haltState.dev.st ≠ .boot := by decide

/-- Open records: 0 plain, 62 acknowledged with a merge outstanding. -/
def faultState : State := (((st0.setFrec 0 (some rec0)).setFrec 62 (some { rec0 with cls := 3, ack := true, mergeDue := true })))
theorem wit_FaultCommands_ack : faultState.frec 0 = some rec0 := by decide
theorem wit_FaultCommands_clear :
    faultState.frec 62 = some { rec0 with cls := 3, ack := true, mergeDue := true } ∧ rec0.live = false ∧ rec0.cls = 0 := by decide
theorem wit_FaultCommands_inj : faultClass (0x164 % 65536) = some 1 ∧ st0.bit F.FLT_CTL_lock = false ∧ 0xBFFF % 65536 / 4096 < 12 := by decide
theorem wit_FaultCommands_timer :
    faultState.frec 62 = some { rec0 with cls := 3, ack := true, mergeDue := true } ∧
      ({ rec0 with cls := 3, ack := true, mergeDue := true } : FaultRec).mergeDue = true ∧
      faultState.due (rec0.sent + msTicks 1) = true := by decide

theorem wit_ClearRefused_live : (st0.setFrec 62 (some { rec0 with live := true })).frec 62 = some { rec0 with live := true } := by decide
theorem wit_ClearRefused_merge :
    faultState.frec 62 = some { rec0 with cls := 3, ack := true, mergeDue := true } ∧ (3 : Nat) ≤ 3 := by decide
theorem wit_ClearRefused_raise : faultState.frec 0 = some rec0 ∧ rec0.cls < 1 := by decide

theorem wit_FaultRaised_merge : faultClass 0x164 = some 1 ∧ faultState.recOfUnit 0x3000 = some 0 := by decide
theorem wit_FaultRaised_open : faultClass 0x000 = some 1 ∧ st0.recOfUnit 0xBFFF = none ∧ st0.frec 62 = none := by decide
/-- Every ordinary record is open. -/
def fullRecords : State := (natsFrom 0 63).foldl (fun s i => s.setFrec i (some { rec0 with unit := 0x3000 + i })) st0
theorem wit_FaultRaised_full : faultClass 0x164 = some 1 ∧ fullRecords.recOfUnit 0x303F = none ∧ (∀ i, i < 63 → fullRecords.frec i ≠ none) ∧
    fullRecords.frec 63 = none := by decide

theorem wit_TallySetup_free : 4191 < 4192 ∧ st0.bit F.TLY_FLG_bound 4191 = false := by decide
theorem wit_TallySetup_bound : 0 < 4192 ∧ (st0.setFd F.TLY_FLG_bound 1 0).bit F.TLY_FLG_bound 0 = true := by decide

theorem wit_TallyCommands_clear : 4191 < 4192 ∧ st0.causeHolds 4191 = false := by decide
theorem wit_TallyCommands_free : 4191 < 4192 ∧ st0.bit F.TLY_FLG_bound 4191 = false := by decide
theorem wit_TallyCommands_holds :
    0 < 4192 ∧ ((st0.setFd F.LDG_STS_nospare 1).setRg .TLY_FLG 8 0).causeHolds 0 = true := by decide
theorem wit_TallyCommands_bound : 0 < 4192 ∧ (st0.setFd F.TLY_FLG_bound 1 0).bit F.TLY_FLG_bound 0 = true := by decide
theorem wit_TallyCommands_reserved : 4192 ≤ 8191 := by decide

/-- RUN with nothing being written. -/
def runState : State := { st0 with dev := { st0.dev with st := .run } }
theorem wit_LedgerCommands_periodic : runState.dev.st = .run ∧ runState.ldg.wr = none ∧
    runState.ldg.lastDue + msTicks (runState.fd F.LDG_CTL_interval) ≤ runState.time := by decide
theorem wit_LedgerCommands_due :
    ({ runState with ldg := { runState.ldg with wr := some ckpt0 } } : State).dev.st = .run ∧
      ({ runState with ldg := { runState.ldg with wr := some ckpt0 } } : State).ldg.wr = some ckpt0 ∧
      ({ runState with ldg := { runState.ldg with wr := some ckpt0 } } : State).ldg.lastDue +
        msTicks (({ runState with ldg := { runState.ldg with wr := some ckpt0 } } : State).fd F.LDG_CTL_interval) ≤ 0 := by decide
theorem wit_LedgerCommands_cmd : runState.dev.st ≠ .watch ∧ runState.dev.st ≠ .halt ∧ runState.ldg.wr = none := by decide
theorem wit_LedgerCommands_hold : (st0.setFd F.LDG_STS_hold 1).bit F.LDG_STS_hold = true := by decide
theorem wit_LedgerCommands_start :
    let s : State := { (st0.setFd F.LDG_SPARE_spares 64) with ldg := { st0.ldg with migQ := [447] } }
    s.ldg.mig = none ∧ s.ldg.migQ = [447] ∧ s.ldg.migTarget = 0 ∧ s.ldg.migStop = false ∧ s.fd F.LDG_SPARE_spares ≠ 0 ∧ s.nextSpare = some 448 := by decide
theorem wit_LedgerCommands_done :
    let s : State := { st0 with ldg := { st0.ldg with mig := some ⟨5, 448, 2, 0⟩ } }
    s.ldg.mig = some ⟨5, 448, 2, 0⟩ ∧ s.ldg.migStop = false ∧ 2 ≤ 2 := by decide
theorem wit_LedgerCommands_stopped :
    let s : State := { st0 with ldg := { st0.ldg with mig := some ⟨5, 448, 2, 0⟩, migStop := true } }
    s.ldg.mig = some ⟨5, 448, 2, 0⟩ ∧ s.ldg.migStop = true := by decide

/-- The time base counts. -/
def ticking : State := { st0 with tb := { st0.tb with on := true } }
theorem wit_TickAdvances : ticking.tb.on = true ∧ 0 ≤ ticking.casc.base + ticking.casc.off ∧ ticking.tb.keep ≤ ticking.nowTick ∧ st0.tb.on = false := by decide
theorem wit_TickAdvances_lag :
    let s : State := { ticking with up := 12500, time := 12500, tb := { ticking.tb with keep := 12500 } }
    s.tb.on = true ∧ 0 ≤ s.casc.base + s.casc.off ∧ 1250 ≤ s.up ∧ 12500 ≤ s.up ∧ s.tb.keep = s.nowTick ∧ 1250 ≤ s.nowTick ∧ 12500 ≤ s.nowTick := by decide

theorem wit_EpochWraps :
    let s : State := { ticking with time := 2 ^ 55 - 1 }
    s.tb.on = true ∧ 0 ≤ s.casc.base + s.casc.off ∧ s.tick = 2 ^ 55 - 1 := by decide

theorem wit_Reference_lock : ({ st0 with dev := { st0.dev with st := .boot } } : State).dev.st = .boot ∧ st0.tb.on = false := by decide
theorem wit_Reference_loss : ({ ticking with tb := { ticking.tb with refBack := true } } : State).tb.on = true ∧
    ({ ticking with tb := { ticking.tb with refBack := true } } : State).tb.refBack = true ∧ 200 < (-201 : Int).natAbs := by decide
theorem wit_Reference_once : ({ ticking with tb := { ticking.tb with refBack := false } } : State).tb.on = true ∧
    ({ ticking with tb := { ticking.tb with refBack := false } } : State).tb.refBack = false := by decide
theorem wit_Reference_within : ticking.tb.on = true ∧ (-200 : Int).natAbs ≤ 200 := by decide
theorem wit_Reference_relock :
    let s : State := ticking.setFd F.TB_PLL_STS_holdover 1
    s.tb.on = true ∧ s.bit F.TB_PLL_STS_holdover = true := by decide
theorem wit_Reference_out : (st0.setFd F.TB_OUT_CFG_en 1).bit F.TB_OUT_CFG_en = true ∧ (st0.setFd F.TB_OUT_CFG_en 1).bit F.TB_OUT_CFG_src = false ∧
    ((st0.setFd F.TB_OUT_CFG_en 1).setFd F.TB_OUT_CFG_src 1).bit F.TB_OUT_CFG_src = true ∧ st0.bit F.TB_OUT_CFG_en = false := by decide

theorem wit_LaneCommands_svc : 216 ≤ 220 ∧ 220 < 221 ∧ st0.bit F.TB_CAL_STS_busy = false ∧ st0.laneState 220 ≠ 5 := by decide
theorem wit_LaneCommands_cal : 191 < 216 ∧ st0.bit F.TB_CAL_STS_busy = false ∧ st0.laneState 191 ≠ 5 ∧ (192 ≤ 191 ∨ st0.noSpare (191 / 8) = false) := by
  decide
theorem wit_LaneCommands_retry :
    let s := st0.setFd F.TB_LANE_STS_state 5 220
    220 < 221 ∧ s.bit F.TB_CAL_STS_busy = false ∧ s.laneState 220 = 5 := by decide
theorem wit_LaneCommands_handover :
    let s := st0.setFd F.TB_LANE_STS_state 3 215
    191 < 192 ∧ s.bit F.TB_CAL_STS_busy = false ∧ s.laneState (192 + 191 / 8) = 3 := by decide
theorem wit_LaneCommands_return :
    let s := (st0.setFd F.TB_LANE_STS_state 4 192).setFd F.TB_LANE_STS_partner 7 192
    7 < 192 ∧ s.bit F.TB_CAL_STS_busy = false ∧ s.laneState (192 + 7 / 8) = 4 ∧ s.fd F.TB_LANE_STS_partner (192 + 7 / 8) = 7 := by decide
theorem wit_LaneCommands_busy : 220 < 221 ∧ (st0.setFd F.TB_CAL_STS_busy 1).bit F.TB_CAL_STS_busy = true := by decide
theorem wit_LaneCommands_work :
    quadOfLane 191 = 23 ∧ (st0.quadCal 23).phase = .idle ∧ st0.workReady 23 191 1 = true ∧ st0.bit F.PRT_CFG_en (191 / 2) = false ∧
      st0.workReady 23 191 2 = true ∧ st0.workReady 23 191 4 = true ∧ st0.workReady 23 191 5 = false ∧
      (st0.setFd F.TB_LANE_STS_state 3 215).workReady 23 191 3 = true ∧ (st0.setFd F.TB_LANE_STS_state 3 215).workReady 23 191 5 = true ∧
      ((st0.setFd F.TB_LANE_STS_state 3 215).setFd F.PRT_CFG_en 1 95).workReady 23 191 1 = true ∧
      ((st0.setFd F.TB_LANE_STS_state 3 215).setFd F.PRT_CFG_en 1 95).bit F.PRT_CFG_en (191 / 2) = true := by decide
theorem wit_LaneCommands_sched :
    let s : State := { st0.setFd F.TB_CAL_CTL_sched_en 1 with dev := { st0.dev with st := .run } }
    s.dev.st = .run ∧ s.bit F.TB_CAL_CTL_sched_en = true ∧ 184 < 216 ∧ quadOfLane 184 = 23 ∧ s.laneState 184 ≠ 5 ∧ s.noSpare 23 = false ∧
      s.laneBusy 23 184 = false ∧ s.fd F.TB_CAL_CTL_dtemp = 0 ∧ s.rotDue 23 = some 0 ∧ rotLane 23 0 = 184 := by decide
theorem wit_LaneCommands_moved :
    let s : State := { (st0.setFd F.TB_CAL_CTL_sched_en 1).setFd F.TB_CAL_CTL_dtemp 10 with dev := { st0.dev with st := .run } }
    s.dev.st = .run ∧ s.bit F.TB_CAL_CTL_sched_en = true ∧ 215 < 216 ∧ quadOfLane 215 = 23 ∧ s.laneState 215 ≠ 5 ∧ s.noSpare 23 = false ∧
      s.laneBusy 23 215 = false ∧ s.fd F.TB_CAL_CTL_dtemp ≠ 0 ∧ s.fd F.TB_CAL_CTL_dtemp ≤ 10 := by decide

/-- Quad 23 shadows lane 190 with 16 pairs compared. -/
def shadowing : State := st0.setQuadCal 23 { QuadCal.init with phase := .shadow, lane := 190, pairs := 16, maxDiff := 8 }
theorem wit_LaneHandover_switch : shadowing.quadCal 23 = { QuadCal.init with phase := .shadow, lane := 190, pairs := 16, maxDiff := 8 } ∧
    (shadowing.port (190 / 2)).hold = none := by decide
theorem wit_LaneHandover_held : ((shadowing.setPort 95 { Port.init with hold := some (0, 0) }).port (190 / 2)).hold ≠ none ∧
    (shadowing.setQuadCal 23 { QuadCal.init with phase := .hold, lane := 190 }).quadCal (95 / 4) = { QuadCal.init with phase := .hold, lane := 190 } := by
  decide
theorem wit_LaneHandover_abandon :
    (shadowing.setQuadCal 23 { QuadCal.init with phase := .shadow, lane := 190, pairs := 16, maxDiff := 9 }).quadCal 23 =
      { QuadCal.init with phase := .shadow, lane := 190, pairs := 16, maxDiff := 9 } := by decide
theorem wit_LaneHandover_detach :
    let s := st0.setQuadCal 0 { QuadCal.init with phase := .detach, lane := 7 }
    s.quadCal 0 = { QuadCal.init with phase := .detach, lane := 7 } ∧ Tab.get 0 s.tb.bufs 7 ≤ 1600 * s.time ∧ Tab.get none s.tb.loss 7 = none ∧
      (∀ h ∈ Tab.get [] s.tb.held 0, h.lane ≠ 7) ∧
      1600 * s.time < Tab.get 0 ({ s with tb := { s.tb with bufs := [(7, 1)] } } : State).tb.bufs 7 := by decide
theorem wit_LaneHandover_return :
    (st0.setQuadCal 0 { QuadCal.init with phase := .detach, lane := 7, ret := true }).quadCal 0 =
      { QuadCal.init with phase := .detach, lane := 7, ret := true } := by decide
theorem wit_LaneHandover_pass :
    216 ≤ 216 ∧ 216 < 221 ∧ (st0.setFd F.TB_LANE_STS_state 2 216).laneState 216 = 2 ∧ (densityPass (List.replicate 1024 4096)).isSome = true := by
  decide +kernel

/-- Every domain is on. -/
def powered : State := allDoms.foldl (fun s d => s.setDom d true) st0
theorem wit_PortSettings_cfg : 95 < 96 ∧ powered.domOn (95 / 4) = true ∧ bitsOf 5 4 2 ≠ 3 ∧ bitsOf 5 1 1 = powered.fd F.PRT_CFG_class 95 ∧
    bitsOf 7 1 1 ≠ powered.fd F.PRT_CFG_class 95 ∧ powered.fd F.PRT_CFG_en 95 + bitsOf 7 0 1 ≠ 0 := by decide +kernel
theorem wit_PortSettings_win : 0 < 96 ∧ powered.domOn (0 / 4) = true ∧ bitsOf 0x0FFF0FFF 0 12 ≤ bitsOf 0x0FFF0FFF 16 12 := by decide +kernel
theorem wit_PortSettings_winErr : 0 < 96 ∧ powered.domOn (0 / 4) = true ∧ bitsOf 1 16 12 < bitsOf 1 0 12 := by decide +kernel
theorem wit_PortSettings_filt : 95 < 96 ∧ powered.domOn (95 / 4) = true ∧ bitsOf 0x3F01 0 6 % 2 = 1 ∧ bitsOf 0x3F01 8 6 % 2 = 1 := by decide +kernel
/-- Port 95 is enabled, and settings wait for tick 1. -/
def asking : State := st0.setPort 95 { Port.init with set := { PortSet.init with en := true }, k := 4, next := some (1, { PortSet.init with en := true, mode := 1 }) }
theorem wit_PortSettings_force : (asking.port 95).next = some (1, { PortSet.init with en := true, mode := 1 }) ∧ 4 * 1 ≤ 4 ∧ 4 * 1 ≤ (asking.port 95).k ∧
    (asking.port 95).set.en = true ∧ (asking.port 95).set.thr = ({ PortSet.init with en := true, mode := 1 } : PortSet).thr ∧ (asking.port 95).set.mode ≠ 1 ∧
    (st0.port 95).set.en = false ∧ (asking.port 95).set.thr ≠ (1, 0) := by decide
theorem wit_PortSettings_checking : ((st0.setPort 0 { Port.init with chk := some ⟨0, none⟩ }).port 0).chk ≠ none ∧ (st0.port 0).chk = none := by decide
theorem wit_PortSettings_settle :
    let s := st0.setPort 95 { Port.init with settle := some 0 }
    95 < 96 ∧ (s.port 95).settle = some 0 ∧ 0 ≤ s.time := by decide
theorem wit_PortSettings_hold :
    let s := st0.setPort 95 { Port.init with hold := some (0, 0) }
    95 < 96 ∧ ((s.runTo 95 (4 * s.time)).port 95).hold = some (0, 0) ∧ 0 ≤ s.time := by decide +kernel

/-- RUN, every domain on, port 0 enabled with window 1 and its upper state low. -/
def portRun : State :=
  { ((powered.setFd F.PRT_CFG_en 1 0).setPort 0 { Port.init with
      hi := { Comp.init with raw := some false, state := some false, hist := [(false, ⟨0, 0, 0⟩)] }, set := { PortSet.init with en := true, win := (1, 1) } })
    with dev := { st0.dev with st := .run } }
theorem portRun_inv : portRun.Inv := inv_like (by decide +kernel) rfl rfl rfl rfl
theorem wit_PortEdges_established :
    let c : Comp := { Comp.init with raw := some true, hist := [(true, ⟨0, 0, 0⟩)] }
    (c.absorb 0).raw = some true ∧ 1 ≠ 0 ∧ ((c.absorb 0).push (sampled true (c.upTo 0).length)).state = none := by decide
theorem wit_PortEdges_flips :
    let c : Comp := { Comp.init with raw := some true, state := some false, hist := [(true, ⟨0, 0, 0⟩)] }
    let d := (c.absorb 0).push (sampled true (c.upTo 0).length)
    (c.absorb 0).raw = some true ∧ 3 ≠ 0 ∧ d.state = some false ∧ (3 + 1) / 2 ≤ countEq true (d.hist.take 3) ∧ countEq false (d.hist.take 3) < (3 + 1) / 2 := by decide
theorem wit_PortEdges_stays :
    let c : Comp := { Comp.init with raw := some true, state := some false }
    let d := (c.absorb 0).push (sampled true (c.upTo 0).length)
    (c.absorb 0).raw = some true ∧ 3 ≠ 0 ∧ d.state = some false ∧ countEq true (d.hist.take 3) < (3 + 1) / 2 := by decide
theorem wit_PortEdges_confirm : 0 < 96 ∧ portRun.dev.st = .run ∧ portRun.pair .PRT_CNTU_LO .PRT_CNTU_HI 0 < 2 ^ 64 - 2 ∧
    portRun.pair .PRT_CNTL_LO .PRT_CNTL_HI 0 < 2 ^ 64 - 2 ∧ portRun.rg .PRT_EVT_EN 0 = 0 := by decide +kernel
theorem wit_PortEdges_level : 0 < 96 ∧ portRun.portPowered 0 = true ∧ (((portRun.runTo 0 (4 * portRun.time)).port 0).comp false).level ≠ none ∧
    (((portRun.runTo 0 (4 * portRun.time)).port 0).comp true).level = none := by decide +kernel

/-- Port 95 is enabled, of class P, in check mode 2. -/
def checkable : State := (st0.setFd F.PRT_CFG_en 1 95).setFd F.PRT_CHK_CTL_mode 2 95
theorem wit_PortChecks_run : 95 < 96 ∧ checkable.bit F.PRT_CFG_en 95 = true ∧ checkable.bit F.PRT_CFG_class 95 = false ∧
    checkable.fd F.PRT_CHK_CTL_mode 95 ≠ 0 ∧ (checkable.port 95).chk = none ∧ checkable.bit F.PRT_CHK_STS_pending 95 = false ∧
    checkable.quadChecking (95 / 4) = false ∧ checkable.handingOver 95 = false := by decide
theorem wit_PortChecks_refused : 0 < 96 ∧ st0.bit F.PRT_CFG_en 0 = false := by decide
theorem wit_PortChecks_abort : 95 < 96 ∧ ((st0.setPort 95 { Port.init with chk := some ⟨0, none⟩ }).port 95).chk = some ⟨0, none⟩ := by decide
theorem wit_PortChecks_drop :
    let s := st0.setFd F.PRT_CHK_STS_pending 1 0
    0 < 96 ∧ (s.port 0).chk = none ∧ s.bit F.PRT_CHK_STS_pending 0 = true := by decide
theorem wit_PortChecks_scheduled : 95 < 96 ∧ checkable.bit F.PRT_CFG_en 95 = true ∧ checkable.bit F.PRT_CFG_class 95 = false ∧
    checkable.fd F.PRT_CHK_CTL_mode 95 = 2 ∧ (checkable.port 95).chk = none ∧ checkable.bit F.PRT_CHK_STS_pending 95 = false ∧
    (checkable.port 95).lastEdge + checkable.fd F.PRT_CHK_IDLE_ticks ≤ checkable.time ∧ (checkable.port 95).everChk = false ∧
    checkable.quadChecking (95 / 4) = false ∧ checkable.handingOver 95 = false := by decide
def goodCheck : ChkObs :=
  { levels := [List.replicate 64 0, List.replicate 64 2, List.replicate 64 1], d5 := List.replicate 4 (List.replicate 64 64), d6 := List.replicate 4 (List.replicate 64 64), stop := 0 }
theorem wit_PortChecks_pass :
    let s : State := { st0.setPort 95 { Port.init with chk := some ⟨0, none⟩ } with time := 12759 }
    95 < 96 ∧ (s.port 95).chk = some ⟨0, none⟩ ∧ s.chkFail 95 goodCheck = 0 ∧ 0 + 12759 ≤ s.time := by decide +kernel
theorem wit_PortChecks_fail :
    let s : State := { st0.setPort 0 { Port.init with chk := some ⟨0, none⟩ } with time := 9288 }
    0 < 96 ∧ (s.port 0).chk = some ⟨0, none⟩ ∧ s.chkFail 0 { goodCheck with d6 := [] } = 6 ∧
      0 + chkBefore 6 + s.chkStop 0 6 { goodCheck with d6 := [] } + 625 = 8664 ∧ 8664 ≤ s.time := by decide +kernel
theorem wit_PortChecks_aborted : ((st0.setPort 0 { Port.init with chk := some ⟨0, some 626⟩ }).port 0).chk = some ⟨0, some 626⟩ ∧ st0.time < 0 + 626 := by decide
theorem wit_PortChecks_vtt : 23 < 24 ∧ (st0.setFd F.PRT_VTT_ovld 1 23).bit F.PRT_VTT_ovld 23 = true := by decide

theorem wit_CheckWords : 39 < 40 ∧ (st0.copyOff 39 == 0) = true ∧ (({ st0 with tb := { st0.tb with copies := [(0, -1)] } } : State).copyOff 0 == 0) = false := by decide

/-- A task of function `f` with gate source TIME and gates of one tick. -/
def task0 (f : Nat) : Task :=
  { desc := [w32 (4096 * f), 0, 0, 0, 0, 0, 1, 0, 0, 0, 0, 0, 0, 0, 0, 0], eng := 0, ctx := 0, subs := [], outq := 0, started := true, startAt := 0,
    gates := { GateSt.init with phase := .opened, run := true }, bounds := [], port := [], gapPart := [], dropPart := [], pend := [],
    stopAt := none, ended := false, moving := false, spill := (0, 4096), meas := { Meas.init with desc := [w32 (4096 * f)] } }
/-- RUN at tick 100,000 with task 0 placed. -/
def taskState (k : Task) : State :=
  { st0.setTask 0 (some k) with dev := { st0.dev with st := .run }, time := 100000, up := 100000, tb := { st0.tb with keep := 100000 } }
theorem wit_GateEvents_start :
    let k := { task0 0 with started := false }
    (taskState k).task 0 = some k ∧ k.started = false ∧ k.startAt ≤ (taskState k).now := by decide +kernel
theorem wit_GateEvents_close :
    let s := taskState (task0 0)
    let g := plainStep (task0 0).desc (task0 0).gates 512
    s.task 0 = some (task0 0) ∧ s.nextStep (task0 0) = some g ∧ g.closes = true ∧ g.time ≤ 2 ^ 64 + s.now := by decide +kernel
theorem wit_GateEvents_switch :
    let p : Pend := ⟨300, none, (task0 1).desc, 7, none⟩
    let k := { task0 0 with pend := [p] }
    let s := taskState k
    s.task 0 = some k ∧ (s.nextStep k).any (fun g => g.desc == (task0 1).desc && decide (g.time ≤ 2 ^ 64 + s.now)) = true ∧ k.pend ≠ [] := by
  decide +kernel
theorem wit_GateEvents_tly :
    let p : Pend := ⟨300, none, (task0 17).desc, 7, none⟩
    let k := { task0 17 with pend := [p] }
    let k1 := { k with pend := setTly (3, 5) k.pend }
    let s := taskState k
    let s1 := s.setTask 0 (some k1)
    s.task 0 = some k ∧ s1.task 0 = some k1 ∧ k1.pend ≠ k.pend ∧
      (s1.nextStep k1).any (fun g => g.desc == (task0 17).desc && decide (g.time ≤ 2 ^ 64 + s.now)) = true ∧ k.pend ≠ [] := by
  decide +kernel
theorem wit_GateEvents_grid :
    let k := task0 0
    let s := taskState k
    k.started = true ∧ k.gates.run = true ∧ k.gates.phase = .opened ∧ dGsrc k.desc = 0 ∧ k.pend = [] ∧ k.stopAt = none ∧ s.dev.cut = none ∧
      gridFrom k.gates.orig (dGateLen k.desc) (k.gates.start + 1) ≤ s.taskHor k.desc := by decide +kernel

/-- A blocked context of a function. -/
def blocked0 (f : Nat) : State := (taskState (task0 f)).setCtx 0 0 { Ctx.init with valid := true, blocked := true }
theorem wit_EventRelease :
    let s := blocked0 0
    let c := s.ctx 0 0
    c.valid = true ∧ c.blocked = true ∧ c.moving = false ∧ s.engState 0 = 0 ∧ s.task c.task = some (task0 0) ∧ (task0 0).started = true ∧
      s.dev.st = .run ∧ s.dev.shed = false ∧ dFunc (task0 0).meas.desc < 18 ∧ (s.nextEntry 0).2 = none := by decide +kernel
theorem wit_EventRelease_entry :
    let p : PortRec := ⟨300, 1, 0, false, [mkRec 1 0 0 0 300 0], 0, false⟩
    let s := (taskState { task0 0 with port := [p] }).setCtx 0 0 { Ctx.init with valid := true, blocked := true }
    (s.nextEntry 0).2 = some p := by decide +kernel
theorem wit_EventRelease_program :
    let c := { (blocked0 18).ctx 0 0 with rest := [(mkRec 7 0 1 0 0 0, 0, 0)] }
    let s := (blocked0 18).setCtx 0 0 c
    s.ctx 0 0 = c ∧ s.engState 0 = 0 ∧ s.task c.task = some (task0 18) ∧ 18 ≤ dFunc (task0 18).meas.desc := by decide +kernel

/-- The word of class `cls` and op `op`, with rd 1, ra 2 and rb 3. -/
def wordOf (cls op : Nat) : Nat := 2 ^ 124 * cls + 2 ^ 118 * op + 2 ^ 113 + 2 ^ 109 + 2 ^ 103 * 3
/-- A context of task 0 that may issue. -/
def ctx0 : Ctx := { Ctx.init with valid := true, g := [(2, 9), (3, 4)] }
/-- Context 0 of engine 0 issues the word `w` of a program. -/
def issuing (w : Nat) (c : Ctx) : State :=
  ((taskState (task0 18)).setEng fun g => { g with store := [(0, BitVec.ofNat 128 w)] }).setCtx 0 0 c
/-- Every op of a list is issued on a state of its own. -/
abbrev AllIssue (cls : Nat) (ops : List Nat) : Prop :=
  ∀ op ∈ ops, Issues (issuing (wordOf cls op) ctx0) 0 0 cls op (wordOf cls op) ctx0
theorem wit_EngineInteger : AllIssue 0 [2, 3, 4, 5, 6, 7, 8, 9, 10, 11, 12, 13, 16] := by decide +kernel

theorem wit_EngineSums : AllIssue 0 [0, 1, 14, 15] := by decide +kernel
theorem wit_EngineSums_adds : (9 : Int) + 4 = 13 ∧ max (-2 ^ 63) (min (2 ^ 63 - 1) (13 : Int)) = 13 := by decide

theorem wit_EngineAccumulators : AllIssue 1 [0, 1, 2, 3, 4, 5, 6, 7, 8, 9, 10, 11, 12, 13] := by decide +kernel

theorem wit_EngineDivision : AllIssue 2 [0, 1, 2, 3, 4, 5] := by decide +kernel
theorem wit_EngineDivision_round : (-4 : Int) ≠ 0 := by decide

theorem wit_EngineBinary64 : AllIssue 3 [0, 1, 2, 3, 4, 5, 6, 7, 8, 9] := by decide +kernel
theorem wit_EngineBinary64_cmp : f64Cmp 9 4 = (false, false, false) := by decide +kernel
theorem wit_EngineBinary64_fint : f64Fin 9 = true ∧ max (-2 ^ 63) (min (2 ^ 63 - 1) (f64Round 9)) = 0 := by decide +kernel
theorem wit_EngineBinary64_finite : f64Fin 0x3FF0000000000000 = true ∧ f64Fin 0 = true := by decide +kernel

/-- The frame of function 18 is 256 bytes. -/
def framed (w : Nat) : State := (issuing w ctx0).setFd F.ENG_FUNC_frame 1 18
def framed8 (w : Nat) : State := (framed w).setCtx 0 0 { ctx0 with g := [(2, 248), (3, 4)] }
theorem wit_EngineMemory : ∀ op ∈ [0, 1, 2, 3, 4], Issues (framed8 (wordOf 4 op)) 0 0 4 op (wordOf 4 op) { ctx0 with g := [(2, 248), (3, 4)] } ∧
    248 + 8 ≤ (framed8 (wordOf 4 op)).frameBytes { ctx0 with g := [(2, 248), (3, 4)] } := by decide +kernel
theorem wit_EngineMemory_out : Issues (framed (wordOf 4 0)) 0 0 4 0 (wordOf 4 0) ctx0 ∧ (9 : Nat) % 8 ≠ 0 := by decide +kernel
theorem wit_EngineMemory_spill : ∀ op ∈ [5, 6], Issues (framed8 (wordOf 4 op)) 0 0 4 op (wordOf 4 op) { ctx0 with g := [(2, 248), (3, 4)] } ∧
    (framed8 (wordOf 4 op)).task 0 = some (task0 18) ∧ 248 + 8 ≤ (task0 18).spill.2 ∧ (framed8 (wordOf 4 op)).poisonIn 248 8 = 0 := by decide +kernel
theorem wit_EngineMemory_spst : (framed8 (wordOf 4 6)).Inv ∧ Issues (framed8 (wordOf 4 6)) 0 0 4 6 (wordOf 4 6) { ctx0 with g := [(2, 248), (3, 4)] } :=
  ⟨inv_like (by decide +kernel) rfl rfl rfl rfl, by decide +kernel⟩

/-- A context of task 0, a program with four bins of width 2 from 0. -/
def hctx (v : BitVec 64) : Ctx := { ctx0 with g := [(2, v), (3, 4)], width := 2 }
def binned (w : Nat) (c : Ctx) : State :=
  (issuing w c).setTask 0 (some { task0 18 with desc := [w32 (4096 * 18 + 2 ^ 19), 0, 0, 0, 0, 0, 1, 0, 0, 0, 0, 0, 0, 0, 2, 4] })
theorem wit_EngineHistogram : ∀ op ∈ [0, 1, 2, 3, 4], Issues (binned (wordOf 5 op) (hctx 3)) 0 0 5 op (wordOf 5 op) (hctx 3) ∧
    (3 : Nat) < (binned (wordOf 5 op) (hctx 3)).binCount (hctx 3) ∧ 0 < (hctx 3).width ∧ (hctx 3).r 3 ≠ 0 ∧ (hctx 3).below < 2 ^ 32 := by decide +kernel
theorem wit_EngineHistogram_below : Issues (binned (wordOf 5 1) (hctx (-1))) 0 0 5 1 (wordOf 5 1) (hctx (-1)) ∧
    (((hctx (-1)).a (wordOf 5 1)).toInt - (hctx (-1)).origin) / (hctx (-1)).width < 0 := by decide +kernel
theorem wit_EngineHistogram_above : Issues (binned (wordOf 5 1) (hctx 8)) 0 0 5 1 (wordOf 5 1) (hctx 8) ∧
    ((binned (wordOf 5 1) (hctx 8)).binCount (hctx 8) : Int) ≤ (((hctx 8).a (wordOf 5 1)).toInt - (hctx 8).origin) / (hctx 8).width := by decide +kernel
theorem wit_EngineHistogram_zero : Issues (issuing (wordOf 5 0) { ctx0 with g := [] }) 0 0 5 0 (wordOf 5 0) { ctx0 with g := [] } := by decide +kernel

theorem wit_EnginePort : AllIssue 6 [0, 1, 2, 3, 4, 5, 6, 7, 8] := by decide +kernel
theorem wit_EnginePort_opn : Issues (issuing (wordOf 6 0) { ctx0 with opn := true }) 0 0 6 0 (wordOf 6 0) { ctx0 with opn := true } := by decide +kernel
/-- The same word with aux `k`. -/
def auxWord (op k : Nat) : Nat := wordOf 6 op + 2 ^ 32 * k
theorem wit_EnginePort_evrd : ∀ k ∈ [0, 1, 2, 3, 4, 5],
    let c := { ctx0 with ev := some ⟨mkRec 1 0 0 0 0 0, 1, 0, 0⟩ }
    Issues (issuing (auxWord 1 k) c) 0 0 6 1 (auxWord 1 k) c ∧ wAux (auxWord 1 k) = k := by decide +kernel
theorem wit_EnginePort_skip :
    let c := { ctx0 with ev := some ⟨mkRec 1 0 0 0 0 0, 1, 0, 0⟩ }
    let k := { task0 18 with subs := [⟨0, 200, true, 0⟩] }
    let s := (issuing (wordOf 6 2) c).setTask 0 (some k)
    Issues s 0 0 6 2 (wordOf 6 2) c ∧ s.task 0 = some k ∧ k.subs[0]? = some ⟨0, 200, true, 0⟩ ∧ c.rest = [] := by decide +kernel
theorem wit_EnginePort_task : (issuing (wordOf 6 3) ctx0).task ctx0.task = some (task0 18) := by decide +kernel
theorem wit_EnginePort_time : ∀ k ∈ [0, 1, 2, 3], Issues (issuing (auxWord 5 k) ctx0) 0 0 6 5 (auxWord 5 k) ctx0 ∧ wAux (auxWord 5 k) = k := by decide +kernel
/-- Task 0 is TALLY, and binds slot 0. -/
def tallied (w : Nat) : State := ((issuing w ctx0).setTask 0 (some (task0 17))).setFd F.TLY_FLG_bound 1 0
theorem wit_EnginePort_slot : ∀ op ∈ [7, 8], ∀ k ∈ [0, 1, 2], Issues (tallied (auxWord op k)) 0 0 6 op (auxWord op k) ctx0 ∧
    (tallied (auxWord op k)).boundSlot ctx0 = some 0 ∧ wAux (auxWord op k) = k := by decide +kernel
theorem wit_EnginePort_noSlot : (issuing (wordOf 6 7) ctx0).boundSlot ctx0 = none ∧ (issuing (wordOf 6 8) ctx0).boundSlot ctx0 = none := by decide +kernel

theorem wit_EngineControl : AllIssue 7 [0, 1, 2] := by decide +kernel
theorem wit_EngineControl_csr : ∀ k ∈ [0, 1, 2, 3, 4],
    Issues (issuing (wordOf 7 1 + 2 ^ 32 * k) ctx0) 0 0 7 1 (wordOf 7 1 + 2 ^ 32 * k) ctx0 ∧ wAux (wordOf 7 1 + 2 ^ 32 * k) = k := by decide +kernel
theorem wit_EngineControl_illegal : (issuing 1 ctx0).ctx 0 0 = ctx0 ∧ (issuing 1 ctx0).canIssue 0 ctx0 = true ∧ wordLegal 1 = false := by decide +kernel
theorem wit_EngineControl_pred :
    let w := wordOf 7 2 + 2 ^ 96 * 15
    (issuing w ctx0).canIssue 0 ctx0 = true ∧ wordLegal w = true ∧ wCls w = 7 ∧ wOp w = 2 ∧ ctx0.fl.holds (wPred w) = false := by decide +kernel
/-- A word of sequencer operation `q` whose op is done. -/
def seqWord (q : Nat) : Nat := wordOf 7 0 + 2 ^ 60 * q + 2 ^ 44 * 4095
def seqCtx (st : List Nat) : Ctx := { ctx0 with seqPend := true, stack := st, pc := 0 }
theorem wit_EngineControl_seq : ∀ q ∈ [1, 2, 3, 4, 5], ∀ st ∈ [[], [7, 6, 5, 4, 3, 2, 1], [8, 7, 6, 5, 4, 3, 2, 1]],
    SeqActs (issuing (seqWord q) (seqCtx st)) 0 0 q (seqWord q) (seqCtx st) := by decide +kernel
theorem wit_EngineControl_cond :
    let w := seqWord 1 + 2 ^ 56 * 15
    (issuing w (seqCtx [])).seqDue 0 1 (seqCtx []) = true ∧ (seqCtx []).fl.holds (wCond w) = false := by decide +kernel
theorem wit_EngineControl_stop : (issuing (seqWord 5) (seqCtx [])).task (seqCtx []).task = some (task0 18) := by decide +kernel
theorem wit_EngineControl_timeout :
    let c := { ctx0 with stopSeen := some 0 }
    let s := { issuing 0 c with time := 1000000 }
    s.ctx 0 0 = c ∧ c.valid = true ∧ 0 + msTicks 1 ≤ s.time := by decide +kernel

/-- Context 0 is staged with a valid configuration on bank 60 (preset): port channel 0, kind 1. -/
def decStaged : State :=
  { ((((((st0.setFd F.DEC_CTX_SRC_kind 1 0).setFd F.DEC_CTX_SRC_src 0 0).setFd F.DEC_CTX_SRC_codes_pos 1 0).setFd F.DEC_CTX_COEF_bank 60 0).setFd
      F.DEC_CTX_CIC_r 4 0)) with dev := { st0.dev with st := .run }, time := 100000, up := 100000, tb := { st0.tb with keep := 100000 } }
theorem wit_DecimatorCommands_start : (decStaged.dctx 0).st = 0 ∧ decStaged.decCheck 0 (decStaged.staged 0) = 1 := by decide +kernel
theorem wit_DecimatorCommands_bad : (st0.dctx 0).st = 0 ∧ st0.decCheck 0 (st0.staged 0) ≠ 1 := by decide +kernel
/-- Context 0 with a record of its own. -/
def decIn (c : DecCtx) : State := decStaged.setDctx 0 c
theorem wit_DecimatorCommands_armed : ((decIn { DecCtx.init with st := 1, anchor := 2 ^ 40 }).dctx 0).st = 1 ∧
    gridCeil (decIn { DecCtx.init with st := 1, anchor := 2 ^ 40 }).now ≤ 2 ^ 40 := by decide +kernel
theorem wit_DecimatorCommands_run :
    let c := { DecCtx.init with st := 2, cur := 60 }
    (decIn c).dctx 0 = c ∧ c.apply = none ∧ (decIn c).decCheck 0 ((decIn c).staged 0) = 1 ∧ 60 / 64 = decBank 0 ∧ (decIn c).bankValid 60 = true ∧
      c.fade = none ∧ c.req = none ∧ (decIn c).bankDf 60 = (decIn c).bankDf c.cur := by decide +kernel
theorem wit_DecimatorCommands_then :
    let a : DecApply := ⟨{ DecCfg.init with bank := 61 }, 0, 0⟩
    let c := { DecCtx.init with st := 2, cur := 60, apply := some a }
    c.apply = some a ∧ a.point ≤ (decIn c).reqInstant c 0 ∧ (decIn c).bankThen c 0 ≠ c.cur := by decide +kernel
theorem wit_DecimatorCommands_df :
    let c := { DecCtx.init with st := 2, cur := 60 }
    (decIn c).dctx 0 = c ∧ (decIn c).bankValid 61 = true ∧ (11 : Nat) ≠ 0 ∧ (decIn c).bankDf 61 ≠ (decIn c).bankDf c.cur := by decide +kernel
theorem wit_DecimatorCommands_waiting :
    let c := { DecCtx.init with st := 2, cur := 60, fade := some ⟨63, 2, 0⟩, req := some ⟨60, 0, 0, 0⟩ }
    (decIn c).dctx 0 = c ∧ (decIn c).bankDf 60 = (decIn c).bankDf 63 := by decide +kernel
theorem wit_DecimatorCommands_coef : (st0.setFd F.DEC_COEF_ADDR_bank 59).fd F.DEC_COEF_ADDR_bank = 59 ∧ st0.fd F.DEC_COEF_ADDR_index = 0 ∧ 59 % 64 < 60 ∧
    st0.bankBusy 59 = false ∧ bitsOf 0x00100100 0 9 = 256 ∧ bitsOf 0x00100100 16 5 = 16 := by decide +kernel
theorem wit_DecimatorCommands_preset : (st0.setFd F.DEC_COEF_ADDR_bank 60).fd F.DEC_COEF_ADDR_bank = 60 ∧ 60 ≤ 60 % 64 := by decide +kernel

/-- A configuration on preset bank 60. -/
def decCfg0 : DecCfg := { DecCfg.init with kind := 1, r := 4, pos := 1, bank := 60, pkt := 8 }
def decDom : State := ((allDoms.foldl (fun s d => s.setDom d true) decStaged).setDctx 0 { DecCtx.init with st := 1 })
theorem wit_DecimatorRuns_start : (decDom.dctx 0).st = 1 ∧ (decDom.dctx 0).anchor ≤ decDom.now ∧ decDom.decLive 0 = true := by decide +kernel
/-- A running context that has taken `k` grid intervals. -/
def decRun (k : Nat) (f : DecCtx → DecCtx) : State := decDom.setDctx 0 (f { DecCtx.init with st := 2, cfg := decCfg0, cur := 60, i := k })
theorem wit_DecimatorRuns_grid :
    let s := decRun 1 id
    let c := s.dctx 0
    c.st = 2 ∧ c.cfg.kind = 1 ∧ s.decLive 0 = true ∧ s.outputDue c = false ∧ c.stopAt = none ∧ c.apply = none ∧ c.spans = [] ∧
      s.oosNow c.cfg.src = none ∧ c.gridPt (c.i + 1) ≤ (if isRemChan c.cfg.src then s.hR else s.hD) * 512 ∧ c.i ≠ 0 ∧ c.edges = [] ∧
      c.noChain (c.gridPt (c.i + 1)) = false := by decide +kernel
theorem wit_DecimatorRuns_suppressed :
    let s := decRun 32 fun c => { c with coefSup := 1 }
    s.outputDue (s.dctx 0) = true ∧ s.decLive 0 = true ∧ (s.dctx 0).req = none ∧ (s.dctx 0).fade = none ∧ 0 < (s.dctx 0).coefSup := by decide +kernel
theorem wit_DecimatorRuns_output :
    let s := decRun 32 id
    s.outputDue (s.dctx 0) = true ∧ s.decLive 0 = true ∧ (s.dctx 0).req = none ∧ (s.dctx 0).fade = none ∧ (s.dctx 0).coefSup = 0 ∧
      (s.dctx 0).spans = [] ∧ (s.dctx 0).supp = none ∧ (s.dctx 0).cfg.fmt = false := by decide +kernel
theorem wit_DecimatorRuns_fade :
    let s := decRun 32 fun c => { c with req := some ⟨63, 1, 0, 0⟩ }
    s.outputDue (s.dctx 0) = true ∧ s.decLive 0 = true ∧ s.reqDue (s.dctx 0) = some ⟨63, 1, 0, 0⟩ ∧ (s.dctx 0).fade = none ∧ 63 ≠ (s.dctx 0).cur ∧
      (s.dctx 0).supp = none ∧ (s.dctx 0).pkt = none := by decide +kernel
theorem wit_DecimatorRuns_timeout :
    let p : SamplePkt := { head := 0, seq := 0, flags := 0, formed := 0, data := [1] }
    let s : State := { (decRun 1 fun c => { c with pkt := some p }) with time := 625000 }
    (s.dctx 0).pkt = some p ∧ p.formed + 625000 ≤ s.time := by decide +kernel

/-- RUN, every domain on. -/
def liveConv : State := { powered with dev := { st0.dev with st := .run } }
theorem wit_MonitorConverters_code : liveConv.madcLive 11 = true ∧ 15 < 16 ∧ liveConv.madcState 11 ≠ 3 ∧ (liveConv.madc 11).left = 0 := by decide +kernel
theorem wit_MonitorConverters_tap : 7 ≤ 7 ∧ bitsOf 45 0 6 ≤ 45 ∧ (liveConv.setFd F.MADC_STS_set 7 10).servingConv 7 = some 10 ∧
    ((liveConv.setFd F.MADC_STS_set 7 10).madc 10).slot = none := by decide +kernel
/-- A slot of full length. -/
def slot0 (d : Option Nat) : MadcSlot := { dac := d, k := 11719, start := 0, discard := false, integ := [], comb := [], outs := [], why := 0 }
def slotted (d : Option Nat) : State := liveConv.setMadc 0 { Madc.init with slot := some (slot0 d) }
theorem wit_MonitorConverters_held : (slotted none).servingConv 0 = some 0 ∧ ((slotted none).madc 0).slot ≠ none := by decide +kernel
theorem wit_MonitorConverters_start :
    let s := ((liveConv.setFd F.PRT_RB_CTL_en 1).setFd F.PRT_CFG_en 1 11).setFd F.PRT_CFG_class 1 11
    s.slotFree 0 = true ∧ s.madcState 0 = 0 ∧ s.bit F.PRT_RB_CTL_en = true ∧ Tab.get 0 s.dec.lastRb (s.madcSet 0) = 0 ∧ s.nextDac (s.madcSet 0) = some 22 := by decide +kernel
theorem wit_MonitorConverters_spare : (liveConv.setFd F.MADC_STS_state 1 2).slotFree 2 = true ∧ (liveConv.setFd F.MADC_STS_state 1 2).madcState 2 = 1 := by
  decide +kernel
theorem wit_MonitorConverters_readback :
    let s := slotted (some 190)
    (s.madc 0).slot = some (slot0 (some 190)) ∧ 11719 ≤ (slot0 (some 190)).k ∧ s.madcLive 0 = true ∧ Tab.get [] s.thrs 95 = [] ∧
      s.bit F.PRT_STS_thr_settle 95 = false := by decide +kernel
theorem wit_MonitorConverters_check : ((slotted none).madc 0).slot = some (slot0 none) ∧ (slotted none).madcLive 0 = true ∧ (slot0 none).why = 0 := by
  decide +kernel
theorem wit_MonitorConverters_substitute :
    let s := (liveConv.setFd F.MADC_STS_state 1 11).setMadc 11 { Madc.init with passed := true }
    9 < 12 ∧ s.madcState 9 = 0 ∧ s.readySpare (9 / 3) = some 11 := by decide +kernel
theorem wit_MonitorConverters_refused : 11 < 12 ∧ liveConv.readySpare (11 / 3) = none ∧ (slotted none).slotFree 0 = false := by decide +kernel
theorem wit_MonitorConverters_commands : liveConv.madcState 0 ≠ 2 ∧ liveConv.slotFree 0 = true ∧ (liveConv.setFd F.MADC_STS_state 2 0).madcState 0 = 2 ∧
    (liveConv.setFd F.MADC_STS_state 2 0).slotFree 0 = true := by decide +kernel

/-- Link `l` in a state and a step. -/
def linkIn (l st step : Nat) : State := (st0.setLfd F.LNK_STS_state F.CAS_LNK_STS_state st l).setLink l { Link.init with step := step }
/-- A flit of a HELLO. -/
def helloFlit : Flit := { seq := 0, ack := 0, nrep := 0, credit := 0, anchor := 0, slots := [1, 1, 256, 5] }
theorem wit_LinkTraining_lock : (linkIn 19 1 1).lstate 19 = 1 ∧ ((linkIn 19 1 1).link 19).step = 1 := by decide
theorem wit_LinkTraining_hello : 15 < 16 ∧ (linkIn 15 1 2).lstate 15 = 1 ∧ ((linkIn 15 1 2).link 15).step = 2 ∧ nth 0 helloFlit.slots 1 % 256 = 1 ∧
    natBit (nth 0 helloFlit.slots 2) 8 = true := by decide
theorem wit_LinkTraining_complete : (linkIn 16 2 6).lstate 16 = 2 ∧ ((linkIn 16 2 6).link 16).step = 6 := by decide
theorem wit_LinkTraining_try : (linkIn 0 1 3).lstate 0 = 1 ∧ ((linkIn 0 1 3).link 0).step ≠ 0 := by decide
theorem wit_LinkTraining_loss : (linkIn 15 3 0).lstate 15 = 3 ∧ 15 < 16 ∧ ((linkIn 15 3 0).link 15).heard + usTicks ((linkIn 15 3 0).fd F.LNK_TMO_loss 15) ≤
    (linkIn 15 3 0).time := by decide
theorem wit_LinkTraining_retrain :
    let s := (linkIn 15 4 0).setLink 15 { Link.init with downAt := some 0 }
    15 < 16 ∧ s.lstate 15 = 4 ∧ (s.link 15).downAt = some 0 ∧ 0 + msTicks (s.fd F.LNK_TMO_retrain 15) ≤ s.time := by decide
theorem wit_LinkTraining_command : (liveConv.setFd F.LNK_CFG_en 1 15).bit F.LNK_CFG_en 15 = true ∧ (liveConv.setFd F.LNK_CFG_en 1 15).linkDom 15 = true ∧
    liveConv.dev.st = .run ∧ (st0.setFd F.LNK_CFG_en 1 15).bit F.LNK_CFG_en 15 = true ∧ (st0.setFd F.LNK_CFG_en 1 15).dev.st ≠ .run ∧
    st0.bit F.LNK_CFG_en 15 = false := by decide +kernel

/-- A flit that a fresh link accepts. -/
def flit0 : Flit := { seq := 0, ack := 255, nrep := 0, credit := 0, anchor := 0, slots := [] }
theorem wit_LinkReceives : (linkIn 19 2 0).receives 19 = true ∧ (linkIn 19 1 3).receives 19 = true := by decide
theorem wit_LinkReceives_crc : (linkIn 15 3 0).receives 15 = true ∧ ((linkIn 15 3 0).link 15).naks = 0 := by decide
theorem wit_LinkReceives_again :
    let s := (linkIn 15 3 0).setLink 15 { Link.init with naks := 6, good := false }
    s.receives 15 = true ∧ (s.link 15).naks ≠ 0 ∧ (s.link 15).good = false := by decide
theorem wit_LinkReceives_accept : ((linkIn 15 3 0).accept 15 flit0).2 = true ∧ ((linkIn 15 3 0).accept 15 flit0).1.lstate 15 = 3 := by decide +kernel
theorem wit_LinkReceives_report :
    let u := ((linkIn 15 3 0).accept 15 flit0).1
    let v := u.setPair .LNK_FLITS_LO .LNK_FLITS_HI (u.pair .LNK_FLITS_LO .LNK_FLITS_HI 15 + 1) 15
    let w := v.setUO 15 (v.lU 15) (v.lO 15 + 1)
    v.lU 15 + v.lO 15 < 64 ∧ (v.link 15).lastA.getD 0 ≤ v.anchorTick (v.link 15) 0 ∧ v.anchorTick (v.link 15) 0 ≤ w.linkNow 15 / 512 ∧
      w.linkNow 15 / 512 < v.anchorTick (v.link 15) 0 + 2 ^ 54 := by decide +kernel
theorem wit_LinkReceives_full :
    let u := (((linkIn 15 3 0).setUO 15 0 64).accept 15 flit0).1
    64 ≤ (u.setPair .LNK_FLITS_LO .LNK_FLITS_HI (u.pair .LNK_FLITS_LO .LNK_FLITS_HI 15 + 1) 15).lU 15 +
      (u.setPair .LNK_FLITS_LO .LNK_FLITS_HI (u.pair .LNK_FLITS_LO .LNK_FLITS_HI 15 + 1) 15).lO 15 := by decide +kernel
theorem wit_LinkReceives_edge : (st0.setRg .LNK_CHEN 0x80000000 0 7).reportFault 0 255 0 = 0 := by decide

theorem wit_LinkTime_up : (linkIn 15 3 0).lstate 15 = 3 ∧ (15 : Nat) ≠ 16 ∧ ((linkIn 15 3 0).link 15).t1 = none ∧
    (((linkIn 15 3 0).setLink 15 { Link.init with t1 := some 0 }).link 15).t1 ≠ none ∧ (linkIn 15 2 0).lstate 15 ≠ 3 := by decide
theorem wit_LinkTime_due : (linkIn 15 3 0).past ((linkIn 15 3 0).link 15).treqAt (625000 * (linkIn 15 3 0).fd F.LNK_SYNC_CFG_period 15) = true ∧
    (linkIn 15 3 0).past ((linkIn 15 3 0).link 15).timeAt 65536 = true ∧ (linkIn 15 3 0).past ((linkIn 15 3 0).link 15).areqAt 625000 = true ∧ 15 < 16 := by decide
theorem wit_LinkTime_grant : ((linkIn 15 3 0).setUO 15 1 63).lstate 15 = 3 ∧ ((linkIn 15 3 0).setUO 15 1 63).lU 15 ≠ 0 := by decide
theorem wit_LinkTime_echo :
    let u := (((linkIn 15 2 5).setLink 15 { Link.init with step := 5, t1 := some 0 }).accept 15 flit0)
    u.2 = true ∧ (u.1.link 15).t1 = some 0 ∧ u.1.lstate 15 = 2 ∧ (u.1.link 15).step = 5 := by decide +kernel
theorem wit_LinkTime_arsp :
    let s := ((linkIn 15 3 0).setUO 15 0 64).setLink 15 { Link.init with areq := some 0 }
    let u := (s.accept 15 flit0).1
    15 < 16 ∧ (s.accept 15 flit0).2 = true ∧ u.lstate 15 = 3 ∧ (u.link 15).areq ≠ none ∧ u.flitsAcc 15 = nth 0 flit0.slots 1 % 2 ^ 16 ∧
      nth 0 flit0.slots 3 % 128 + ((u.link 15).g + 2 ^ 16 - nth 0 flit0.slots 2 % 2 ^ 16) % 2 ^ 16 + u.lU 15 + u.lO 15 = 64 ∧ (u.link 15).ovr = false := by
  decide +kernel
theorem wit_LinkTime_arspBad :
    let s := ((linkIn 15 3 0).setUO 15 0 63).setLink 15 { Link.init with areq := some 0 }
    let u := (s.accept 15 flit0).1
    (s.accept 15 flit0).2 = true ∧ u.lstate 15 = 3 ∧ (u.link 15).areq ≠ none ∧
      nth 0 flit0.slots 3 % 128 + ((u.link 15).g + 2 ^ 16 - nth 0 flit0.slots 2 % 2 ^ 16) % 2 ^ 16 + u.lU 15 + u.lO 15 ≠ 64 := by decide +kernel
theorem wit_LinkTime_noArsp :
    let s : State := { (linkIn 19 3 0).setLink 19 { Link.init with areq := some 0 } with time := 625000 }
    s.lstate 19 = 3 ∧ (s.link 19).areq = some 0 ∧ 0 + 625000 ≤ s.time := by decide
theorem wit_LinkTime_ack :
    let s := (linkIn 15 3 0).setLink 15 { Link.init with kept := [⟨0, 3, 0, [4]⟩] }
    15 < 16 ∧ s.receives 15 = true ∧ (s.link 15).kept = ⟨0, 3, 0, [4]⟩ :: [] ∧ (s.link 15).since + usTicks (s.fd F.LNK_TMO_ack 15) ≤ s.time := by decide
theorem wit_LinkTime_gap :
    let e : LinkEvt := { until_ := 0, count := 1, held := some (0, 0, 0, 0) }
    Tab.get LinkEvt.init (((st0.setLink 0 { Link.init with evts := [(1, e)] }).link 0).evts) 1 = e ∧ e.until_ ≤ st0.time := by decide

/-- RUN with every domain on; unit `n` has OR over an EDGE condition on channel 0. -/
def pipState (n : Nat) : State :=
  (((({ liveConv with time := 100000, up := 100000, tb := { liveConv.tb with keep := 100000 } }).setFd F.TRG_CFG_op 1 n).setFd F.TRG_CFG_use 1 n).setFd F.TRG_SRC_kind 1 n 0).setFd
    F.TRG_SRC_codes 1 n 0
/-- The same with the unit running, and a SOFT condition where `k` is 6. -/
def pipRun (n k : Nat) : State :=
  let s := (pipState n).setFd F.TRG_SRC_kind k n 0
  s.setPip n { s.pip n with cfg := some (s.pipStaged n) }
theorem wit_PipCommands_enable : (pipState 15).pipUnit 15 = true ∧ (pipState 15).pipRunning 15 = false ∧
    (pipState 15).pipCheck ((pipState 15).pipStaged 15) = 1 := by decide +kernel
theorem wit_PipCommands_run : (pipRun 0 1).pipUnit 0 = true ∧ (pipRun 0 1).pipRunning 0 = true ∧ (pipRun 0 1).pipCheck ((pipRun 0 1).pipStaged 0) = 1 ∧
    ((((pipRun 0 1).pipCfgNext 0).used.any fun k => natBit 15 k && (((pipRun 0 1).pipCfgNext 0).cond k).kind == 6) = false) := by decide +kernel
theorem wit_PipCommands_soft : (pipRun 0 6).pipRunning 0 = true ∧
    ((((pipRun 0 6).pipCfgNext 0).used.any fun k => natBit 1 k && (((pipRun 0 6).pipCfgNext 0).cond k).kind == 6) = true) := by decide +kernel
theorem wit_PipCommands_bad : liveConv.pipUnit 0 = true ∧ liveConv.pipRunning 0 = false ∧ liveConv.pipCheck (liveConv.pipStaged 0) ≠ 1 ∧ st0.pipLive = false := by
  decide +kernel
theorem wit_PipCommands_due :
    let s := fun t => (pipRun 0 1).setPip 0 { (pipRun 0 1).pip 0 with cmds := [⟨t, 2, 512 * t, 0, none⟩] }
    (s 0).pipLive = true ∧ ((s 0).pip 0).cmds = [⟨0, 2, 0, 0, none⟩] ∧ (s 0).pipDue 0 ⟨0, 2, 0, 0, none⟩ = true ∧
      (s 9).pipDue 0 ⟨9, 2, 512 * 9, 0, none⟩ = false := by decide +kernel

theorem wit_PipTriggers_empty :
    let s := pipRun 0 1
    let cfg := s.pipStaged 0
    (s.pip 0).cfg = some cfg ∧ s.pipLive = true ∧ (s.pip 0).cmds = [] ∧ (s.pip 0).items = [] ∧ cfg.auto = false ∧ (s.pip 0).j < s.pipJ cfg / 512 := by
  decide +kernel
theorem wit_PipTriggers_tick :
    let e : PItem := ⟨512 * 7, 0, 0, .edge 0 0 0⟩
    let s := (pipRun 0 1).setPip 0 { (pipRun 0 1).pip 0 with items := [e] }
    let cfg := s.pipStaged 0
    (s.pip 0).cfg = some cfg ∧ (s.pip 0).items = e :: [] ∧ (s.pip 0).j ≤ e.time / 512 ∧ (s.pip 0).nextTick cfg = some 7 ∧ 7 < s.pipJ cfg / 512 ∧
      (((s.pip 0).tickEvents cfg 7 512 [e] []).2.length = 1) := by decide +kernel
theorem wit_PipTriggers_auto :
    let u := { Pip.init with tref := 0 }
    let cfg := { (pipRun 0 1).pipStaged 0 with auto := true, tmo := 7 }
    u.expression cfg 7 [] = (u, none) ∧ (u.tref + cfg.tmo * 512) / 512 = 7 ∧ cfg.op = 1 := by decide +kernel
theorem wit_PipTriggers_line : 7 < 8 ∧ (pipRun 0 1).dev.st = .run := by decide +kernel

theorem wit_TrigPins :
    let s := fun b => (pipRun 0 1).setTrigPin 3 ⟨true, none, [⟨0, 512, false, b⟩]⟩
    (s false).trigPin 3 = ⟨true, none, ⟨0, 512, false, false⟩ :: []⟩ ∧ 512 ≤ (s false).now ∧ (s false).pipLive = true ∧
      (s true).trigPin 3 = ⟨true, none, ⟨0, 512, false, true⟩ :: []⟩ := by decide +kernel
theorem wit_TrigPins_write : 3 < 4 ∧ (pipRun 0 1).domOn 74 = true ∧ bitsOf 0x13D 8 16 ≠ 0 ∧ (natBit (0x13D : Word).toNat 2 = true → bitsOf 0x13D 3 4 < 8) := by
  decide +kernel
theorem wit_TrigPins_turn :
    let p : TrigPin := ⟨true, some false, [⟨0, 512, false, true⟩]⟩
    (3, p) ∈ (st0.setTrigPin 3 p).trg.pins ∧ p.turn = some false ∧ false ≠ p.drives ∧ (2, { p with turn := some true }) ∈
      (st0.setTrigPin 2 { p with turn := some true }).trg.pins := by decide +kernel

/-- Unit `a` of acquisition in state `x`. -/
def acqIn (a x : Nat) (u : Acq) : State := ((((pipRun 0 1).setPip 0 { (pipRun 0 1).pip 0 with j := 1000 }).setFd F.ACQ_STS_state x a).setFd F.ACQ_CFG_mode 2 a).setAcqU a u
/-- Unit 15 may stream to region 255. -/
def acqFree : State :=
  (((((((acqIn 15 0 Acq.init).setFd F.ACQ_CFG_mode 1 15).setFd F.DRM_RG_CFG_kind 2 127).setFd F.ACQ_REGION_region 127 15).setFd
    F.ACQ_STAGE_size 1 15).setFd F.ACQ_CFG_codes 1 15).setFd F.TRG_STS_state 1 0).setFd F.ACQ_RRANGE_first 0x100 15 |>.setFd F.ACQ_RRANGE_count 1 15
def aItem0 : AItem := ⟨512, 0, 0, 0, false, false, [mkRec 1 0 0 0 512 0]⟩
def aTrig0 : ATrig := ⟨512, [mkRec 4 0 0 0 512 0, mkRec 4 0 1 0 0 0]⟩
theorem wit_Acquisition_bad : (acqIn 15 0 Acq.init).pipUnit 15 = true ∧ (acqIn 15 0 Acq.init).acqCheck 15 ≠ 1 ∧ (acqIn 15 0 Acq.init).acqArmed 15 = false := by
  decide +kernel
theorem wit_Acquisition_arm : acqFree.pipUnit 15 = true ∧ acqFree.acqCheck 15 = 1 := by decide +kernel
theorem wit_Acquisition_inv : (acqIn 0 1 Acq.init).Inv := inv_like (by decide +kernel) rfl rfl rfl rfl
theorem wit_Acquisition_point : (acqIn 0 1 Acq.init).acqArmed 0 = true ∧ (acqIn 0 1 Acq.init).fd F.ACQ_STS_state 0 = 1 ∧
    ((acqIn 0 1 Acq.init).acqU 0).arm ≤ (acqIn 0 1 Acq.init).now ∧ (acqIn 0 1 Acq.init).acqMode 0 ≠ 1 := by decide +kernel
theorem wit_Acquisition_packet :
    let s := acqIn 0 2 { Acq.init with buf := [aItem0] }
    s.fd F.ACQ_STS_state 0 = 2 ∧ s.acqArmed 0 = true ∧ s.acqNext 0 = some (.inl aItem0) ∧ s.segDue 0 aItem0.due = none := by decide +kernel
theorem wit_Acquisition_trigger :
    let s := acqIn 0 2 { Acq.init with trigs := [aTrig0] }
    s.acqNext 0 = some (.inr aTrig0) ∧ s.segDue 0 (some aTrig0.time) = none ∧ s.acqMode 0 ≠ 1 ∧ (s.acqU 0).arm ≤ aTrig0.time ∧ (s.acqU 0).seg = none ∧
      (s.acqU 0).rearm ≤ aTrig0.time ∧ s.acqMode 0 ≠ 0 := by decide +kernel
theorem wit_Acquisition_close :
    let g : ASeg := { trig := aTrig0, num := 0, pre := 0, post := 2 ^ 32, given := 0, lost := 0, gaps := 0, last := 512, body := [], loss := none, part := 0 }
    let s := acqIn 15 3 { Acq.init with seg := some g }
    s.pipUnit 15 = true ∧ s.fd F.ACQ_STS_state 15 = 3 ∧ s.acqNext 15 = none ∧ s.segDue 15 none = some (512, 0) := by decide +kernel
theorem wit_Acquisition_count : 15 < 16 ∧ 0 % 2 ^ 25 ≤ st0.fd F.ACQ_SEGS_segs 15 ∧ st0.fd F.ACQ_SEGS_segs 15 < 1 % 2 ^ 25 := by decide +kernel

/-- One channel of 16 GiB, the scrubber enabled, and page 0 retired from the `thr`th corrected error. -/
def dramState (thr : Nat) : State :=
  (((({ liveConv with time := 100000, up := 100000, tb := { liveConv.tb with keep := 100000 } }).setFd F.DRM_STS_used 1).setFd F.DRM_STS_gib 16).setFd F.DRM_SCRUB_retire_thr thr).setFd
    F.DRM_SCRUB_en 1
/-- Region 255 is a ring with WR at 48. -/
def ringState (w : Nat) : State :=
  (((dramState 1).setFd F.DRM_RG_CFG_kind 2 255).setWr 255 48).setRing 255 { Ring.init with writer := w, first := some 7 }
theorem wit_ExternalMemory_error : 16 * 2 ^ 30 - 1 < (dramState 2).dramSize ∧ (dramState 2).store.retired.contains 0 = false ∧
    (dramState 2).store.retired.length + 1 < 4096 := by decide +kernel
theorem wit_ExternalMemory_below :
    let s := dramState 2
    let t := ((s.dramErr 64 F.DRM_ERR_ce).addSat F.DRM_CE_CNT 1).setStore (fun v => { v with ce := Tab.set 0 v.ce 0 (Tab.get 0 s.store.ce 0 + 1) })
    64 < s.dramSize ∧ Tab.get 0 s.store.ce 0 + 1 < t.fd F.DRM_SCRUB_retire_thr := by decide +kernel
theorem wit_ExternalMemory_reached :
    let s := dramState 1
    let t := ((s.dramErr 64 F.DRM_ERR_ce).addSat F.DRM_CE_CNT 1).setStore (fun v => { v with ce := Tab.set 0 v.ce 0 (Tab.get 0 s.store.ce 0 + 1) })
    t.fd F.DRM_SCRUB_retire_thr ≠ 0 ∧ t.fd F.DRM_SCRUB_retire_thr ≤ Tab.get 0 s.store.ce 0 + 1 := by decide +kernel
theorem wit_ExternalMemory_retired :
    ((dramState 1).setStore fun v => { v with retired := [3] }).store.retired.contains (12288 / 4096) = true := by decide +kernel
theorem wit_ExternalMemory_full :
    let s := st0.setStore fun v => { v with retired := List.replicate 4096 1 }
    4096 ≤ s.store.retired.length ∧ s.store.retired.contains (0 / 4096) = false := by
  decide +kernel
theorem wit_ExternalMemory_scrub : (dramState 1).scrubs = true ∧ (dramState 1).dramOn = true ∧ (dramState 1).store.scrub * 64 + 64 < (dramState 1).dramSize ∧
    ((dramState 1).setFd F.DRM_SCRUB_en 0).scrubs = false := by decide +kernel
theorem wit_ExternalMemory_last :
    let s := (dramState 1).setStore fun v => { v with scrub := 2 ^ 28 - 1 }
    s.scrubs = true ∧ s.dramSize ≤ s.store.scrub * 64 + 64 := by decide +kernel
theorem wit_ExternalMemory_poisoned :
    let s := (dramState 1).setStore fun v => { v with poison := [0] }
    s.scrubs = true ∧ s.store.poison.contains s.store.scrub = true ∧
      ∃ t : State, exec (.dramUncorrectable (s.store.scrub * 64)) s = .next t := ⟨by decide +kernel, by decide +kernel, _, rfl⟩
theorem wit_ExternalMemory_spare : st0.bit F.DRM_RETIRE_full = false ∧ (st0.setFd F.DRM_RETIRE_full 1).bit F.DRM_RETIRE_full = true := by decide +kernel
theorem wit_ExternalMemory_ring : (ringState 0).fd F.DRM_RG_CFG_kind 255 = 2 ∧ ((ringState 0).ring 255).writer = 0 ∧
    ((ringState 9).ring 255).writer ≠ 0 ∧ ((ringState 9).ring 255).first = some 7 ∧ (ringState 9).dramOn = true ∧
    7 + msTicks ((ringState 9).fd F.DRM_RG_CFG_flush_ms 255) ≤ (ringState 9).time := by decide +kernel
theorem wit_ExternalMemory_rd : (ringState 0).ringRd 255 ≤ 48 ∧ 48 ≤ (ringState 0).ringWr 255 ∧ 48 % 16 = 0 ∧ (ringState 0).ringWr 255 < 64 := by
  decide +kernel

/-- Drive 1 in a state, with one command, one extent being written and the entry of slot 2047. -/
def driveState (st : Nat) (c : NvCmd) : State :=
  ((st0.setFd F.NVS_DRV_STS_state st 1).setFd F.NVS_XR_SLOT_drive 1).setFd F.NVS_XR_SLOT_slot 2047 |>.setDrive 1
    { Drive.init with n := 2048, k := 1, cmds := [c], writing := [(9, 4, 2)], dir := [(2047, some ⟨0, 0, 0, 0, 0, 0, 0⟩)] }
def nv0 : NvCmd := ⟨5, 2, 9, 4, 2, 0, false, 0⟩
def env1 : DriveEnv := { ok := true, gen := 5, width := 4, qpairs := 8, mdts := 131072, blocks := 2 ^ 20, storeGen := 0, entries := [] }
theorem wit_RecordStore_complete : (((driveState 2 nv0).drive 1).writing.find? fun w => w.2.2 == 2) = some (9, 4, 2) ∧
    (((driveState 2 nv0).drive 1).cmds.any fun c => c.opcode == 1 && c.slot == 2 && c.region == 9 && c.xseq == 4) = false := by decide +kernel
theorem wit_RecordStore_command : (((driveState 2 nv0).drive 1).cmds.find? fun c => c.id == 5) = some nv0 ∧ nv0.aborted = false ∧
    ((driveState 2 nv0).drive 1).resetAt = none := by decide +kernel
theorem wit_RecordStore_again :
    let c := { nv0 with aborted := true }
    (((driveState 2 c).drive 1).cmds.find? fun c => c.id == 5) = some c ∧ c.aborted = true ∧ ((driveState 2 c).drive 1).resetAt = none := by decide +kernel
theorem wit_RecordStore_recent :
    let s := (driveState 2 nv0).setDrive 1 { (driveState 2 nv0).drive 1 with resetAt := some 0 }
    ((s.drive 1).cmds.find? fun c => c.id == 5) = some nv0 ∧ (s.drive 1).resetAt = some 0 ∧ s.time < 0 + msTicks 60000 := by decide +kernel
theorem wit_RecordStore_states : (driveState 2 nv0).drvState 1 = 2 ∧ (driveState 3 nv0).drvState 1 = 3 ∧ (driveState 4 nv0).drvState 1 = 4 ∧
    (driveState 1 nv0).drvState 1 = 1 ∧ (driveState 5 nv0).drvState 1 = 5 ∧ 256 % 256 = 0 ∧ 255 % 256 ≠ 0 := by decide +kernel
theorem wit_RecordStore_init : env1.ok = true ∧ env1.qpairs = 8 ∧ env1.blocks = 2 ^ 20 ∧ env1.entries = [] ∧ { env1 with ok := false }.ok = false := by
  decide
theorem wit_RecordStore_format :
    let s := driveState 2 nv0
    let b := ((s.setFd F.DRM_RG_CFG_kind 2 255).setFd F.DRM_RG_CFG_spill 1 255).setRing 255 { Ring.init with writer := 1 }
    ((natsFrom 0 256).any fun r => s.fd F.DRM_RG_CFG_kind r == 2 && s.bit F.DRM_RG_CFG_spill r && (s.ring r).writer != 0) = false ∧
      ((natsFrom 0 256).any fun r => b.fd F.DRM_RG_CFG_kind r == 2 && b.bit F.DRM_RG_CFG_spill r && (b.ring r).writer != 0) = true := by decide +kernel
theorem wit_RecordStore_formatted :
    let s := driveState 2 nv0
    (((s.setDrive 1 { s.drive 1 with dir := [], gen := ((s.drive 1).gen + 1) % 2 ^ 32 }).setFd F.NVS_DRV_NEXT_slot
          ((s.drive 1).k + 1) 1).nvIssue 1 1 256 0 0 0 [0, (s.drive 1).n, (s.drive 1).k, (s.drive 1).gen + 1]).drvState 1 = 2 := by decide +kernel
theorem wit_RecordStore_read :
    let s := driveState 3 nv0
    s.fd F.NVS_XR_SLOT_drive = 1 ∧ s.fd F.NVS_XR_SLOT_slot = 2047 ∧ s.pair .NVS_XR_ADDR_LO .NVS_XR_ADDR_HI = 0 ∧
      Tab.get none (s.drive 1).dir 2047 = some ⟨0, 0, 0, 0, 0, 0, 0⟩ ∧ s.bit F.NVS_XR_STS_busy = false ∧ s.drvState 1 = 3 ∧
      (s.drive 1).k < 2047 ∧ 2047 < (s.drive 1).n := by decide +kernel
theorem wit_RecordStore_no_entry : Tab.get none (((driveState 3 nv0).setFd F.NVS_XR_SLOT_slot 2046).drive 1).dir 2046 = none := by decide +kernel
theorem wit_RecordStore_done :
    let s := (driveState 2 nv0).setStore fun v => { v with xr := some (1, 2047, 4096) }
    s.store.xr = some (1, 2047, 4096) ∧ Tab.get none (s.drive 1).dir 2047 = some ⟨0, 0, 0, 0, 0, 0, 0⟩ := by decide +kernel

/-- A device in a cascade role and state, with link `l` UP. -/
def cascIn (role st l : Nat) : State := ((liveConv.setFd F.CAS_ID_role role).setFd F.CAS_STS_state st).setLfd F.LNK_STS_state F.CAS_LNK_STS_state 3 l
def ctlFlit (a : List Nat) : Flit := { seq := 0, ack := 0, nrep := 0, credit := 0, anchor := 0, slots := a }
theorem wit_CascadeMembers_join :
    let s := cascIn 1 0 19
    isChild 19 = true ∧ (s.accept 19 (ctlFlit [9, 5 + 256 * 1, 7])).2 = true ∧ (s.accept 19 (ctlFlit [9, 5 + 256 * 1, 7])).1.isRoot = true ∧
      natBits (nth 0 [5 + 256 * 1, 7] 0) 0 6 = 5 ∧ natBits (nth 0 [5 + 256 * 1, 7] 0) 8 3 = 1 ∧ nth 0 [5 + 256 * 1, 7] 1 = 7 ∧
      (s.accept 19 (ctlFlit [9, 5 + 256 * 1, 7])).1.joinVerdict 19 5 1 = 0 ∧ (s.accept 19 (ctlFlit [9, 5 + 256 * 1, 7])).1.joinVerdict 19 5 5 ≠ 0 := by
  decide +kernel
theorem wit_CascadeMembers_child :
    let s := cascIn 2 2 17
    isChild 17 = true ∧ (s.accept 17 (ctlFlit [9, 5, 7])).2 = true ∧ (s.accept 17 (ctlFlit [9, 5, 7])).1.isRoot = false ∧
      (s.accept 17 (ctlFlit [9, 5, 7])).1.isMember = true ∧ (s.accept 17 (ctlFlit [9, 5, 7])).1.cascState = 2 := by decide +kernel
theorem wit_CascadeMembers_own :
    let s := (cascIn 2 1 16).setLink 16 { Link.init with step := 3 }
    let t := (s.accept 16 (ctlFlit [8, 256, 7])).1
    (s.accept 16 (ctlFlit [8, 256, 7])).2 = true ∧ t.isMember = true ∧ natBits (nth 0 (ctlFlit [8, 256, 7]).slots 1) 0 6 = t.ownDev ∧ (t.link 16).step = 3 := by
  decide +kernel
theorem wit_CascadeMembers_lost :
    let s := fun role => ((cascIn role 2 16).setLfd F.LNK_STS_state F.CAS_LNK_STS_state 4 17).setLink 17 { Link.init with devs := [5], downAt := some 0 }
    isChild 17 = true ∧ (s 1).lstate 17 ≠ 3 ∧ ((s 1).link 17).downAt = some 0 ∧ 0 + msTicks 100 ≤ { s 1 with time := 2 ^ 40 }.time ∧
      ((s 1).link 17).devs.foldl (fun (m : Nat) d => Nat.lor m (2 ^ d)) 0 ≠ 0 ∧ (s 1).isRoot = true ∧ (s 2).isRoot = false ∧
      (s 2).lstate 16 = 3 := by decide +kernel
theorem wit_CascadeMembers_root : (cascIn 1 0 17).domOn 73 = true ∧ (cascIn 1 0 17).isRoot = true ∧ (cascIn 1 0 17).dev.st = .run ∧
    (cascIn 2 1 17).isRoot = false ∧ (cascIn 2 1 17).domOn 73 = true ∧ (cascIn 2 1 17).isMember = true ∧ (cascIn 2 1 17).cascState = 1 ∧
    (cascIn 2 1 17).casc.begun + 62500000 * (cascIn 2 1 17).fd F.CAS_CFG_join_tmo ≤ { cascIn 2 1 17 with time := 2 ^ 40 }.time := by decide +kernel
theorem wit_CascadeMembers_tunnel :
    let s := (cascIn 2 2 16).setFd F.QUE_Q_CFG_cons 5 7
    15 < 16 ∧ s.domOn 73 = true ∧ natBit (s.rg .CAS_TUNOUT_CFG 15).toNat 31 = false ∧ natBit (0xC0050007 : Word).toNat 31 = true ∧
      natBit (0xC0050007 : Word).toNat 30 = true ∧ s.tunOutOk (bitsOf 0xC0050007 0 11) (bitsOf 0xC0050007 16 6) = true ∧
      s.tunOutOk (bitsOf 0xC0050008 0 11) (bitsOf 0xC0050008 16 6) = false ∧ s.tunInOk 15 (bitsOf 0xC0050007 0 11) = true ∧
      s.tunInOk 15 (bitsOf 0xC0050400 0 11) = false := by decide +kernel

theorem wit_CascadeTraffic_load :
    let s := (cascIn 2 1 16).setLfd F.LNK_STS_state F.CAS_LNK_STS_state 2 16
    let t := (s.accept 16 (ctlFlit [4, 9, 0])).1
    (s.accept 16 (ctlFlit [4, 9, 0])).2 = true ∧ t.isMember = true ∧ t.lstate 16 = 2 ∧ (t.modLink 16 fun k => { k with step := 6 }).cascState = 1 := by
  decide +kernel
theorem wit_CascadeTraffic_steer :
    let s := (cascIn 2 2 16).setRg .CAS_CFG 0xFFFFFFFF
    let t := (s.accept 16 (ctlFlit [4, 9, 0])).1
    let u := (t.setCasc fun c => { c with err := 2 }).noteErr 16 2
    let v := u.setCasc fun c => { c with target := c.off + 2 }
    (s.accept 16 (ctlFlit [4, 9, 0])).2 = true ∧ t.isMember = true ∧ t.lstate 16 ≠ 2 ∧ t.cascState = 2 ∧ sInt 64 (9 + 2 ^ 64 - 7 % 2 ^ 64) = 2 ∧
      (2 : Int).natAbs ≤ u.linkTol 16 ∧ (v.setFd F.CAS_LNK_STS_time_ok (b2n (decide ((2 : Int).natAbs ≤ v.linkTol 16))) 0).cascState = 2 := by
  decide +kernel
theorem wit_CascadeTraffic_far :
    let t := ((cascIn 2 2 16).accept 16 (ctlFlit [4, 513, 0])).1
    let u := (t.setCasc fun c => { c with err := 513 }).noteErr 16 513
    sInt 64 (513 + 2 ^ 64 - 0 % 2 ^ 64) = 513 ∧ 512 < (513 : Int).natAbs ∧ u.linkTol 16 < (513 : Int).natAbs := by decide +kernel
theorem wit_CascadeTraffic_resync : (cascIn 1 0 19).domOn 73 = true ∧ (((natsFrom 16 4).all fun l => (cascIn 1 0 19).lstate l != 3) = false) ∧
    (((natsFrom 16 4).all fun l => liveConv.lstate l != 3) = true) ∧ (cascIn 2 2 16).isMember = true ∧ (cascIn 2 2 16).cascState = 2 ∧
    (cascIn 2 2 16).past (cascIn 2 2 16).casc.stepAt 64 = true := by decide +kernel
theorem wit_CascadeTraffic_lines : (∀ l ∈ [16, 17, 19], ((cascIn 2 2 l).accept l (ctlFlit [0])).2 = true ∧ ((cascIn 2 2 l).accept l (ctlFlit [0])).1.lstate l = 3) ∧
    isChild 17 = true ∧ ((cascIn 1 2 17).accept 17 (ctlFlit [0])).1.isRoot = true ∧
    (((cascIn 2 2 17).setLfd F.LNK_STS_state F.CAS_LNK_STS_state 3 16).accept 17 (ctlFlit [0])).1.lstate 16 = 3 := by decide +kernel
theorem wit_CascadeTraffic_fwd :
    let t := ((cascIn 2 2 19).accept 19 (ctlFlit [0])).1
    let u := t.modLink 19 fun k => { k with acc := k.acc + 1 }
    let v := u.setUO 19 (u.lU 19) (u.lO 19 + 1)
    u.lU 19 + u.lO 19 < linkBufs 19 ∧ 0 = v.ownDev ∧ v.tunTakes ⟨0, 0, 0, false⟩ = false ∧ 1 ≠ v.ownDev ∧
      linkBufs 19 ≤ (u.setUO 19 0 200).lU 19 + (u.setUO 19 0 200).lO 19 := by decide +kernel

/-- Bus Master on, and payloads of 256 bytes. -/
def hostState : State := { liveConv.setFd F.HST_LINK_mps 1 with evt := { liveConv.evt with bme := true } }
/-- Ring 63 of 2^8 records enabled; queue 9 with a record is bound to it. -/
def ringHost (thr : Nat) : State :=
  ((((((((hostState.setFd F.HST_RING_CFG_en 1 63).setFd F.HST_RING_CFG_size 8 63).setFd F.HST_RING_CFG_thr thr 63).setFd F.QUE_Q_CFG_cons 2 9).setFd
    F.QUE_Q_CFG_cidx 63 9).setFd F.QUE_Q_CFG_en 1 9).setQueue 9 { Queue.init with pkts := [⟨[mkRec 1 0 0 0 0 0], 0⟩] }))
theorem wit_HostPath_ring : (ringHost 1).bit F.HST_RING_CFG_en 63 = true ∧ (ringHost 1).ringsRun = true ∧ (ringHost 1).ringBlocked 63 = false ∧
    (((ringHost 1).ringQueues 63).find? fun q => decide (0 < ((ringHost 1).queue q).headLen (isXq q)) && (ringHost 1).queueOn q) = some 9 ∧
    (ringHost 1).evt.d3hot = false ∧ (ringHost 1).evt.bme = true ∧ (ringHost 1).fd F.HST_LINK_mps ≠ 0 := by decide +kernel
theorem wit_HostPath_packet :
    let u := fun thr => (((State.popPacket 9 4200 (ringHost thr) []).1.ringData 63 [mkRec 1 0 0 0 0 0]).setPair .HST_RING_HEAD_LO .HST_RING_HEAD_HI 1 63).ringBack 63
    (State.popPacket 9 4200 (ringHost 1) []).2.length = 1 ∧ (ringHost 1).hHead 63 - (ringHost 1).hTail 63 + 1 ≤ (ringHost 1).hCap 63 ∧
      (u 0).fd F.HST_RING_CFG_thr 63 = 0 ∧ (u 1).fd F.HST_RING_CFG_thr 63 ≠ 0 ∧ ((u 1).hring 63).noted + (u 1).fd F.HST_RING_CFG_thr 63 ≤ (u 1).hHead 63 := by
  decide +kernel
theorem wit_HostPath_full :
    let s := (ringHost 0).setPair .HST_RING_HEAD_LO .HST_RING_HEAD_HI 256 63
    s.hCap 63 < s.hHead 63 - s.hTail 63 + 1 ∧ (s.ringWait 63 1).ringBlocked 63 = true ∧ (State.popPacket 9 4200 s []).2.length = 1 := by decide +kernel
theorem wit_HostPath_tail :
    let s := (ringHost 0).setPair .HST_RING_HEAD_LO .HST_RING_HEAD_HI 256 63
    let t := s.setPair .HST_RING_TAIL_LO .HST_RING_TAIL_HI 256 63
    s.hTail 63 ≤ 256 ∧ 256 ≤ s.hHead 63 ∧ t.hHead 63 - 256 + (t.hring 63).want ≤ t.hCap 63 ∧ s.hHead 63 < 257 := by decide +kernel
theorem wit_HostPath_enable : (ringHost 0).bit F.HST_RING_CFG_en 63 = true ∧ hostState.bit F.HST_RING_CFG_en 63 = false ∧
    natBit (0x11 : Word).toNat 0 = true ∧ (hostState.putFields .HST_RING_CFG 0x11 63).bit F.HST_RING_CFG_en 63 = true := by decide +kernel
theorem wit_HostPath_cpl :
    let s := (hostState.setFd F.HST_CPL_CFG_size 4).setFd F.HST_CPL_PTR_tail 2
    s.cplCap = 16 ∧ s.fd F.HST_CPL_PTR_head = 0 ∧ s.fd F.HST_CPL_PTR_tail = 2 ∧ bitsOf 0x00020000 16 16 = 2 ∧ (2 + 16 - 0) % 16 ≤ (2 + 16 - 0) % 16 ∧
      bitsOf 0x00030000 16 16 = 3 ∧ (2 + 16 - 0) % 16 < (3 + 16 - 0) % 16 ∧ s.hst.cpls = [] := by decide +kernel
theorem wit_HostPath_waiting :
    let s := (((hostState.setFd F.HST_CPL_CFG_en 1).setFd F.HST_CPL_CFG_size 4).setFd F.HST_CPL_PTR_tail 15).setHst fun h => { h with cpls := [⟨1, 8, 0, 0, 0⟩] }
    s.hst.cpls = [⟨1, 8, 0, 0, 0⟩] ∧ (s.setFd F.HST_CPL_PTR_head 1).cplFull = false ∧ (s.setFd F.HST_CPL_PTR_head 0).cplFull = true := by decide +kernel
theorem wit_HostPath_door : hostState.doorOpen = true ∧ 15 % 65536 < 2 ^ ((hostState.setFd F.HST_CQ_CFG_size 4).wakeStart .doorbell).fd F.HST_CQ_CFG_size ∧
    2 ^ ((hostState.setFd F.HST_CQ_CFG_size 4).wakeStart .doorbell).fd F.HST_CQ_CFG_size ≤ 16 % 65536 := by decide +kernel
/-- A command waits at the head. -/
def cmdWaits : State := ((((hostState.setFd F.HST_CQ_CFG_en 1).setFd F.HST_CQ_CFG_size 4).setFd F.HST_CQ_PTR_tail 1).setFd F.HST_CPL_CFG_en 1).setFd
  F.HST_CPL_CFG_size 4
theorem wit_HostPath_fetch : cmdWaits.mayFetch = true ∧ cmdWaits.evt.d3hot = false ∧ cmdWaits.evt.bme = true ∧ cmdWaits.fd F.HST_LINK_mps ≠ 0 ∧
    natBit 4 2 = true ∧ natBit 3 2 = false := by decide +kernel
def entry0 (op obj : Nat) : CmdEntry := { op := op, flags := 0, tag := 1, obj := obj, point := 0, arg := 0, outq := 0, rsvdZero := true, payload := List.replicate 16 0 }
theorem wit_HostPath_fence :
    let s := cmdWaits.setHst fun h => { h with fences := [entry0 8 0] }
    s.hst.fences = [entry0 8 0] ∧ s.cplFull = false ∧ s.evt.bme = true ∧ s.fd F.HST_LINK_mps ≠ 0 ∧ s.hst.live.all (fun c => s.inEffect c) = true ∧
      ((s.setTask 0 (some { task0 0 with started := false })).setHst fun h => { h with live := [⟨1, 0, 1, 0, 0⟩] }).hst.live.all
        (fun c => ((s.setTask 0 (some { task0 0 with started := false })).setHst fun h => { h with live := [⟨1, 0, 1, 0, 0⟩] }).inEffect c) = false := by
  decide +kernel

/-- RUN with command and completion queues. -/
def cmdState : State := { cmdWaits with time := 100000, up := 100000, tb := { cmdWaits.tb with keep := 100000 } }
/-- A command with a descriptor of a function. -/
def entryF (op f g : Nat) : CmdEntry := { entry0 op 0 with payload := w32 (4096 * f + 2 ^ 20 * g) :: List.replicate 15 0 }
/-- A GATE at tick 200,000. -/
def entryG : CmdEntry := { entry0 4 0 with flags := 1, point := 102400000 }
/-- Task 0 with HOST gates. -/
def taskG : Task := { task0 0 with desc := (entryF 1 0 4).payload }
def taskNew : Task := { task0 0 with started := false }
theorem wit_HostCommands_form : ∀ op ∈ [1, 2, 3, 5, 6, 7, 8], (entry0 op 0).bad true = false ∧ cmdState.cmdPoint (entry0 op 0) (entry0 op 0) = some (none, none) := by
  decide +kernel
theorem wit_HostCommands_start : dTask (entry0 1 0).payload = 0 ∧ (cmdState.placeTask (entry0 1 0).payload (argQueues 0) 0 0 none).1 = 0 ∧
    ((cmdState.placeTask (entry0 1 0).payload (argQueues 0) 0 0 none).2.task 0).isSome = true ∧
    (cmdState.placeTask (entryF 1 18 0).payload (argQueues 0) 0 0 none).1 ≠ 0 := by decide +kernel
theorem wit_HostCommands_stop : (cmdState.setTask 0 (some taskNew)).task 0 = some taskNew ∧ (taskNew.started && taskNew.gates.run) = false ∧
    (cmdState.setTask 0 (some (task0 0))).task 0 = some (task0 0) ∧ ((task0 0).started && (task0 0).gates.run) = true ∧ (task0 0).stopAt = none := by
  decide +kernel
def taskSub : Task := { task0 0 with subs := [⟨0, 0, false, 0⟩] }
theorem wit_HostCommands_switch :
    let s := cmdState.setTask 0 (some taskSub)
    let d := (entry0 3 0).payload
    dTask d = 0 ∧ s.checkDesc (entryF 3 18 0).payload [] (some 0) ≠ 0 ∧ s.checkDesc d [] (some 0) = 0 ∧
      ((s.namedChans d).filter fun c => ! (taskSub.subs.any fun u => u.chan == c)) = [] ∧ (s.assignQueues (s.abovePoint d s.now) [] [] []).isSome = true ∧
      (s.spillArea (s.spillNeed d)).isSome = true ∧ s.roomFor taskSub d = true := by decide +kernel
theorem wit_HostCommands_gate : entryG.bad true = false ∧ cmdState.cmdPoint entryG entryG = some (some 102400000, none) ∧ dGsrc taskG.desc = 4 ∧
    taskG.gates.last = none ∧ cmdState.taskHor taskG.desc ≤ 102400000 ∧ 512 < cmdState.taskHor taskG.desc := by decide +kernel
theorem wit_HostCommands_units : 4607 < 4608 ∧ natBits 1 0 3 = 1 ∧ natBits 1 0 2 = 1 ∧ (decStaged.decStart 0 0).fd F.DEC_CTX_STS_result 0 = 1 ∧
    (cmdState.decStart 0 0).fd F.DEC_CTX_STS_result 0 = 3 ∧ ((pipState 15).pipEnable 15 none 1).fd F.TRG_STS_result 15 = 1 ∧
    ((pipRun 0 1).pipEnable 0 none 1).fd F.TRG_STS_result 0 = 2 ∧ (acqFree.acqArm 15 none).fd F.ACQ_STS_result 15 = 1 ∧
    ((acqIn 0 2 Acq.init).acqArm 0 none).fd F.ACQ_STS_result 0 = 2 := by decide +kernel
theorem wit_HostCommands_bad : (entry0 8 1).bad true = true ∧ ({ entry0 1 0 with flags := 3 } : CmdEntry).bad true = false ∧
    cmdState.cmdPoint { entry0 1 0 with flags := 3 } { entry0 1 0 with flags := 3 } = none := by decide +kernel

/-- Engine 0 ACTIVE with task 0 in context 0, engines 207 SPARE_IDLE, 206 RETIRED and the others retired. -/
def moveState : State :=
  ((liveConv.setTask 0 (some (task0 0))).setCtx 0 0 { Ctx.init with valid := true, blocked := true, task := 0 }).setFd F.ENG_STS_state 1 207 |>.setFd F.ENG_STS_state 4 206
def move0 : Move := { imm := true, src := 0, tasks := [0], step := 2, th := 0, whole := true, auto := 0, cmd := none, spare := true, buf := [] }
theorem wit_EngineMoves_check :
    let s := moveState
    let t := (((s.setFd F.ENG_MCHK_pc (s.ctx 0 0).pc 0).setFd F.ENG_MCHK_quarters 15 0).setFd F.ENG_MCHK_ctx 0 0).setFd F.ENG_MCHK_valid 1 0
    s.engState 0 = 0 ∧ (s.ctx 0 0).valid = true ∧ 15 % 16 ≠ 0 ∧ t.moveFrom 0 = none ∧ t.moveTo 0 = none ∧
      (((t.addSat F.ENG_STS_mchk 1 0).setEngState 0 3).raise 0x0C0 (unitOf 6 0) (s.ctx 0 0).pc true).moveFrom 0 = none := by decide +kernel
theorem wit_EngineMoves_done : (moveState.setMove 207 (some move0)).moveFrom 0 = some (207, move0) ∧ move0.imm = true ∧ 2 ≤ move0.step ∧ move0.cmd = none ∧
    (((([0].foldl (fun st t => st.exportTask t 207 ((moveState.nowTick + 1) * 512)) ((moveState.setMove 207 (some move0)).setEngState 207 0)).setMove 207 none).showMove
      207).tasksOn 0).isEmpty = true := by
  decide +kernel
theorem wit_EngineMoves_scrub : 207 < nEngines ∧ 4095 < 4096 ∧ moveState.engState 207 ≠ 4 := by decide +kernel
theorem wit_EngineMoves_load : (moveState.setLoad 207 (some (.retry ⟨1, [207]⟩, 1))).load 207 = some (.retry ⟨1, [207]⟩, 1) ∧
    (moveState.setLoad 207 (some (.afterMove, 1))).load 207 = some (.afterMove, 1) ∧
    (((moveState.setMove 207 (some move0)).setLoad 207 (some (.forMove 0, 0))).setLoad 207 none).moveTo 207 = some move0 := by decide +kernel
theorem wit_EngineMoves_handover :
    let u := moveState.engCmdTaken 1
    u.task 0 = some (task0 0) ∧ u.taskInMove 0 = false ∧ u.inMove (task0 0).eng = false ∧
      (u.placed.any fun p => p.1 != 0 && p.2.subs.any fun v => ((task0 0).subs.map fun v => v.queue).contains v.queue) = false ∧
      (u.chooseEngine (task0 0).desc (task0 0).outq ((task0 0).subs.map fun v => v.queue) (fun e => e == (task0 0).eng || u.inMove e)).isSome = true := by
  decide +kernel
theorem wit_EngineMoves_target :
    let u := moveState.engCmdTaken 1
    1 ≠ 0xFF ∧ 1 ≠ (task0 0).eng ∧ 1 < nEngines ∧ u.inMove 1 = false ∧
      u.qualifies 1 (task0 0).desc (task0 0).outq ((task0 0).subs.map fun v => v.queue) = true ∧
      ((moveState.setMove 207 (some move0)).engCmdTaken 1).taskInMove 0 = true := by decide +kernel
theorem wit_EngineMoves_none :
    let u := ((natsFrom 0 208).foldl (fun (s : State) e => s.setFd F.ENG_STS_state 4 e) moveState).engCmdTaken 1
    u.task 0 = some (task0 0) ∧ u.chooseEngine (task0 0).desc (task0 0).outq [] (fun e => e == (task0 0).eng || u.inMove e) = none := by decide +kernel
theorem wit_EngineMoves_evacuate :
    let u := moveState.engCmdTaken 2
    u.engState 206 ≠ 0 ∧ 206 < nEngines ∧ u.engState 0 = 0 ∧ u.inMove 0 = false ∧ u.pickSpare 0 = some 207 ∧ u.spareOk 0 207 = true ∧ u.inMove 207 = false ∧
      ((moveState.setMove 207 (some move0)).engCmdTaken 2).inMove 0 = true ∧ ((moveState.setFd F.ENG_STS_state 4 207).engCmdTaken 2).pickSpare 0 = none := by
  decide +kernel
theorem wit_EngineMoves_retry : (moveState.engCmdTaken 3).engState 206 = 4 ∧ (moveState.engCmdTaken 3).engState 207 ≠ 4 := by decide +kernel
theorem wit_EngineMoves_shadow :
    let m := { move0 with imm := false }
    let n := { move0 with imm := false, step := 3, tasks := [5] }
    (moveState.setMove 207 (some m)).moveTo 207 = some m ∧ m.imm = false ∧ m.step = 2 ∧ (moveState.setMove 207 (some n)).moveTo 207 = some n ∧ n.step = 3 ∧
      n.spare = true ∧ n.cmd = none ∧ n.whole = true ∧
      (n.tasks.all fun k => (n.tasks.foldl (fun st t => st.drainTask t) (moveState.setMove 207 (some n))).drained k n.th) = true := by decide +kernel
theorem wit_EngineMoves_again :
    let s := moveState.setEng fun g => { g with retries := Tab.set (0, 0) g.retries 0 (2, 0) }
    let t := s.setEng fun g => { g with retries := Tab.set (0, 0) g.retries 0 (0, 0) }
    Tab.get (0, 0) s.eng.retries 0 = (2, 0) ∧ 0 ≤ s.time ∧ t.engState 0 = 0 ∧ t.inMove 0 = false ∧ t.pickSpare 0 = some 207 ∧
      s.time < s.time + 1 := by decide +kernel

/-- Queue `q` enabled, with contents. -/
def queueWith (q : Nat) (u : Queue) : State := (liveConv.setFd F.QUE_Q_CFG_en 1 q).setQueue q u
def qrec (n : Nat) : Rec := mkRec 1 0 0 0 0 n
theorem wit_QueueRecords_push :
    let s := queueWith 1279 Queue.init
    1279 < 1280 ∧ s.queue 1279 = Queue.init ∧ Queue.init.waiting.any (fun w => w.prod == 0x8000) = false ∧ Queue.init.disc.find? (fun e => e.1 == 0x8000) = none ∧
      Queue.init.disc.any (fun e => e.1 == 0x8000 && e.2) = false ∧ Queue.init.opn = none ∧ s.queueOn 1279 = true ∧ Queue.init.occupancy < queueCap 1279 ∧
      liveConv.queueOn 0 = false := by decide +kernel
theorem wit_QueueRecords_open :
    let u := { Queue.init with opn := some ⟨0x8000, .eng, [qrec 1]⟩ }
    (queueWith 0 u).queue 0 = u ∧ u.waiting.any (fun w => w.prod == 0x8000) = false ∧ u.opn = some ⟨0x8000, .eng, [qrec 1]⟩ ∧ (queueWith 0 u).queueOn 0 = true ∧ u.occupancy < queueCap 0 ∧
      0x8000 ≠ 0x8001 := by decide +kernel
theorem wit_QueueRecords_pop :
    let m := Marker.fresh false 0
    let u := { Queue.init with marker := some m }
    u.cur = [] ∧ u.marker = some m ∧ u.markReady true = true ∧ takeBest [⟨[qrec 1], 3⟩, ⟨[qrec 2], 1⟩, ⟨[qrec 3], 1⟩] =
      some (⟨[qrec 2], 1⟩, [⟨[qrec 1], 3⟩, ⟨[qrec 3], 1⟩]) := by decide
theorem wit_QueueRecords_flush :
    let u := { Queue.init with pkts := [⟨[qrec 1, qrec 2], 0⟩], cur := [qrec 3] }
    1023 < 1280 ∧ (queueWith 1023 u).queue 1023 = u ∧ u.cur ≠ [] ∧ u.opn = none ∧ u.disc = [] ∧ u.marker = none ∧ 1023 < 1024 := by decide +kernel

/-- Queue `q` with a consumer and one record. -/
def consQ (q k : Nat) : State := (queueWith q { Queue.init with pkts := [⟨[qrec 1], 0⟩], vis := 1 }).setFd F.QUE_Q_CFG_cons k q
theorem wit_QueueUse_pop : (∀ q ∈ [0, 1072, 1279, 1024, 1063], q < 1280 ∧ (consQ q 1).domOn (58 + sliceOf q) = true ∧ ((consQ q 1).popOnce q).2.valid = true ∧
    ((consQ q 1).popOnce q).2.data = true ∧ ((consQ q 1).popOnce q).2.eop = true) ∧ (consQ 0 1).fd F.QUE_Q_CFG_cons 0 = 1 ∧ (consQ 1279 4).fd F.QUE_Q_CFG_cons 1279 = 4 := by
  decide +kernel
theorem wit_QueueUse_part : ((queueWith 1024 { Queue.init with pkts := [⟨[qrec 1, qrec 2], 0⟩], vis := 1 }).popOnce 1024).2.eop = false := by decide +kernel
/-- Queue 9 writes ring 255. -/
def ringQ : State := ((consQ 9 3).setFd F.QUE_Q_CFG_cidx 255 9).setRing 255 { Ring.init with writer := 256 + 9 } |>.setFd F.DRM_RG_SIZE_size 1 255
theorem wit_QueueUse_ring : 9 < 1024 ∧ ringQ.domOn (58 + sliceOf 9) = true ∧ ringQ.fd F.QUE_Q_CFG_cons 9 = 3 ∧ ringQ.fd F.QUE_Q_CFG_cidx 9 = 255 ∧
    (ringQ.ring 255).writer = 256 + 9 ∧ (State.popPacket 9 4200 ringQ []).2 ≠ [] := by decide +kernel
theorem wit_QueueUse_written : ((State.popPacket 9 4200 ringQ []).1.ringWrite 255 [qrec 1]).2 = true := by decide +kernel
theorem wit_QueueUse_full :
    let s := (ringQ.setWr 255 (2 ^ 21)).setFd F.DRM_RG_CFG_spill 1 255
    ((State.popPacket 9 4200 s []).1.ringWrite 255 [qrec 1]).2 = false := by decide +kernel
theorem wit_QueueUse_read :
    let s := (consQ 1023 4).setFd F.QUE_POP_SEL_queue 1023
    s.fd F.QUE_POP_SEL_queue = 1023 ∧ s.dev.st = .run ∧ s.domOn (58 + sliceOf 1023) = true ∧ s.fd F.QUE_Q_CFG_cons 1023 = 4 ∧
      (consQ 1023 1).fd F.QUE_Q_CFG_cons 1023 ≠ 4 := by decide +kernel
theorem wit_QueueUse_visible :
    let u := { Queue.init with pkts := [⟨[qrec 1], 0⟩], hidden := 1 }
    (queueWith 1279 u).queue 1279 = u ∧ u.vis < u.pkts.length ∧ 0 < u.hidden := by decide +kernel
theorem wit_QueueUse_config :
    let n := fun (s : State) w => (s.putFields .QUE_Q_CFG w 1072).rg .QUE_Q_CFG 1072
    natBit (liveConv.rg .QUE_Q_CFG 1072).toNat 0 = false ∧ bitsOf (n liveConv 0x3) 1 3 ≠ 3 ∧ natBit ((consQ 1072 1).rg .QUE_Q_CFG 1072).toNat 0 = true ∧
      natBit (n (consQ 1072 1) 0x5).toNat 0 = true ∧ bindBits (n (consQ 1072 1) 0x5) ≠ bindBits ((consQ 1072 1).rg .QUE_Q_CFG 1072) ∧
      natBit (n (consQ 1072 1) 0x2).toNat 0 = false ∧ bindBits (n (consQ 1072 1) 0x2) = bindBits ((consQ 1072 1).rg .QUE_Q_CFG 1072) := by decide +kernel
theorem wit_QueueUse_test :
    let s := liveConv.setFd F.QUE_SLICE_STS_spares 2 3
    let t := ((s.setFd F.QUE_SLICE_STS_spares (2 - min 2 2) 3).setFd F.QUE_SLICE_STS_repaired (s.fd F.QUE_SLICE_STS_repaired 3 + min 2 2) 3).assertOnce (270 + 3)
    s.bit F.QUE_Q_CFG_en 1023 = false ∧ 3 = sliceOf 1023 ∧ 2 = s.fd F.QUE_SLICE_STS_spares 3 ∧ 2 ≤ 2 ∧ (t.queue 1023).bad = false ∧ 2 < 3 ∧
      (consQ 1279 1).bit F.QUE_Q_CFG_en 1279 = true := by decide +kernel
theorem wit_QueueUse_level : ((consQ 0 1).setFd F.QUE_SYSQ_LVL_en 1).bit F.QUE_SYSQ_LVL_en = true ∧
    ((consQ 0 1).setFd F.QUE_SYSQ_LVL_en 1).queueOn (((consQ 0 1).setFd F.QUE_SYSQ_LVL_en 1).fd F.QUE_SYSQ_LVL_queue) = true ∧
    liveConv.bit F.QUE_SYSQ_LVL_en = false := by decide +kernel
theorem wit_QueueUse_drain :
    let s : State := { liveConv with dev := { liveConv.dev with st := .halt, finalDone := true } }
    s.dev.finalDone = true ∧ s.dev.drained = false ∧ s.dev.st = .halt := by decide +kernel
theorem wit_QueueUse_epoch :
    let s : State := { liveConv.setTb (fun t => { t with epochDue := true, keep := 2 ^ 55 + 100000 }) with time := 2 ^ 55 + 100000, up := 2 ^ 55 + 100000 }
    s.tb.epochDue = true ∧ s.nowTick / epochTicks * epochTicks < s.hR := by decide +kernel
theorem wit_QueueUse_service :
    let s := (liveConv.setTb fun t => { t with on := true }).setFd F.TB_SVC_EN_en 31
    4 < 5 ∧ s.tb.on = true ∧ s.dev.portsOff = false ∧ (s.setRg .TB_SVC_SER (s.rg .TB_SVC_SER 4 + 1) 4).pair .TB_SVC_CNT_LO .TB_SVC_CNT_HI 4 < 2 ^ 64 - 2 ∧
      natBit (s.fd F.TB_SVC_EN_en) 4 = true ∧
      s.dev.st = .run ∧ s.laneState (216 + 4) ≠ 2 ∧ natBit (liveConv.fd F.TB_SVC_EN_en) 4 = false := by decide +kernel

/-- A device state and a transition. -/
def devIn (st : DevState) (t : Trans) : State := { liveConv with dev := { liveConv.dev with st := st, trans := t } }
theorem wit_PowerStates_commands : (devIn .run .toWatch).dev.trans ≠ .none ∧ (devIn .run .none).dev.trans = .none ∧ (devIn .run .none).dev.st = .run ∧
    (devIn .run .none).faultLive 0x003 0 = false ∧ ((devIn .run .none).raise 0x003 0 0 true).faultLive 0x003 0 = true ∧
    ((devIn .run .none).raise 0x003 0 0 true).dev.st = .run ∧ ((devIn .run .none).raise 0x003 0 0 true).dev.trans = .none ∧
    (devIn .boot .none).dev.st = .boot ∧ (devIn .halt .none).dev.st = .halt ∧ (devIn .halt .none).dev.pinsTaken = false ∧
    (devIn .halt .none).severeOpen = false ∧ (devIn .halt .none).dev.portsOff = false ∧ ((devIn .halt .none).raise 0x001 0 0 true).severeOpen = true ∧
    ((devIn .halt .none).raise 0x001 0 0 true).dev.pinsTaken = false ∧ ((devIn .halt .none).raise 0x001 0 0 true).dev.trans = .none ∧
    ((devIn .halt .none).raise 0x001 0 0 true).dev.st = .halt ∧ ((devIn .halt .none).setFd F.GLB_STATE_halt_cause 2).fd F.GLB_STATE_halt_cause = 2 := by
  decide +kernel
theorem wit_PowerStates_snapshot :
    let s := (devIn .run .toWatch).setDev fun v => { v with cut := some 100001 }
    let t : State := { s with ldg := { s.ldg with wr := none } }
    s.dev.cut = some 100001 ∧ s.dev.snapTaken = false ∧ s.ldg.wr = none ∧ s.dev.shed = false ∧ s.dev.st = .run ∧ s.talliesClosed = true ∧
      s.dev.trans = .toWatch ∧ ((t.latchCut 100001).beginCkpt 2 s.dev.finalCause false).dev.shed = false := by decide +kernel
theorem wit_PowerStates_open :
    let s := ((devIn .run .toWatch).setTask 0 (some { task0 17 with gates := { (task0 17).gates with run := true } })).setDev fun v => { v with cut := some 100001 }
    s.dev.st = .run ∧ s.talliesClosed = false ∧ s.dev.cut = some 100001 ∧ s.dev.snapTaken = false ∧ s.ldg.wr = none ∧ s.dev.shed = false := by decide +kernel
theorem wit_PowerStates_frames :
    let s := (devIn .run (.toHalt 3)).setDev fun v => { v with finalDone := true }
    (frameWriteDone [] [] s).dev.trans = .toHalt 3 ∧ (frameWriteDone [] [] s).dev.finalDone = true ∧ (frameWriteDone [] [] s).dev.st = .run ∧
      (frameWriteDone [] [] (devIn .run .none)).dev.trans = .none := by decide +kernel
theorem wit_PowerStates_watch :
    let s := (devIn .run .toWatch).setDev fun v => { v with finalDone := true, drained := true }
    s.dev.trans = .toWatch ∧ s.dev.finalDone = true ∧ s.ldg.wr = none ∧ s.dev.drained = true := by decide +kernel
theorem wit_PowerStates_wake :
    let s := (((((((devIn .watch .none).setFd F.CAS_ID_role 2).setFd F.PWR_TMR_CFG_en 1 7).setFd F.PWR_TMR_CFG_wake 1 7).setFd F.PRT_CFG_en 1 95).setFd
      F.PRT_CFG_class 1 95).setFd F.PRT_WAKE_en 1 95)
    s.dev.st = .watch ∧ s.dev.trans = .none ∧ s.isMember = true ∧ 7 < 8 ∧ s.bit F.PWR_TMR_CFG_en 7 = true ∧ s.bit F.PWR_TMR_CFG_wake 7 = true ∧ 95 < 96 ∧
      s.bit F.PRT_CFG_en 95 = true ∧ s.bit F.PRT_CFG_class 95 = true ∧ s.bit F.PRT_WAKE_en 95 = true ∧ (devIn .watch (.waking .timer)).dev.trans = .waking .timer := by
  decide +kernel
theorem wit_PowerStates_warning : b2n (true && ((devIn .run .none).setFd F.LDG_PF_CFG_vin_en 1).bit F.LDG_PF_CFG_vin_en) +
    2 * b2n (false && ((devIn .run .none).setFd F.LDG_PF_CFG_vin_en 1).bit F.LDG_PF_CFG_pin_en) = 1 ∧
    b2n (false && liveConv.bit F.LDG_PF_CFG_vin_en) + 2 * b2n (false && liveConv.bit F.LDG_PF_CFG_pin_en) = 0 := by decide +kernel
theorem wit_PowerStates_end :
    let s := (devIn .run .powerFail).setDev fun v => { v with finalDone := true }
    s.dev.trans = .powerFail ∧ s.dev.finalDone = true ∧ s.dev.waitFault = false ∧ s.dev.waitReset = false ∧ s.dev.waitPor = false ∧
      (s.setDev fun v => { v with waitPor := true }).dev.waitPor = true := by decide +kernel
theorem wit_PowerStates_timer :
    let s := (({ liveConv with time := 5 * 10 ^ 7, tb := { liveConv.tb with on := true } } : State).setFd F.PWR_TMR_PER 1 7).setTmr 7 (some 9)
    s.tmr 7 = some 9 ∧ s.due (9 + msTicks (s.fd F.PWR_TMR_PER 7)) = true ∧ (s.setTmr 7 (some (5 * 10 ^ 7))).tmr 7 = some (5 * 10 ^ 7) ∧
      s.due (5 * 10 ^ 7 + msTicks (s.fd F.PWR_TMR_PER 7)) = false := by decide +kernel

theorem wit_PowerStage_escalate : ∀ c ∈ [0, 1, 2, 3],
    ((devIn .run .none).setFrec 5 (some { rec0 with cls := c, deadline := some 0 })).frec 5 = some { rec0 with cls := c, deadline := some 0 } ∧
      { rec0 with cls := c, deadline := some 0 }.deadline = some 0 ∧ (devIn .run .none).due 0 = true ∧
      { rec0 with cls := c, deadline := some 0 }.ack = false := by decide +kernel
theorem wit_PowerStage_rails : railOff 11 3466 = true ∧ railOff 11 3465 = false ∧ railOff 9 (-2849) = true ∧ railOff 9 (-3150) = false ∧
    liveConv.vinLimit < liveConv.vinLimit + 1 ∧ (8000 : Int) ≤ (liveConv.vinLimit : Int) := by decide +kernel
theorem wit_PowerStage_states : (devIn .run .none).dev.st = .run ∧ (devIn .run .none).dev.trans = .none ∧ (devIn .halt .none).dev.st = .halt ∧
    (devIn .run .powerFail).dev.trans = .powerFail := by decide
theorem wit_PowerStage_off : liveConv.domIdle 23 = true ∧ liveConv.domReq.contains 23 = false ∧ liveConv.domIdle 79 = false ∧
    ({ liveConv with domReq := [23] } : State).domReq.contains 23 = true ∧ ({ liveConv with domReq := [23] } : State).dev.st ≠ .watch ∧ 23 < 80 ∧
    ((liveConv.setFd F.PWR_DOM_STS_dom 23).setFd F.PWR_DOM_STS_result 1).fd F.PWR_DOM_STS_dom = 23 ∧
    ((liveConv.setFd F.PWR_DOM_STS_dom 23).setFd F.PWR_DOM_STS_result 1).fd F.PWR_DOM_STS_result = 1 ∧ liveConv.fd F.PWR_DOM_STS_dom ≠ 23 := by decide +kernel
/-- Zone limits of 85, 100 and 115 degrees. -/
def warm : State := ((liveConv.setFd F.PWR_TEMP_THR_warn 85).setFd F.PWR_TEMP_THR_crit 100).setFd F.PWR_TEMP_THR_trip 115
theorem wit_PowerStage_zone : warm.fd F.PWR_TEMP_zone 3 = 0 ∧ warm.zoneOf 0 339 = 0 ∧ warm.zoneOf 0 340 = 1 := by decide +kernel

def bootEnv0 : BootEnv :=
  { bootSrc := 3, cascRole := 0, devAddr := 0, perstHigh := true, flashBytes := 2 ^ 27, badLanes := [], laneHists := [], corrs := [], dcals := [],
    sprCorrs := [], badEngines := [], badRows := [], dimmGiB := [], trainFail := [], dimmRate := 0, dimmSerial := [] }
theorem wit_Resets_up : State.reset.dev.st = .powerup ∧ st0.boot.flash = none := by decide
theorem wit_Resets_wait : ((devIn .run .powerFail).setFd F.LDG_PF_STS_src 2).dev.trans = .powerFail ∧ 2 ≤ ((devIn .run .powerFail).setFd F.LDG_PF_STS_src 2).fd F.LDG_PF_STS_src ∧
    ((devIn .run .powerFail).setFd F.LDG_PF_STS_src 2).dev.finalDone = false ∧ (devIn .run .none).dev.trans = .none := by decide
theorem wit_Resets_strap :
    let t := (({ st0.setFd F.BOOT_STRAP_boot_src 3 with boot := { st0.boot with env := some bootEnv0 } }).role).atStep 3
    t.dev.pfBoot = false ∧ t.dev.pinsTaken = false ∧ t.fd F.BOOT_STRAP_boot_src = 3 ∧
      ((({ st0 with boot := { st0.boot with env := some bootEnv0 } }).role).atStep 3).fd F.BOOT_STRAP_boot_src ≠ 3 := by decide +kernel
theorem wit_Resets_soft : (st0.setFd F.BOOT_LOCK_soft_en 1).bit F.BOOT_LOCK_soft_en = true ∧ st0.bit F.BOOT_LOCK_soft_en = false := by decide
theorem wit_Resets_cause : st0.dev.st = .powerup ∧ (devIn .run .none).dev.waitReset = false ∧ (devIn .run .reset).dev.trans = .reset ∧
    (devIn .run .powerFail).dev.trans = .powerFail ∧ (devIn .run .powerFail).dev.waitReset = false := by decide
theorem wit_Resets_effect :
    let s := (devIn .run .reset).setDev fun v => { v with causes := 2, finalDone := true }
    s.dev.trans = .reset ∧ s.dev.finalDone = true ∧ s.dev.causes = 2 ∧ s.dev.waitPor = false := by decide
theorem wit_Resets_restart :
    let s := (devIn .boot .none).setDev fun v => { v with pfBoot := true }
    s.dev.st = .boot ∧ s.dev.pfBoot = true ∧ s.dev.trans = .none := by decide
theorem wit_Resets_complete :
    let s := ((devIn .boot .none).setDev fun v => { v with bootStep := 9 }).setTb fun t => { t with on := true }
    s.dev.st = .boot ∧ s.dev.bootStep = 9 ∧ s.dev.trans = .none ∧ s.dev.pfBoot = false ∧ s.dev.pinsTaken = false ∧ s.tb.on = true ∧ s.isMember = false := by
  decide +kernel
theorem wit_Resets_loop : (devIn .run .none).dev.st = .run ∧
    (({ devIn .run .none with time := msTicks 10000 + 9, tb := { liveConv.tb with on := true } } : State).setDev fun v => { v with runAt := 9 }).due (9 + msTicks 10000) = true ∧
    (({ devIn .run .none with time := 9, tb := { liveConv.tb with on := true } } : State).setDev fun v => { v with runAt := 9 }).due (9 + msTicks 10000) = false := by decide +kernel
theorem wit_Resets_held :
    let s := ((devIn .boot .none).setFd F.BOOT_STS_hold 1).setFd F.BOOT_STS_err 3
    s.heldBoot = true ∧ s.fd F.BOOT_STS_err = 3 ∧ (devIn .boot .none).heldBoot = false ∧ (devIn .boot .none).dev.st = .boot ∧ (devIn .run .none).dev.st = .run := by
  decide +kernel

/-- A flash of 2^27 bytes, with address 2^26 and copy 0 in use. -/
def flashState (a : Nat) : State := { (st0.setFd F.BOOT_FL_ADDR_addr a) with boot := { st0.boot with flashLog := 27 } }
theorem wit_FlashAndFuses_lock : (st0.setFd F.BOOT_LOCK_lock 1).bit F.BOOT_LOCK_lock = true ∧ st0.bit F.BOOT_LOCK_lock = false ∧
    st0.boot.otp.digest = none ∧ st0.boot.otp.jtag < 3 ∧ 3 < 4 ∧ 0 ≤ st0.boot.otp.jtag := by decide
theorem wit_FlashAndFuses_digest :
    ({ st0 with boot := { st0.boot with otp := { st0.boot.otp with digest := some [1] } } } : State).boot.otp.digest = some [1] := by decide
theorem wit_FlashAndFuses_start : (flashState (2 ^ 26)).fd F.BOOT_FL_ADDR_addr = 2 ^ 26 ∧ (flashState (2 ^ 26)).bit F.BOOT_LOCK_fl_lock = false ∧
    (flashState (2 ^ 26)).boot.flash = none ∧ 2 ^ 26 % 65536 = 0 ∧ 2 ^ 26 + 65536 ≤ 2 ^ (flashState (2 ^ 26)).boot.flashLog ∧
    2 ^ 26 / 2 ^ 26 ≠ (flashState (2 ^ 26)).fd F.BOOT_STS_copy ∧ 256 / 2 ^ 26 = (flashState 256).fd F.BOOT_STS_copy ∧ (flashState 256).fd F.BOOT_STS_copy < 2 ∧ 1 % 256 ≠ 0 := by decide +kernel
theorem wit_FlashAndFuses_done : ∀ op ∈ [1, 2, 3], ({ st0 with boot := { st0.boot with flash := some (op, 65536) } } : State).boot.flash = some (op, 65536) := by
  decide

/-- An entry of the SMBus target. -/
def smbPair (held shadow : Option (Nat × Word)) : State := { liveConv with pairs := [⟨.smbus, held, shadow⟩] }
theorem wit_BusAccess_offsets : regAt 0xFFFFFF = none ∧ 0xFFFFFF < 2 ^ 24 ∧ 0xFFFFFF % 4 ≠ 0 ∧ regAt 0xFF0000 = none ∧ (Requester.pcie 0).isPcie = true ∧ liveConv.reaches .smbus = true ∧ liveConv.reaches (.pcie 0) = true ∧
    regAt 4 = some (.GLB_STATE, 0, 0) ∧ st0.reaches .smbus = true ∧ regAt 0x100000 = some (.PRT_CFG, 0, 0) ∧ st0.answers .PRT_CFG 0 = false := by decide +kernel
theorem wit_BusAccess_registers : regAt 0xC00010 = some (.HST_BAR2_BASE, 0, 0) ∧ liveConv.answers .HST_BAR2_BASE 0 = true ∧
    pairWritable .HST_BAR2_BASE = false ∧ pairLow .HST_BAR2_BASE = none ∧ regAt 0xC0000C = some (.HST_ERR_CNT, 0, 0) ∧
    hasRc .HST_ERR_CNT = true ∧ pairHigh .HST_ERR_CNT = none ∧ pairLow .HST_ERR_CNT = none := by decide +kernel
theorem wit_BusAccess_pairs : regAt 0xC00020 = some (.HST_CQ_BASE_LO, 0, 0) ∧ regAt 0xC00024 = some (.HST_CQ_BASE_HI, 0, 0) ∧
    pairHigh .HST_CQ_BASE_LO = some .HST_CQ_BASE_HI ∧ pairLow .HST_CQ_BASE_HI = some .HST_CQ_BASE_LO ∧ pairWritable .HST_CQ_BASE_LO = true ∧
    liveConv.answers .HST_CQ_BASE_LO 0 = true ∧ (smbPair (some (regAddr .HST_CQ_BASE_LO 0 0, 1)) none).pairEntry .smbus = ⟨.smbus, some (0xC00020, 1), none⟩ ∧
    (smbPair none (some (regAddr .HST_CQ_BASE_LO 0 0, 1))).pairEntry .smbus = ⟨.smbus, none, some (0xC00020, 1)⟩ ∧
    (∀ v : Word, ((smbPair none none).pairEntry .smbus).shadow ≠ some (regAddr .HST_CQ_BASE_LO 0 0, v)) := by
  refine ⟨by decide +kernel, by decide +kernel, by decide +kernel, by decide +kernel, by decide +kernel, by decide +kernel, by decide +kernel, by decide +kernel, fun v => ?_⟩
  have : ((smbPair none none).pairEntry .smbus).shadow = none := by decide +kernel
  simp [this]
theorem wit_BusAccess_codes : ∀ a ∈ [Access.rw, .rwl, .w1c, .w1s, .ro, .wo, .rc], ∃ f : FieldDef, f.acc = a ∧ f.lo + f.w ≤ 32 ∧ 0 < f.w := by
  intro a _; exact ⟨⟨24, 8, a, 0, .any⟩, rfl, Nat.le_refl 32, Nat.zero_lt_succ 7⟩
theorem wit_BusAccess_entries : pairsOk [⟨.smbus, none, none⟩, ⟨.pcie 3, none, none⟩] ∧ Requester.smbus ≠ .pcie 3 ∧ Requester.smbus.isPcie = false := by
  unfold pairsOk; decide

/-- A vector 511 with a hold-off, MSI-X on. -/
def vecState (h : Nat) (x : VecSt) : State :=
  ((({ hostState with time := 100000, evt := { hostState.evt with msixEn := true } }).setFd F.EVT_VEC_holdoff h 511).setVec 511 x)
/-- Source 319 with its pending and mask bits. -/
def srcState (pend mask : Bool) : State := (hostState.setEvBit .EVT_PEND 319 pend).setEvBit .EVT_MASK 319 mask
/-- A blocked message of vector 3, whose entry is not masked. -/
def pbaState : State := { hostState with evt := { hostState.evt with pba := [3], table := Tab.set 0 hostState.evt.table 15 1 } }
theorem wit_HostBus_bar2 : (dramState 1).reaches (.pcie 0) = true ∧ (dramState 1).ddrUsed ≠ [] ∧ (dramState 1).dramOn = true ∧
    (dramState 1).dev.st ≠ .boot ∧ (dramState 1).evt.bar2 = 28 ∧ (2 ^ 28 - 64) + 64 ≤ 2 ^ 28 ∧
    (dramState 1).bar2Addr (2 ^ 28 - 64) + 64 ≤ (dramState 1).reserveBase ∧ (dramState 1).reserveBase < 2 ^ 35 ∧ st0.ddrUsed = [] ∧
    liveConv.reaches (.pcie 0) = true ∧ ((dramState 1).setDom 62 false).dramOn = false ∧ (devIn .boot .none).dev.st = .boot ∧ (devIn .boot .none).reaches (.pcie 0) = true := by decide +kernel
theorem wit_HostBus_config : hostState.dev.st ≠ .powerup ∧ hostState.dev.perstLow = false ∧ hostState.evt.pba = [] ∧ 1 ≤ 2 ∧ 2 ≤ 2 ∧ 28 ≤ 36 ∧ 1 ≤ 5 ∧
    (pbaState.hostTouch (.pcie 0)).evt.pba = [3] ∧ pbaState.evt.bme = true ∧ pbaState.evt.d3hot = false ∧ (pbaState.msixWord 3 3).toNat % 2 = 0 ∧ liveConv.evt.bme = false := by
  decide +kernel
theorem wit_HostBus_sources : 319 < 320 ∧ (srcState true false).evBit .EVT_PEND 319 = true ∧ (srcState false true).evBit .EVT_PEND 319 = false ∧
    (srcState false true).evBit .EVT_MASK 319 = true ∧ (srcState false false).evBit .EVT_MASK 319 = false ∧
    ((srcState false false).setEvBit .EVT_PEND 319 true).evBit .EVT_MASK 319 = false ∧
    ((srcState false true).setEvBit .EVT_PEND 319 true).evBit .EVT_MASK 319 = true := by decide +kernel
theorem wit_HostBus_vectors : liveConv.evt.msixEn = false ∧ (vecState 0 ⟨false, false, 0⟩).fd F.EVT_VEC_holdoff 511 = 0 ∧
    (vecState 9 ⟨true, true, 0⟩).fd F.EVT_VEC_holdoff 511 ≠ 0 ∧ 0 + 625 * 9 ≤ (vecState 9 ⟨true, true, 0⟩).time ∧ ((vecState 9 ⟨true, true, 0⟩).vec 511).running = true ∧
    ((vecState 9 ⟨true, true, 0⟩).vec 511).held = true ∧ ((vecState 9 ⟨true, false, 0⟩).vec 511).held = false ∧
    ((vecState 9 ⟨false, false, 0⟩).vec 511).running = false ∧ (vecState 9 ⟨true, true, 0⟩).evt.msixEn = true ∧ (vecState 9 ⟨true, true, 0⟩).evt.bme = true ∧
    (vecState 9 ⟨true, true, 0⟩).evt.d3hot = false ∧ pbaState.evt.funcMask = false ∧ (pbaState.msixWord 3 3).toNat % 2 = 0 ∧
    (hostState.msixWord 3 3).toNat % 2 = 1 ∧ hostState.evt.pba.contains 3 = false := by decide +kernel
theorem wit_HostBus_clear : 9 < 10 ∧ (Tab.wf 0 (srcState true false).regs = true) ∧ Memory.wf 0 (srcState true false).dram = true ∧
    Memory.wf 0xFF (srcState true false).flash = true ∧ (srcState true false).pairs = [] ∧ (srcState true false).rg .EVT_RAW 9 = 0 ∧
    (srcState true false).alertSrc = none := by decide +kernel
theorem wit_HostBus_smbus : (liveConv.setFd F.HST_SMB_CFG_bar0_wr 1).bit F.HST_SMB_CFG_bar0_wr = true ∧ liveConv.bit F.HST_SMB_CFG_bar0_wr = false ∧
    liveConv.bit F.HST_SMB_CFG_pec_req = false ∧ (liveConv.setFd F.HST_SMB_CFG_pec_req 1).bit F.HST_SMB_CFG_pec_req = true ∧
    regAt 0xFF0000 = none ∧ 0xFF0000 < 2 ^ 24 ∧ liveConv.answers .GLB_STATE 0 = true ∧ hasRc .GLB_STATE = false ∧ pairHigh .GLB_STATE = none ∧
    pairLow .GLB_STATE = none ∧ liveConv.dev.st ≠ .powerup ∧ liveConv.dev.st ≠ .boot := by decide +kernel

end Sys2Proof.Tests
end

section
/-! Every command keeps what `Evolves` says: from it, the invariant of every step (R12, R450, R554, R560), and the invariant at reset. -/

namespace Sys2Proof.Machine

/-- What has evolved where a meaning's only answer has. -/
theorem next_evolves {s t u : State} (h : (.next u : Host.Outcome State Fault Refusal) = .next t) (k : Evolves s u) : Evolves s t := by
  cases h; exact k

/-- A JTAG opcode that does not stop the machine (R611). -/
theorem execJtagUpdateIr_evolves {s t : State} {u : TapUpdate} (h : execJtagUpdateIr u s = .next t) : Evolves s t := by
  simp only [execJtagUpdateIr] at h
  split at h
  · cases h
  · exact next_evolves h (jtagUpdateIr_evolves (.refl s) ..)

/-- A command that answers a next state does to the state only what `Evolves` allows: one arm for each of exec's. -/
theorem exec_evolves {c : Instr} {s t : State} (h : exec c s = .next t) : Evolves s t := by
  have e := Evolves.refl s
  cases c with
  | porNLow => exact next_evolves h (porLow_evolves e ..)
  | vinUndervoltage => exact next_evolves h (undervoltage_evolves e ..)
  | powerStageUp => exact next_evolves h (powerStageUp_evolves e ..)
  | bootComplete => exact next_evolves h (bootComplete_evolves e ..)
  | bootStepTimeout => exact next_evolves h (bootStepTimeout_evolves e ..)
  | bootPfRestart => exact next_evolves h (bootPfRestart_evolves e ..)
  | bootLoopClear => exact next_evolves h (bootLoopClear_evolves e ..)
  | perstNFall => exact next_evolves h (perstFall_evolves e ..)
  | functionLevelReset => exact next_evolves h (functionLevelReset_evolves e ..)
  | resetTakesEffect => exact next_evolves h (resetTakesEffect_evolves e ..)
  | enterWatch => exact next_evolves h (enterWatch_evolves e ..)
  | watchEntryDone => exact next_evolves h (watchEntryDone_evolves e ..)
  | resume => exact next_evolves h (resumeCmd_evolves e ..)
  | halt => exact next_evolves h (haltCmd_evolves e ..)
  | wakeEvent => exact next_evolves h (wakeEvent_evolves e ..)
  | wakeDone => exact next_evolves h (wakeDone_evolves e ..)
  | powerFailWarning => exact next_evolves h (powerFailWarning_evolves e ..)
  | powerFailSequenceEnd => exact next_evolves h (powerFailEnd_evolves e ..)
  | horizonAdvance => exact next_evolves h (horizonAdvance_evolves e ..)
  | prtCfgWrite => exact next_evolves h (prtCfgWrite_evolves e ..)
  | holdEnd => exact next_evolves h (holdEnd_evolves e ..)
  | prtWinWrite => exact next_evolves h (prtWinWrite_evolves e ..)
  | thrSettleEnd => exact next_evolves h (thrSettleEnd_evolves e ..)
  | prtHystWrite => exact next_evolves h (prtHystWrite_evolves e ..)
  | prtFiltWrite => exact next_evolves h (prtFiltWrite_evolves e ..)
  | prtPscWrite => exact next_evolves h (prtPscWrite_evolves e ..)
  | confirmedTransition => exact next_evolves h (confirmedTransition_evolves e ..)
  | stateEstablished => exact next_evolves h (stateEstablished_evolves e ..)
  | serviceTransition => exact next_evolves h (serviceTransition_evolves e ..)
  | vttOverload => exact next_evolves h (vttOverload_evolves e ..)
  | vttOverloadClear => exact next_evolves h (vttOverloadClear_evolves e ..)
  | checkRun => exact next_evolves h (checkRun_evolves e ..)
  | checkAbort => exact next_evolves h (checkAbort_evolves e ..)
  | scheduledCheck => exact next_evolves h (scheduledCheck_evolves e ..)
  | selfCheckEnd => exact next_evolves h (selfCheckEnd_evolves e ..)
  | readbackSlotStart => exact next_evolves h (readbackSlotStart_evolves e ..)
  | readbackSlotEnd => exact next_evolves h (readbackSlotEnd_evolves e ..)
  | pllLock => exact next_evolves h (pllLock_evolves e ..)
  | refLockTimeout => exact next_evolves h (refLockTimeout_evolves e ..)
  | refNoEdge => exact next_evolves h (refNoEdge_evolves e ..)
  | refFreqWindowEnd => exact next_evolves h (refFreqWindowEnd_evolves e ..)
  | relock => exact next_evolves h (relock_evolves e ..)
  | epochWrap => exact next_evolves h (epochWrap_evolves e ..)
  | epochRecord => exact next_evolves h (epochRecord_evolves e ..)
  | timeCheckWord => exact next_evolves h (timeCheckWord_evolves e ..)
  | tbCalibrate => exact next_evolves h (tbCalibrate_evolves e ..)
  | tbRetry => exact next_evolves h (tbRetry_evolves e ..)
  | tbHandover => exact next_evolves h (tbHandover_evolves e ..)
  | tbReturn => exact next_evolves h (tbReturn_evolves e ..)
  | scheduledCalibration => exact next_evolves h (scheduledCalibration_evolves e ..)
  | calibrationPassEnd => exact next_evolves h (passEnd_evolves e ..)
  | verifyEnd => exact next_evolves h (verifyEnd_evolves e ..)
  | detachDone => exact next_evolves h (detachDone_evolves e ..)
  | gateClose => exact next_evolves h (gateClose_evolves e ..)
  | taskStartPoint => exact next_evolves h (taskStartPoint_evolves e ..)
  | switchTakeEffect => exact next_evolves h (switchTakeEffect_evolves e ..)
  | tlyCfgWrite => exact next_evolves h (tlyCfgWrite_evolves e ..)
  | clearInexact => exact next_evolves h (clearInexact_evolves e ..)
  | zero => exact next_evolves h (tlyZero_evolves e ..)
  | preset => exact next_evolves h (tlyPreset_evolves e ..)
  | periodicCheckpoint => exact next_evolves h (periodicCheckpoint_evolves e ..)
  | checkpoint => exact next_evolves h (checkpointCmd_evolves e ..)
  | finalCheckpointSnapshot => exact next_evolves h (finalCheckpointSnapshot_evolves e ..)
  | frameWriteDone => exact next_evolves h (frameDone_evolves e ..)
  | releaseHold => exact next_evolves h (releaseHold_evolves e ..)
  | migrationStart => exact next_evolves h (migrationStart_evolves e ..)
  | migrationDone => exact next_evolves h (migrationDone_evolves e ..)
  | gridPointEval => exact next_evolves h (gridPointEval_evolves e ..)
  | modulatorCode => exact next_evolves h (modulatorCode_evolves e ..)
  | madcTapWrite => exact next_evolves h (madcTapWrite_evolves e ..)
  | checkSlotStart => exact next_evolves h (checkSlotStart_evolves e ..)
  | spareSelfCheck => exact next_evolves h (spareSelfCheck_evolves e ..)
  | madcSubstitute => exact next_evolves h (madcSubstitute_evolves e ..)
  | madcCheckCmd => exact next_evolves h (madcCheckCmd_evolves e ..)
  | madcRetry => exact next_evolves h (madcRetry_evolves e ..)
  | decStart => exact next_evolves h (State.decStart_evolves e ..)
  | decStop => exact next_evolves h (State.decStop_evolves e ..)
  | decApply => exact next_evolves h (State.decApply_evolves e ..)
  | decFade => exact next_evolves h (State.decFade_evolves e ..)
  | contextRun => exact next_evolves h (contextRun_evolves e ..)
  | outputInstant => exact next_evolves h (outputInstant_evolves e ..)
  | fadeBegin => exact next_evolves h (fadeBegin_evolves e ..)
  | samplePacketTimeout => exact next_evolves h (samplePacketTimeout_evolves e ..)
  | decCoefDataAccess => exact next_evolves h (decCoefDataAccess_evolves e ..)
  | decCoefHdrWrite => exact next_evolves h (decCoefHdrWrite_evolves e ..)
  | pipJudgeTick => exact next_evolves h (pipJudgeTick_evolves e ..)
  | pipEnable => exact next_evolves h (.ite (State.pipEnable_evolves e ..) e)
  | pipDisable => exact next_evolves h (.ite (State.pipDisable_evolves e ..) e)
  | pipApply => exact next_evolves h (.ite (State.pipApply_evolves e ..) e)
  | pipSoft => exact next_evolves h (.ite (State.pipSoft_evolves e ..) e)
  | pipPointReached => exact next_evolves h (pipPointReached_evolves e ..)
  | lineEvent => exact next_evolves h (lineEvent_evolves e ..)
  | pinPulseStart => exact next_evolves h (pinPulseStart_evolves e ..)
  | pinPulseEnd => exact next_evolves h (pinPulseEnd_evolves e ..)
  | trgPinWrite => exact next_evolves h (trgPinWrite_evolves e ..)
  | acqArm => exact next_evolves h (.ite (State.acqArm_evolves e ..) e)
  | acqStop => exact next_evolves h (.ite (State.acqStop_evolves e ..) e)
  | acqArmPoint => exact next_evolves h (.ite (acqArmPoint_evolves e ..) e)
  | acqRelease => exact next_evolves h (.ite (acqRelease_evolves e ..) e)
  | segmentClose => exact next_evolves h (.ite (segmentClose_evolves e ..) e)
  | acqSegRdWrite => exact next_evolves h (acqSegRdWrite_evolves e ..)
  | queuePush => exact next_evolves h (queuePush_evolves e ..)
  | queuePop => exact next_evolves h (queuePop_evolves e ..)
  | packetRewind => exact next_evolves h (packetRewind_evolves e ..)
  | skipPkt => exact next_evolves h (skipPkt_evolves e ..)
  | queFlush => exact next_evolves h (queFlush_evolves e ..)
  | xqCommitVisible => exact next_evolves h (xqCommitVisible_evolves e ..)
  | xqFreeVisible => exact next_evolves h (xqFreeVisible_evolves e ..)
  | quePopW0Read => exact next_evolves h (quePopW0Read_evolves e ..)
  | queQCfgWrite => exact next_evolves h (queQCfgWrite_evolves e ..)
  | queTest => exact next_evolves h (queTest_evolves e ..)
  | queLevel => exact next_evolves h (queLevel_evolves e ..)
  | queueDrainEnd => exact next_evolves h (queueDrainEnd_evolves e ..)
  | flitLock => exact next_evolves h (flitLock_evolves e ..)
  | flitLockLoss => exact next_evolves h (flitLockLoss_evolves e ..)
  | reportFlit => exact next_evolves h (reportFlit_evolves e ..)
  | idleFlit => exact next_evolves h (idleFlit_evolves e ..)
  | nakFlit => exact next_evolves h (nakFlit_evolves e ..)
  | badCrcFlit => exact next_evolves h (badCrcFlit_evolves e ..)
  | hello => exact next_evolves h (hello_evolves e ..)
  | echo => exact next_evolves h (echo_evolves e ..)
  | arsp => exact next_evolves h (arsp_evolves e ..)
  | ahigh => exact next_evolves h (ahigh_evolves e ..)
  | badType => exact next_evolves h (badType_evolves e ..)
  | treqPeriod => exact next_evolves h (treqPeriod_evolves e ..)
  | timePeriod => exact next_evolves h (timePeriod_evolves e ..)
  | areqPeriod => exact next_evolves h (areqPeriod_evolves e ..)
  | arspTimeout => exact next_evolves h (arspTimeout_evolves e ..)
  | silenceTimeout => exact next_evolves h (silenceTimeout_evolves e ..)
  | ackTimeout => exact next_evolves h (ackTimeout_evolves e ..)
  | creditGrant => exact next_evolves h (creditGrant_evolves e ..)
  | trainTryTimeout => exact next_evolves h (trainTryTimeout_evolves e ..)
  | trainingComplete => exact next_evolves h (trainingComplete_evolves e ..)
  | retrainTimer => exact next_evolves h (retrainTimer_evolves e ..)
  | lnkRetrain => exact next_evolves h (lnkRetrain_evolves e ..)
  | lnkAudit => exact next_evolves h (lnkAudit_evolves e ..)
  | linkEvtGapEnd => exact next_evolves h (linkEvtGapEnd_evolves e ..)
  | add => exact next_evolves h (engAdd_evolves e ..)
  | sub => exact next_evolves h (engSub_evolves e ..)
  | and => exact next_evolves h (engAnd_evolves e ..)
  | or => exact next_evolves h (engOr_evolves e ..)
  | xor => exact next_evolves h (engXor_evolves e ..)
  | shl => exact next_evolves h (engShl_evolves e ..)
  | shr => exact next_evolves h (engShr_evolves e ..)
  | sar => exact next_evolves h (engSar_evolves e ..)
  | min => exact next_evolves h (engMin_evolves e ..)
  | max => exact next_evolves h (engMax_evolves e ..)
  | minu => exact next_evolves h (engMinu_evolves e ..)
  | maxu => exact next_evolves h (engMaxu_evolves e ..)
  | mov => exact next_evolves h (engMov_evolves e ..)
  | movh => exact next_evolves h (engMovh_evolves e ..)
  | cmp => exact next_evolves h (engCmp_evolves e ..)
  | adds => exact next_evolves h (engAdds_evolves e ..)
  | sel => exact next_evolves h (engSel_evolves e ..)
  | mul => exact next_evolves h (engMul_evolves e ..)
  | mulhs => exact next_evolves h (engMulhs_evolves e ..)
  | mulhu => exact next_evolves h (engMulhu_evolves e ..)
  | amac => exact next_evolves h (engAmac_evolves e ..)
  | amsb => exact next_evolves h (engAmsb_evolves e ..)
  | aclr => exact next_evolves h (engAclr_evolves e ..)
  | ald => exact next_evolves h (engAld_evolves e ..)
  | ardl => exact next_evolves h (engArdl_evolves e ..)
  | ardh => exact next_evolves h (engArdh_evolves e ..)
  | ashl => exact next_evolves h (engAshl_evolves e ..)
  | ashr => exact next_evolves h (engAshr_evolves e ..)
  | amulw => exact next_evolves h (engAmulw_evolves e ..)
  | aadd => exact next_evolves h (engAadd_evolves e ..)
  | axch => exact next_evolves h (engAxch_evolves e ..)
  | divs => exact next_evolves h (engDivs_evolves e ..)
  | divu => exact next_evolves h (engDivu_evolves e ..)
  | rems => exact next_evolves h (engRems_evolves e ..)
  | remu => exact next_evolves h (engRemu_evolves e ..)
  | rdiv => exact next_evolves h (engRdiv_evolves e ..)
  | adiv => exact next_evolves h (engAdiv_evolves e ..)
  | fadd => exact next_evolves h (engFadd_evolves e ..)
  | fsub => exact next_evolves h (engFsub_evolves e ..)
  | fmul => exact next_evolves h (engFmul_evolves e ..)
  | fdiv => exact next_evolves h (engFdiv_evolves e ..)
  | fsqrt => exact next_evolves h (engFsqrt_evolves e ..)
  | frcp => exact next_evolves h (engFrcp_evolves e ..)
  | fcvt => exact next_evolves h (engFcvt_evolves e ..)
  | fcvta => exact next_evolves h (engFcvta_evolves e ..)
  | fcmp => exact next_evolves h (engFcmp_evolves e ..)
  | fint => exact next_evolves h (engFint_evolves e ..)
  | ld => exact next_evolves h (engLd_evolves e ..)
  | st => exact next_evolves h (engSt_evolves e ..)
  | ldw => exact next_evolves h (engLdw_evolves e ..)
  | ldws => exact next_evolves h (engLdws_evolves e ..)
  | stw => exact next_evolves h (engStw_evolves e ..)
  | spld => exact next_evolves h (engSpld_evolves e ..)
  | spst => exact next_evolves h (engSpst_evolves e ..)
  | hcfg => exact next_evolves h (engHcfg_evolves e ..)
  | hadd => exact next_evolves h (engHadd_evolves e ..)
  | hrd => exact next_evolves h (engHrd_evolves e ..)
  | hruo => exact next_evolves h (engHruo_evolves e ..)
  | hclr => exact next_evolves h (engHclr_evolves e ..)
  | evpop => exact next_evolves h (engEvpop_evolves e ..)
  | eventRelease => exact next_evolves h (eventRelease_evolves e ..)
  | evrd => exact next_evolves h (engEvrd_evolves e ..)
  | skip => exact next_evolves h (engSkip_evolves e ..)
  | out => exact next_evolves h (engOut_evolves e ..)
  | outr => exact next_evolves h (engOutr_evolves e ..)
  | time => exact next_evolves h (engTime_evolves e ..)
  | desc => exact next_evolves h (engDesc_evolves e ..)
  | tlyr => exact next_evolves h (engTlyr_evolves e ..)
  | tlyw => exact next_evolves h (engTlyw_evolves e ..)
  | nop => exact next_evolves h (engNop_evolves e ..)
  | csr => exact next_evolves h (engCsr_evolves e ..)
  | fault => exact next_evolves h (engFault_evolves e ..)
  | seqJump => exact next_evolves h (seqJump_evolves e ..)
  | seqCall => exact next_evolves h (seqCall_evolves e ..)
  | seqRet => exact next_evolves h (seqRet_evolves e ..)
  | seqDisp => exact next_evolves h (seqDisp_evolves e ..)
  | seqStop => exact next_evolves h (seqStop_evolves e ..)
  | stopTimeout => exact next_evolves h (stopTimeout_evolves e ..)
  | machineCheck => exact next_evolves h (machineCheck_evolves e ..)
  | immediateMoveDone => exact next_evolves h (immediateMoveDone_evolves e ..)
  | scrubParityError => exact next_evolves h (scrubParityError_evolves e ..)
  | controlStoreLoadDone => exact next_evolves h (controlStoreLoadDone_evolves e ..)
  | engCmdHandover => exact next_evolves h (engHandover_evolves e ..)
  | evacuate => exact next_evolves h (evacuate_evolves e ..)
  | engRetry => exact next_evolves h (engRetry_evolves e ..)
  | handoverShadow => exact next_evolves h (handoverShadow_evolves e ..)
  | handoverDrain => exact next_evolves h (handoverDrain_evolves e ..)
  | evacuationRetry => exact next_evolves h (evacuationRetry_evolves e ..)
  | dramCorrectedError => exact next_evolves h (dramCorrectedError_evolves e ..)
  | dramUncorrectable => exact next_evolves h (dramUncorrectable_evolves e ..)
  | patrolScrub => exact next_evolves h (patrolScrub_evolves e ..)
  | retire => exact next_evolves h (drmRetire_evolves e ..)
  | scrubNow => exact next_evolves h (drmScrubNow_evolves e ..)
  | resetRing => exact next_evolves h (resetRing_evolves e ..)
  | extentCloseTimeout => exact next_evolves h (extentCloseTimeout_evolves e ..)
  | extentWriteComplete => exact next_evolves h (extentWriteComplete_evolves e ..)
  | drmRgRdWrite => exact next_evolves h (drmRgRdWrite_evolves e ..)
  | nvmeCompletion => exact next_evolves h (nvmeCompletion_evolves e ..)
  | nvmeCommandTimeout => exact next_evolves h (nvmeCommandTimeout_evolves e ..)
  | nvmeLinkLoss => exact next_evolves h (nvmeLinkLoss_evolves e ..)
  | driveInitDone => exact next_evolves h (driveInitDone_evolves e ..)
  | smartPoll => exact next_evolves h (smartPoll_evolves e ..)
  | nvsReinit => exact next_evolves h (nvsReinit_evolves e ..)
  | nvsFlush => exact next_evolves h (nvsFlush_evolves e ..)
  | nvsFormat => exact next_evolves h (nvsFormat_evolves e ..)
  | extentRead => exact next_evolves h (extentRead_evolves e ..)
  | extentReadDone => exact next_evolves h (extentReadDone_evolves e ..)
  | bar2Read => exact next_evolves h (bar2Read_evolves e ..)
  | registerWrite => exact next_evolves h (registerWrite_evolves e ..)
  | rcFieldRead => exact next_evolves h (rcFieldRead_evolves e ..)
  | pairLowRead => exact next_evolves h (pairLowRead_evolves e ..)
  | pairHighRead => exact next_evolves h (pairHighRead_evolves e ..)
  | pairLowWrite => exact next_evolves h (pairLowWrite_evolves e ..)
  | pairHighWrite => exact next_evolves h (pairHighWrite_evolves e ..)
  | hstCqDb => exact next_evolves h (hstCqDb_evolves e ..)
  | commandFetch => exact next_evolves h (commandFetch_evolves e ..)
  | taskStart => exact next_evolves h (taskStart_evolves e ..)
  | taskStop => exact next_evolves h (taskStop_evolves e ..)
  | taskSwitch => exact next_evolves h (taskSwitch_evolves e ..)
  | gate => exact next_evolves h (gateCmd_evolves e ..)
  | dec => exact next_evolves h (decCmd_evolves e ..)
  | pip => exact next_evolves h (pipCmd_evolves e ..)
  | acq => exact next_evolves h (acqCmd_evolves e ..)
  | fence => exact next_evolves h (fenceCmd_evolves e ..)
  | fenceComplete => exact next_evolves h (fenceComplete_evolves e ..)
  | completionTimeout => exact next_evolves h (completionTimeout_evolves e ..)
  | ringPacketWrite => exact next_evolves h (ringPacketWrite_evolves e ..)
  | hstRingTailWrite => exact next_evolves h (hstRingTailWrite_evolves e ..)
  | hstRingCfgWrite => exact next_evolves h (hstRingCfgWrite_evolves e ..)
  | hstCplPtrWrite => exact next_evolves h (hstCplPtrWrite_evolves e ..)
  | hstDb => exact next_evolves h (hstDb_evolves e ..)
  | eventSourceAssert => exact next_evolves h (eventSourceAssert_evolves e ..)
  | holdoffEnd => exact next_evolves h (holdoffEnd_evolves e ..)
  | evtPendClear => exact next_evolves h (evtPendClear_evolves e ..)
  | d3hotTransition => exact next_evolves h (d3hotTransition_evolves e ..)
  | smbReadStatus => exact next_evolves h (smbReadStatus_evolves e ..)
  | smbBar0Write => exact next_evolves h (smbBar0Write_evolves e ..)
  | smbBar0Read => exact next_evolves h (smbBar0Read_evolves e ..)
  | smbDoorbell => exact next_evolves h (smbDoorbell_evolves e ..)
  | alertResponse => exact next_evolves h (alertResponse_evolves e ..)
  | smbusTimeout => exact next_evolves h (smbusTimeout_evolves e ..)
  | join => exact next_evolves h (joinFlit_evolves e ..)
  | accept => exact next_evolves h (acceptFlit_evolves e ..)
  | refuse => exact next_evolves h (refuseFlit_evolves e ..)
  | cascadeResetFlit => exact next_evolves h (cascadeReset_evolves e ..)
  | leave => exact next_evolves h (leaveFlit_evolves e ..)
  | dly => exact next_evolves h (dlyFlit_evolves e ..)
  | lineFlit => exact next_evolves h (lineFlit_evolves e ..)
  | fwdFlit => exact next_evolves h (fwdFlit_evolves e ..)
  | casTimeFlit => exact next_evolves h (casTimeFlit_evolves e ..)
  | offsetStep => exact next_evolves h (offsetStep_evolves e ..)
  | joinTimeout => exact next_evolves h (joinTimeout_evolves e ..)
  | childLinkLost => exact next_evolves h (childLinkLost_evolves e ..)
  | resetAll => exact next_evolves h (resetAll_evolves e ..)
  | resync => exact next_evolves h (resync_evolves e ..)
  | c0SignalDetect => exact next_evolves h (c0SignalDetect_evolves e ..)
  | casTunnelEnable => exact next_evolves h (casTunnelEnable_evolves e ..)
  | softReset => exact next_evolves h (softReset_evolves e ..)
  | continueCmd => exact next_evolves h (continueBoot_evolves e ..)
  | restart => exact next_evolves h (restartBoot_evolves e ..)
  | otpDigest => exact next_evolves h (otpDigest_evolves e ..)
  | otpDigEn => exact next_evolves h (otpDigEn_evolves e ..)
  | otpJtag => exact next_evolves h (otpJtag_evolves e ..)
  | flashRead => exact next_evolves h (flashReadCmd_evolves e ..)
  | flashProgram => exact next_evolves h (flashProgram_evolves e ..)
  | flashErase => exact next_evolves h (flashErase_evolves e ..)
  | flashCommandDone => exact next_evolves h (flashDone_evolves e ..)
  | bootFlDataAccess => exact next_evolves h (flDataAccess_evolves e ..)
  | bootLockSet => exact next_evolves h (bootLockSet_evolves e ..)
  | ack => exact next_evolves h (fltAck_evolves e ..)
  | clear => exact next_evolves h (fltClear_evolves e ..)
  | fltInj => exact next_evolves h (fltInj_evolves e ..)
  | escalation => exact next_evolves h (escalation_evolves e ..)
  | faultPacketTimer => exact next_evolves h (faultPacketTimer_evolves e ..)
  | fltCtlLock => exact next_evolves h (fltCtlLock_evolves e ..)
  | railOutOfRegulation => exact next_evolves h (railOut_evolves e ..)
  | railCurrentLimit => exact next_evolves h (railLimit_evolves e ..)
  | vinHigh => exact next_evolves h (vinHigh_evolves e ..)
  | domainOff => exact next_evolves h (domainOff_evolves e ..)
  | domainOn => exact next_evolves h (domainOn_evolves e ..)
  | powerGoodTimeout => exact next_evolves h (powerGoodTimeout_evolves e ..)
  | generalTimerExpiry => exact next_evolves h (timerExpiry_evolves e ..)
  | tempSample => exact next_evolves h (tempSample_evolves e ..)
  | jtagUpdateIr u => exact execJtagUpdateIr_evolves h
  | tapRelease => exact next_evolves h (tapRelease_evolves e ..)
  | perstNRise => exact next_evolves h (perstRise_evolves e ..)
  | configurationRequest => exact next_evolves h (configurationRequest_evolves e ..)
  | hostLinkChange => exact next_evolves h (hostLinkChange_evolves e ..)
  | checkSlotEnd => exact next_evolves h (checkSlotEnd_evolves e ..)
  | treq => exact next_evolves h (treq_evolves e ..)
  | areq => exact next_evolves h (areq_evolves e ..)
  | powerConditionClear => exact next_evolves h (powerConditionClear_evolves e ..)

/-- The invariant does not speak of the queue of waiting commands. -/
theorem State.Inv.pending {s : State} (h : s.Inv) (l : List Instr) : ({ s with pending := l } : State).Inv :=
  ⟨h.regs, h.dram, h.flash, h.pairs, h.fuses⟩

/-- Settles O3: the command at the front acts on a state that satisfies the invariant, and evolves it. -/
theorem stepKeepsInvariant : Obligations.StepKeepsInvariant := by
  unfold Obligations.StepKeepsInvariant
  intro s t hs h
  unfold step at h
  split at h
  · cases h; exact hs
  · exact (exec_evolves h).inv (hs.pending _)

/-- No fuse is blown. -/
theorem Otp.ok_init : Otp.ok BootSt.init.otp := by
  refine ⟨by decide, fun d h => ?_, by decide⟩
  cases h

/-- Settles O4: the register table is canonical by `resetRegs_wf`, and there is nothing else. -/
theorem resetInvariant : Obligations.ResetInvariant := by
  unfold Obligations.ResetInvariant
  exact ⟨State.reset_regs ▸ resetRegs_wf, rfl, rfl, ⟨List.nodup_nil, Nat.zero_le _⟩, Otp.ok_init⟩

end Sys2Proof.Machine
end

section
/-! The bus (R7 to R12, R39, R478 to R481, R503): what a field, the table of requesters and an offset make of an access. -/

namespace Sys2Proof.Machine

/-! ### Fields (R7, R9, R10) -/

/-- The bits of `a` that `b` has too, taken from `a`. -/
theorem testBit_sub_land (a b k : Nat) : (a - Nat.land a b).testBit k = (a.testBit k && ! b.testBit k) := by
  show (a - (a &&& b)).testBit k = _
  induction k generalizing a b with
  | zero =>
    have h : (a &&& b) % 2 = 1 ↔ a % 2 = 1 ∧ b % 2 = 1 := Nat.and_mod_two_eq_one
    have hle : a &&& b ≤ a := Nat.and_le_left
    rw [Bool.eq_iff_iff]
    simp only [Nat.testBit_zero, Bool.and_eq_true, Bool.not_eq_true', decide_eq_true_eq, decide_eq_false_iff_not]
    omega
  | succ k ih =>
    have hd : (a &&& b) / 2 = a / 2 &&& b / 2 := Nat.and_div_two
    have hm : (a &&& b) % 2 = 1 ↔ a % 2 = 1 ∧ b % 2 = 1 := Nat.and_mod_two_eq_one
    have hle : a &&& b ≤ a := Nat.and_le_left
    simp only [Nat.testBit_succ]
    rw [← ih, ← hd]
    congr 1
    omega

/-- A write changes no bit outside its field. -/
theorem FieldDef.write_outside (f : FieldDef) (locked : Bool) (w old : Word) {k : Nat} (hk : k < 32) (ho : k < f.lo ∨ f.lo + f.w ≤ k) :
    natBit (f.write locked w old).toNat k = natBit old.toNat k := by
  have keep : ∀ x, natBit (setBits old f.lo f.w x).toNat k = natBit old.toNat k := fun x => by rw [natBit_setBits _ _ _ _ _ hk, if_pos ho]
  unfold FieldDef.write
  cases f.acc <;> grind

/-- A RW field takes a legal value. -/
theorem FieldDef.write_rw {f : FieldDef} (hf : f.lo + f.w ≤ 32) (ha : f.acc = .rw) (locked : Bool) (w old : Word) :
    bitsOf (f.write locked w old) f.lo f.w = if f.legal.ok (bitsOf w f.lo f.w) then bitsOf w f.lo f.w else bitsOf old f.lo f.w := by
  simp only [FieldDef.write, ha]
  split
  · exact bitsOf_setBits _ _ _ _ hf (bitsOf_lt ..)
  · rfl

/-- A RWL field takes a legal value while its lock is open. -/
theorem FieldDef.write_rwl {f : FieldDef} (hf : f.lo + f.w ≤ 32) (ha : f.acc = .rwl) (locked : Bool) (w old : Word) :
    bitsOf (f.write locked w old) f.lo f.w =
      if locked = false ∧ f.legal.ok (bitsOf w f.lo f.w) = true then bitsOf w f.lo f.w else bitsOf old f.lo f.w := by
  simp only [FieldDef.write, ha, Bool.and_eq_true, Bool.not_eq_true']
  split
  · exact bitsOf_setBits _ _ _ _ hf (bitsOf_lt ..)
  · rfl

/-- A bit of a field replaced by `x`. -/
theorem natBit_setBits_inside (old : Word) {lo n k : Nat} (hf : lo + n ≤ 32) (h1 : lo ≤ k) (h2 : k < lo + n) (x : Nat) :
    natBit (setBits old lo n x).toNat k = x.testBit (k - lo) := by
  rw [natBit_setBits _ _ _ _ _ (by omega), if_neg (by omega)]

/-- A bit of a field's value. -/
theorem testBit_bitsOf_inside (w : Word) {lo n k : Nat} (h1 : lo ≤ k) (h2 : k < lo + n) :
    (bitsOf w lo n).testBit (k - lo) = natBit w.toNat k := by
  rw [testBit_bitsOf, decide_eq_true (by omega : k - lo < n), Nat.add_sub_cancel' h1, Bool.true_and]

/-- A W1C bit goes where 1 is written. -/
theorem FieldDef.write_w1c {f : FieldDef} (hf : f.lo + f.w ≤ 32) (ha : f.acc = .w1c) (locked : Bool) (w old : Word) {k : Nat}
    (h1 : f.lo ≤ k) (h2 : k < f.lo + f.w) :
    natBit (f.write locked w old).toNat k = (natBit old.toNat k && ! natBit w.toNat k) := by
  simp only [FieldDef.write, ha]
  rw [natBit_setBits_inside old hf h1 h2, testBit_sub_land, testBit_bitsOf_inside old h1 h2, testBit_bitsOf_inside w h1 h2]

/-- A W1S bit comes where 1 is written. -/
theorem FieldDef.write_w1s {f : FieldDef} (hf : f.lo + f.w ≤ 32) (ha : f.acc = .w1s) (locked : Bool) (w old : Word) {k : Nat}
    (h1 : f.lo ≤ k) (h2 : k < f.lo + f.w) :
    natBit (f.write locked w old).toNat k = (natBit old.toNat k || natBit w.toNat k) := by
  simp only [FieldDef.write, ha]
  rw [natBit_setBits_inside old hf h1 h2]
  show (bitsOf old f.lo f.w ||| bitsOf w f.lo f.w).testBit _ = _
  rw [Nat.testBit_or, testBit_bitsOf_inside old h1 h2, testBit_bitsOf_inside w h1 h2]

/-- A field that no write reaches. -/
theorem FieldDef.write_fixed {f : FieldDef} (ha : f.acc = .ro ∨ f.acc = .wo ∨ f.acc = .rc) (locked : Bool) (w old : Word) :
    f.write locked w old = old := by
  unfold FieldDef.write
  rcases ha with ha | ha | ha <;> rw [ha]

/-! ### Requesters (R12) -/

/-- The entries that stay when that of `e` becomes the most recent: none of its requester, and all of the others but for a PCIe one that makes
room for a PCIe one. -/
theorem State.touchPair_pairs (s : State) (e : PairEntry) :
    ∃ p : PairEntry → Bool, (s.touchPair e).pairs = s.pairs.filter p ++ [e] ∧ (∀ x, x.who = e.who → p x = false) ∧
      ∀ x, x.who ≠ e.who → x.who.isPcie = false ∨ e.who.isPcie = false → p x = true := by
  simp only [State.touchPair]
  split
  · rename_i o ho
    split at ho
    · rename_i hfull
      have hpcie : e.who.isPcie = true := (Bool.and_eq_true_iff.1 hfull).1
      have hopcie : o.who.isPcie = true := by simpa using List.find?_some ho
      refine ⟨fun x => x.who != o.who && x.who != e.who, by rw [List.filter_filter], by simp +contextual, fun x hx hor => ?_⟩
      have hxo : x.who ≠ o.who := fun h => by simp_all
      simp [hx, hxo]
    · cases ho
  · exact ⟨fun x => x.who != e.who, rfl, by simp, by simp +contextual⟩

/-- An entry just made is found again. -/
theorem State.pairEntry_touchPair_self (s : State) (e : PairEntry) : (s.touchPair e).pairEntry e.who = e := by
  obtain ⟨p, hp, hself, -⟩ := s.touchPair_pairs e
  have hn : (s.pairs.filter p).find? (fun x => x.who == e.who) = none := by
    rw [List.find?_eq_none]
    intro x hx
    have hpx := (List.mem_filter.1 hx).2
    simpa using fun hw => Bool.eq_false_iff.1 (hself x hw) hpx
  simp [State.pairEntry, hp, List.find?_append, hn]

/-- The entries of requesters that need not make room stay as they were. -/
theorem State.pairEntry_touchPair_other (s : State) (e : PairEntry) {who : Requester} (hne : who ≠ e.who)
    (h : who.isPcie = false ∨ e.who.isPcie = false) : (s.touchPair e).pairEntry who = s.pairEntry who := by
  obtain ⟨p, hp, -, hkeep⟩ := s.touchPair_pairs e
  have hf : (s.pairs.filter p).find? (fun x => x.who == who) = s.pairs.find? (fun x => x.who == who) := by
    rw [List.find?_filter]
    congr 1
    funext x
    by_cases hx : x.who = who
    · simp [hx, hkeep x (hx ▸ hne) (hx ▸ h)]
    · simp [hx]
  simp [State.pairEntry, hp, List.find?_append, hf, Ne.symm hne]

/-- The invariant speaks of the table of requesters in one part only. -/
theorem State.Inv.withPairs {s : State} (h : s.Inv) {l : List PairEntry} (k : pairsOk l) : ({ s with pairs := l } : State).Inv :=
  ⟨h.regs, h.dram, h.flash, k, h.fuses⟩

/-- A table of requesters in order stays so, whatever else the state holds: what `State.touchPair_evolves` says of the state after reset with
that table. -/
theorem State.touchPair_pairsOk {s : State} (e : PairEntry) (h : pairsOk s.pairs) : pairsOk (s.touchPair e).pairs := by
  have key : ∀ r : State, r.Inv → pairsOk (({ r with pairs := s.pairs } : State).touchPair e).pairs :=
    fun r hr => ((State.touchPair_evolves (.refl _) e).inv (hr.withPairs h)).pairs
  exact key State.reset resetInvariant

/-- A read of the high word uses up the shadow that a read of its low word left. -/
theorem State.takeShadow_some {s : State} {who : Requester} {off : Nat} {v : Word} (now : Word)
    (h : (s.pairEntry who).shadow = some (off, v)) :
    s.takeShadow who off now = (s.setPairEntry { s.pairEntry who with shadow := none }, v) := by
  simp [State.takeShadow, h]

/-- Without a shadow of its pair, a high word reads as it is. -/
theorem State.takeShadow_other {s : State} {who : Requester} {off : Nat} (now : Word)
    (h : ∀ v, (s.pairEntry who).shadow ≠ some (off, v)) : s.takeShadow who off now = (s, now) := by
  simp only [State.takeShadow]
  split
  · rename_i o w ho
    exact if_neg fun hoff => h w (by rw [ho, hoff])
  · rfl

/-- A high word written with a low word held for it: both take effect. -/
theorem State.highWrite_held {s : State} {who : Requester} {lo : Reg} {i j : Nat} {l : Word} (hi : Reg) (w : Word)
    (h : (s.pairEntry who).held = some (regAddr lo i j, l)) :
    s.highWrite who lo hi i j w = (s.setPairEntry { s.pairEntry who with held := none }).pairCommit lo hi i j (pairNat l w) := by
  simp [State.highWrite, State.takeHeldLow, h, pairOff]

/-- A high word written alone goes with the present low word. -/
theorem State.highWrite_alone {s : State} {who : Requester} (lo hi : Reg) (i j : Nat) (w : Word) (h : (s.pairEntry who).held = none) :
    s.highWrite who lo hi i j w = s.pairCommit lo hi i j (pairNat (s.rg lo i j) w) := by
  simp [State.highWrite, State.takeHeldLow, h]

/-! ### Which register a read or write meets (R11, R39, R478) -/

/-- An offset of BAR0 read: the three commands are one access. -/
theorem exec_busRead {off : Nat} (h : off < 2 ^ 24) (who : Requester) (s : State) :
    exec (.rcFieldRead who off) s = .next (busRead who off s) ∧ exec (.pairLowRead who off) s = .next (busRead who off s) ∧
      exec (.pairHighRead who off) s = .next (busRead who off s) := by
  have hw : windowRead who off s = busRead who off s := if_pos (.inl h)
  exact ⟨congrArg _ hw, congrArg _ hw, congrArg _ hw⟩

/-- An offset of BAR0 written: the three commands are one access. -/
theorem exec_busWrite {off : Nat} (h : off < 2 ^ 24) (who : Requester) (w : Word) (s : State) :
    exec (.registerWrite who off w) s = .next (busWrite who off w s) ∧ exec (.pairLowWrite who off w) s = .next (busWrite who off w s) ∧
      exec (.pairHighWrite who off w) s = .next (busWrite who off w s) := by
  have hw : windowWrite who off w s = busWrite who off w s := if_pos (.inl h)
  exact ⟨congrArg _ hw, congrArg _ hw, congrArg _ hw⟩

section
variable {s : State} {who : Requester} {off : Nat}

theorem busRead_at (hr : s.reaches who = true) {r : Reg} {i j : Nat} (hat : regAt off = some (r, i, j)) :
    busRead who off s = if (s.hostTouch who).answers r i then (s.hostTouch who).regReadAct who r i j
      else (s.hostTouch who).emit (.readData who off 0) := by
  simp [busRead, hr, hat]

theorem busRead_none (hr : s.reaches who = true) (hat : regAt off = none) :
    busRead who off s = if who.isPcie = true ∧ off % 4 ≠ 0 then (s.hostTouch who).completerAbort
      else (s.hostTouch who).emit (.readData who off 0) := by
  simp [busRead, hr, hat]

theorem busWrite_at (hr : s.reaches who = true) {r : Reg} {i j : Nat} (hat : regAt off = some (r, i, j)) (w : Word) :
    busWrite who off w s = if (s.hostTouch who).answers r i then (s.hostTouch who).regPut who r i j w
      else (s.hostTouch who).dropHeld who := by
  simp [busWrite, hr, hat]

theorem busWrite_none (hr : s.reaches who = true) (hat : regAt off = none) (w : Word) :
    busWrite who off w s = if who.isPcie = true ∧ off % 4 ≠ 0 then (s.hostTouch who).unsupported else s.hostTouch who := by
  simp [busWrite, hr, hat]

end

/-! ### Kinds of registers (R7, R12) -/

/-- The registers whose read acts on more than their own fields (`State.regReadAct`). -/
def actingReads : List Reg := [.QUE_POP_W, .BOOT_FL_DATA, .DEC_COEF_DATA, .PWR_VIN, .PWR_RAIL]

/-- They have no RC fields and are no halves of pairs. -/
theorem actingReads_plain : ∀ r ∈ actingReads, hasRc r = false ∧ pairHigh r = none ∧ pairLow r = none := by decide

/-- A high word is no low word. -/
theorem pairHighs_not_low : ∀ r ∈ pairHighs, pairHigh r = none ∧ pairWritable r = false := by decide

theorem mem_pairHighs_of_pairLow {r lo : Reg} (h : pairLow r = some lo) : r ∈ pairHighs := by
  obtain ⟨⟨l, hi⟩, hfind, -⟩ := Option.map_eq_some_iff.1 h
  have heq : hi = r := by simpa using List.find?_some hfind
  exact heq ▸ (List.of_mem_zip (List.mem_of_find?_eq_some hfind)).2

theorem pairHigh_of_pairLow {r lo : Reg} (h : pairLow r = some lo) : pairHigh r = none :=
  (pairHighs_not_low r (mem_pairHighs_of_pairLow h)).1

theorem pairWritable_of_pairLow {r lo : Reg} (h : pairLow r = some lo) : pairWritable r = false :=
  (pairHighs_not_low r (mem_pairHighs_of_pairLow h)).2

/-! ### One register -/

/-- A read of every other register acts by RC fields and pairs alone. -/
theorem State.regReadAct_eq (s : State) (who : Requester) {r : Reg} (h : r ∉ actingReads) (i j : Nat) :
    s.regReadAct who r i j = (s.regRead who r i j).1.emit (.readData who (regAddr r i j) (s.regRead who r i j).2) := by
  unfold State.regReadAct
  split
  case h_6 => rfl
  all_goals exact absurd (by decide) h

/-- A read of a register with RC fields clears them (R7). -/
theorem State.regReadAct_rc (s : State) (who : Requester) {r : Reg} (h : hasRc r = true) (hh : pairHigh r = none) (hl : pairLow r = none)
    (i j : Nat) : s.regReadAct who r i j = (s.clearRc r i j).emit (.readData who (regAddr r i j) (s.shown r i j)) := by
  have ha : r ∉ actingReads := fun hm => by simp [(actingReads_plain r hm).1] at h
  simp [s.regReadAct_eq who ha, State.regRead, hh, hl, h]

/-- A read of a low word leaves the high word in the requester's shadow (R12). -/
theorem State.regReadAct_low (s : State) (who : Requester) {r hi : Reg} (h : pairHigh r = some hi) (i j : Nat) :
    s.regReadAct who r i j =
      (s.touchPair { s.pairEntry who with shadow := some (regAddr r i j, s.shown hi i j) }).emit
        (.readData who (regAddr r i j) (s.shown r i j)) := by
  have ha : r ∉ actingReads := fun hm => by simp [(actingReads_plain r hm).2.1] at h
  simp [s.regReadAct_eq who ha, State.regRead, h, State.noteShadow, pairOff]

/-- A read of a high word is answered from the shadow, where there is one (R12). -/
theorem State.regReadAct_high (s : State) (who : Requester) {r lo : Reg} (h : pairLow r = some lo) (i j : Nat) :
    s.regReadAct who r i j = (s.takeShadow who (regAddr lo i j) (s.shown r i j)).1.emit
      (.readData who (regAddr r i j) (s.takeShadow who (regAddr lo i j) (s.shown r i j)).2) := by
  have ha : r ∉ actingReads := fun hm => by simp [(actingReads_plain r hm).2.2] at h
  simp [s.regReadAct_eq who ha, State.regRead, h, pairHigh_of_pairLow h, pairOff]

theorem State.regPut_plain (s : State) (who : Requester) {r : Reg} (hw : pairWritable r = false) (hl : pairLow r = none) (i j : Nat) (w : Word) :
    s.regPut who r i j w = (s.dropHeld who).regWrite who r i j w := by
  simp [State.regPut, hw, hl]

theorem State.regPut_low (s : State) (who : Requester) {r : Reg} (hw : pairWritable r = true) (i j : Nat) (w : Word) :
    s.regPut who r i j w = s.touchPair { s.pairEntry who with held := some (regAddr r i j, w) } := by
  simp [State.regPut, hw, State.holdLow, pairOff]

theorem State.regPut_high (s : State) (who : Requester) {r lo : Reg} (hl : pairLow r = some lo) (hw : pairWritable lo = true) (i j : Nat) (w : Word) :
    s.regPut who r i j w = s.highWrite who lo r i j w := by
  simp [State.regPut, pairWritable_of_pairLow hl, hl, hw]

/-- Settles O58: every access of BAR0 is one `busRead` or `busWrite`, which meets no register, one that does not answer, or one whose kind says
the rest. -/
theorem busAccess : Obligations.BusAccess := by
  unfold Obligations.BusAccess
  refine ⟨?_, ?_, fun s e => ⟨s.pairEntry_touchPair_self e, State.touchPair_pairsOk e, fun x _ hne h => s.pairEntry_touchPair_other e hne h⟩⟩
  · rintro s _ who off hoff hreach rfl
    obtain ⟨hrc, hlow, hhigh⟩ := exec_busRead hoff who s
    have hwrite := fun w => exec_busWrite hoff who w s
    refine ⟨fun hat => ⟨fun h => ?_, fun hp ho => ?_⟩, fun r i j hat => ⟨regAt_addr hat, fun hans => ?_, fun hans => ?_⟩⟩
    · have hn : ¬ (who.isPcie = true ∧ off % 4 ≠ 0) := by grind
      exact ⟨by rw [hrc, busRead_none hreach hat, if_neg hn], fun w => by rw [(hwrite w).1, busWrite_none hreach hat, if_neg hn]⟩
    · exact ⟨by rw [hrc, busRead_none hreach hat, if_pos ⟨hp, ho⟩], fun w => by rw [(hwrite w).1, busWrite_none hreach hat, if_pos ⟨hp, ho⟩]⟩
    · have hr : busRead who off s = (s.hostTouch who).emit (.readData who off 0) := by simp [busRead_at hreach hat, hans]
      have hw : ∀ w, busWrite who off w s = (s.hostTouch who).dropHeld who := fun w => by simp [busWrite_at hreach hat, hans]
      exact ⟨by rw [hrc, hr], by rw [hlow, hr], by rw [hhigh, hr], fun w => by rw [(hwrite w).1, hw], fun w => by rw [(hwrite w).2.1, hw],
        fun w => by rw [(hwrite w).2.2, hw]⟩
    · have hr : busRead who off s = (s.hostTouch who).regReadAct who r i j := by simp [busRead_at hreach hat, hans]
      have hw : ∀ w, busWrite who off w s = (s.hostTouch who).regPut who r i j w := fun w => by simp [busWrite_at hreach hat, hans]
      obtain rfl := regAt_addr hat
      refine ⟨fun w hpw hpl => by rw [(hwrite w).1, hw, State.regPut_plain _ _ hpw hpl],
        fun h hh hl => by rw [hrc, hr, State.regReadAct_rc _ _ h hh hl],
        fun hi h => by rw [hlow, hr, State.regReadAct_low _ _ h],
        fun lo h => ⟨fun v hv => ?_, fun hv => ?_⟩,
        fun w h => by rw [(hwrite w).2.1, hw, State.regPut_low _ _ h],
        fun lo w hl hlw => ⟨fun l hheld => ?_, fun hheld => ?_⟩⟩
      · rw [hhigh, hr, State.regReadAct_high _ _ h, State.takeShadow_some _ hv]
      · rw [hhigh, hr, State.regReadAct_high _ _ h, State.takeShadow_other _ hv]
      · rw [(hwrite w).2.2, hw, State.regPut_high _ _ hl hlw, State.highWrite_held _ _ hheld]
      · rw [(hwrite w).2.2, hw, State.regPut_high _ _ hl hlw, State.highWrite_alone _ _ _ _ _ hheld]
  · exact fun f locked w old hf => ⟨fun k hk ho => f.write_outside locked w old hk ho, fun ha => FieldDef.write_rw hf ha locked w old,
      fun ha => FieldDef.write_rwl hf ha locked w old, fun k h1 h2 ha => FieldDef.write_w1c hf ha locked w old h1 h2,
      fun k h1 h2 ha => FieldDef.write_w1s hf ha locked w old h1 h2, fun ha => FieldDef.write_fixed ha locked w old⟩

end Sys2Proof.Machine
end

section
/-! The settings of a port: what a write schedules and what a tick boundary puts in force (R49 to R82). -/

namespace Sys2Proof.Machine

/-- A comparator whose window and divisor stay as they are is left alone. -/
theorem Comp.retune_self (c : Comp) (n w : Nat) : c.retune n w n w = c := by simp [Comp.retune]

/-- The prescaler divisor stays where the divisors do. -/
theorem PortSet.pscN_congr {x y : PortSet} (h : x.div = y.div) (lower : Bool) : x.pscN lower = y.pscN lower := by simp [PortSet.pscN, h]

/-- A write of a setting schedules what the registers ask for. -/
theorem State.schedule_idle {s : State} {p : Nat} {x : Port} (h : s.port p = x) (hc : x.chk = none) :
    s.schedule p = s.setPort p { x with next := if s.asked p = x.set then none else some (s.time + 1, s.asked p) } := by
  simp [State.schedule, State.nextTick, h, hc]

/-- During a check, only enable and divisors are scheduled (R70, R77, R82). -/
theorem State.schedule_checking {s : State} {p : Nat} {x : Port} (h : s.port p = x) (hc : x.chk ≠ none) :
    s.schedule p = s.setPort p { x with
      next := if { x.set with en := (s.asked p).en, div := (s.asked p).div } = x.set then none
        else some (s.time + 1, { x.set with en := (s.asked p).en, div := (s.asked p).div }) } := by
  simp [State.schedule, State.nextTick, h, Option.isSome_iff_ne_none.2 hc]

/-- A boundary that is reached puts the settings in force. -/
theorem State.portStep_boundary {s : State} {p k t : Nat} {n : PortSet} (h : (s.port p).next = some (t, n)) (hk : 4 * t ≤ k)
    (hx : 4 * t ≤ (s.port p).k) : s.portStep p k = some (s.takeSet p t n) := by
  simp [State.portStep, h, hk, hx]

/-! ### Settings come into force (R49, R52, R53, R59, R70, R77)

`u` is the state with the settings `n` in force at port `p` and nothing scheduled there. -/

section
variable {s u : State} {p t : Nat} {n : PortSet} {x : Port}

/-- Settings that leave window and divisors as they are, or that do not find and leave the port enabled, do not touch its comparators. -/
theorem State.takeSet_eq (h : s.port p = x) (hu : s.setPort p { x with set := n, next := none } = u)
    (hk : (x.set.en = true ∧ n.en = true) → x.set.win = n.win ∧ x.set.div = n.div) :
    s.takeSet p t n =
      (let s2 := if x.set.en && ! n.en then u.disablePort p t
        else if ! x.set.en && n.en then u.setPort p { (u.port p).restart (max (4 * t) x.k) with lastEdge := t }
        else if (x.set.en && n.en) && decide (x.set.mode ≠ n.mode ∨ x.set.term ≠ n.term) then u.startHold p t
        else u
      (if x.set.thr = n.thr then s2 else s2.settleFrom p t n.thr).recompare p t) := by
  have tune : ∀ (lower : Bool) (c : Comp), (if (x.set.en && n.en) = true then
      c.retune (x.set.pscN lower) (side lower x.set.win) (n.pscN lower) (side lower n.win) else c) = c := by
    intro lower c
    split
    · rename_i hen
      obtain ⟨hwin, hdiv⟩ := hk (by simpa using hen)
      rw [PortSet.pscN_congr hdiv, hwin, Comp.retune_self]
    · rfl
  subst h hu
  unfold State.takeSet
  simp only [tune]

/-- A port that is enabled begins anew, with UNKNOWN states (R77). -/
theorem State.takeSet_enable (h : s.port p = x) (hu : s.setPort p { x with set := n, next := none } = u) (ht : x.set.thr = n.thr)
    (hx : x.set.en = false) (hn : n.en = true) :
    s.takeSet p t n = (u.setPort p { (u.port p).restart (max (4 * t) x.k) with lastEdge := t }).recompare p t := by
  rw [State.takeSet_eq h hu (by simp [hx])]
  simp [hx, hn, ht]

/-- A port that is disabled is taken out of service (R49, R77). -/
theorem State.takeSet_disable (h : s.port p = x) (hu : s.setPort p { x with set := n, next := none } = u) (ht : x.set.thr = n.thr)
    (hx : x.set.en = true) (hn : n.en = false) : s.takeSet p t n = (u.disablePort p t).recompare p t := by
  rw [State.takeSet_eq h hu (by simp [hn])]
  simp [hx, hn, ht]

/-- A change of mode or termination of an enabled port starts a hold (R49). -/
theorem State.takeSet_hold (h : s.port p = x) (hu : s.setPort p { x with set := n, next := none } = u) (ht : x.set.thr = n.thr)
    (hx : x.set.en = true) (hn : n.en = true) (hw : x.set.win = n.win) (hd : x.set.div = n.div)
    (hm : x.set.mode ≠ n.mode ∨ x.set.term ≠ n.term) : s.takeSet p t n = (u.startHold p t).recompare p t := by
  rw [State.takeSet_eq h hu fun _ => ⟨hw, hd⟩]
  simp [hx, hn, ht, hm]

/-- A change of the threshold codes alone starts settling (R52). -/
theorem State.takeSet_settle (h : s.port p = x) (hu : s.setPort p { x with set := n, next := none } = u)
    (hn : { x.set with thr := n.thr } = n) (ht : x.set.thr ≠ n.thr) : s.takeSet p t n = (u.settleFrom p t n.thr).recompare p t := by
  have hen : n.en = x.set.en := by rw [← hn]
  have hmode : n.mode = x.set.mode := by rw [← hn]
  have hterm : n.term = x.set.term := by rw [← hn]
  have hwin : n.win = x.set.win := by rw [← hn]
  have hdiv : n.div = x.set.div := by rw [← hn]
  rw [State.takeSet_eq h hu fun _ => ⟨hwin.symm, hdiv.symm⟩]
  simp [hen, hmode, hterm, ht]

end

/-! ### Writes, and what is due -/

/-- A port of a quad whose domain is on takes a write. -/
theorem port_takes_write {s : State} {p : Nat} (hp : p < 96) (hd : s.domOn (p / 4) = true) : ¬ (96 ≤ p ∨ s.domOn (p / 4) = false) := by
  simp [hp, hd]

/-- A write of PRT_CFG, by whether it changes the class of a port that is or becomes enabled (R76). -/
theorem prtCfgWrite_next {s : State} {p : Nat} {v : Word} (hp : p < 96) (hd : s.domOn (p / 4) = true) (ht : bitsOf v 4 2 ≠ 3) :
    (bitsOf v 1 1 = s.fd F.PRT_CFG_class p ∨ (s.fd F.PRT_CFG_en p = 0 ∧ bitsOf v 0 1 = 0) →
      prtCfgWrite p v s =
        (s.setRg .PRT_CFG (w32 (bitsOf v 0 1 + 2 * bitsOf v 1 1 + 4 * bitsOf v 2 1 + 16 * bitsOf v 4 2)) p).schedule p) ∧
    (bitsOf v 1 1 ≠ s.fd F.PRT_CFG_class p → s.fd F.PRT_CFG_en p + bitsOf v 0 1 ≠ 0 →
      prtCfgWrite p v s = ((s.setFd F.PRT_STS_cfg_err 1 p).setRg .PRT_CFG
        (w32 (bitsOf v 0 1 + 2 * s.fd F.PRT_CFG_class p + 4 * bitsOf v 2 1 + 16 * bitsOf v 4 2)) p).schedule p) := by
  have hg := port_takes_write hp hd
  refine ⟨fun h => ?_, fun hc he => ?_⟩
  · have hbad : (decide (bitsOf v 1 1 ≠ s.fd F.PRT_CFG_class p) && decide (s.fd F.PRT_CFG_en p + bitsOf v 0 1 ≠ 0)) = false := by grind
    simp only [prtCfgWrite, if_neg hg, hbad, if_neg ht, Bool.false_eq_true, ↓reduceIte]
  · have hbad : (decide (bitsOf v 1 1 ≠ s.fd F.PRT_CFG_class p) && decide (s.fd F.PRT_CFG_en p + bitsOf v 0 1 ≠ 0)) = true := by grind
    simp only [prtCfgWrite, if_neg hg, hbad, if_neg ht, ↓reduceIte]

/-- Settling that is due ends (R52). -/
theorem thrSettleEnd_due {s : State} {p e : Nat} (hp : p < 96) (hs : (s.port p).settle = some e) (he : e ≤ s.time) :
    thrSettleEnd p s = (s.setPort p { s.port p with settle := none }).setFd F.PRT_STS_thr_settle 0 p := by
  simp [thrSettleEnd, hs, hp, he]

theorem State.endHold_held {s : State} {p a b : Nat} (h : (s.port p).hold = some (a, b)) :
    s.endHold p b = ((s.setPort p { (s.port p).restart (4 * b) with hold := none }).oosGap p 1 a b).holdOver p := by
  simp [State.endHold, h]

/-- A hold that is due ends once the port has run up to now (R49). -/
theorem holdEnd_due {s u : State} {p a b : Nat} (hp : p < 96) (hu : s.runTo p (4 * s.time) = u) (hh : (u.port p).hold = some (a, b))
    (hb : b ≤ s.time) : holdEnd p s = (u.endHold p b).runTo p (4 * s.time) := by
  simp [holdEnd, Nat.not_le.2 hp, hu, hh, hb]

/-- Settles O20: a write passes its guards and schedules; a boundary is a case of `State.takeSet_eq`; what is due ends. -/
theorem portSettings : Obligations.PortSettings := by
  unfold Obligations.PortSettings
  refine ⟨fun s p v hp hd ht => ?_, fun s p v hp hd hle => ?_, fun s p v hp hd hlt => ?_, fun s p v hp hd => ?_, fun s p v hp hd ha hb => ?_,
    fun s p v hp hd => ?_, fun s p x h => ⟨State.schedule_idle h, ?_⟩, fun s p k t n => State.portStep_boundary,
    fun s u p t n x h hu ht => ⟨State.takeSet_enable h hu ht, State.takeSet_disable h hu ht, State.takeSet_hold h hu ht⟩,
    fun s u p t n x => State.takeSet_settle, fun s p t => rfl, fun s p e hp hs he => ?_, fun s u p a b hp hu hh hb => ?_⟩
  · obtain ⟨hgood, hbad⟩ := prtCfgWrite_next hp hd ht
    exact ⟨fun h => congrArg _ (hgood h), fun hc he => congrArg _ (hbad hc he)⟩
  · exact congrArg Host.Outcome.next (by simp only [prtWinWrite, if_neg (port_takes_write hp hd), if_neg (Nat.not_lt.2 hle)])
  · exact congrArg Host.Outcome.next (by simp only [prtWinWrite, if_neg (port_takes_write hp hd), if_pos hlt])
  · exact congrArg Host.Outcome.next (by simp only [prtHystWrite, if_neg (port_takes_write hp hd)])
  · exact congrArg Host.Outcome.next (by simp only [prtFiltWrite, if_neg (port_takes_write hp hd), if_pos ha, if_pos hb])
  · exact congrArg Host.Outcome.next (by simp only [prtPscWrite, if_neg (port_takes_write hp hd)])
  · rintro n hc rfl
    exact State.schedule_checking h hc
  · exact congrArg _ (thrSettleEnd_due hp hs he)
  · exact congrArg Host.Outcome.next (by rw [holdEnd_due hp hu hh hb, State.endHold_held hh])

end Sys2Proof.Machine
end

section
/-! TRIG pins: a pulse's two ends, a write of TRG_PIN, and the tick boundary at which a pin turns (R295, R296, R605). -/

namespace Sys2Proof.Machine

/-- A pulse of an output pin whose start has come begins (R295). -/
theorem pinPulseStart_due {s : State} {i : Nat} {d : Option Bool} {x : Pulse} {r : List Pulse} (h : s.trigPin i = ⟨true, d, x :: r⟩)
    (hb : x.begun = false) (hs : x.start ≤ s.now) (hl : s.pipLive = true) :
    pinPulseStart i s = (s.setTrigPin i ⟨true, d, { x with begun := true } :: r⟩).emit (.pin i (! x.low)) := by
  simp [pinPulseStart, h, hb, hs, hl]

/-- A pulse that has begun and whose end has come leaves the list (R295). -/
theorem pinPulseEnd_due {s : State} {i : Nat} {d : Option Bool} {x : Pulse} {r : List Pulse} (h : s.trigPin i = ⟨true, d, x :: r⟩)
    (hb : x.begun = true) (hs : x.stop ≤ s.now) : pinPulseEnd i s = (s.setTrigPin i ⟨true, d, r⟩).emit (.pin i x.low) := by
  simp [pinPulseEnd, h, hb, hs]

/-- Valid fields of TRG_PIN are stored; the direction waits. -/
theorem trgPinWrite_valid {s : State} {i : Nat} {w : Word} (hi : i < 4) (hd : s.domOn 74 = true) (hw : bitsOf w 8 16 ≠ 0)
    (hs : natBit w.toNat 2 = true → bitsOf w 3 4 < 8) :
    trgPinWrite i w s = (s.setRg .TRG_PIN (w32 (bitsOf w 0 3 + bitsOf w 3 4 * 8 + bitsOf w 8 16 * 256)) i).setTrigPin i
      { s.trigPin i with turn := some (natBit w.toNat 0) } := by
  have hg : ¬ (4 ≤ i ∨ s.domOn 74 = false) := by simp [hi, hd]
  have hsrc : ¬ (natBit w.toNat 2 = true ∧ 8 ≤ bitsOf w 3 4) := fun h => Nat.not_le.2 (hs h.1) h.2
  simp only [trgPinWrite, if_neg hg, if_neg hw, if_neg hsrc, State.trigPin, State.setRg_trg]

/-- A tick boundary meets every pin for which a direction waits. -/
theorem State.mem_turnPins {s : State} {i : Nat} {p : TrigPin} {out : Bool} (h : (i, p) ∈ s.trg.pins) (ht : p.turn = some out) :
    (i, if out = p.drives then { p with turn := none } else ⟨out, none, []⟩) ∈ s.turnPins.trg.pins := by
  refine List.mem_map.2 ⟨(i, p), h, ?_⟩
  simp only [ht]

/-- Settles O43: the front pulse of the pin's list is the one that is due, and a boundary is `State.mem_turnPins`. -/
theorem trigPins : Obligations.TrigPins := by
  unfold Obligations.TrigPins
  refine ⟨fun s i d x r h => ⟨fun hb hs hl => congrArg _ (pinPulseStart_due h hb hs hl), fun hb hs => congrArg _ (pinPulseEnd_due h hb hs)⟩,
    fun s i w hi hd hw hs => ⟨_, rfl, congrArg _ (trgPinWrite_valid hi hd hw hs)⟩, fun s i p out h ht => ?_⟩
  have hm := State.mem_turnPins h ht
  exact ⟨fun ho => by rwa [if_pos ho] at hm, fun ho => by rwa [if_neg ho] at hm⟩

end Sys2Proof.Machine
end

section
/-! The tick: now, the horizon keeper and both horizons (R28, R29, R108, R605). -/

namespace Sys2Proof.Machine

theorem next_congr {u v : State} (h : u = v) : (.next u : Host.Outcome State Fault Refusal) = .next v := congrArg _ h

/-- A tick moves now on by one, where a cascade member's load and offset do not put it before the start of its own count. -/
theorem State.countTick_nowTick {s : State} (h : 0 ≤ s.casc.base + s.casc.off) : s.countTick.nowTick = s.nowTick + 1 := by
  show (((s.time + 1) * 512 : Nat) + (s.casc.base + s.casc.off) : Int).toNat / 512 =
    ((s.time * 512 : Nat) + (s.casc.base + s.casc.off) : Int).toNat / 512 + 1
  omega

/-- The horizon keeper takes the later of its own tick and now. -/
theorem State.countTick_keep (s : State) : s.countTick.tb.keep = max s.tb.keep s.countTick.nowTick := rfl

/-- The horizons follow their keeper, from some ticks after the time base's start on: neither falls where the keeper does not. -/
theorem State.horizons_mono {s u : State} (hup : s.up ≤ u.up) (hkeep : s.tb.keep ≤ u.tb.keep) : s.hD ≤ u.hD ∧ s.hR ≤ u.hR := by
  simp only [State.hD, State.hR]
  constructor
  · split <;> split <;> omega
  · split <;> split <;> omega

/-- A step of the cascade's offset writes nothing that a horizon is taken from. -/
theorem offsetStep_horizons (s : State) : (offsetStep s).hD = s.hD ∧ (offsetStep s).hR = s.hR := by
  unfold offsetStep
  split
  · exact ⟨rfl, rfl⟩
  · exact ⟨rfl, rfl⟩

/-- Settles O15: both horizons follow the keeper, which a tick brings to now. -/
theorem tickAdvances : Obligations.TickAdvances := by
  unfold Obligations.TickAdvances
  refine ⟨?_, fun s hoff => next_congr (if_neg (by simp [hoff])), fun s => ⟨_, rfl, offsetStep_horizons s⟩⟩
  rintro s _ hon hbase rfl
  have hnow := State.countTick_nowTick hbase
  have hkeep := s.countTick_keep
  have hmono : s.tb.keep ≤ s.countTick.tb.keep := hkeep ▸ le_max_left ..
  have hup : s.up ≤ s.countTick.up := Nat.le_succ _
  obtain ⟨hD, hR⟩ := State.horizons_mono hup hmono
  refine ⟨next_congr (if_pos hon), hnow, rfl, fun h => by omega, hmono, hD, hR, fun hu hk => ?_, fun hu hk => ?_,
    fun hu => if_neg (Nat.not_le.2 hu), fun hu => if_neg (Nat.not_le.2 hu), rfl⟩
  · simp only [State.hD, if_pos hu, if_pos (hu.trans hup)]
    omega
  · simp only [State.hR, if_pos hu, if_pos (hu.trans hup)]
    omega

end Sys2Proof.Machine
end

section
/-! Check words: what an island releases, and what a mismatch does (R112, R330, R396). -/

namespace Sys2Proof.Machine

/-- Settles O23: what leaves, what stays and the mismatch are the meaning's own; only a receiver frees buffers (R396). -/
theorem checkWords : Obligations.CheckWords := by
  unfold Obligations.CheckWords
  rintro s i upset good hi rfl
  refine ⟨_, _, _, _, _, rfl, rfl, rfl, rfl, next_congr ?_⟩
  rw [timeCheckWord, if_neg (Nat.not_le.2 hi)]
  by_cases hq : i < 24
  · simp only [if_pos hq, if_neg (Nat.not_le.2 hq)]
    rfl
  · simp only [if_neg hq, if_pos (Nat.not_lt.1 hq)]
    rfl

end Sys2Proof.Machine
end

section
/-! Gate events (R145, R148, R159) and the release of the next entry in task order (R143, R419, R420). -/

namespace Sys2Proof.Machine

/-! ### One gate event -/

section
variable {s : State} {t : Nat} {k : Task} {g : GStep}

/-- A run of gate events ends at the first one where that is what it looks for. -/
theorem State.runSteps_stop {lim n : Nat} {stopAt : GStep → Bool} (hk : s.task t = some k) (hg : s.nextStep k = some g) (hlim : g.time ≤ lim)
    (hstop : stopAt g = true) : State.runSteps t lim stopAt (n + 1) s = s.applyStep t k g := by
  simp only [State.runSteps, hk, hg, if_neg (Nat.not_lt.2 hlim), hstop, if_true]

/-- GATE_CLOSE, where the next event is a gate end (R30, R31). -/
theorem gateClose_next (hk : s.task t = some k) (hg : s.nextStep k = some g) (hc : g.closes = true) (hlim : g.time ≤ 2 ^ 64 + s.now) :
    gateClose t s = s.applyStep t k g := by
  simp only [gateClose, hk]
  exact State.runSteps_stop hk hg hlim hc

/-- SWITCH_TAKE_EFFECT, where the next event of the task, with the tally settings that come along, is a switch (R159, R191). -/
theorem switchTakeEffect_next {s1 : State} {k1 : Task} {tly : Option (Nat × Nat)} (hk : s.task t = some k) (hp : k.pend ≠ [])
    (h1 : s1 = match tly with | some x => s.setTask t (some { k with pend := setTly x k.pend }) | none => s)
    (hk1 : s1.task t = some k1) (hg : s1.nextStep k1 = some g) (hd : g.desc ≠ []) (hlim : g.time ≤ 2 ^ 64 + s.now) :
    switchTakeEffect t tly s = s1.applyStep t k1 g := by
  have hpend : ¬ k.pend.isEmpty = true := by simpa using hp
  simp only [switchTakeEffect, hk, if_neg hpend]
  subst h1
  exact State.runSteps_stop hk1 hg hlim (by simpa using hd)

/-- TASK_START_POINT, where the start has come (R148, R425). -/
theorem taskStartPoint_due (hk : s.task t = some k) (hs : k.started = false) (hn : k.startAt ≤ s.now) :
    taskStartPoint t s =
      ((s.setTask t (some { k with started := true, gates := k.gates.begin k.desc k.startAt (s.fullTime (dOrigin k.desc)) })).pushPkt
        k.outq prodRouter .rtr [s.epochRec]).1 := by
  have hdue : ¬ (k.started = true ∨ s.now < k.startAt) := by simp [hs, hn]
  simp only [taskStartPoint, hk, if_neg hdue]

/-- Without a stop, a cut or a switch, the next event is the boundary of the task's own gates. -/
theorem State.nextStep_natural (hs : k.started = true) (hr : k.gates.run = true) (hp : k.pend = []) (hstop : k.stopAt = none)
    (hcut : s.dev.cut = none) : s.nextStep k = naturalStep k.desc k.gates (s.taskHor k.desc) := by
  have hsw : ∀ nat, nextSwitch k nat = none := fun nat => by cases nat <;> simp [nextSwitch, hp]
  simp only [State.nextStep, hs, hr, hstop, State.cutOf, hcut, hsw, Bool.and_self, Bool.not_true, Option.map_none, earlier]
  rfl

/-- The next boundary of a TIME task whose gate is open: the grid's first after the gate's start, once the horizon is there (R145). -/
theorem naturalStep_time {d : List Word} {x : GateSt} {h : Nat} (hd : dGsrc d = 0) (ho : x.phase = .opened)
    (hh : gridFrom x.orig (dGateLen d) (x.start + 1) ≤ h) :
    naturalStep d x h = some (plainStep d x (gridFrom x.orig (dGateLen d) (x.start + 1))) := by
  simp only [naturalStep, hd, ho]
  exact if_pos hh

end

/-- Settles O24: the start's, the gate end's and the switch's guards hold, and the last clause is the TIME grid's case of the natural boundary. -/
theorem gateEvents : Obligations.GateEvents := by
  unfold Obligations.GateEvents
  refine ⟨fun s t k hk hs hn => ⟨_, rfl, next_congr (taskStartPoint_due hk hs hn)⟩,
    fun s t k g hk hg hc hlim => next_congr (gateClose_next hk hg hc hlim),
    fun s t k g hk hg hd hp hlim => next_congr (switchTakeEffect_next hk hp rfl hk hg hd hlim), ?_,
    fun s k hs hr ho hd hp hstop hcut hh => (State.nextStep_natural hs hr hp hstop hcut).trans (naturalStep_time hd ho hh)⟩
  rintro s s1 t x k k1 g hk rfl h1 hk1 hg hd hp hlim
  exact next_congr (switchTakeEffect_next hk hp h1 hk1 hg hd hlim)

/-! ### The next entry (R143, R419) -/

/-- The entries of a port in three parts: those in front that wait, the first that does not, and the rest. -/
theorem Task.splitPort_some {k : Task} {l pre rest : List PortRec} {p : PortRec} (h : k.splitPort l = (pre, some p, rest)) :
    l = pre ++ p :: rest ∧ (∀ q ∈ pre, k.lateWaits q = true) ∧ k.lateWaits p = false := by
  induction l generalizing pre with
  | nil => cases h
  | cons x l ih =>
    rw [Task.splitPort] at h
    split at h
    · rename_i hx
      obtain ⟨rfl, hp, hrest⟩ : x :: (k.splitPort l).1 = pre ∧ (k.splitPort l).2.1 = some p ∧ (k.splitPort l).2.2 = rest := by
        simpa only [Prod.mk.injEq] using h
      obtain ⟨hl, hpre, hwait⟩ := ih (Prod.ext rfl (Prod.ext hp hrest))
      exact ⟨congrArg (x :: ·) hl, List.forall_mem_cons.2 ⟨hx, hpre⟩, hwait⟩
    · rename_i hx
      cases h
      exact ⟨rfl, fun q hq => absurd hq List.not_mem_nil, Bool.eq_false_iff.2 hx⟩

/-- The next entry was in the port's split once the queues and gate events up to it were taken, was ready, and was not held back by a hand-over. -/
theorem State.nextEntry_some {s u : State} {t : Nat} {p : PortRec} (h : s.nextEntry t = (u, some p)) :
    ∃ (v : State) (k : Task) (pre rest : List PortRec), v.task t = some k ∧ k.splitPort k.port = (pre, some p, rest) ∧
      p.ready (v.taskHor k.desc) = true ∧ (∀ th, v.heldFrom t = some th → p.late = true ∨ p.time < th) ∧
      u = v.setTask t (some { k with port := pre ++ rest }) := by
  rw [State.nextEntry] at h
  dsimp only at h
  split at h
  · cases h
  · generalize State.drainTask (State.runSteps t _ _ _ _) t = v at h
    split at h
    · cases h
    · rename_i k2 hk2
      split at h
      · rename_i pre p' rest hsplit
        obtain ⟨hok, hval⟩ | ⟨-, hval⟩ := ite_eq_iff.1 h
        · cases hval
          obtain ⟨hready, hheld⟩ := Bool.and_eq_true_iff.1 hok
          refine ⟨v, k2, pre, rest, hk2, hsplit, hready, fun th hth => ?_, rfl⟩
          simpa [hth, or_iff_not_imp_left] using hheld
        · cases hval
      · cases h

/-! ### EVENT_RELEASE -/

section
variable {s : State} {e x : Nat} {c : Ctx} {k : Task}

/-- On a blocked context of a started task in RUN, on an ACTIVE engine and without shedding, a library function takes the next entry where there
is one, and a program takes its own. -/
theorem eventRelease_blocked (hc : s.ctx e x = c) (hv : c.valid = true) (hb : c.blocked = true) (hm : c.moving = false) (he : s.engState e = 0)
    (hk : s.task c.task = some k) (hs : k.started = true) (hrun : s.dev.st = .run) (hshed : s.dev.shed = false) :
    (dFunc k.meas.desc < 18 → ∀ u o, s.nextEntry c.task = (u, o) → eventRelease e x s = o.elim u fun p => u.releaseNative c.task p) ∧
    (18 ≤ dFunc k.meas.desc → eventRelease e x s = s.releaseProgram e x c.task) := by
  have hctx : ¬ (! (c.valid && c.blocked) || c.moving || s.engState e != 0) = true := by simp [hv, hb, hm, he]
  have htask : ¬ (k.started = false ∨ s.dev.st ≠ .run ∨ (s.dev.shed = true ∧ dFunc k.meas.desc ≠ 17)) := by simp [hs, hrun, hshed]
  refine ⟨fun hf u o hn => ?_, fun hf => ?_⟩
  · simp only [eventRelease, hc, if_neg hctx, hk, if_neg htask, if_pos hf, hn]
    cases o with
    | none => rfl
    | some p => rfl
  · simp only [eventRelease, hc, if_neg hctx, hk, if_neg htask, if_neg (Nat.not_lt.2 hf)]

/-- A program's context goes on with the packet that it has begun (R420). -/
theorem State.releaseProgram_rest {t : Nat} (hc : s.ctx e x = c) {r : Rec} {roles sub : Nat} {rest : List (Rec × Nat × Nat)}
    (hr : c.rest = (r, roles, sub) :: rest) : s.releaseProgram e x t = s.setCtx e x (c.load r roles sub 0 rest) := by
  simp only [State.releaseProgram, hc, hr]

end

/-- Settles O25: `eventRelease_blocked` by the kind of function, and `State.nextEntry_some` for what may be released. -/
theorem eventRelease_inTaskOrder : Obligations.EventRelease := by
  unfold Obligations.EventRelease
  refine ⟨fun s e x c k hc hv hb hm he hk hs hrun hshed => ?_, fun s t u p h => ?_⟩
  · obtain ⟨hnative, hprogram⟩ := eventRelease_blocked hc hv hb hm he hk hs hrun hshed
    exact ⟨fun u p hf hn => next_congr (hnative hf u (some p) hn), fun u hf hn => next_congr (hnative hf u none hn),
      fun r roles sub rest hf hr => ⟨_, next_congr ((hprogram hf).trans (State.releaseProgram_rest hc hr)), rfl⟩⟩
  · obtain ⟨v, k, pre, rest, hk, hsplit, hready, hheld, rfl⟩ := State.nextEntry_some h
    obtain ⟨hport, hpre, hwait⟩ := Task.splitPort_some hsplit
    exact ⟨v, k, pre, rest, hk, hport, hpre, hwait, hready, hheld, rfl⟩

end Sys2Proof.Machine
end

section
/-! The device states RUN, WATCH and HALT: commands, the final checkpoint, wake, the power-fail sequence and the general timers (R38, R44, R45,
R212, R220 to R222, R582 to R586). -/

namespace Sys2Proof.Machine

/-! ### Commands (R44, R582) -/

section
variable {s : State}

/-- During a transition the commands are refused with result 3. -/
theorem glbCommands_busy (h : s.dev.trans ≠ .none) :
    haltCmd s = s.glbSts 3 3 ∧ enterWatch s = s.glbSts 1 3 ∧ ∀ v, resumeCmd v s = s.glbSts 2 3 :=
  ⟨if_pos h, if_pos h, fun _ => if_pos h⟩

theorem haltCmd_run (ht : s.dev.trans = .none) (hs : s.dev.st = .run) :
    haltCmd s = (((s.glbSts 3 0).beginFinal (.toHalt 3) 4).acqHold 3).pipHold := by
  have hrun : (s.glbSts 3 0).dev.st = .run := hs
  simp only [haltCmd, State.startHalt, ht, hs, hrun, ne_eq, not_true_eq_false, false_and, if_false, if_true]

theorem haltCmd_boot (ht : s.dev.trans = .none) (hs : s.dev.st = .boot) : haltCmd s = s.glbSts 3 1 := by
  simp [haltCmd, ht, hs]

theorem enterWatch_boot (ht : s.dev.trans = .none) (hs : s.dev.st = .boot) : enterWatch s = s.glbSts 1 1 := by
  simp [enterWatch, ht, hs]

/-- From RUN, ENTER_WATCH is refused while DRAM_NONE is live (R582). -/
theorem enterWatch_run (ht : s.dev.trans = .none) (hs : s.dev.st = .run) :
    enterWatch s = if s.faultLive 0x003 0 then s.glbSts 1 2
      else ((((s.glbSts 1 0).beginFinal .toWatch 3).acqHold 2).pipHold).decHold (s.nowTick + 1) := by
  simp only [enterWatch, ht, hs, ne_eq, not_true_eq_false, if_false]

theorem resumeCmd_run (ht : s.dev.trans = .none) (hs : s.dev.st = .run) (v : Bool) : resumeCmd v s = s.glbSts 2 1 := by
  simp [resumeCmd, ht, hs]

/-- From HALT, RESUME is refused with a class 2 or 3 record open, and after a power-fail HALT while VIN is low (R44). -/
theorem resumeCmd_halt (ht : s.dev.trans = .none) (hs : s.dev.st = .halt) (hp : s.dev.pinsTaken = false) (v : Bool) :
    resumeCmd v s = if s.severeOpen = true ∨ (s.fd F.GLB_STATE_halt_cause = 2 ∧ v = true) then s.glbSts 2 2
      else ((if s.dev.portsOff then s.portsUnknown true else s).glbSts 2 0).runAgain 1 := by
  simp only [resumeCmd, ht, hs, hp, ne_eq, not_true_eq_false, if_false, Bool.false_eq_true]

/-! ### The final checkpoint (R212, R216, R221) -/

theorem State.shedPorts_off (h : s.dev.shed = false) : s.shedPorts = s := by simp [State.shedPorts, h]

/-- The snapshot of an entry to WATCH or HALT from RUN, once every tally gate has closed. -/
theorem finalCheckpointSnapshot_run {t : State} {c : Nat} (hcut : s.dev.cut = some c) (hsnap : s.dev.snapTaken = false) (hwr : s.ldg.wr = none)
    (ht : t = { s with ldg := { s.ldg with wr := none } }) (hs : s.dev.st = .run) (htal : s.talliesClosed = true) (htr : s.dev.trans = .toWatch)
    (hshed : ((t.latchCut c).beginCkpt 2 s.dev.finalCause false).dev.shed = false) :
    finalCheckpointSnapshot s = ((t.latchCut c).beginCkpt 2 s.dev.finalCause false).setDev fun v => { v with snapTaken := true } := by
  subst ht
  have hoff := State.shedPorts_off
    (s := ((({ s with ldg := { s.ldg with wr := none } } : State).latchCut c).beginCkpt 2 s.dev.finalCause false).setDev
      fun v => { v with snapTaken := true }) hshed
  simp only [finalCheckpointSnapshot, hcut, hsnap, hwr, hs, htal, htr]
  exact hoff

/-- The snapshot waits for the gates of the tallies. -/
theorem finalCheckpointSnapshot_open {c : Nat} (hcut : s.dev.cut = some c) (hs : s.dev.st = .run) (htal : s.talliesClosed = false) :
    finalCheckpointSnapshot s = s := by
  simp [finalCheckpointSnapshot, hcut, hs, htal]

/-- Without a transition no HALT waits for the frames. -/
theorem State.haltReached_none (h : s.dev.trans = .none) : s.haltReached = s := by simp [State.haltReached, h]

/-- HALT from RUN is reached when the final checkpoint is written (R392, R437). -/
theorem State.haltReached_run {u : State} {cause : Nat} (ht : s.dev.trans = .toHalt cause) (hf : s.dev.finalDone = true) (hs : s.dev.st = .run)
    (hu : u = ((s.linksOff).abandonAll).madcHalt) :
    s.haltReached = ((((u.decHold u.nowTick).enter .halt).setFd F.GLB_STATE_halt_cause cause).setDev fun v =>
      { v with cut := none, bridging := ! v.portsOff, pinsTaken := v.pinsTaken || v.pinsWait, pinsWait := false }).afterTransition := by
  rw [hu]
  simp only [State.haltReached, ht, hf, hs, Bool.true_eq_false, if_false, if_true]

/-! ### WATCH and wake (R582 to R585) -/

theorem watchEntryDone_drained {t : State} (ht : s.dev.trans = .toWatch) (hf : s.dev.finalDone = true) (hwr : s.ldg.wr = none)
    (hd : s.dev.drained = true) (hu : t = (((s.linksOff).abandonAll).madcHalt).drivesLost) :
    watchEntryDone s = ((((t.enter .watch).domsDown t.watchOff).setFd F.HST_LINK_l1 (b2n t.evt.aspmL1)).setDev
      (fun v => { v with cut := none, bridging := true, drained := true })).afterTransition := by
  have hdue : ¬ (s.dev.trans ≠ .toWatch ∨ s.dev.finalDone = false ∨ s.ldg.wr.isSome = true) := by simp [ht, hf, hwr]
  rw [hu]
  simp only [watchEntryDone, if_neg hdue, hd, if_true]

theorem State.wakeStart_watch (hs : s.dev.st = .watch) (ht : s.dev.trans = .none) (c : WakeCause) :
    s.wakeStart c = ((((s.setFd F.GLB_STATE_wake_cause c.code).begin (.waking c)).domsUp allDoms).setFd F.HST_LINK_l1 0).logFlush :=
  if_pos ⟨hs, ht⟩

theorem wakeDone_waking {c : WakeCause} (ht : s.dev.trans = .waking c) (hs : s.dev.st = .watch) (bad : List Nat) :
    wakeDone bad s = (((bad.foldl (fun (t : State) e => t.wakeLoss e) s).portsUnknown false).runAgain 0).afterTransition := by
  simp only [wakeDone, ht, hs, if_true]

/-! ### Power failure (R38, R220 to R222) -/

theorem powerFailWarning_masked {vin pin : Bool} (h : b2n (vin && s.bit F.LDG_PF_CFG_vin_en) + 2 * b2n (pin && s.bit F.LDG_PF_CFG_pin_en) = 0) :
    powerFailWarning vin pin s = s :=
  if_pos (.inl h)

theorem powerFailWarning_run {t u : State} {vin pin : Bool} {src : Nat}
    (hsrc : src = b2n (vin && s.bit F.LDG_PF_CFG_vin_en) + 2 * b2n (pin && s.bit F.LDG_PF_CFG_pin_en)) (h0 : src ≠ 0) (hs : s.dev.st = .run)
    (htr : s.dev.trans = .none)
    (ht : t = ((((s.raise 0x040 (unitOf 2 0xFFF) src).pwrSts F.PWR_STS_pf).setDev (fun v => { v with pfAct := true })).setFd
      F.LDG_PF_STS_warned 1).setFd F.LDG_PF_STS_src src)
    (hu : u = ((t.stopWriter false).setFd F.LDG_PF_STS_done 0).domUp 75) :
    powerFailWarning vin pin s =
      ((u.setDev (fun v => { v with heldWake := none, waitHalt := none, pinsWait := false })).beginFinal .powerFail 1).shedLoad := by
  rw [hu, ht]
  have hact : ¬ (src = 0 ∨ s.dev.st = .powerup) := by simp [h0, hs]
  simp only [powerFailWarning, ← hsrc, if_neg hact]
  simp only [hs, htr, reduceCtorEq, if_false]

/-- The sequence ends in HALT, where nothing waits for it. -/
theorem powerFailEnd_halt {t : State} {us : Nat} (htr : s.dev.trans = .powerFail) (hf : s.dev.finalDone = true) (hwf : s.dev.waitFault = false)
    (hwr : s.dev.waitReset = false) (hwp : s.dev.waitPor = false)
    (ht : t = (((((s.setFd F.LDG_PF_STS_done 1).setFd F.LDG_PF_STS_dur (sat 65535 us)).abandonAll).madcHalt).shedPorts)) :
    powerFailEnd us s = ((t.enter .halt).setFd F.GLB_STATE_halt_cause 2).setDev fun v =>
      { v with cut := none, bridging := false, pfAct := false, dimmPwr := false } := by
  rw [ht, powerFailEnd, if_neg (by simp [hwp]), powerFailSequenceEnd, if_neg (by simp [htr, hf])]
  simp only [hwf, hwr, Bool.false_eq_true, if_false]

/-- POR_N fell during the final write: the reset takes effect at its end (R222). -/
theorem powerFailEnd_por (us : Nat) (htr : s.dev.trans = .powerFail) (hf : s.dev.finalDone = true) (hwp : s.dev.waitPor = true) :
    powerFailEnd us s = s.por :=
  if_pos ⟨htr, hf, hwp⟩

/-! ### General timers (R586) -/

/-- A timer that runs expires when its period is over. -/
theorem timerExpiry_running {i t0 t1 : Nat} (hi : s.tmr i = some t0) (h1 : t1 = t0 + msTicks (s.fd F.PWR_TMR_PER i)) :
    timerExpiry i s = if s.due t1 = false then s else
      let t := (s.setTmr i (if s.bit F.PWR_TMR_CFG_periodic i then some t1 else none)).assertOnce (293 + i)
      if s.bit F.PWR_TMR_CFG_wake i then t.wakeStart .timer else t := by
  simp only [timerExpiry, hi, h1]

end

/-- Settles O54: one lemma above for each command and event, by state and transition. -/
theorem powerStates : Obligations.PowerStates := by
  unfold Obligations.PowerStates
  refine ⟨fun s h => ?busy, fun s ht => ?commands, fun s t c hcut hsnap hwr _ ht => ?snapshot, fun s t u failed corrected cause ht => ?frames,
    fun s t htr hf hwr hd ht => next_congr (watchEntryDone_drained htr hf hwr hd ht), fun s hs ht => ?wake,
    fun s c bad ht hs => next_congr (wakeDone_waking ht hs bad), fun s t u vin pin src hsrc => ?warning,
    fun s t us htr hf hwf hwr hwp ht => next_congr (powerFailEnd_halt htr hf hwf hwr hwp ht),
    fun s us htr hf hwp => next_congr (powerFailEnd_por us htr hf hwp), fun s t i t0 t1 hi h1 => ?timer⟩
  case busy =>
    obtain ⟨hhalt, hwatch, hresume⟩ := glbCommands_busy h
    exact ⟨next_congr hhalt, next_congr hwatch, fun v => next_congr (hresume v)⟩
  case commands =>
    refine ⟨fun hs => next_congr (haltCmd_run ht hs), fun hs hf => ?_, fun hs hf => ?_, fun hs v => next_congr (resumeCmd_run ht hs v),
      fun hs => ⟨next_congr (haltCmd_boot ht hs), next_congr (enterWatch_boot ht hs)⟩, fun hs hp ho v => ?_,
      fun hs hp ho hoff => ⟨next_congr ?_, fun hc => ?_⟩⟩
    · exact next_congr ((enterWatch_run ht hs).trans (if_neg (Bool.eq_false_iff.1 hf)))
    · exact next_congr ((enterWatch_run ht hs).trans (if_pos hf))
    · exact next_congr ((resumeCmd_halt ht hs hp v).trans (if_pos (.inl ho)))
    · rw [resumeCmd_halt ht hs hp, if_neg (by simp [ho]), hoff, if_neg Bool.false_ne_true]
    · exact next_congr ((resumeCmd_halt ht hs hp true).trans (if_pos (.inr ⟨hc, rfl⟩)))
  case snapshot =>
    exact ⟨fun hs htal htr hshed => next_congr (finalCheckpointSnapshot_run hcut hsnap hwr ht hs htal htr hshed),
      fun hs htal => next_congr (finalCheckpointSnapshot_open hcut hs htal)⟩
  case frames =>
    have hframes : exec (.frameWriteDone failed corrected) s = .next t.haltReached := next_congr (congrArg State.haltReached ht)
    exact ⟨fun hn => hframes.trans (next_congr (State.haltReached_none hn)),
      fun htr hf hs hu => hframes.trans (next_congr (State.haltReached_run htr hf hs hu))⟩
  case wake =>
    exact ⟨State.wakeStart_watch hs ht, fun n => rfl, fun n hm => next_congr (if_pos hm), fun n hn hen hw => next_congr (if_pos ⟨hn, hen, hw⟩),
      fun n hn => next_congr (if_pos hn), fun n v => if_pos (.inl hs)⟩
  case warning =>
    exact ⟨fun h0 => next_congr (powerFailWarning_masked (hsrc ▸ h0)),
      fun h0 hs htr ht hu => next_congr (powerFailWarning_run hsrc h0 hs htr ht hu)⟩
  case timer =>
    refine ⟨fun hd => next_congr ((timerExpiry_running hi h1).trans (if_pos hd)), fun hd ht => next_congr ?_⟩
    rw [ht]
    exact (timerExpiry_running hi h1).trans (if_neg (Bool.eq_false_iff.not_left.2 hd))

end Sys2Proof.Machine
end

section
/-! Reset values (R7, R36, R232, R242, R369, R572): what the registers hold right after power-on reset, and the levels of the ports. -/

namespace Sys2Proof.Machine

/-! ### The table of reset values -/

theorem mem_natsFrom {a n k : Nat} : k ∈ natsFrom a n ↔ a ≤ k ∧ k < a + n := by
  induction n generalizing a with
  | zero => simp only [natsFrom, List.not_mem_nil, false_iff]; omega
  | succ n ih => simp only [natsFrom, List.mem_cons, ih]; omega

theorem regAddr_mem_regCopies {r : Reg} {i j : Nat} (hi : i < (regShape r).n1) (hj : j < (regShape r).n2) : regAddr r i j ∈ regCopies r :=
  List.mem_flatMap.2 ⟨i, mem_natsFrom.2 (by omega), List.mem_map.2 ⟨j, mem_natsFrom.2 (by omega), rfl⟩⟩

/-- Registers with a reset value do not overlap in the table, nor do the copies that differ from one another overwrite them. -/
theorem resetRegs_get : ∀ r ∈ allRegs, regReset r ≠ 0 → ∀ a ∈ regCopies r, Tab.get 0 resetRegs a = regReset r := by decide +kernel

theorem resetRegs_get_extra : ∀ e ∈ resetExtra, Tab.get 0 resetRegs e.1 = e.2 := by decide +kernel

theorem resetRegs_get_evtPend : ∀ a ∈ regCopies .EVT_PEND, Tab.get 0 resetRegs a = 0 := by decide +kernel

/-- A copy of a register that has one reset value, other than zero, for all its copies. -/
theorem State.reset_rg {r : Reg} {w : Word} (hw : regReset r = w) {i j : Nat} (hr : r ∈ allRegs := by decide) (h0 : w ≠ 0 := by decide)
    (hi : i < (regShape r).n1 := by decide) (hj : j < (regShape r).n2 := by decide) : State.reset.rg r i j = w := by
  subst hw
  rw [State.rg, State.reset_regs]
  exact resetRegs_get r hr h0 _ (regAddr_mem_regCopies hi hj)

/-- A copy of a register whose reset value differs from copy to copy. -/
theorem State.reset_rg_extra {r : Reg} {i : Nat} {w : Word} (h : (regAddr r i 0, w) ∈ resetExtra) : State.reset.rg r i 0 = w := by
  have hget := resetRegs_get_extra _ h
  rwa [State.rg, State.reset_regs]

/-- No event is pending at reset. -/
theorem State.reset_evtPend {k : Nat} (hk : k < 10) : State.reset.rg .EVT_PEND k = 0 := by
  have hget := resetRegs_get_evtPend _ (regAddr_mem_regCopies (j := 0) hk Nat.one_pos)
  rwa [State.rg, State.reset_regs]

/-! ### Monitor converters (R242, R279) -/

/-- Of the three converters of tap `c / 3`, the first two are in sets and the third is the spare. -/
theorem State.reset_madcSts {c : Nat} (h : c < 12) :
    State.reset.rg .MADC_STS c = if c % 3 = 2 then 1 else BitVec.ofNat 32 (4 * (2 * (c / 3) + c % 3)) :=
  State.reset_rg_extra (List.mem_append_left _ (List.mem_map.2 ⟨c, mem_natsFrom.2 (by omega), rfl⟩))

theorem bitsOf_set_number : ∀ n < 8, bitsOf (BitVec.ofNat 32 (4 * n)) 2 3 = n := by decide

theorem State.reset_madcSet {c : Nat} (h : c < 12) (hc : c % 3 ≠ 2) : State.reset.fd F.MADC_STS_set c = 2 * (c / 3) + c % 3 := by
  rw [State.fd, State.reset_madcSts h, if_neg hc]
  exact bitsOf_set_number _ (by omega)

theorem State.reset_madcSpare {c : Nat} (h : c < 12) (hc : c % 3 = 2) : State.reset.fd F.MADC_STS_state c = 1 := by
  rw [State.fd, State.reset_madcSts h, if_pos hc]
  rfl

/-! ### Levels (R65, R66) -/

/-- A disabled port reads level code 0b11. -/
theorem State.reset_levelSeen (p : Nat) : State.reset.levelSeen p = 3 := rfl

theorem State.reset_lvlAll (k : Nat) : State.reset.lvlAll k = 0xFFFFFFFF := by
  simp only [State.lvlAll, State.reset_levelSeen]
  decide

/-- Settles O60: each register shows its copy of the table, but for the levels, which follow from the ports. -/
theorem resetValues : Obligations.ResetValues := by
  unfold Obligations.ResetValues
  refine ⟨rfl, rfl, rfl, rfl, rfl, State.reset_rg rfl, State.reset_rg rfl, fun p _ => rfl, fun k _ => State.reset_lvlAll k, State.reset_rg rfl,
    State.reset_rg rfl, State.reset_rg rfl, fun k hk => State.reset_rg rfl (hi := (mem_natsFrom.1 hk).2), fun t ht => ?_,
    fun k hk => ⟨State.reset_rg rfl (hi := (mem_natsFrom.1 hk).2), ?_⟩, State.reset_rg rfl, State.reset_rg rfl, State.reset_rg rfl,
    State.reset_rg_extra (by decide), State.reset_rg_extra (by decide), State.reset_rg_extra (by decide)⟩
  · have ht4 : t < 4 := by simpa using (mem_natsFrom.1 ht).2
    have h0 := State.reset_madcSet (c := 3 * t) (by omega) (by omega)
    have h1 := State.reset_madcSet (c := 3 * t + 1) (by omega) (by omega)
    exact ⟨by omega, by omega, State.reset_madcSpare (by omega) (by omega)⟩
  · exact State.reset_evtPend (by simpa using (mem_natsFrom.1 hk).2)

end Sys2Proof.Machine
end

section
/-! Resets and boot (R36, R38, R222, R535 to R543, R549, R551, R555, R556): what a reset keeps, when one is requested and takes effect, the
steps of boot, and the commands of BOOT_CMD. -/

namespace Sys2Proof.Machine

/-! ### What a reset keeps (R538) -/

/-- Flash that a reset cut short: free values are taken, and only the flash changes. -/
theorem State.scramble_eq (n : Nat) : ∀ (a : Nat) (s : State), ∃ c m, State.scramble n a s = { s with freeCtr := c, flash := m } := by
  induction n with
  | zero => exact fun a s => ⟨s.freeCtr, s.flash, rfl⟩
  | succ n ih => exact fun a s => ih (a + 1) { s.free.2 with flash := Memory.write 0xFF s.flash a (BitVec.ofNat 8 s.free.1) }

/-- The end of a flash command by a reset leaves all but the flash as it was. -/
theorem State.cutFlash_eq (s : State) : ∃ c m, s.cutFlash = { s with freeCtr := c, flash := m, boot := { s.boot with flash := none } } := by
  have hcut : ∀ op a, ∃ c m, (if op = 2 then s.scramble 256 a else if op = 3 then s.scramble 65536 a else s) =
      { s with freeCtr := c, flash := m } := by
    intro op a
    split
    · exact State.scramble_eq 256 a s
    · split
      · exact State.scramble_eq 65536 a s
      · exact ⟨s.freeCtr, s.flash, rfl⟩
  unfold State.cutFlash
  split
  · rename_i op a _
    obtain ⟨c, m, h⟩ := hcut op a
    exact ⟨c, m, by rw [h]⟩
  · rename_i hnone
    exact ⟨s.freeCtr, s.flash, by rw [← hnone]⟩

theorem State.cutFlash_lines (s : State) : s.cutFlash.ldg.lines = s.ldg.lines := by obtain ⟨c, m, h⟩ := s.cutFlash_eq; rw [h]
theorem State.cutFlash_otp (s : State) : s.cutFlash.boot.otp = s.boot.otp := by obtain ⟨c, m, h⟩ := s.cutFlash_eq; rw [h]

/-- With no flash command in progress a reset cuts none short. -/
theorem State.cutFlash_idle {s : State} (h : s.boot.flash = none) : s.cutFlash = s := by simp only [State.cutFlash, h]

section
variable (t s : State) (l : List (Reg × Nat))

/-- Only registers are restored. -/
theorem State.restored_eq : ∃ g, (t.keepRegs s l).ledgerRegs s = { t with regs := g } := by
  obtain ⟨g, h⟩ := State.keepRegs_eq l t s
  rw [h]
  exact ⟨_, rfl⟩

theorem State.restored_time : ((t.keepRegs s l).ledgerRegs s).time = t.time := by obtain ⟨g, h⟩ := t.restored_eq s l; rw [h]
theorem State.restored_dev : ((t.keepRegs s l).ledgerRegs s).dev = t.dev := by obtain ⟨g, h⟩ := t.restored_eq s l; rw [h]
theorem State.restored_ldg : ((t.keepRegs s l).ledgerRegs s).ldg = t.ldg := by obtain ⟨g, h⟩ := t.restored_eq s l; rw [h]
theorem State.restored_boot : ((t.keepRegs s l).ledgerRegs s).boot = t.boot := by obtain ⟨g, h⟩ := t.restored_eq s l; rw [h]
theorem State.restored_flash : ((t.keepRegs s l).ledgerRegs s).flash = t.flash := by obtain ⟨g, h⟩ := t.restored_eq s l; rw [h]
theorem State.restored_dram : ((t.keepRegs s l).ledgerRegs s).dram = t.dram := by obtain ⟨g, h⟩ := t.restored_eq s l; rw [h]

end

section
variable (s : State)

theorem State.por_st : s.por.dev.st = .powerup := by
  unfold State.por
  rw [State.restored_dev]
  rfl

theorem State.por_trans : s.por.dev.trans = .none := by
  unfold State.por
  rw [State.restored_dev]
  rfl

theorem State.por_lines : s.por.ldg.lines = s.ldg.lines := by
  unfold State.por
  rw [State.restored_ldg]
  exact s.cutFlash_lines

theorem State.por_otp : s.por.boot.otp = s.boot.otp := by
  unfold State.por
  rw [State.restored_boot]
  exact s.cutFlash_otp

theorem State.por_flash : s.por.flash = s.cutFlash.flash := by
  unfold State.por
  rw [State.restored_flash]
  rfl

theorem State.por_dram : s.por.dram = [] := by
  unfold State.por
  rw [State.restored_dram]
  rfl

variable (m : Nat)

theorem State.clear_time : (s.clear m).time = 0 := by
  unfold State.clear
  rw [State.restored_time]
  rfl

theorem State.clear_st : (s.clear m).dev.st = .boot := by
  unfold State.clear
  rw [State.restored_dev]
  rfl

theorem State.clear_lines : (s.clear m).ldg.lines = s.ldg.lines := by
  unfold State.clear
  rw [State.restored_ldg]
  exact s.cutFlash_lines

theorem State.clear_otp : (s.clear m).boot.otp = s.boot.otp := by
  unfold State.clear
  rw [State.restored_boot]
  exact s.cutFlash_otp

theorem State.clear_dram : (s.clear m).dram = [] := by
  unfold State.clear
  rw [State.restored_dram]
  rfl

end

/-! ### Resets requested (R535 to R537) -/

section
variable {s : State}

/-- From RUN with nothing in progress, the final checkpoint of the reset begins. -/
theorem State.resetCause_run (hs : s.dev.st = .run) (ht : s.dev.trans = .none) (hw : s.dev.waitReset = false) (b : Nat) :
    s.resetCause b = ((s.setDev fun v => { v with causes := 2 ^ b }).domUp 75).beginFinal .reset 2 := by
  simp [State.resetCause, State.startReset, hs, ht, hw]

/-- A second cause joins the reset in progress. -/
theorem State.resetCause_reset (hs : s.dev.st = .run) (ht : s.dev.trans = .reset) (b : Nat) :
    s.resetCause b = s.setDev fun v => { v with causes := Nat.lor v.causes (2 ^ b) } := by
  simp [State.resetCause, hs, ht]

/-- A reset waits for the end of the power-fail sequence. -/
theorem State.resetCause_powerFail (hs : s.dev.st = .run) (ht : s.dev.trans = .powerFail) (hw : s.dev.waitReset = false) (b : Nat) :
    s.resetCause b = (s.setDev fun v => { v with causes := 2 ^ b }).setDev fun v => { v with waitReset := true } := by
  simp [State.resetCause, hs, ht, hw]

/-- A soft reset alone takes effect: it counts no failed boot and names no fault record. -/
theorem resetTakesEffect_soft (ht : s.dev.trans = .reset) (hf : s.dev.finalDone = true) (hc : s.dev.causes = 2) (hp : s.dev.waitPor = false)
    (e : BootEnv) : resetTakesEffect e s = (((s.clear 2).setRg .BOOT_CAUSE (w32 (2 + 0))).beginBoot).stepThree e := by
  have hbit : natBit 2 3 = false := rfl
  rw [resetTakesEffect, if_neg (by simp [ht, hf]), if_neg (by simp [hp])]
  simp only [hc, hbit, Bool.false_and, Bool.false_eq_true, if_false, OfNat.ofNat_ne_zero]
  cases s.dev.frec with
  | none => rfl
  | some i => rfl

/-! ### Boot (R540 to R543, R549, R551, R556) -/

/-- A boot that neither a power-fail warning nor the TAP stops goes on from step 3, unless a strap holds it. -/
theorem State.stepThree_eq {t : State} {e : BootEnv} (ht : t = (({ s with boot := { s.boot with env := some e } } : State).role).atStep 3)
    (hpf : t.dev.pfBoot = false) (hpin : t.dev.pinsTaken = false) :
    s.stepThree e = if t.fd F.BOOT_STRAP_boot_src = 3 then t.holdBoot 3 else t.stepFour e := by
  rw [State.stepThree, ← ht]
  simp only [hpf, hpin, Bool.false_eq_true, or_self, if_false]

/-- Boot ends from step 9 (R543, R551). -/
theorem bootComplete_stepNine {t u v : State} {ms : Nat} (hs : s.dev.st = .boot) (hstep : s.dev.bootStep = 9) (htr : s.dev.trans = .none)
    (hpf : s.dev.pfBoot = false) (hpin : s.dev.pinsTaken = false) (hon : s.tb.on = true) (hm : s.isMember = false)
    (ht : t = ((chunks 80 (s.boot.tasks.length / 80) s.boot.tasks).foldl (fun (l : List (List Byte)) e => taskInsert e l) []).foldl
      (fun (t : State) e => t.bootTask e) ((s.atStep 10).startStreams))
    (hu : (((t.enter .run).atStep 11).setDev fun v => { v with runAt := s.time }).free = (ms, u))
    (hv : v = (u.setFd F.BOOT_TIME_ms (ms % 65536)).assertOnce 304) :
    bootComplete s = if v.bit F.BOOT_STS_fallback ∨ v.bit F.BOOT_STS_diverge ∨ v.bit F.BOOT_STS_other_bad ∨ v.rg .BOOT_SKIP ≠ 0
      then v.assertOnce 305 else v := by
  rw [bootComplete, if_neg (by simp [hs, hstep, htr, hpf, hpin, hon, hm])]
  simp only [← ht, hu, ← hv]

/-- BOOT_LOOP_CLEAR waits for its ten seconds. -/
theorem bootLoopClear_early (h : s.due (s.dev.runAt + msTicks 10000) = false) : bootLoopClear s = s := if_neg (by simp [h])

/-- CONTINUE and RESTART are refused where boot is not held. -/
theorem heldCommands_refused (h : s.heldBoot = false) (e : BootEnv) :
    continueBoot e s = s.bootCmdSts 2 2 ∧ restartBoot e s = s.bootCmdSts 3 2 :=
  ⟨if_neg (by simp [h]), if_neg (by simp [h])⟩

end

/-- Settles O56: what a reset keeps, then one lemma above for each command and event. -/
theorem resets : Obligations.Resets := by
  unfold Obligations.Resets
  refine ⟨fun s => ?por, fun s e hs => next_congr (if_pos hs), fun s t e ht hpf hpin => ?stepThree, fun s => ?requests, fun s b => ?causes,
    fun s e ht hf hc hp => next_congr (resetTakesEffect_soft ht hf hc hp e), fun s m => ?clear,
    fun s e hs hpf ht => next_congr (if_pos ⟨hs, hpf, ht⟩),
    fun s t u v ms hs hstep htr hpf hpin hon hm ht hu hv => next_congr (bootComplete_stepNine hs hstep htr hpf hpin hon hm ht hu hv),
    fun s n hs h1 h10 => next_congr (if_pos ⟨hs, h1, h10⟩), fun s hs hd => next_congr (if_pos ⟨hs, hd⟩),
    fun s hd => next_congr (bootLoopClear_early hd), fun s e => ?held⟩
  case por =>
    exact ⟨fun h => next_congr (if_pos h), fun h => next_congr (if_neg h), rfl, s.por_st, s.por_lines, s.por_otp,
      fun hf => s.por_flash.trans (congrArg State.flash (State.cutFlash_idle hf)), s.por_dram, s.por_trans⟩
  case clear => exact ⟨s.clear_lines m, s.clear_otp m, s.clear_dram m, s.clear_time m, s.clear_st m⟩
  case stepThree =>
    exact ⟨fun h => (State.stepThree_eq ht hpf hpin).trans (if_pos h), fun h => (State.stepThree_eq ht hpf hpin).trans (if_neg h)⟩
  case requests =>
    exact ⟨rfl, rfl, rfl, fun h => next_congr (if_pos h), fun h => next_congr (if_neg (Bool.eq_false_iff.1 h))⟩
  case causes =>
    exact ⟨fun hs => if_pos hs, fun hs ht hw => State.resetCause_run hs ht hw b, fun hs ht => State.resetCause_reset hs ht b,
      fun hs ht hw => State.resetCause_powerFail hs ht hw b⟩
  case held =>
    refine ⟨fun hh he => next_congr (if_pos ⟨hh, he⟩), fun hh => next_congr (if_pos hh), fun hh => ?_⟩
    obtain ⟨hcontinue, hrestart⟩ := heldCommands_refused hh e
    exact ⟨next_congr hcontinue, next_congr hrestart⟩

end Sys2Proof.Machine
end

section
/-! Samples and confirmed transitions (R54 to R57, R61, R62, R65, R67, R72, R78, R620): what one sample of a filter makes of its state, and what a
confirmed transition changes. -/

namespace Sys2Proof.Machine

/-! ### The filter (R55, R67) -/

section
variable {c : Comp} {w : Nat} {b : Bool}

/-- An UNKNOWN state is established as 1 exactly where the last W samples are all 1. -/
theorem Comp.establish_high (hw : w ≠ 0) : (c.establish w).state = some true ↔ countEq true (c.hist.take w) = w := by
  simp only [Comp.establish, Comp.agreed, if_neg hw]
  split <;> simp_all

/-- Otherwise as 0 exactly where they are all 0. -/
theorem Comp.establish_low (hw : w ≠ 0) (h : (c.establish w).state ≠ some true) :
    (c.establish w).state = some false ↔ countEq false (c.hist.take w) = w := by
  have hhigh := mt (Comp.establish_high hw).2 h
  simp only [Comp.establish, Comp.agreed, if_neg hw, if_neg hhigh]
  split <;> simp_all

/-- The value of the majority, where the other one has none. -/
theorem Comp.majority_eq (hw : w ≠ 0) (hb : (w + 1) / 2 ≤ countEq b (c.hist.take w)) (ho : countEq (! b) (c.hist.take w) < (w + 1) / 2) :
    c.majority w = some b := by
  cases b with
  | true => simp [Comp.majority, hw, hb]
  | false =>
    have hlt : countEq true (c.hist.take w) < (w + 1) / 2 := ho
    simp [Comp.majority, hw, hb, hlt]

/-- A value that falls short of (W + 1)/2 samples is not the majority's. -/
theorem Comp.majority_ne (hb : countEq b (c.hist.take w) < (w + 1) / 2) : c.majority w ≠ some b := by
  cases b <;> grind [Comp.majority]

/-- A majority of the other value confirms a transition to it. -/
theorem Comp.filtered_flips (hs : c.state = some b) (hm : c.majority w = some (! b)) :
    (c.filtered w).1.state = some (! b) ∧ ∃ m, (c.filtered w).2 = some ⟨! b, false, m⟩ := by
  have hne : c.state ≠ some (! b) := by simp [hs]
  simp [Comp.filtered, hm, hne]

/-- Without one, the filter keeps its state and confirms nothing. -/
theorem Comp.filtered_stays (hs : c.state = some b) (hm : c.majority w ≠ some (! b)) : c.filtered w = (c, none) := by
  unfold Comp.filtered
  split
  · rename_i v hv
    have hvb : v = b := by rw [hv] at hm; simpa using hm
    rw [hvb, if_pos hs]
  · rfl

/-- One sample of a comparator with a level and no prescaler: `d` is the comparator with the sample in its history. -/
theorem Comp.sample_plain {d : Comp} {k : Nat} {raw : Bool} (hraw : (c.absorb (400 * k)).raw = some raw)
    (hd : (c.absorb (400 * k)).push (sampled raw (c.upTo (400 * k)).length) = d) :
    c.sample 1 w k = if d.state = none then (d.establish w, none) else d.filtered w := by
  have h1 : ¬ 2 ≤ 1 := by decide
  simp only [Comp.sample, hraw, hd, winOf, if_neg h1]

end

/-! ### Registers of a port

The registers of a port lie at different offsets, and a pair reads back as written. -/

/-- The registers of a port that a confirmed transition reads or writes. -/
def countRegs : List Reg := [.PRT_SER, .PRT_CNTU_LO, .PRT_CNTU_HI, .PRT_CNTL_LO, .PRT_CNTL_HI, .PRT_EVT_EN]

theorem countRegs_base : ∀ r ∈ countRegs, ∀ r' ∈ countRegs, r ≠ r' →
    (regShape r).s1 = (regShape r').s1 ∧ (regShape r).base ≠ (regShape r').base := by decide

theorem countRegs_apart {r r' : Reg} (p : Nat) (hne : r ≠ r') (hr : r ∈ countRegs) (hr' : r' ∈ countRegs) : regAddr r p 0 ≠ regAddr r' p 0 := by
  obtain ⟨hs, hb⟩ := countRegs_base r hr r' hr' hne
  simp only [regAddr, hs]
  omega

theorem State.Inv.setRg {s : State} (h : s.Inv) (r : Reg) (w : Word) (i j : Nat) : (s.setRg r w i j).Inv :=
  (State.setRg_evolves (.refl s) r w i j).inv h

section
variable {s : State} (h : s.Inv) {r lo hi : Reg} {i j i' j' : Nat}
include h

/-- A pair just written leaves every register at another offset. -/
theorem State.rg_setPair_ne (v : Nat) (hlo : regAddr r i' j' ≠ regAddr lo i j) (hhi : regAddr r i' j' ≠ regAddr hi i j) :
    (s.setPair lo hi v i j).rg r i' j' = s.rg r i' j' := by
  rw [State.setPair, State.rg_setRg_ne (h.setRg ..) _ _ _ _ _ _ _ hhi, State.rg_setRg_ne h _ _ _ _ _ _ _ hlo]

/-- A pair just written reads as written. -/
theorem State.pair_setPair_same {v : Nat} (hv : v < 2 ^ 64) (hne : regAddr lo i j ≠ regAddr hi i j) : (s.setPair lo hi v i j).pair lo hi i j = v := by
  rw [State.pair, State.setPair, State.rg_setRg_same (h.setRg ..), State.rg_setRg_ne (h.setRg ..) _ _ _ _ _ _ _ hne, State.rg_setRg_same h]
  simp only [pairNat, loWord, hiWord, BitVec.toNat_ofNat]
  omega

end

/-! ### A confirmed transition (R62, R72, R78) -/

/-- A lane's hardware counter, as a register pair (R78). -/
def counterPair (lower : Bool) : Reg × Reg := if lower then (.PRT_CNTL_LO, .PRT_CNTL_HI) else (.PRT_CNTU_LO, .PRT_CNTU_HI)

/-- The count of a lane. -/
def State.edgeCount (s : State) (p : Nat) (lower : Bool) : Nat := s.pair (counterPair lower).1 (counterPair lower).2 p

theorem counterPair_mem (lower : Bool) : (counterPair lower).1 ∈ countRegs ∧ (counterPair lower).2 ∈ countRegs := by cases lower <;> decide

theorem State.edgeCount_upper (s : State) (p : Nat) : s.edgeCount p false = s.pair .PRT_CNTU_LO .PRT_CNTU_HI p := rfl
theorem State.edgeCount_lower (s : State) (p : Nat) : s.edgeCount p true = s.pair .PRT_CNTL_LO .PRT_CNTL_HI p := rfl

section
variable {s : State} {p : Nat} {lower : Bool}

/-- Below its limit, a counter counts and raises nothing (R24, R78). -/
theorem State.countLane_below (h : s.edgeCount p lower < 2 ^ 64 - 2) :
    s.countLane p lower = s.setPair (counterPair lower).1 (counterPair lower).2 (s.edgeCount p lower + 1) p := by
  cases lower with
  | false =>
    rw [State.edgeCount_upper] at *
    have h1 : s.pair .PRT_CNTU_LO .PRT_CNTU_HI p ≠ 2 ^ 64 - 1 := by omega
    have h2 : s.pair .PRT_CNTU_LO .PRT_CNTU_HI p + 1 ≠ 2 ^ 64 - 1 := by omega
    simp only [State.countLane, Bool.false_eq_true, if_false, if_neg h1, if_neg h2]
    rfl
  | true =>
    rw [State.edgeCount_lower] at *
    have h1 : s.pair .PRT_CNTL_LO .PRT_CNTL_HI p ≠ 2 ^ 64 - 1 := by omega
    have h2 : s.pair .PRT_CNTL_LO .PRT_CNTL_HI p + 1 ≠ 2 ^ 64 - 1 := by omega
    simp only [State.countLane, if_true, if_neg h1, if_neg h2]
    rfl

/-- An edge that enters its lane's buffer, or does not, changes the time base only (R15, R25). -/
theorem State.bufferEdge_eq (s : State) (island lane chan t gapFlags ps : Nat) (r : Rec) :
    ∃ b, s.bufferEdge island lane chan t gapFlags ps r = { s with tb := b } := by
  have hclose : ∃ b, s.closeLoss island lane ps = { s with tb := b } := by
    unfold State.closeLoss
    split
    · split
      · exact ⟨_, rfl⟩
      · exact ⟨s.tb, rfl⟩
    · exact ⟨s.tb, rfl⟩
  unfold State.bufferEdge
  split
  · obtain ⟨b, hb⟩ := hclose
    rw [hb]
    exact ⟨_, rfl⟩
  · exact ⟨_, rfl⟩

/-- So does a comparison of timestamps (R125). -/
theorem State.comparePair_eq (s : State) (comp tick a b : Nat) : ∃ t, s.comparePair comp tick a b = { s with tb := t } := by
  simp only [State.comparePair]
  split
  · exact ⟨_, rfl⟩
  · exact ⟨s.tb, rfl⟩

/-- With no event enabled, the event path does nothing (R73). -/
theorem State.edgeEvent_off (h : s.rg .PRT_EVT_EN p = 0) (bit : Nat) : s.edgeEvent p bit = s := by
  have hbit : natBit (s.rg .PRT_EVT_EN p).toNat bit = false := by simp [h, natBit]
  simp only [State.edgeEvent, hbit, Bool.false_eq_true, if_false]

end

/-- The state in which the serial number has gone up and the port has seen an edge. -/
def State.serialUp (s : State) (p k : Nat) : State :=
  (s.setPort p { s.port p with lastEdge := k / 4 }).setRg .PRT_SER (s.rg .PRT_SER p + 1) p

/-- The state in which the lane's counter has gone up as well: all that registers and ports show of a confirmed transition. -/
def State.counted (s : State) (p k : Nat) (lower : Bool) : State :=
  (s.serialUp p k).setPair (counterPair lower).1 (counterPair lower).2 (s.edgeCount p lower + 1) p

section
variable {s : State} (h : s.Inv) (p k : Nat) (lower : Bool)
include h

theorem State.serialUp_inv : (s.serialUp p k).Inv := ((State.setPort_evolves (.refl s) ..).inv h).setRg ..

theorem State.serialUp_serial : (s.serialUp p k).rg .PRT_SER p = s.rg .PRT_SER p + 1 :=
  State.rg_setRg_same ((State.setPort_evolves (.refl s) ..).inv h) ..

theorem State.serialUp_rg {r : Reg} (hr : r ∈ countRegs) (hser : r ≠ .PRT_SER) : (s.serialUp p k).rg r p = s.rg r p :=
  State.rg_setRg_ne ((State.setPort_evolves (.refl s) p { s.port p with lastEdge := k / 4 }).inv h) _ _ _ _ _ _ _
    (countRegs_apart p hser hr (by decide))

theorem State.serialUp_edgeCount : (s.serialUp p k).edgeCount p lower = s.edgeCount p lower := by
  obtain ⟨hlo, hhi⟩ := counterPair_mem lower
  rw [State.edgeCount, State.pair, State.serialUp_rg h p k hlo (by cases lower <;> decide), State.serialUp_rg h p k hhi (by cases lower <;> decide)]
  rfl

/-- A register that is not of the lane's counter keeps its word while it counts. -/
theorem State.counted_rg {r : Reg} (hr : r ∈ countRegs) (hlo : r ≠ (counterPair lower).1) (hhi : r ≠ (counterPair lower).2) :
    (s.counted p k lower).rg r p = (s.serialUp p k).rg r p :=
  State.rg_setPair_ne (State.serialUp_inv h p k) _ (countRegs_apart p hlo hr (counterPair_mem lower).1)
    (countRegs_apart p hhi hr (counterPair_mem lower).2)

theorem State.counted_serial : (s.counted p k lower).rg .PRT_SER p = s.rg .PRT_SER p + 1 :=
  (State.counted_rg h p k lower (by decide) (by cases lower <;> decide) (by cases lower <;> decide)).trans (State.serialUp_serial h p k)

/-- The lane's own counter goes up by one. -/
theorem State.counted_own (hc : s.edgeCount p lower < 2 ^ 64 - 2) : (s.counted p k lower).edgeCount p lower = s.edgeCount p lower + 1 := by
  obtain ⟨hlo, hhi⟩ := counterPair_mem lower
  exact State.pair_setPair_same (State.serialUp_inv h p k) (by omega) (countRegs_apart p (by cases lower <;> decide) hlo hhi)

/-- The other lane's counter stays. -/
theorem State.counted_other : (s.counted p k lower).edgeCount p (! lower) = s.edgeCount p (! lower) := by
  obtain ⟨hlo, hhi⟩ := counterPair_mem (! lower)
  rw [← State.serialUp_edgeCount h p k, State.edgeCount, State.pair,
    State.counted_rg h p k lower hlo (by cases lower <;> decide) (by cases lower <;> decide),
    State.counted_rg h p k lower hhi (by cases lower <;> decide) (by cases lower <;> decide)]
  rfl

/-- A confirmed transition of a lane below its limit, with no event enabled, is counted; beside that it changes the time base and the engines'
record of counts only. -/
theorem State.confirm_counts (hit : Hit) (hc : s.edgeCount p lower < 2 ^ 64 - 2) (hev : s.rg .PRT_EVT_EN p = 0) :
    ∃ b e, s.confirm p k lower hit = { s.counted p k lower with tb := b, eng := e } := by
  have hlane : (s.serialUp p k).countLane p lower = s.counted p k lower := by
    have hcount := State.serialUp_edgeCount h p k lower
    rw [State.countLane_below (hcount ▸ hc), hcount, State.counted]
  have hoff : (s.counted p k lower).rg .PRT_EVT_EN p = 0 := by
    rw [State.counted_rg h p k lower (by decide) (by cases lower <;> decide) (by cases lower <;> decide),
      State.serialUp_rg h p k (by decide) (by decide), hev]
  rw [State.serialUp] at hlane
  simp only [State.confirm, hlane]
  generalize hx : State.comparePair _ _ _ _ _ = x
  obtain ⟨b, e, hxe⟩ : ∃ b e, x = { s.counted p k lower with tb := b, eng := e } := by
    obtain ⟨b, hb⟩ := State.comparePair_eq ((s.counted p k lower).noteCount _ _ 1) _ _ _ _
    exact ⟨b, _, hx.symm.trans hb⟩
  have hxoff : x.rg .PRT_EVT_EN p = 0 := by rw [hxe]; exact hoff
  split
  · exact ⟨b, e, (State.edgeEvent_off hxoff _).trans hxe⟩
  · generalize hy : x.bufferEdge _ _ _ _ _ _ _ = y
    obtain ⟨b', hb'⟩ : ∃ b', y = { x with tb := b' } := by rw [← hy]; exact State.bufferEdge_eq ..
    have hyoff : y.rg .PRT_EVT_EN p = 0 := by rw [hb']; exact hxoff
    exact ⟨b', e, (State.edgeEvent_off hyoff _).trans (by rw [hb', hxe])⟩

/-- What a confirmed transition does to the registers of the port: both counters by lane. -/
theorem State.confirm_next {t : State} (hit : Hit) (hc : s.edgeCount p lower < 2 ^ 64 - 2) (hev : s.rg .PRT_EVT_EN p = 0)
    (ht : s.confirm p k lower hit = t) :
    t.rg .PRT_SER p = s.rg .PRT_SER p + 1 ∧ t.edgeCount p lower = s.edgeCount p lower + 1 ∧ t.edgeCount p (! lower) = s.edgeCount p (! lower) ∧
      t.ports = Tab.set Port.init s.ports p { s.port p with lastEdge := k / 4 } ∧
      t.dram = s.dram ∧ t.flash = s.flash ∧ t.flt = s.flt ∧ t.evt = s.evt ∧ t.dev = s.dev ∧ t.ldg = s.ldg ∧ t.q = s.q := by
  obtain ⟨b, e, he⟩ := State.confirm_counts h p k lower hit hc hev
  obtain rfl := he.symm.trans ht
  exact ⟨State.counted_serial h p k lower, State.counted_own h p k lower hc, State.counted_other h p k lower, rfl, rfl, rfl, rfl, rfl, rfl, rfl, rfl⟩

end

/-- Of two transitions of one sample the earlier is first, and the upper one where they are equal (R62). -/
theorem State.confirmBoth_two (s : State) (p k : Nat) (u l : Hit) :
    s.confirmBoth p k (some u) (some l) =
      if (s.markStamps (2 * p) u.mark).1 ≤ (s.markStamps (2 * p + 1) l.mark).1 then (s.confirm p k false u).confirm p k true l
      else (s.confirm p k true l).confirm p k false u := by
  simp only [State.confirmBoth, ← Nat.not_le, ite_not]

/-- Samples of a quiet comparator leave its level alone. -/
theorem Comp.idle_raw {c : Comp} {b : Bool} (h : c.raw = some b) (m : Nat) : (c.idle m).raw = some b := by
  simp only [Comp.idle, h]

/-- So does the establishment of its state. -/
theorem Comp.establishIfUnknown_raw (c : Comp) (w : Nat) : (if c.state.isNone then c.establish w else c).raw = c.raw := by split <;> rfl

/-! ### Commands (R54, R67, R69, R620) -/

section
variable {s u : State} {p : Nat} {lower level : Bool} (hp : p < 96) (hon : s.portPowered p = true) (hu : s.runTo p (4 * s.time) = u)
include hp hon hu

/-- A comparator with a level is established by its samples alone. -/
theorem stateEstablished_level (hl : ((u.port p).comp lower).level ≠ none) : stateEstablished p lower level s = u := by
  have hg : ¬ (96 ≤ p ∨ s.portPowered p = false) := by simp [hp, hon]
  simp only [stateEstablished, if_neg hg, hu, Option.isSome_iff_ne_none.2 hl, if_true]

/-- A comparator without a level takes the one that the command names. -/
theorem stateEstablished_none (hl : ((u.port p).comp lower).level = none) :
    ∃ c, stateEstablished p lower level s = u.setPort p ((u.port p).setComp lower c) ∧ c.raw = some level := by
  have hg : ¬ (96 ≤ p ∨ s.portPowered p = false) := by simp [hp, hon]
  simp only [stateEstablished, if_neg hg, hu, hl, Option.isSome_none, Bool.false_eq_true, if_false]
  exact ⟨_, rfl, (Comp.establishIfUnknown_raw _ _).trans (Comp.idle_raw (by rfl) _)⟩

end

/-- CONFIRMED_TRANSITION: the port meets its input, and runs on over the samples that it names. -/
theorem confirmedTransition_meets {s u : State} {i : PortInput} (hp : i.port < 96) (hu : u = s.runTo i.port (4 * s.time)) :
    ∃ z, (∀ y, i.segs.foldl (fun (y : Port) g => y.input (u.portPowered i.port) (1600 * s.time + g.ps % 1600) g)
        { u.port i.port with seen := (s.time, (u.port i.port).hi.state, (u.port i.port).lo.state) } = y → { y with seen := z.seen } = z) ∧
      confirmedTransition i s = (u.setPort i.port z).runTo i.port (4 * s.time + min 4 i.samples) := by
  subst hu
  simp only [confirmedTransition, if_neg (Nat.not_le.2 hp)]
  refine ⟨_, ?_, rfl⟩
  rintro y rfl
  split <;> rfl

/-- Settles O21: the filter's lemmas by the state of the comparator, and `State.confirm_next` by lane. -/
theorem portEdges : Obligations.PortEdges := by
  unfold Obligations.PortEdges
  refine ⟨fun s i hp => ?input, fun c d w k raw hd hraw hw => ?sample, State.confirmBoth_two, fun s p k lower hit h _ _ hu hl hev => ?confirm,
    fun s u p lower level hp hon hu hl => next_congr (stateEstablished_level hp hon hu hl), fun s u p lower level hp hon hu hl => ?established⟩
  case input =>
    obtain ⟨z, hz, hnext⟩ := confirmedTransition_meets (s := s) hp rfl
    exact ⟨_, z, rfl, hz, next_congr hnext⟩
  case sample =>
    rw [Comp.sample_plain hraw hd]
    refine ⟨fun hn => ?_, fun b hb hmany hfew => ?_, fun b hb hfew => ?_⟩
    · rw [if_pos hn]
      exact ⟨rfl, Comp.establish_high hw, Comp.establish_low hw⟩
    · rw [if_neg (by simp [hb])]
      exact Comp.filtered_flips hb (Comp.majority_eq hw hmany (by simpa using hfew))
    · rw [if_neg (by simp [hb])]
      exact Comp.filtered_stays hb (Comp.majority_ne hfew)
  case confirm =>
    have hc : s.edgeCount p lower < 2 ^ 64 - 2 := by cases lower <;> assumption
    obtain ⟨hser, hown, hother, hframe⟩ := State.confirm_next h p k lower hit hc hev rfl
    refine ⟨_, rfl, hser, ?_⟩
    cases lower with
    | false => exact ⟨hown, hother, hframe⟩
    | true => exact ⟨hother, hown, hframe⟩
  case established =>
    obtain ⟨c, hnext, hraw⟩ := stateEstablished_none hp hon hu hl (level := level)
    exact ⟨c, next_congr hnext, hraw⟩

end Sys2Proof.Machine
end

section
/-! The monitor converters (R88 to R91, R244 to R250, R282): codes, taps, readback and check slots, and the commands. -/

namespace Sys2Proof.Machine

/-! ### Codes and taps (R244, R245) -/

/-- A code of a converter on no bridge enters its history and slot, and its context where it serves. -/
theorem modulatorCode_live {s : State} {c d : Nat} {m : Madc} (hm : s.madc c = m) (hlive : s.madcLive c = true) (hd : d < 16)
    (hst : s.madcState c ≠ 3) (hleft : m.left = 0) (clip : Bool) {u : State}
    (hu : u = s.setMadc c { m with codes := (d :: m.codes).take 4096, slot := m.slot.map fun p => p.take d }) :
    modulatorCode c d clip s =
      if s.madcState c = 0 then u.feedConverter (s.madcSet c) (((d : Int) - 8) * 2 ^ 21) false (clip && ! m.slot.isSome) else u := by
  have hu' : u = s.setMadc c { m with codes := (d :: m.codes).take 4096, left := m.left - 1, slot := m.slot.map fun p => p.take d } := by
    rw [hu, hleft]
  have hg : s.madcLive c = true ∧ d < 16 ∧ s.madcState c ≠ 3 := ⟨hlive, hd, hst⟩
  have hne : decide (m.left ≠ 0) = false := by simp [hleft]
  simp only [modulatorCode, if_pos hg, hm, ← hu', if_pos hleft, hne, codeVal]

section
variable {s : State} {v c : Nat} {w : Word} (hv : v ≤ 7) (hw : bitsOf w 0 6 ≤ 45) (hc : s.servingConv v = some c)
include hv hw hc

/-- A valid tap takes effect where the serving converter has no slot. -/
theorem madcTapWrite_free (hs : (s.madc c).slot = none) : madcTapWrite v w s = s.setTap v (bitsOf w 0 6) := by
  have hg : ¬ (45 < bitsOf w 0 6 ∨ 7 < v) := by omega
  simp only [madcTapWrite, if_neg hg, hc, hs, Option.isSome_none, Bool.false_eq_true, if_false]

/-- A slot of the serving converter holds it. -/
theorem madcTapWrite_held (hs : (s.madc c).slot ≠ none) :
    madcTapWrite v w s = s.setDec fun d => { d with heldTap := Tab.set 0 d.heldTap v (bitsOf w 0 6 + 1) } := by
  have hg : ¬ (45 < bitsOf w 0 6 ∨ 7 < v) := by omega
  simp only [madcTapWrite, if_neg hg, hc, Option.isSome_iff_ne_none.2 hs, if_true]

end

/-! ### Readback (R88 to R91, R246) -/

/-- The rotation has begun no slot yet, or its interval has passed (R89). -/
theorem State.rbDue_iff (s : State) (v : Nat) :
    s.rbDue v = true ↔ Tab.get 0 s.dec.lastRb v = 0 ∨ Tab.get 0 s.dec.lastRb v + 6250000 * s.fd F.PRT_RB_CTL_interval ≤ s.time + 1 := by
  have hms : msTicks (10 * s.fd F.PRT_RB_CTL_interval) = 6250000 * s.fd F.PRT_RB_CTL_interval := by
    simp only [msTicks]
    omega
  simp only [State.rbDue, hms, Bool.or_eq_true, beq_iff_eq, decide_eq_true_eq]

/-- A readback slot begins on the next used DAC of the rotation. -/
theorem readbackSlotStart_next {s : State} {c d : Nat} (hf : s.slotFree c = true) (hst : s.madcState c = 0) (hen : s.bit F.PRT_RB_CTL_en = true)
    (hdue : s.rbDue (s.madcSet c) = true) (hd : s.nextDac (s.madcSet c) = some d) :
    readbackSlotStart c s = (s.setDec fun q => { q with
        next := Tab.set 0 q.next (s.madcSet c) ((d + 1) % 24), lastRb := Tab.set 0 q.lastRb (s.madcSet c) (s.time + 1) }).slotBegin c
      (some (24 * s.madcSet c + d)) 0 (s.bit F.PRT_STS_thr_settle (12 * s.madcSet c + d / 2)) := by
  have hg : s.slotFree c = true ∧ s.madcState c = 0 ∧ s.bit F.PRT_RB_CTL_en = true ∧ s.rbDue (s.madcSet c) = true := ⟨hf, hst, hen, hdue⟩
  simp only [readbackSlotStart, if_pos hg, hd]

/-- A readback slot of an upper DAC, of full length and undisturbed: reading and error are stored, and an error above 3 LSB raises DAC_READBACK. -/
theorem readbackSlotEnd_upper {s u w : State} {c d : Nat} {uv : Int} {p : MadcSlot} (hp : (s.madc c).slot = some p) (hd : p.dac = some (2 * d))
    (hk : 11719 ≤ p.k) (hlive : s.madcLive c = true) (hdis : p.discard = false) (hthr : Tab.get [] s.thrs d = [])
    (hset : s.bit F.PRT_STS_thr_settle d = false) (hu : (s.slotOver c).readUv p = (u, uv))
    (hw : w = ((u.setFd F.MADC_RB_tap (12 + 2 * (d % 12)) c).setFd F.MADC_RB_uv (uNat 24 uv) c).setFd F.PRT_RB_err_hi
      (uNat 8 (max (-128) (min 127 (rdiv (s.readErr p (2 * d)) (15625 * readDen))))) d) :
    readbackSlotEnd c s =
      if 3 * 15625 * readDen < (s.readErr p (2 * d)).natAbs then (w.setFd F.PRT_RB_mis_hi 1 d).raiseRb d else w := by
  have hlen : ¬ (p.k < slotLen ∨ s.madcLive c = false) := by simp [slotLen, hk, hlive]
  have hport : 2 * d / 2 = d := by omega
  have heven : 2 * d % 2 = 0 := by omega
  have hquiet : (p.discard || (Tab.get [] s.thrs d).any (fun h => decide (p.start ≤ h.1 ∧ h.1 ≤ s.time)) || s.bit F.PRT_STS_thr_settle d) = false := by
    simp [hdis, hthr, hset]
  subst hw
  simp only [readbackSlotEnd, hp, hd, if_neg hlen, hport, heven, hu, hquiet, Bool.false_eq_true, if_false, if_true, Nat.add_zero]
  rfl

/-! ### Check slots (R248, R249, R282) -/

/-- A check slot of full length stores its reading, and passes within 2 mV of 3.5 V. -/
theorem checkSlotEnd_plain {s u v w : State} {c : Nat} {uv : Int} {p : MadcSlot} {ok : Bool} (hp : (s.madc c).slot = some p) (hd : p.dac = none)
    (hk : 11719 ≤ p.k) (hlive : s.madcLive c = true) (hwhy : p.why = 0) (hu : (s.slotOver c).readUv p = (u, uv))
    (hok : ok = decide ((p.reading - 3500000 * (readDen : Int)).natAbs ≤ 2000 * readDen)) (hv : v = u.setFd F.MADC_CHK_uv (uNat 24 uv) c)
    (hw : w = v.setMadc c { v.madc c with passed := ok }) :
    checkSlotEnd c s = if ok then w.incFd F.MADC_CHK_passes c
      else ((w.setFd F.MADC_STS_chk_fail 1 c).raise 0x100 (unitOf 8 c) (uNat 32 uv)).assertOnce (258 + c) := by
  have hlen : ¬ (p.dac.isSome = true ∨ p.k < slotLen ∨ s.madcLive c = false) := by simp [slotLen, hd, hk, hlive]
  have hstate : ¬ (ok = true ∧ 2 ≤ p.why) := by omega
  have hcmd : ∀ q : Prop, ¬ ((p.why = 1 ∨ p.why = 2) ∧ q) := by omega
  simp only [checkSlotEnd, hp, if_neg hlen, hu, ← hok, ← hv, ← hw, if_neg hstate, if_neg (hcmd _)]

/-! ### Commands (R282) -/

section
variable {s : State} {c : Nat} (hc : c < 12)
include hc

/-- SUBSTITUTE of a serving converter with a spare that stands ready. -/
theorem madcSubstitute_ready {sp : Nat} (hst : s.madcState c = 0) (hsp : s.readySpare (c / 3) = some sp) :
    madcSubstitute c s = ((s.substitute c sp 2).slotBegin c none 3 false).madcCmdSts c 1 1 := by
  simp only [madcSubstitute, if_neg (Nat.not_le.2 hc), hst, hsp, ne_eq, not_true_eq_false, if_false]

/-- SUBSTITUTE otherwise. -/
theorem madcSubstitute_refused (h : s.madcState c ≠ 0 ∨ s.readySpare (c / 3) = none) : madcSubstitute c s = s.madcCmdSts c 1 2 := by
  rw [madcSubstitute, if_neg (Nat.not_le.2 hc)]
  split
  · rfl
  · rename_i hst
    simp only [h.resolve_left hst]

/-- CHECK, but of a RETIRED converter or one whose slot is taken. -/
theorem madcCheckCmd_begins (hst : s.madcState c ≠ 2) (hf : s.slotFree c = true) :
    madcCheckCmd c s = (s.slotBegin c none 1 false).madcCmdSts c 2 0 := by
  rw [madcCheckCmd, if_neg (Nat.not_le.2 hc), if_neg (by simp [hst, hf])]

/-- RETRY of a RETIRED converter. -/
theorem madcRetry_begins (hst : s.madcState c = 2) (hf : s.slotFree c = true) :
    madcRetry c s = (s.slotBegin c none 2 false).madcCmdSts c 3 0 := by
  rw [madcRetry, if_neg (Nat.not_le.2 hc), if_neg (by simp [hst, hf])]

/-- Where no slot may begin, both are refused. -/
theorem madcSlotCmds_refused (hf : s.slotFree c = false) : madcCheckCmd c s = s.madcCmdSts c 2 2 ∧ madcRetry c s = s.madcCmdSts c 3 2 := by
  rw [madcCheckCmd, madcRetry, if_neg (Nat.not_le.2 hc), if_neg (Nat.not_le.2 hc), if_pos (.inr hf), if_pos (.inr hf)]
  exact ⟨rfl, rfl⟩

end

/-- Settles O37: one lemma above for each event and command. -/
theorem monitorConverters : Obligations.MonitorConverters := by
  unfold Obligations.MonitorConverters
  refine ⟨fun s c d clip m hm hlive hd hst hleft => ⟨_, rfl, next_congr (modulatorCode_live hm hlive hd hst hleft clip rfl)⟩,
    fun s v c w hv hw hc => ⟨fun hs => next_congr (madcTapWrite_free hv hw hc hs), fun hs => next_congr (madcTapWrite_held hv hw hc hs)⟩,
    fun s c d hf hst => ⟨next_congr (if_pos ⟨hf, hst⟩), fun hen hdue hd =>
      next_congr (readbackSlotStart_next hf hst hen ((s.rbDue_iff _).2 hdue) hd)⟩,
    fun s c hf hst => next_congr (if_pos ⟨hf, hst⟩),
    fun s u c d uv p hp hd hk hlive hdis hthr hset hu =>
      ⟨_, rfl, next_congr (readbackSlotEnd_upper hp hd hk hlive hdis hthr hset hu rfl)⟩,
    fun s u c uv p hp hd hk hlive hwhy hu =>
      ⟨_, _, _, rfl, rfl, rfl, next_congr (checkSlotEnd_plain hp hd hk hlive hwhy hu rfl rfl rfl)⟩,
    fun s c hc => ⟨fun sp hst hsp => next_congr (madcSubstitute_ready hc hst hsp), fun h => next_congr (madcSubstitute_refused hc h),
      fun hst hf => next_congr (madcCheckCmd_begins hc hst hf), fun hst hf => next_congr (madcRetry_begins hc hst hf), fun hf => ?_⟩⟩
  obtain ⟨hcheck, hretry⟩ := madcSlotCmds_refused hc hf
  exact ⟨next_congr hcheck, next_congr hretry⟩

end Sys2Proof.Machine
end

section
/-! The wrap of the tick count (R108), the reference and its holdover intervals (R104 to R107), and REFCLK_OUT (R107, R603). -/

namespace Sys2Proof.Machine

/-! ### The wrap (R108, R109) -/

/-- A tick moves the full time of now on by its 512 fine units, where a cascade member's load and offset do not put it before its own count. -/
theorem State.countTick_now {s : State} (h : 0 ≤ s.casc.base + s.casc.off) : s.countTick.now = s.now + 512 := by
  show (((s.time + 1) * 512 : Nat) + (s.casc.base + s.casc.off) : Int).toNat = ((s.time * 512 : Nat) + (s.casc.base + s.casc.off) : Int).toNat + 512
  omega

/-- EPOCH records are due after a tick if they were before it, or if it began another epoch. -/
theorem State.countTick_epochDue (s : State) :
    s.countTick.tb.epochDue = (s.tb.epochDue || s.countTick.nowTick / epochTicks != s.nowTick / epochTicks) := rfl

/-- At the last tick of an epoch the next tick carries into the epoch, which the bits of a full time above 2^64 count. -/
theorem State.countTick_lastTick {s : State} (h : 0 ≤ s.casc.base + s.casc.off) (ht : s.tick = 2 ^ 55 - 1) :
    s.countTick.tick = 0 ∧ s.countTick.now / 2 ^ 64 = s.now / 2 ^ 64 + 1 ∧ s.countTick.nowTick / epochTicks = s.nowTick / epochTicks + 1 := by
  simp only [State.tick, State.nowTick, epochTicks, State.countTick_now h] at ht ⊢
  omega

/-- Settles O16: EPOCH_WRAP is the tick after the last one of an epoch, which carries. -/
theorem epochWraps : Obligations.EpochWraps := by
  unfold Obligations.EpochWraps
  rintro s _ hon hbase htick rfl
  obtain ⟨hzero, hepoch, hcarry⟩ := State.countTick_lastTick hbase htick
  refine ⟨next_congr ((if_pos htick).trans (if_pos hon)), hzero, by rw [hepoch], ?_, State.countTick_now hbase⟩
  rw [State.countTick_epochDue, hcarry]
  simp

/-! ### The reference (R104 to R106) -/

section
variable {s : State}

/-- In BOOT the first lock starts the time base. -/
theorem pllLock_first (hs : s.dev.st = .boot) (hon : s.tb.on = false) : pllLock s = s.startTime.setLock true := if_pos ⟨hs, hon⟩

/-- Without lock in time the time base starts in a holdover interval that opens at zero. -/
theorem refLockTimeout_first {u : State} (hs : s.dev.st = .boot) (hon : s.tb.on = false)
    (hu : u = ((s.startTime.refSeen false).setFd F.TB_PLL_STS_holdover 1).setTb fun b => { b with holdovers := b.holdovers ++ [(0, none)] }) :
    refLockTimeout s = u.raise 0x000 0 (u.fd F.TB_PLL_STS_loss_cnt) true := by
  subst hu
  exact if_pos ⟨hs, hon⟩

/-- A loss of a valid reference clears lock, opens a holdover interval where none is open, and raises REF_LOSS with the loss count. -/
theorem State.lossOfRef_valid {u v w : State} (hb : s.tb.refBack = true) (hu : u = (s.refSeen false).setLock false)
    (hv : v = if u.bit F.TB_PLL_STS_holdover then u
      else (u.setFd F.TB_PLL_STS_holdover 1).setTb fun b => { b with holdovers := b.holdovers ++ [(s.nowTick, none)] })
    (hw : w = (v.setFd F.TB_PLL_STS_ref_loss 1).incFd F.TB_PLL_STS_loss_cnt) :
    s.lossOfRef = w.raise 0x000 0 (w.fd F.TB_PLL_STS_loss_cnt) true := by
  subst hw hv hu
  exact if_pos hb

/-- One departure is declared once (assumption log 117). -/
theorem State.lossOfRef_declared (hb : s.tb.refBack = false) : s.lossOfRef = s := if_neg (by simp [hb])

theorem refNoEdge_counting (hon : s.tb.on = true) : refNoEdge s = s.lossOfRef := if_pos hon

/-- A frequency window beyond 200 ppm is a loss. -/
theorem refFreqWindowEnd_beyond {ppm : Int} (hon : s.tb.on = true) (hp : 200 < ppm.natAbs) : refFreqWindowEnd ppm s = s.lossOfRef :=
  (if_neg (by simp [hon])).trans (if_pos hp)

/-- A frequency window within 200 ppm tells that the reference is valid again. -/
theorem refFreqWindowEnd_within {ppm : Int} (hon : s.tb.on = true) (hp : ppm.natAbs ≤ 200) : refFreqWindowEnd ppm s = s.refSeen true :=
  (if_neg (by simp [hon])).trans (if_neg (Nat.not_lt.2 hp))

/-- A relock in holdover ends the interval and drops REF_LOSS's LIVE. -/
theorem relock_holdover (hon : s.tb.on = true) (hh : s.bit F.TB_PLL_STS_holdover = true) :
    relock s = ((((s.refSeen true).endHoldover).setLock true).setFd F.TB_PLL_STS_relock 1).dropLive 0 0x000 := if_pos ⟨hon, hh⟩

/-! ### REFCLK_OUT (R107, R603) -/

theorem State.refclkOut_disabled (h : s.bit F.TB_OUT_CFG_en = false) : s.refclkOut = .low := if_pos h

/-- Enabled, REFCLK_OUT carries what TB_OUT_CFG.src names. -/
theorem State.refclkOut_enabled (h : s.bit F.TB_OUT_CFG_en = true) : s.refclkOut = if s.bit F.TB_OUT_CFG_src then .pll else .refclk :=
  if_neg (by simp [h])

end

/-- Settles O17: one lemma above for each event of the reference, by whether it is valid and the time base counts. -/
theorem reference : Obligations.Reference := by
  unfold Obligations.Reference
  refine ⟨fun s hs hon => next_congr (pllLock_first hs hon), fun s hs hon => ⟨_, next_congr (refLockTimeout_first hs hon rfl), rfl⟩,
    fun s ppm hon hb hp => ?lost, fun s ppm hon hb hp => ?declared, fun s ppm hon hp => next_congr (refFreqWindowEnd_within hon hp),
    fun s hon hh => next_congr (relock_holdover hon hh), fun s => ⟨State.refclkOut_disabled, fun hen hsrc => ?_, fun hen hsrc => ?_⟩⟩
  case lost =>
    have hloss := State.lossOfRef_valid hb rfl rfl rfl
    exact ⟨_, _, _, rfl, rfl, rfl, next_congr ((refNoEdge_counting hon).trans hloss), next_congr ((refFreqWindowEnd_beyond hon hp).trans hloss)⟩
  case declared =>
    have hnone := State.lossOfRef_declared hb
    exact ⟨next_congr ((refNoEdge_counting hon).trans hnone), next_congr ((refFreqWindowEnd_beyond hon hp).trans hnone)⟩
  · rw [State.refclkOut_enabled hen, if_neg (by simp [hsrc])]
  · rw [State.refclkOut_enabled hen, if_pos hsrc]

end Sys2Proof.Machine
end

section
/-! Lane work (R119 to R131, R137): what the commands ask for, how work begins or waits, the rotation, and the rest of a hand-over. -/

namespace Sys2Proof.Machine

/-! ### The commands of TB_CAL_CMD (R121, R125, R129, R137) -/

/-- Eight port lanes make a quad. -/
theorem quadOfLane_port {l : Nat} (hl : l < 192) : quadOfLane l = l / 8 := if_pos hl

section
variable {s : State} {l : Nat}

/-- While a command is in progress each of the four only records its refusal (assumption log 118). -/
theorem tbCommands_busy (hl : l < 221) (hb : s.bit F.TB_CAL_STS_busy = true) :
    tbCalibrate l s = s.calRefuse l 1 ∧ tbRetry l s = s.calRefuse l 2 ∧ tbHandover l s = s.calRefuse l 3 ∧ tbReturn l s = s.calRefuse l 4 := by
  have hg : ¬ 221 ≤ l := Nat.not_le.2 hl
  exact ⟨(if_neg hg).trans (if_pos (.inl hb)), (if_neg hg).trans (if_pos (.inl hb)), (if_neg hg).trans (if_pos (.inl hb)),
    (if_neg hg).trans (if_pos (.inl hb))⟩

variable (hb : s.bit F.TB_CAL_STS_busy = false)
include hb

/-- CALIBRATE of a lane that is not RETIRED, nor a port's lane whose spare covers a RETIRED one. -/
theorem tbCalibrate_asks (hl : l < 221) (hst : s.laneState l ≠ 5) (hsp : 192 ≤ l ∨ s.noSpare (l / 8) = false) :
    tbCalibrate l s = (s.calStart l 1).askWork l 1 := by
  have hspare : ¬ (l < 192 ∧ s.noSpare (quadOfLane l) = true) := by
    rintro ⟨hport, hno⟩
    rw [quadOfLane_port hport] at hno
    simp [hsp.resolve_left (Nat.not_le.2 hport)] at hno
  exact (if_neg (Nat.not_le.2 hl)).trans (if_neg (by simp only [hb, hst, hspare, Bool.false_eq_true, or_self, not_false_eq_true]))

/-- RETRY of a RETIRED lane. -/
theorem tbRetry_asks (hl : l < 221) (hst : s.laneState l = 5) : tbRetry l s = (s.calStart l 2).askWork l 2 :=
  (if_neg (Nat.not_le.2 hl)).trans (if_neg (by simp [hb, hst]))

variable (hl : l < 192)
include hl

/-- HANDOVER of a port's lane whose spare is idle. -/
theorem tbHandover_asks (hst : s.laneState (192 + l / 8) = 3) : tbHandover l s = (s.calStart l 3).askWork l 3 := by
  have hspare : s.laneState (spareOf (quadOfLane l)) = 3 := by rwa [quadOfLane_port hl]
  exact (if_neg (by omega)).trans (if_neg (by simp [hb, hspare, hl]))

/-- RETURN of a port's lane that the spare covers. -/
theorem tbReturn_asks (hst : s.laneState (192 + l / 8) = 4) (hp : s.fd F.TB_LANE_STS_partner (192 + l / 8) = l) :
    tbReturn l s = (s.calStart l 4).askWork l 4 := by
  have hspare : s.laneState (spareOf (quadOfLane l)) = 4 := by rwa [quadOfLane_port hl]
  have hpartner : s.fd F.TB_LANE_STS_partner (spareOf (quadOfLane l)) = l := by rwa [quadOfLane_port hl]
  exact (if_neg (by omega)).trans (if_neg (by simp [hb, hspare, hpartner, hl]))

end

/-! ### Work begins or waits (R121 to R125, R590) -/

section
variable {s : State} {l op q : Nat} {c : QuadCal}

/-- A service lane is calibrated in place, at once (R124). -/
theorem State.askWork_service (hl : 216 ≤ l) :
    s.askWork l op = (s.setLane l 2 0).setTb fun t => { t with svcCal := Tab.set 0 t.svcCal l (s.time + 1) } :=
  (if_pos hl).trans (if_pos hl)

variable (hl : l < 216)
include hl

/-- Work begins where the quad is idle and nothing holds it up. -/
theorem State.askWork_begins (hidle : (s.quadCal (quadOfLane l)).phase = .idle) (hr : s.workReady (quadOfLane l) l op = true) :
    s.askWork l op = s.beginWork (quadOfLane l) l op :=
  (if_neg (Nat.not_le.2 hl)).trans (if_pos ⟨hidle, hr⟩)

/-- Other work waits, first in, first out (assumption log 64). -/
theorem State.askWork_waits (hq : quadOfLane l = q) (hc : s.quadCal q = c) (h : c.phase ≠ .idle ∨ s.workReady q l op = false) :
    s.askWork l op = s.setQuadCal q { c with wait := c.wait ++ [(l, op)] } := by
  subst hq hc
  exact (if_neg (Nat.not_le.2 hl)).trans (if_neg fun ⟨hidle, hr⟩ => h.elim (· hidle) (by simp [hr]))

/-- A spare and a disabled port's lane are calibrated in place (R121). -/
theorem State.beginCal_inPlace (hq : quadOfLane l = q) (hc : s.quadCal q = c) (h : 192 ≤ l ∨ s.bit F.PRT_CFG_en (l / 2) = false) :
    s.beginCal l op = (s.setLane l 2 0).setQuadCal q { QuadCal.init with phase := .inPlace, lane := l, op := op, wait := c.wait } := by
  subst hq hc
  have hfree : 192 ≤ l ∨ s.lanePortOn l = false := h.imp_right fun he => by simp [State.lanePortOn, he]
  exact (if_neg (Nat.not_le.2 hl)).trans (if_pos hfree)

/-- An enabled port's lane is relieved first (R121). -/
theorem State.beginCal_relieves (hq : quadOfLane l = q) (hc : s.quadCal q = c) (hport : l < 192) (hen : s.bit F.PRT_CFG_en (l / 2) = true) :
    s.beginCal l op = s.beginHandover q { QuadCal.init with lane := l, op := op, wait := c.wait } := by
  subst hq hc
  have hused : ¬ (192 ≤ l ∨ s.lanePortOn l = false) := by simp [State.lanePortOn, hport, hen]
  exact (if_neg (Nat.not_le.2 hl)).trans (if_neg hused)

end

/-- CALIBRATE and the rotation calibrate. -/
theorem State.beginWork_calibrates {s : State} {q l op : Nat} (h : op = 1 ∨ op = 5) : s.beginWork q l op = s.beginCal l op := by
  rcases h with rfl | rfl
  · rfl
  · rfl

/-! ### The rotation (R122, R123) -/

section
variable {s : State} {l q moved : Nat} (hs : s.dev.st = .run) (hen : s.bit F.TB_CAL_CTL_sched_en = true) (hl : l < 216) (hq : quadOfLane l = q)
  (hst : s.laneState l ≠ 5) (hsp : s.noSpare q = false) (hbusy : s.laneBusy q l = false)
include hs hen hl hq hst hsp hbusy

omit hq in
/-- Nothing keeps the rotation from the lane. -/
theorem rotation_unhindered :
    ¬ (s.dev.st ≠ .run ∨ s.bit F.TB_CAL_CTL_sched_en = false ∨ 216 ≤ l ∨ s.laneState l = 5 ∨ s.noSpare q = true ∨ s.laneBusy q l = true) := by
  simp [hs, hen, hl, hst, hsp, hbusy]

/-- The next lane in order whose period has passed is taken in its turn. -/
theorem scheduledCalibration_inTurn {i : Nat} (hdt : moved < s.fd F.TB_CAL_CTL_dtemp ∨ s.fd F.TB_CAL_CTL_dtemp = 0) (hdue : s.rotDue q = some i)
    (hi : rotLane q i = l) :
    scheduledCalibration l moved s = (s.setTb fun t => { t with rot := Tab.set 0 t.rot q ((i + 1) % 9) }).askWork l 5 := by
  have hcool : ¬ (s.fd F.TB_CAL_CTL_dtemp ≠ 0 ∧ s.fd F.TB_CAL_CTL_dtemp ≤ moved) := by omega
  simp only [scheduledCalibration, if_neg (rotation_unhindered hs hen hl hst hsp hbusy), if_neg hcool, hq,
    hdue, if_pos hi]

/-- A lane whose temperature has moved by dtemp is taken out of turn, in front of what waits. -/
theorem scheduledCalibration_moved {c : QuadCal} (hdt : s.fd F.TB_CAL_CTL_dtemp ≠ 0) (hm : s.fd F.TB_CAL_CTL_dtemp ≤ moved) (hc : s.quadCal q = c) :
    scheduledCalibration l moved s =
      if c.phase = .idle ∧ s.workReady q l 5 = true then s.beginWork q l 5 else s.setQuadCal q { c with wait := (l, 5) :: c.wait } := by
  subst hc
  simp only [scheduledCalibration, if_neg (rotation_unhindered hs hen hl hst hsp hbusy), if_pos (And.intro hdt hm), hq]

end

/-- Settles O18: the commands ask for their work, which begins by op and lane or waits; the rotation takes a lane in or out of turn. -/
theorem laneCommands : Obligations.LaneCommands := by
  unfold Obligations.LaneCommands
  refine ⟨fun s l hlo hl hb hst => ⟨_, rfl, next_congr ?service⟩,
    fun s l hl hb hst hsp => next_congr (tbCalibrate_asks hb (by omega) hst hsp), fun s l hl hb hst => next_congr (tbRetry_asks hb hl hst),
    fun s l hl hb hst => next_congr (tbHandover_asks hb hl hst), fun s l hl hb hst hp => next_congr (tbReturn_asks hb hl hst hp),
    fun s l hl hb => ?busy, fun s l op q c hl hq hc => ⟨State.askWork_waits hl hq hc, fun hidle hr => ?begins⟩,
    fun s l q i moved hs hen hl hq hst hsp hbusy hdt hdue hi =>
      next_congr (scheduledCalibration_inTurn hs hen hl hq hst hsp hbusy hdt hdue hi),
    fun s l q moved c hs hen hl hq hst hsp hbusy hdt hm hc =>
      next_congr (scheduledCalibration_moved hs hen hl hq hst hsp hbusy hdt hm hc)⟩
  case service =>
    exact (tbCalibrate_asks hb hl hst (.inl (by omega))).trans (State.askWork_service hlo)
  case busy =>
    obtain ⟨hcal, hretry, hover, hreturn⟩ := tbCommands_busy hl hb
    exact ⟨next_congr hcal, next_congr hretry, next_congr hover, next_congr hreturn⟩
  case begins =>
    have hwork : s.askWork l op = s.beginWork q l op := by
      subst hq hc
      exact State.askWork_begins hl hidle hr
    subst hc
    rw [hwork]
    refine ⟨fun hop h => ?_, fun hop hport hon => ?_, ?_, ?_, ?_⟩
    · rw [State.beginWork_calibrates hop, State.beginCal_inPlace hl hq rfl h]
    · rw [State.beginWork_calibrates hop, State.beginCal_relieves hl hq rfl hport hon]
    all_goals
      rintro rfl
      rfl

/-! ### Verify, switch and detach (R125 to R129, R131) -/

section
variable {s : State} {q : Nat} {c : QuadCal}

/-- VERIFY gives its verdict after 16 pairs or 6,250 ticks, or when a hold begins. -/
theorem verifyEnd_over (hc : s.quadCal q = c) (hp : c.phase = .shadow)
    (h : 16 ≤ c.pairs ∨ c.started + 6250 ≤ s.time ∨ (s.port (c.lane / 2)).hold.isSome = true) : verifyEnd q s = s.verdict q c := by
  subst hc
  exact if_pos ⟨hp, h⟩

/-- With no difference above 8 it switches at once, or at the end of a hold that is open (R131). -/
theorem State.verdict_agrees (hd : c.maxDiff ≤ 8) :
    s.verdict q c = if (s.port (c.lane / 2)).hold.isSome then s.setQuadCal q { c with phase := .hold } else s.switchLane q c :=
  if_neg (Nat.not_lt.2 hd)

/-- With a larger difference a hand-over is abandoned and its command fails (R126). -/
theorem State.verdict_abandons (hd : 8 < c.maxDiff) (hr : c.ret = false) :
    s.verdict q c =
      ((((s.setLane (192 + q) 3 0).incFd F.TB_LANE_HCNT_aborted c.lane).raise 0x081 (unitOf 4 c.lane) (192 + q)).calEnd c.lane c.op 3).quadIdle q := by
  simp only [State.verdict, if_pos hd, State.abandonHandover, hr, Bool.false_eq_true, if_false]
  rfl

/-- The end of a hold lets the switch that waits for it go on. -/
theorem State.holdOver_switches {p : Nat} (hc : s.quadCal (p / 4) = c) (hp : c.phase = .hold) (hl : c.lane / 2 = p) :
    s.holdOver p = s.switchLane (p / 4) c := by
  subst hc
  exact if_pos ⟨hp, hl⟩

variable {x : Nat} (hc : s.quadCal q = c) (hx : (if c.ret then 192 + q else c.lane) = x)
include hc hx

/-- DETACH waits while the relieved lane's buffer holds an edge. -/
theorem detachDone_waits (hbuf : 1600 * s.time < Tab.get 0 s.tb.bufs x) : detachDone q s = s := by
  subst hc hx
  exact if_neg fun ⟨_, h, _⟩ => absurd h (Nat.not_le.2 hbuf)

/-- Once it is empty and nothing of the lane is lost or held, a hand-over leaves the lane relieved and a return leaves the spare idle. -/
theorem detachDone_drained (hp : c.phase = .detach) (hbuf : Tab.get 0 s.tb.bufs x ≤ 1600 * s.time) (hloss : Tab.get none s.tb.loss x = none)
    (hheld : ∀ h ∈ Tab.get [] s.tb.held q, h.lane ≠ x) :
    detachDone q s =
      if c.ret then ((s.setLane (192 + q) 3 0).calEnd c.lane c.op 1).quadIdle q
      else ((s.setLane c.lane 2 (192 + q)).setQuadCal q { c with phase := .relieved }).nextChk q := by
  subst hc hx
  exact if_pos ⟨hp, hbuf, Option.isNone_iff_eq_none.2 hloss, List.all_eq_true.2 fun h hh => bne_iff_ne.2 (hheld h hh)⟩

end

/-! ### A service lane's pass (R124, R133) -/

/-- A histogram with the right shares and widths passes. -/
theorem State.passLane_passes {s : State} {l : Nat} {h : List Nat} (hd : (densityPass h).isSome = true) : (s.passLane l h).2 = true := by
  obtain ⟨t, ht⟩ := Option.isSome_iff_exists.1 hd
  simp only [State.passLane, ht]

/-- The pass of a service lane ends with what it found. -/
theorem calibrationPassEnd_service {s : State} {l : Nat} {h : List Nat} (hlo : 216 ≤ l) (hl : l < 221) (hst : s.laneState l = 2) :
    calibrationPassEnd l h s = (s.passLane l h).1.servicePass l (s.passLane l h).2 := by
  have hg : ¬ (221 ≤ l ∨ s.laneState l ≠ 2) := by simp [hl, hst]
  exact (if_neg hg).trans (if_pos hlo)

/-- Settles O19: VERIFY's verdict by difference and hold, DETACH by buffer and direction, and a service lane's pass. -/
theorem laneHandover : Obligations.LaneHandover := by
  unfold Obligations.LaneHandover
  refine ⟨fun s q c hc hp hd hh hend => ⟨_, rfl, next_congr ?switches⟩, fun s q c hc hp hd hh => next_congr ?holds,
    fun s p c hc hp hl => State.holdOver_switches hc hp hl,
    fun s q c hc hp hpairs hd hr => next_congr ((verifyEnd_over hc hp (.inl hpairs)).trans (State.verdict_abandons hd hr)),
    fun s q x c hc hp hx => ⟨fun hbuf hloss hheld => ?_, fun hbuf => next_congr (detachDone_waits hc hx hbuf)⟩,
    fun s l h hlo hl hst hd => ⟨_, _, rfl, rfl, next_congr ?pass⟩⟩
  case switches =>
    rw [verifyEnd_over hc hp (hend.imp_right .inl), State.verdict_agrees hd, hh]
    rfl
  case holds =>
    have hopen := Option.isSome_iff_ne_none.2 hh
    rw [verifyEnd_over hc hp (.inr (.inr hopen)), State.verdict_agrees hd, if_pos hopen]
  case pass =>
    rw [passEnd, calibrationPassEnd_service hlo hl hst, State.passLane_passes hd]
    rfl
  · have hdrained := detachDone_drained hc hx hp hbuf hloss hheld
    exact ⟨fun hr => next_congr (hdrained.trans (if_neg (by simp [hr]))), fun hr => next_congr (hdrained.trans (if_pos hr))⟩

end Sys2Proof.Machine
end

section
/-! Queues in use (R109, R133, R335, R348, R353, R354, R365, R370 to R372, R457): their consumers, settings and tests, EPOCH records and service
channels. -/

namespace Sys2Proof.Machine

/-! ### Consumers (R335, R370, R457) -/

section
variable {s t : State} {q : Nat} {p : Popped}

/-- The latch of BAR0 takes what the pop gives. -/
theorem State.barPop_of_popOnce (hp : s.popOnce q = (t, p)) :
    s.barPop q = ((((t.setRg .QUE_POP_W p.record.w0 0).setRg .QUE_POP_W p.record.w1 1).setRg .QUE_POP_W p.record.w2 2).setRg
      .QUE_POP_W p.record.w3 3).setRg .QUE_POP_STS (w32 (b2n (p.valid && p.eop) + 2 * b2n (! p.valid))) := by
  simp only [State.barPop, hp]

/-- The router keeps the records of a packet until its last, with which it passes them on. -/
theorem State.routerPop_data (hp : s.popOnce q = (t, p)) (hv : p.valid = true) (hd : p.data = true) :
    s.routerPop q =
      if p.eop then (t.setEng fun e => { e with parts := Tab.set [] e.parts q [] }).route (Tab.get [] t.eng.parts q ++ [p.record])
      else t.setEng fun e => { e with parts := Tab.set [] e.parts q (Tab.get [] t.eng.parts q ++ [p.record]) } := by
  have hg : ¬ (p.valid = false ∨ p.data = false) := by simp [hv, hd]
  simp only [State.routerPop, hp, if_neg hg]

/-- The memory ring's writer takes a whole packet, or pops nothing and shows its ring full. -/
theorem State.memPop_packet {u : State} {rs : List Rec} {ok : Bool} (hw : (s.ring (s.fd F.QUE_Q_CFG_cidx q)).writer = 256 + q)
    (hp : State.popPacket q 4200 s [] = (t, rs)) (hrs : rs ≠ []) (hr : t.ringWrite (s.fd F.QUE_Q_CFG_cidx q) rs = (u, ok)) :
    s.memPop q = if ok then u else (s.closeExtent (s.fd F.QUE_Q_CFG_cidx q)).ringFull (s.fd F.QUE_Q_CFG_cidx q) := by
  have hne : ¬ rs.isEmpty = true := by simpa using hrs
  simp only [State.memPop, hw, hp, hr, ne_eq, not_true_eq_false, if_false, if_neg hne]

variable (hq : q < 1280) (hon : s.domOn (58 + sliceOf q) = true)
include hq hon

/-- The router's own queues, where their slice is on. -/
theorem queuePop_router (hlo : 1024 ≤ q) (hhi : q < 1064) : queuePop q s = s.routerPop q := by
  have hg : ¬ (1280 ≤ q ∨ s.domOn (58 + sliceOf q) = false) := by simp [hq, hon]
  exact (if_neg hg).trans (if_pos ⟨hlo, hhi⟩)

/-- Any queue but the router's and the forwarders' goes to the consumer that QUE_Q_CFG names: an engine's port, a memory ring or BAR0. -/
theorem queuePop_consumer (hl : q < 1024 ∨ 1072 ≤ q) :
    (s.fd F.QUE_Q_CFG_cons q = 1 → ∀ t p, s.popOnce q = (t, p) → p.valid = true → queuePop q s = t.portTake q p.record) ∧
    (s.fd F.QUE_Q_CFG_cons q = 3 → queuePop q s = s.memPop q) ∧ (s.fd F.QUE_Q_CFG_cons q = 4 → queuePop q s = s.barPop q) := by
  have hg : ¬ (1280 ≤ q ∨ s.domOn (58 + sliceOf q) = false) := by simp [hq, hon]
  have hrtr : ¬ (1024 ≤ q ∧ q < 1064) := by omega
  have hfwd : ¬ (1064 ≤ q ∧ q < 1072) := by omega
  simp only [queuePop, if_neg hg, if_neg hrtr, if_neg hfwd]
  refine ⟨fun hc t p hp hv => ?_, fun hc => ?_, fun hc => ?_⟩
  · simp only [hc, hp, if_pos hv]
  · simp only [hc]
  · simp only [hc]

end

section
variable {s : State} {q : Nat} (hsel : s.fd F.QUE_POP_SEL_queue = q) (hs : s.dev.st = .run) (hon : s.domOn (58 + sliceOf q) = true)
include hsel hs hon

/-- A read of QUE_POP_W0 pops for BAR0 where the selected queue's consumer is BAR0, and else returns zero and sets wrong (R370). -/
theorem quePopW0Read_run (who : Requester) :
    quePopW0Read who s =
      if s.fd F.QUE_Q_CFG_cons q = 4 ∧ (q < 1024 ∨ 1072 ≤ q) then
        (s.barPop q).emit (.readData who (regAddr .QUE_POP_W 0 0) ((s.barPop q).rg .QUE_POP_W 0))
      else (s.setFd F.QUE_POP_STS_wrong 1).emit (.readData who (regAddr .QUE_POP_W 0 0) 0) := by
  subst hsel
  have hg : ¬ (s.dev.st = .boot ∨ s.dev.st = .powerup ∨ s.domOn (58 + sliceOf (s.fd F.QUE_POP_SEL_queue)) = false) := by simp [hs, hon]
  exact if_neg hg

end

/-! ### Settings (R371) -/

section
variable {s : State} {q : Nat} {w n : Word} (hlo : 1072 ≤ q) (hq : q < 1280) (hn : n = (s.putFields .QUE_Q_CFG w q).rg .QUE_Q_CFG q)
include hlo hq hn

/-- A write to a cross-island queue that is disabled takes effect; a memory ring is joined only by the enable. -/
theorem queQCfgWrite_disabled (he : natBit (s.rg .QUE_Q_CFG q).toNat 0 = false) (hring : bitsOf n 1 3 ≠ 3 ∨ natBit n.toNat 0 = false) :
    queQCfgWrite q w s = s.setRg .QUE_Q_CFG n q := by
  have hg : ¬ (1280 ≤ q ∨ (1024 ≤ q ∧ q < 1072)) := by omega
  have hxq : ¬ q < 1024 := by omega
  have hjoin : (natBit n.toNat 0 && bitsOf n 1 3 == 3) = false := by simpa [or_comm, imp_iff_not_or] using hring
  simp only [queQCfgWrite, if_neg hg, if_neg hxq, ← hn, he, hjoin, Bool.not_false, Bool.true_and, Bool.false_and, Bool.false_eq_true, if_false]

/-- A write to an enabled queue is ignored where it changes the binding and keeps the enable; where it only clears the enable, the queue leaves
its ring and the write takes effect. -/
theorem queQCfgWrite_enabled (he : natBit (s.rg .QUE_Q_CFG q).toNat 0 = true) :
    (natBit n.toNat 0 = true → bindBits n ≠ bindBits (s.rg .QUE_Q_CFG q) → queQCfgWrite q w s = s.setFd F.QUE_Q_STS_cfg_err 1 q) ∧
    (natBit n.toNat 0 = false → bindBits n = bindBits (s.rg .QUE_Q_CFG q) → queQCfgWrite q w s = (s.ringQuit q).setRg .QUE_Q_CFG n q) := by
  have hg : ¬ (1280 ≤ q ∨ (1024 ≤ q ∧ q < 1072)) := by omega
  have hxq : ¬ q < 1024 := by omega
  simp only [queQCfgWrite, if_neg hg, if_neg hxq, ← hn, he]
  refine ⟨fun hen hbind => ?_, fun hdis hbind => ?_⟩
  · simp [hen, hbind]
  · simp [hdis, hbind]

end

/-! ### Tests (R354, R372) -/

section
variable {s t : State} {q k n faulty : Nat}

/-- A test of an enabled queue is refused. -/
theorem queTest_enabled (he : s.bit F.QUE_Q_CFG_en q = true) : queTest q faulty s = s.queCmdSts q 1 2 := if_pos (.inr (.inr he))

/-- A test of a disabled local queue tells whether the queue is bad after it. -/
theorem queTest_local (hq : q < 1024) (he : s.bit F.QUE_Q_CFG_en q = false) (ht : s.testRows q faulty = t) :
    queTest q faulty s = t.queCmdSts q 1 (if (t.queue q).bad then 3 else 1) := by
  subst ht
  have hg : ¬ (1280 ≤ q ∨ (1024 ≤ q ∧ q < 1072) ∨ s.bit F.QUE_Q_CFG_en q = true) := by
    simp only [he, Bool.false_eq_true, or_false]
    omega
  exact if_neg hg

/-- Spares replace faulty rows while they last; with rows left over the queue is bad. -/
theorem State.testRows_faulty (hk : k = sliceOf q) (hn : n = s.fd F.QUE_SLICE_STS_spares k) (hf : faulty ≠ 0)
    (ht : t = ((s.setFd F.QUE_SLICE_STS_spares (n - min n faulty) k).setFd F.QUE_SLICE_STS_repaired
      (s.fd F.QUE_SLICE_STS_repaired k + min n faulty) k).assertOnce (270 + k)) :
    (n < faulty → s.testRows q faulty =
      ((t.setQueue q { t.queue q with bad := true }).setFd F.QUE_Q_STS_bad 1 q).raise 0x120 (unitOf 9 q) k true) ∧
    (faulty ≤ n → (t.queue q).bad = false → s.testRows q faulty = t) := by
  simp only [State.testRows, ← hk, ← hn, if_neg hf, ← ht]
  refine ⟨fun hlt => if_pos (by omega), fun hle hbad => ?_⟩
  rw [if_neg (by omega), if_neg (by simp [hbad])]

end

/-! ### Levels, drain and EPOCH records (R109, R353, R365) -/

section
variable {s : State}

theorem queLevel_formed (hen : s.bit F.QUE_SYSQ_LVL_en = true) (hon : s.queueOn (s.fd F.QUE_SYSQ_LVL_queue) = true) :
    queLevel s = (s.levelPkt 2).queCmdSts 0 2 1 := if_pos ⟨hen, hon⟩

theorem queLevel_refused (hen : s.bit F.QUE_SYSQ_LVL_en = false) : queLevel s = s.queCmdSts 0 2 2 := if_neg (by simp [hen])

/-- In HALT the drain ends with every queue flushed. -/
theorem queueDrainEnd_halt (hf : s.dev.finalDone = true) (hd : s.dev.drained = false) (hs : s.dev.st = .halt) :
    queueDrainEnd s = s.flushAll.setDev fun v => { v with drained := true } := if_pos ⟨hf, hd, .inl hs⟩

/-- Once the remote horizon has passed the first tick of the epoch, every active stream gets its EPOCH record. -/
theorem epochRecord_due {t : State} (hd : s.tb.epochDue = true) (hh : s.nowTick / epochTicks * epochTicks < s.hR)
    (ht : t = (s.setTb fun t => { t with epochDue := false }).closeAllSamples) :
    epochRecord s = (t.streamQueues.foldl (fun (u : State) q => (u.pushPkt q prodRouter .rtr [t.epochRec]).1) t).acqEpoch t.epochRec := by
  subst ht
  exact if_pos ⟨hd, hh⟩

end

/-! ### Cross-island queues (R348) -/

section
variable {s : State} {q : Nat} {u : Queue} (hlo : 1024 ≤ q) (hq : q < 1280) (hu : s.queue q = u)
include hlo hq hu

theorem xqCommitVisible_next (hv : u.vis < u.pkts.length) : xqCommitVisible q s = s.setQueue q { u with vis := u.vis + 1 } := by
  subst hu
  exact if_pos ⟨hlo, hq, hv⟩

theorem xqFreeVisible_next (hh : 0 < u.hidden) : xqFreeVisible q s = s.setQueue q { u with hidden := u.hidden - 1 } := by
  subst hu
  exact if_pos ⟨hlo, hq, hh⟩

end

/-! ### Service channels (R132, R133) -/

section
variable {s : State} {i t : Nat}

/-- Well below its end the counter of a service channel counts an edge and raises nothing. -/
theorem State.countService_below (h : s.pair .TB_SVC_CNT_LO .TB_SVC_CNT_HI i < 2 ^ 64 - 2) :
    s.countService i t =
      (s.setPair .TB_SVC_CNT_LO .TB_SVC_CNT_HI (s.pair .TB_SVC_CNT_LO .TB_SVC_CNT_HI i + 1) i).noteCount (192 + i) t 1 := by
  have hend : ¬ s.pair .TB_SVC_CNT_LO .TB_SVC_CNT_HI i = 2 ^ 64 - 1 := by omega
  have hlast : ¬ s.pair .TB_SVC_CNT_LO .TB_SVC_CNT_HI i + 1 = 2 ^ 64 - 1 := by omega
  rw [State.countService, if_neg hend, if_neg hlast]

/-- A transition is counted while the time base runs, and an edge of an enabled channel in RUN, but of a lane that calibrates. -/
theorem serviceTransition_counted {u : State} {slot code : Nat} (rising : Bool) (hi : i < 5) (hon : s.tb.on = true) (hp : s.dev.portsOff = false)
    (ht : t = s.stampOf (216 + i) (216 + i) s.time (slot % 4) (code % 256))
    (hu : ((s.setRg .TB_SVC_SER (s.rg .TB_SVC_SER i + 1) i).countService i t).svcRelease = u) :
    serviceTransition i rising slot code s =
      if natBit (s.fd F.TB_SVC_EN_en) i = true ∧ s.dev.st = .run ∧ s.laneState (216 + i) ≠ 2 then
        u.serviceEdge i t (1600 * s.time + 400 * (slot % 4))
          (mkRec 0x01 (0x60 + i) (b2n (! rising)) 0 (stamp t) (s.rg .TB_SVC_SER i).toNat)
      else u := by
  subst ht hu
  have hg : ¬ (5 ≤ i ∨ s.tb.on = false ∨ s.dev.portsOff = true) := by simp [hi, hon, hp]
  exact if_neg hg

end

/-- Settles O53: one lemma above for each command, by the queue's consumer, enable and rows; a service edge by the room in its lane's buffer. -/
theorem queueUse : Obligations.QueueUse := by
  unfold Obligations.QueueUse
  refine ⟨fun s t q p hq hon hp => ?pop, fun s t u q rs hl hon hc hw hp hrs => ?memory, fun s who q hsel hs hon => ?read,
    fun s q u hlo hq hu => ⟨fun hv => next_congr (xqCommitVisible_next hlo hq hu hv), fun hh => next_congr (xqFreeVisible_next hlo hq hu hh)⟩,
    fun s q w n hlo hq hn => ⟨fun he hring => next_congr (queQCfgWrite_disabled hlo hq hn he hring),
      fun he hen hbind => next_congr ((queQCfgWrite_enabled hlo hq hn he).1 hen hbind),
      fun he hdis hbind => next_congr ((queQCfgWrite_enabled hlo hq hn he).2 hdis hbind)⟩,
    fun s t q k n faulty hq he hk hn hf ht => ?test, fun s q faulty _ he => next_congr (queTest_enabled he),
    fun s => ⟨fun hen hon => next_congr (queLevel_formed hen hon), fun hen => next_congr (queLevel_refused hen),
      fun hf hd hs => next_congr (queueDrainEnd_halt hf hd hs), fun t hd hh ht => next_congr (epochRecord_due hd hh ht)⟩,
    fun s s0 u i slot code t ps r rising hi hon hp ht hs0 hcnt hps hr hu => ?service⟩
  case pop =>
    refine ⟨fun hl hc hv => next_congr ?_, fun hl hc => next_congr ?_, fun hlo hhi hv hd => ?_⟩
    · obtain ⟨hport, -, -⟩ := queuePop_consumer hq hon hl
      exact hport hc t p hp hv
    · obtain ⟨-, -, hbar⟩ := queuePop_consumer hq hon hl
      exact (hbar hc).trans (State.barPop_of_popOnce hp)
    · have hrouter := (queuePop_router hq hon hlo hhi).trans (State.routerPop_data hp hv hd)
      exact ⟨fun he => next_congr (hrouter.trans (if_pos he)), fun he => next_congr (hrouter.trans (if_neg (by simp [he])))⟩
  case memory =>
    obtain ⟨-, hmem, -⟩ := queuePop_consumer (by omega) hon (.inl hl)
    exact ⟨fun hr => next_congr ((hmem hc).trans (State.memPop_packet hw hp hrs hr)),
      fun hr => next_congr ((hmem hc).trans (State.memPop_packet hw hp hrs hr))⟩
  case read =>
    have hread := quePopW0Read_run hsel hs hon who
    exact ⟨fun hl hc => next_congr (hread.trans (if_pos ⟨hc, .inl hl⟩)), fun hc => next_congr (hread.trans (if_neg fun h => hc h.1))⟩
  case test =>
    obtain ⟨hover, hrepair⟩ := State.testRows_faulty hk hn hf ht
    refine ⟨fun hlt => ⟨_, rfl, next_congr (queTest_local hq he (hover hlt))⟩, fun hle hbad => next_congr ?_⟩
    rw [queTest_local hq he (hrepair hle hbad), if_neg (by simp [hbad])]
  case service =>
    subst hs0
    have hcount := serviceTransition_counted rising hi hon hp ht (by rw [State.countService_below hcnt, ← hu])
    subst hps hr
    refine ⟨fun hen hs hst => ?_, fun hen => next_congr (hcount.trans (if_neg (by simp [hen])))⟩
    have hedge := hcount.trans (if_pos ⟨hen, hs, hst⟩)
    exact ⟨fun hroom => next_congr (hedge.trans (if_pos hroom)), fun hroom => next_congr (hedge.trans (if_neg (Bool.eq_false_iff.1 hroom)))⟩

end Sys2Proof.Machine
end

section
/-! The words of an engine (R415, R416), and the histogram unit (R180, R413, R417). -/

namespace Sys2Proof.Machine

/-! ### Issue (R416) -/

section
variable {s u : State} {e x cls op w : Nat} {c d : Ctx} {f : State → Ctx → Nat → OpOut}

/-- What an op's answer makes of the state: the op's context gone on, or aborted. -/
def OpOut.act (o : OpOut) (s : State) (e x w : Nat) : State :=
  match o with
  | .ok s1 c1 => s1.setCtx e x (c1.advance w)
  | .abort b => s.abortCtx e x b
  | .abortIn s1 b => s1.abortCtx e x b

/-- A word that issues acts as its op answers: every earlier branch of `State.issue` is over. -/
theorem State.issue_of_issues (h : Issues s e x cls op w c) : s.issue cls op e x f = (f s c w).act s e x w := by
  obtain ⟨rfl, hcan, rfl, hlegal, rfl, rfl, hpred⟩ := h
  simp only [State.issue, hcan, hlegal, hpred, ne_eq, not_true_eq_false, or_self, Bool.true_eq_false, if_false]
  rfl

/-- An op that completes: its state, and its context gone on. -/
theorem State.issue_ok (h : Issues s e x cls op w c) (hf : f s c w = .ok u d) :
    s.issue cls op e x f = u.setCtx e x (d.advance w) := by
  rw [State.issue_of_issues h, hf, OpOut.act]

/-- An op that aborts its context. -/
theorem State.issue_abort {b : Bool} (h : Issues s e x cls op w c) (hf : f s c w = .abort b) :
    s.issue cls op e x f = s.abortCtx e x b := by
  rw [State.issue_of_issues h, hf, OpOut.act]

/-- A 64-bit result changes g[rd], the flags as the word's fl says, and of the state the counter of free values only. -/
theorem State.result_ok (s : State) (c : Ctx) (w : Nat) (r : BitVec 64) :
    ∃ n g, FlagsAfter w c.fl g (r == 0) r.msb ∧
      s.result c w r = .ok { s with freeCtr := n } { c.setR (wRd w) r with fl := g } := by
  cases hfl : wFl w with
  | false =>
    refine ⟨s.freeCtr, c.fl, ⟨fun _ => rfl, fun h => by simp [hfl] at h⟩, ?_⟩
    simp only [State.result, State.otherFlags, hfl, Bool.false_eq_true, if_false]
    rfl
  | true =>
    refine ⟨s.freeCtr + 1, c.fl.ofOther (r == 0) r.msb s.free.1, ⟨fun h => by simp [hfl] at h, fun _ => rfl⟩, ?_⟩
    simp only [State.result, State.otherFlags, hfl, if_true]
    rfl

/-- A word whose op answers a 64-bit result, free values drawn before it or not, writes it. -/
theorem writes_of_result {n : Nat} {r : BitVec 64} (h : Issues s e x cls op w c)
    (hf : f s c w = ({ s with freeCtr := n } : State).result c w r) :
    Writes s e x w c r (.next (s.issue cls op e x f)) := by
  obtain ⟨m, g, hg, hr⟩ := ({ s with freeCtr := n } : State).result_ok c w r
  exact ⟨m, g, hg, congrArg _ (State.issue_ok h (hf.trans hr))⟩

end

/-! ### The histogram unit (R180, R413) -/

section
variable {s : State} {e x w : Nat} {c : Ctx}

/-- HCFG with a width takes the origin and the width. -/
theorem engHcfg_width (hne : c.r (wRb w) ≠ 0) (h : Issues s e x 5 0 w c) :
    engHcfg e x s =
      s.setCtx e x (({ c with origin := (c.a w).toInt, width := (c.r (wRb w)).toNat } : Ctx).advance w) :=
  State.issue_ok h (if_neg hne)

/-- HCFG with a width of 0 aborts. -/
theorem engHcfg_zero (hz : c.r (wRb w) = 0) (h : Issues s e x 5 0 w c) : engHcfg e x s = s.abortCtx e x false :=
  State.issue_abort h (if_pos hz)

/-- With a width, the bin is the floor of R180 whatever the free value. -/
theorem binIndex_of_width {width : Nat} (hw : 0 < width) (free : Nat) (o : Int) (b : Nat) (v : Int) :
    binIndex free o width b v = (v - o) / width :=
  if_neg hw.ne'

section
variable {i : Int} (hw : 0 < c.width) (hi : i = ((c.a w).toInt - c.origin) / c.width) (h : Issues s e x 5 1 w c)
include hw hi h

/-- HADD of a value below the origin counts it in the underflow count. -/
theorem engHadd_below (hneg : i < 0) :
    engHadd e x s = ({ s with freeCtr := s.freeCtr + 1 } : State).setCtx e x
      (({ c with below := bump32 c.below, fl := c.fl.setSat (decide (c.below + 1 ≠ bump32 c.below)) } : Ctx).advance w) := by
  refine State.issue_ok h ?_
  simp only [binIndex_of_width hw, ← hi, if_pos hneg]
  rfl

/-- HADD of a value past the last bin counts it in the overflow count. -/
theorem engHadd_above (hpos : 0 ≤ i) (hover : (s.binCount c : Int) ≤ i) :
    engHadd e x s = ({ s with freeCtr := s.freeCtr + 1 } : State).setCtx e x
      (({ c with above := bump32 c.above, fl := c.fl.setSat (decide (c.above + 1 ≠ bump32 c.above)) } : Ctx).advance w) := by
  refine State.issue_ok h ?_
  simp only [binIndex_of_width hw, ← hi, if_neg hpos.not_gt, if_pos hover]
  rfl

/-- HADD of a value in the range counts it in its bin. -/
theorem engHadd_bin (hpos : 0 ≤ i) (hin : i < s.binCount c) :
    engHadd e x s = ({ s with freeCtr := s.freeCtr + 1 } : State).setCtx e x
      (({ c with bins := Tab.set 0 c.bins i.toNat (bump32 (Tab.get 0 c.bins i.toNat)),
                 fl := c.fl.setSat (decide (Tab.get 0 c.bins i.toNat + 1 ≠ bump32 (Tab.get 0 c.bins i.toNat))) } : Ctx).advance w) := by
  refine State.issue_ok h ?_
  simp only [binIndex_of_width hw, ← hi, if_neg hpos.not_gt, if_neg hin.not_ge]
  rfl

end

/-- HRD of a bin in the range answers its count; the free value that it draws is not used. -/
theorem engHrd_bin (hin : (c.a w).toNat < s.binCount c) (h : Issues s e x 5 2 w c) :
    Writes s e x w c (BitVec.ofNat 64 (Tab.get 0 c.bins (c.a w).toNat)) (.next (engHrd e x s)) :=
  writes_of_result h (if_pos hin)

/-- The sum that HRUO forms is the two halves side by side, where the lower fits its 32 bits. -/
theorem ofNat_counts {above below : Nat} (hb : below < 2 ^ 32) :
    BitVec.ofNat 64 (above * 2 ^ 32 + below) = BitVec.ofNat 32 above ++ BitVec.ofNat 32 below := by
  apply BitVec.eq_of_toNat_eq
  rw [BitVec.toNat_append, BitVec.toNat_ofNat, BitVec.toNat_ofNat, BitVec.toNat_ofNat, Nat.mod_eq_of_lt hb,
    ← Nat.shiftLeft_add_eq_or_of_lt hb, Nat.shiftLeft_eq]
  omega

/-- HRUO answers the overflow count above the underflow count. -/
theorem engHruo_counts (hb : c.below < 2 ^ 32) (h : Issues s e x 5 3 w c) :
    Writes s e x w c (BitVec.ofNat 32 c.above ++ BitVec.ofNat 32 c.below) (.next (engHruo e x s)) :=
  writes_of_result (n := s.freeCtr) h (congrArg (s.result c w) (ofNat_counts hb))

/-- HCLR clears the bins and both counts. -/
theorem engHclr_clears (h : Issues s e x 5 4 w c) :
    engHclr e x s = s.setCtx e x (({ c with bins := [], below := 0, above := 0 } : Ctx).advance w) :=
  State.issue_ok h rfl

end

/-- Settles O32: one lemma above for each op, and of HADD one for each place of its bin. -/
theorem engineHistogram : Obligations.EngineHistogram := by
  unfold Obligations.EngineHistogram
  exact fun s e x w c => ⟨fun hne h => next_congr (engHcfg_width hne h), fun hz h => next_congr (engHcfg_zero hz h),
    fun i hw hi hpos hin h => ⟨_, _, _, rfl, rfl, next_congr (engHadd_bin hw hi h hpos hin)⟩,
    fun i hw hi hneg h => ⟨_, _, _, rfl, rfl, next_congr (engHadd_below hw hi h hneg)⟩,
    fun i hw hi hover hpos h => ⟨_, _, _, rfl, rfl, next_congr (engHadd_above hw hi h hpos hover)⟩,
    engHrd_bin, fun h hb => engHruo_counts hb h, fun h => next_congr (engHclr_clears h)⟩

end Sys2Proof.Machine
end

section
/-! The commands of the tallies (R191, R207, R231, R233) and of the Ledger: checkpoints, the hold and migrations (R208, R211, R213, R218,
R225 to R229, R233). -/

namespace Sys2Proof.Machine

/-! ### TLY_CFG and TLY_Q (R191, R231) -/

section
variable {s : State} {sl : Nat}

/-- A slot that no task binds takes the write. -/
theorem tlyCfgWrite_free (hsl : sl < nSlots) (hb : s.bit F.TLY_FLG_bound sl = false) (isQ : Bool) (v : Nat) :
    tlyCfgWrite sl isQ v s = if isQ then s.setPair .TLY_Q_LO .TLY_Q_HI v sl else s.setRg .TLY_CFG (w32 (v % 8)) sl := by
  rw [tlyCfgWrite, if_neg hsl.not_ge, if_neg (Bool.eq_false_iff.1 hb)]

theorem tlyCfgWrite_bound (hsl : sl < nSlots) (hb : s.bit F.TLY_FLG_bound sl = true) (isQ : Bool) (v : Nat) :
    tlyCfgWrite sl isQ v s = s.setFd F.TLY_FLG_cfg_err 1 sl := by
  rw [tlyCfgWrite, if_neg hsl.not_ge, if_pos hb]

/-! ### TLY_CMD (R207, R231) -/

/-- The latch is cleared where no cause holds. -/
theorem clearInexact_clears (hsl : sl < nSlots) (hc : s.causeHolds sl = false) :
    clearInexact sl s = ((s.setRg .TLY_FLG (setBits (s.rg .TLY_FLG sl) 0 8 0) sl).writeLatches).tlyCmdSts sl 1 1 :=
  if_neg (not_or.2 ⟨hsl.not_ge, Bool.eq_false_iff.1 hc⟩)

theorem clearInexact_refused (h : nSlots ≤ sl ∨ s.causeHolds sl = true) : clearInexact sl s = s.tlyCmdSts sl 1 2 := if_pos h

/-- ZERO and PRESET write N_total of a slot that no task binds. -/
theorem tlyTotals_free (hsl : sl < nSlots) (hb : s.bit F.TLY_FLG_bound sl = false) :
    tlyZero sl s = ((s.setPair .TLY_NT_LO .TLY_NT_HI 0 sl).writeLatches).tlyCmdSts sl 2 1 ∧
    tlyPreset sl s =
      ((s.setPair .TLY_NT_LO .TLY_NT_HI (s.pair .TLY_PRESET_LO .TLY_PRESET_HI) sl).writeLatches).tlyCmdSts sl 3 1 := by
  have hfree : ¬ (nSlots ≤ sl ∨ s.bit F.TLY_FLG_bound sl = true) := not_or.2 ⟨hsl.not_ge, Bool.eq_false_iff.1 hb⟩
  exact ⟨if_neg hfree, if_neg hfree⟩

theorem tlyTotals_refused (h : nSlots ≤ sl ∨ s.bit F.TLY_FLG_bound sl = true) :
    tlyZero sl s = s.tlyCmdSts sl 2 2 ∧ tlyPreset sl s = s.tlyCmdSts sl 3 2 := ⟨if_pos h, if_pos h⟩

end

/-- Settles O12: the slot is bound or not. -/
theorem tallySetup : Obligations.TallySetup := by
  unfold Obligations.TallySetup
  exact fun s sl v hsl => ⟨fun hb => ⟨next_congr (tlyCfgWrite_free hsl hb false v), next_congr (tlyCfgWrite_free hsl hb true v)⟩,
    fun hb isQ => next_congr (tlyCfgWrite_bound hsl hb isQ v)⟩

/-- Settles O13: one lemma above for where the commands act, and one for where they are refused. -/
theorem tallyCommands : Obligations.TallyCommands := by
  unfold Obligations.TallyCommands
  refine ⟨fun s sl hsl hc => next_congr (clearInexact_clears hsl hc), fun s sl hsl hb => ?free,
    fun s sl _ hc => next_congr (clearInexact_refused (.inr hc)), fun s sl _ hb => ?bound,
    fun s sl hsl => ⟨next_congr (clearInexact_refused (.inl hsl)), ?reserved⟩⟩
  case free =>
    obtain ⟨hzero, hpreset⟩ := tlyTotals_free hsl hb
    exact ⟨next_congr hzero, next_congr hpreset⟩
  case bound =>
    obtain ⟨hzero, hpreset⟩ := tlyTotals_refused (.inr hb)
    exact ⟨next_congr hzero, next_congr hpreset⟩
  case reserved =>
    obtain ⟨hzero, hpreset⟩ := tlyTotals_refused (s := s) (.inl hsl)
    exact ⟨next_congr hzero, next_congr hpreset⟩

/-! ### Checkpoints and the hold (R211, R213, R218) -/

section
variable {s : State} {k : Ckpt}

/-- A checkpoint that falls due begins where none is being written. -/
theorem State.dueCkpt_begins (hw : s.ldg.wr = none) (cmd : Bool) : s.dueCkpt cmd = s.beginCkpt 1 0 cmd := by rw [State.dueCkpt, hw]

/-- A checkpoint that falls due waits for the end of the one being written. -/
theorem State.dueCkpt_waits (hw : s.ldg.wr = some k) (cmd : Bool) :
    s.dueCkpt cmd = { s with ldg := { s.ldg with due := s.ldg.due ++ [cmd] } } := by rw [State.dueCkpt, hw]

theorem periodicCheckpoint_due (hrun : s.dev.st = .run) (ht : s.ldg.lastDue + msTicks (s.fd F.LDG_CTL_interval) ≤ s.time) :
    periodicCheckpoint s = ({ s with ldg := { s.ldg with lastDue := s.time } } : State).dueCkpt false := if_pos ⟨hrun, ht⟩

theorem checkpointCmd_accepted (hwatch : s.dev.st ≠ .watch) (hhalt : s.dev.st ≠ .halt) :
    checkpointCmd s = (s.dueCkpt true).ldgCmdSts 1 0 := if_neg (not_or.2 ⟨hwatch, hhalt⟩)

theorem releaseHold_held (hh : s.bit F.LDG_STS_hold = true) :
    releaseHold s = ((s.setFd F.LDG_STS_hold 0).ldgCmdSts 2 0).assertOnce 281 := if_pos hh

end

/-! ### Migrations (R208, R225 to R229) -/

section
variable {s : State} {b p : Nat} {w : List Nat} {m : Migration}

/-- The oldest request starts on the next spare. -/
theorem migrationStart_copies (hm : s.ldg.mig = none) (hq : s.ldg.migQ = b :: w) (ht : s.ldg.migTarget = 0) (hstop : s.ldg.migStop = false)
    (hsp : s.fd F.LDG_SPARE_spares ≠ 0) (hp : s.nextSpare = some p) :
    migrationStart s = (({ s with ldg := { s.ldg with migQ := w, migTarget := 0 } } : State).migCopy b p 0).assertOnce 282 := by
  have hgo : ¬ (s.ldg.migStop = true ∨ (s.ldg.migTarget ≠ 0 ∧ s.dev.st ≠ .run)) := by simp [hstop, ht]
  have hnext : ({ s with ldg := { s.ldg with mig := none, migQ := w, migTarget := 0 } } : State).nextSpare = some p := hp
  simp only [migrationStart, hm, hq, if_neg hgo, if_neg hsp, if_pos ht, hnext]

/-- After a power-fail warning a migration stays where it is (R222). -/
theorem migrationDone_stopped (hm : s.ldg.mig = some m) (hstop : s.ldg.migStop = true) (ok : Bool) : migrationDone ok s = s := by
  simp only [migrationDone, hm, hstop, if_true]

/-- The third target that fails to verify ends the migration. -/
theorem migrationDone_failed (hm : s.ldg.mig = some m) (hstop : s.ldg.migStop = false) (ht : 2 ≤ m.tries) :
    migrationDone false s = ((s.useSpare m.target).migClear).raise 0x023 (unitOf 1 m.lblock) m.target := by
  simp only [migrationDone, hm, hstop, Bool.false_eq_true, if_false, if_pos ht]

/-- Step COMMIT (R226): the block's line of the map, and the map itself. -/
def State.migCommit (s : State) (m : Migration) : State :=
  let s1 := s.writeRoot (s.ldg.mapNext % 256) (leBytes 4 m.lblock ++ leBytes 4 m.target ++ leBytes 4 (s.ldg.mapNext + 1))
  { s1 with ldg := { s1.ldg with
    bmap := Tab.set 0 s.ldg.bmap m.lblock (m.target + 1), mapNext := s.ldg.mapNext + 1,
    corrected := Tab.set 0 s.ldg.corrected m.lblock 0, migEnd := some (m.lblock, m.target, s.time) } }

/-- A verified migration takes the steps COMMIT and RETIRE and leaves the stage. -/
theorem migrationDone_verified (hm : s.ldg.mig = some m) (hstop : s.ldg.migStop = false) :
    migrationDone true s = ((s.migCommit m).retireBlock m.lblock (s.physBlock m.lblock) m.target).migClear := by
  simp only [migrationDone, hm, hstop, Bool.false_eq_true, if_false, if_true]
  rfl

end

/-- Settles O14: one lemma above for each event and command, and a checkpoint begins or waits by `State.dueCkpt`. -/
theorem ledgerCommands : Obligations.LedgerCommands := by
  unfold Obligations.LedgerCommands
  refine ⟨fun s u hrun hw ht hu => ?_, fun s k hrun hw ht => ?_, fun s hwatch hhalt hw => ?_, fun s k hwatch hhalt hw => ?_,
    fun s hh => next_congr (releaseHold_held hh),
    fun s b p w hm hq ht hstop hsp hp => next_congr (migrationStart_copies hm hq ht hstop hsp hp),
    fun s m hm hstop ht => next_congr (migrationDone_failed hm hstop ht),
    fun s m hm hstop ok => next_congr (migrationDone_stopped hm hstop ok),
    fun s m hm hstop => ⟨s.migCommit m, next_congr (migrationDone_verified hm hstop), rfl, rfl, rfl, rfl⟩⟩
  · subst hu
    exact next_congr ((periodicCheckpoint_due hrun ht).trans (State.dueCkpt_begins (by exact hw) false))
  · exact next_congr ((periodicCheckpoint_due hrun ht).trans (State.dueCkpt_waits (by exact hw) false))
  · exact next_congr ((checkpointCmd_accepted hwatch hhalt).trans (by rw [State.dueCkpt_begins hw]))
  · exact next_congr ((checkpointCmd_accepted hwatch hhalt).trans (by rw [State.dueCkpt_waits hw]))

end Sys2Proof.Machine
end

section
/-! The commands of a decimation context, and its coefficient registers (R265 to R279). -/

namespace Sys2Proof.Machine

/-! ### START (R265, R266, R276, R277) -/

section
variable {s : State} {n : Nat}

theorem State.decStart_notIdle (h : (s.dctx n).st ≠ 0) (p : Nat) : s.decStart n p = s.decDone n 2 := if_pos h

/-- A failing check is the result (R277). -/
theorem State.decStart_failing (h : (s.dctx n).st = 0) (hr : s.decCheck n (s.staged n) ≠ 1) (p : Nat) :
    s.decStart n p = s.decDone n (s.decCheck n (s.staged n)) := by
  rw [State.decStart, if_neg (not_not.2 h), if_pos hr]

/-- A context that begins from IDLE inherits no span. -/
theorem DecCtx.fresh_idle_spans (f : DecCfg) (t df : Nat) : (({ DecCtx.init with st := 1 } : DecCtx).fresh f t df).spans = [] := by
  unfold DecCtx.fresh
  split
  · rfl
  · rfl

/-- The staged copy starts at the first grid boundary at or after the later of the command's point and the source's horizon. -/
theorem State.decStart_armed {f : DecCfg} {p t : Nat} (h : (s.dctx n).st = 0) (hf : s.staged n = f) (hr : s.decCheck n f = 1)
    (ht : t = gridCeil (max p ((if f.kind = 1 ∧ isRemChan f.src = true then s.hR else s.hD) * 512))) :
    s.decStart n p =
      (s.setDctx n { (({ DecCtx.init with st := 1 } : DecCtx).fresh f t (s.bankDf f.bank)) with
        spans := ⟨0, t, some t, false⟩ :: s.muxSpan f t }).decDone n 1 := by
  subst hf ht
  rw [State.decStart, if_neg (not_not.2 h), if_neg (not_not.2 hr)]
  simp only [DecCtx.addSpan, DecCtx.fresh_idle_spans, List.nil_append, List.singleton_append]

end

/-! ### STOP and APPLY (R273, R276) -/

section
variable {s : State} {n : Nat}

theorem State.decStop_idle (h : (s.dctx n).st = 0) (p : Nat) : s.decStop n p = s.decDone n 2 := if_pos h

/-- An ARMED context that its stop point finds before its start never runs. -/
theorem State.decStop_armed {p : Nat} (h : (s.dctx n).st = 1) (hp : gridCeil p ≤ (s.dctx n).anchor) :
    s.decStop n p = (s.setDctx n DecCtx.init).decDone n 1 := by
  rw [State.decStop, if_neg (by simp [h]), if_pos ⟨h, hp⟩]

/-- A running context stops at a grid boundary that it has not passed, and its waiting request is discarded. -/
theorem State.decStop_running (h : (s.dctx n).st = 2) (p : Nat) :
    s.decStop n p = (s.decDone n 1).setDctx n { s.dctx n with
      stopAt := some (max (gridCeil p) ((s.dctx n).anchor + (s.dctx n).i * gridFu)), req := none } := by
  rw [State.decStop, if_neg (by simp [h]), if_neg (by simp [h])]

theorem State.decApply_refused (h : (s.dctx n).st ≠ 2 ∨ (s.dctx n).apply ≠ none) (p tag : Nat) : s.decApply n p tag = s.decDone n 2 := by
  rw [← Option.isSome_iff_ne_none] at h
  exact if_pos h

/-- The staged copy that passes the checks waits for its grid boundary. -/
theorem State.decApply_waits (h : (s.dctx n).st = 2) (ha : (s.dctx n).apply = none) (hr : s.decCheck n (s.staged n) = 1) (p tag : Nat) :
    s.decApply n p tag = (s.setDctx n { s.dctx n with apply := some ⟨s.staged n, gridCeil p, tag⟩ }).decDone n 1 := by
  rw [State.decApply, if_neg (by simp [h, ha]), if_neg (not_not.2 hr)]

end

/-! ### FADE (R269, R271, R273) -/

section
variable {s : State} {n b code p tag : Nat}

/-- The checks that come before the one on D_f, passed. -/
structure FadeNamed (s : State) (n b code : Nat) : Prop where
  code_le : code ≤ 11
  running : (s.dctx n).st = 2
  bank : b / 64 = decBank n
  valid : s.bankValid b = true

/-- A fade names a bank whose D_f is that of the bank then current (R269). -/
theorem State.decFade_otherDf (h : FadeNamed s n b code) (hc : code ≠ 0) (hd : s.bankDf b ≠ s.bankDf (s.bankThen (s.dctx n) p)) :
    s.decFade n b code p tag = s.decDone n 7 := by
  rw [State.decFade, if_neg (by simp [h.code_le]), if_neg (by simp [h.running]), if_neg (by simp [h.bank, h.valid]), if_pos ⟨hc, hd⟩]

/-- A request that passes takes the slot; one that it finds there is counted as replaced (R271). -/
theorem State.decFade_takesSlot (h : FadeNamed s n b code) (hd : code = 0 ∨ s.bankDf b = s.bankDf (s.bankThen (s.dctx n) p)) :
    s.decFade n b code p tag =
      ((if (s.dctx n).req.isSome then s.addSat F.DEC_CTX_CNT_replaced 1 n else s).setDctx n
        { s.dctx n with req := some ⟨b, code, p, tag⟩ }).decDone n (if (s.dctx n).fade.isSome then 8 else 1) := by
  have hsame : ¬ (code ≠ 0 ∧ s.bankDf b ≠ s.bankDf (s.bankThen (s.dctx n) p)) := by tauto
  rw [State.decFade, if_neg (by simp [h.code_le]), if_neg (by simp [h.running]), if_neg (by simp [h.bank, h.valid]), if_neg hsame]

end

section
variable {s : State} {c : DecCtx} {p : Nat}

/-- With no APPLY waiting, the bank then current is the fade's, or else the present one. -/
theorem State.bankThen_noApply (h : c.apply = none) : s.bankThen c p = c.fade.elim c.cur Fade.bank := by
  simp only [State.bankThen, h]
  cases c.fade with
  | none => rfl
  | some g => rfl

/-- A waiting APPLY whose point comes no later brings its own bank (R273). -/
theorem State.bankThen_apply {a : DecApply} (h : c.apply = some a) (hp : a.point ≤ s.reqInstant c p) : s.bankThen c p = a.cfg.bank := by
  simp only [State.bankThen, h, if_pos hp]

end

/-! ### The coefficient registers (R268, R278, R279) -/

section
variable {s : State} {b : Nat}

theorem isPresetBank_eq_false (h : b % 64 < 60) : isPresetBank b = false := decide_eq_false (Nat.not_le.2 h)

/-- A bank that is neither preset nor in use takes a write. -/
theorem State.coefGuard_free (hb : b % 64 < 60) (hu : s.bankBusy b = false) (write : State → State) : s.coefGuard b write = write s := by
  simp only [State.coefGuard, isPresetBank_eq_false hb, hu, Bool.false_eq_true, if_false]

theorem State.coefGuard_preset (hb : 60 ≤ b % 64) (write : State → State) : s.coefGuard b write = s.coefErr F.DEC_COEF_STS_ro_err b :=
  if_pos (decide_eq_true hb)

end

section
variable {s : State} {b i : Nat} (hb : s.fd F.DEC_COEF_ADDR_bank = b)
include hb

/-- A write to DEC_COEF_DATA stores the low 24 bits at the index. -/
theorem decCoefDataAccess_write (hi : s.fd F.DEC_COEF_ADDR_index = i) (hw : b % 64 < 60) (hu : s.bankBusy b = false) (v : Word) :
    decCoefDataAccess (some v) s =
      (s.setDec fun d => { d with coefs := Tab.set 0 d.coefs (256 * b + i) (v.setWidth 24) }).incFd F.DEC_COEF_ADDR_index := by
  subst hb hi
  simp only [decCoefDataAccess, State.coefGuard_free hw hu, BitVec.ofNat_toNat]

/-- A header whose N and D_f are no reserved values is taken whole, and is valid. -/
theorem decCoefHdrWrite_valid {w : Word} (hw : b % 64 < 60) (hu : s.bankBusy b = false) (hn : 1 ≤ bitsOf w 0 9 ∧ bitsOf w 0 9 ≤ 256)
    (hf : 1 ≤ bitsOf w 16 5 ∧ bitsOf w 16 5 ≤ 16) :
    decCoefHdrWrite w s = s.setDec fun d => { d with
      hdrs := Tab.set 0 d.hdrs b (w32 (bitsOf w 0 9 + bitsOf w 16 5 * 65536 + 2147483648)) } := by
  subst hb
  simp only [decCoefHdrWrite, State.coefGuard_free hw hu, if_pos hn, if_pos hf, if_pos (And.intro hn.1 hf.1), Nat.reducePow]

theorem decCoefHdrWrite_preset (hp : 60 ≤ b % 64) (w : Word) :
    decCoefHdrWrite w s = (s.setFd F.DEC_COEF_STS_ro_err 1).assertOnce (254 + b / 64) := by
  subst hb
  simp only [decCoefHdrWrite, State.coefGuard_preset hp, State.coefErr]

end

/-- Settles O35: each command's guards pass or fail by its lemma above, and a request finds the slot and the fade as the hypotheses say. -/
theorem decimatorCommands : Obligations.DecimatorCommands := by
  unfold Obligations.DecimatorCommands
  refine ⟨?commands, ?fade, ?bank, ?registers⟩
  case commands =>
    rintro s n _ _ rfl rfl
    exact ⟨fun h hr => next_congr (State.decStart_failing h hr s.now), fun h hr => ⟨_, rfl, next_congr (State.decStart_armed h rfl hr rfl)⟩,
      fun h => next_congr (State.decStart_notIdle h s.now), fun h => next_congr (State.decStop_idle h s.now),
      fun h ht => next_congr (State.decStop_armed h ht), fun h => next_congr (State.decStop_running h s.now),
      fun h => next_congr (State.decApply_refused h s.now 0), fun h ha hr => next_congr (State.decApply_waits h ha hr s.now 0)⟩
  case fade =>
    rintro s n b code _ rfl hcode hst hbank hvalid
    have hnamed : FadeNamed s n b code := ⟨hcode, hst, hbank, hvalid⟩
    refine ⟨fun hf hr hd => next_congr ?_, fun hc hd => next_congr (State.decFade_otherDf hnamed hc hd), fun g r hf hr hd => next_congr ?_⟩
    · exact (State.decFade_takesSlot hnamed hd).trans (by simp [hf, hr])
    · exact (State.decFade_takesSlot hnamed hd).trans (by simp [hf, hr])
  case bank =>
    refine fun s c p => ⟨fun ha hf => ?_, fun g ha hf => ?_, fun a => State.bankThen_apply⟩
    · rw [State.bankThen_noApply ha, hf, Option.elim_none]
    · rw [State.bankThen_noApply ha, hf, Option.elim_some]
  case registers =>
    exact fun s v w b i hb hi => ⟨rfl, fun hw hu => ⟨next_congr (decCoefDataAccess_write hb hi hw hu v),
      fun hn hn' hf hf' => next_congr (decCoefHdrWrite_valid hb hw hu ⟨hn, hn'⟩ ⟨hf, hf'⟩)⟩,
      fun hp => next_congr (decCoefHdrWrite_preset hb hp w)⟩

end Sys2Proof.Machine
end

section
/-! A decimation context at work: its start, its grid intervals, its outputs, its fades and its packets (R237 to R275). -/

namespace Sys2Proof.Machine

/-! ### What finds nothing to do -/

section
variable {s : State} {n : Nat} {c : DecCtx}

/-- Closing leaves no packet open, and the context is otherwise the same (R275). -/
theorem State.closeSamples_ctx (s : State) (n : Nat) (c : DecCtx) : (s.closeSamples n c).2 = { c with pkt := none } := by
  unfold State.closeSamples
  split
  · rename_i h
    rw [← h]
  · rfl

theorem State.closeSamples_noPkt (h : c.pkt = none) : s.closeSamples n c = (s, c) := by
  simp only [State.closeSamples, h]

theorem State.settleRec_noSupp (h : c.supp = none) : s.settleRec n c = (s, c) := by
  simp only [State.settleRec, h]

theorem State.reqDue_noReq (h : c.req = none) : s.reqDue c = none := by
  simp only [State.reqDue, h]

/-- Without a fade, the accumulator is the current bank's (R257). -/
theorem State.accum_noFade (h : c.fade = none) : s.accum c = (c, s.fir c.cur c.d3, false) := by
  simp only [State.accum, h]

theorem State.reachSpans_noSpan (h : c.spans = []) (g : Nat) : s.reachSpans n g c = (s, c) := by
  cases c
  cases h
  rfl

theorem DecCtx.keepSpans_noSpan (h : c.spans = []) (t : Nat) : c.keepSpans t = c := by
  cases c
  cases h
  rfl

theorem State.openOos_noOos (h : s.oosNow c.cfg.src = none) : s.openOos c = c := by
  simp only [State.openOos, h]

end

/-! ### The start, a grid interval and a packet's time (R109, R237, R265, R275, R276) -/

section
variable {s u : State} {n : Nat} {c d : DecCtx} (hn : s.dctx n = c)
include hn

/-- An ARMED context whose time has come runs, its stream beginning with EPOCH. -/
theorem contextRun_due {v : State} (hst : c.st = 1) (ha : c.anchor ≤ s.now) (hl : s.decLive n = true)
    (hu : u = (s.pushPkt c.cfg.outq prodRouter .rtr [s.epochRec]).1)
    (hv : u.beginSupp n { c with st := 2, spans := c.spans.map fun w => if w.cause = 0 then { w with seen := true } else w } 0 = (v, d)) :
    contextRun n s = v.setDctx n d := by
  subst hn hu
  rw [contextRun, if_pos ⟨hst, ha, hl⟩]
  simp only [hv]

/-- A running context with no output, stop or APPLY due may take its next grid interval. -/
theorem State.beforeGrid_nothingDue (hst : c.st = 2) (ho : s.outputDue c = false) (hs : c.stopAt = none) (ha : c.apply = none) :
    s.beforeGrid n = (s, true) := by
  simp only [State.beforeGrid, hn, ho, hst, hs, State.tryApply, ha, Bool.false_eq_true, if_false, ne_eq, not_true_eq_false, or_self]

/-- An edge context with nothing due takes the next grid interval once its horizon has passed it. -/
theorem gridPointEval_takes (hst : c.st = 2) (hk : c.cfg.kind = 1) (hl : s.decLive n = true) (ho : s.outputDue c = false)
    (hstop : c.stopAt = none) (ha : c.apply = none) (hsp : c.spans = []) (hoos : s.oosNow c.cfg.src = none)
    (hg : c.gridPt (c.i + 1) ≤ (if isRemChan c.cfg.src then s.hR else s.hD) * 512) :
    gridPointEval n s = s.setDctx n ((s.resample c).1.feed (s.decD (s.resample c).1) (s.resample c).2) := by
  have hgo := State.beforeGrid_nothingDue hn hst ho hstop ha
  subst hn
  rw [gridPointEval, if_pos ⟨hst, hk, hl⟩]
  simp only [hgo, State.openOos_noOos hoos, State.reachSpans_noSpan hsp]
  exact if_pos ⟨trivial, hst, hk, hg⟩

/-- A packet open for 1 ms is closed. -/
theorem samplePacketTimeout_due {p : SamplePkt} (hp : c.pkt = some p) (ht : p.formed + 625000 ≤ s.time) (hu : s.closeSamples n c = (u, d)) :
    samplePacketTimeout n s = u.setDctx n d := by
  have hdue : p.formed + msTicks 1 ≤ s.time := ht
  simp only [samplePacketTimeout, hn, hp, if_pos hdue, hu]

end

/-! ### The resampler (R238, R239) -/

section
variable {s : State} {c : DecCtx}

theorem State.takeUpTo_noEdges (h : c.edges = []) (g u : Nat) : s.takeUpTo g u c = c := by
  cases c
  cases h
  rfl

/-- With no edge waiting, an interval changes nothing that the sample is taken from. -/
theorem State.takeInterval_noEdges (h : c.edges = []) (g : Nat) :
    (s.takeInterval c).noChain g = c.noChain g ∧ (s.takeInterval c).countAt g = c.countAt g ∧ (s.takeInterval c).cPrev = c.cPrev ∧
      (s.takeInterval c).excess = c.excess := by
  have hback : s.takeInterval c = { c with back := some ([], c.dirs) } := by
    rw [State.takeInterval, State.takeUpTo_noEdges h, State.takeUpTo_noEdges h, h]
    rfl
  rw [hback]
  exact ⟨rfl, rfl, rfl, rfl⟩

theorem State.chainStart_begun {v : Int} (h : c.cPrev = some v) : s.chainStart c = c := by
  simp only [State.chainStart, h]

/-- The sample is the growth of the count with the carried excess, held to 32 bits; what the hold takes away is carried on (R239). -/
theorem State.resample_counts {v x y : Int} (hv : c.cPrev = some v) (he : c.edges = []) (hn : c.noChain (c.gridPt (c.i + 1)) = false)
    (hx : x = c.countAt (c.gridPt (c.i + 1)) - v + c.excess) (hy : y = max (-(2 ^ 31)) (min (2 ^ 31 - 1) x)) :
    (s.resample c).2 = y ∧ (s.resample c).1.excess = x - y := by
  subst hy
  obtain ⟨hchain, hcount, hprev, hexcess⟩ := State.takeInterval_noEdges (s := s) he (c.gridPt (c.i + 1))
  simp only [State.resample, State.chainStart_begun hv, hchain, hn, hcount, hprev, hv, hexcess, Bool.false_eq_true, if_false,
    Option.getD_some, ← hx, true_and]
  split
  · rfl
  · rfl

end

/-! ### Outputs (R257 to R259, R261, R266, R275) -/

/-- One output on: its number is taken (R266). -/
def DecCtx.nextOutput (c : DecCtx) : DecCtx := { c with m := c.m + 1, seq := (c.seq + 1) % 2 ^ 32 }

section
variable {s : State} {n : Nat}

theorem outputInstant_due (ho : s.outputDue (s.dctx n) = true) (hl : s.decLive n = true) : outputInstant n s = s.output n := if_pos ⟨ho, hl⟩

/-- A suppression that runs counts the output and is otherwise as it was. -/
theorem State.suppressNow_running {c : DecCtx} (h : c.supp ≠ none) (t len : Nat) : s.suppressNow n c t len = (s, c.suppress t) := by
  simp only [State.suppressNow, if_pos (Option.isSome_iff_ne_none.2 h)]

theorem State.outValue_closed {c : DecCtx} {t : Nat} (h : c.openTo ≤ t) (a : Int) : s.outValue c t a = (s, a) := if_neg (Nat.not_lt.2 h)

/-- An int32 output is rounded half upward and held to 32 bits (R259). -/
theorem DecCfg.output_int {f : DecCfg} {a y z : Int} (hf : f.fmt = false) (hy : y = shiftUp a (f.shift 5))
    (hz : z = max (-(2 ^ 31)) (min (2 ^ 31 - 1) y)) : f.output a = (BitVec.ofInt 32 z, decide (y ≠ z)) := by
  subst hy hz
  rw [DecCfg.output, if_neg (Bool.eq_false_iff.1 hf)]
  rfl

end

section
variable {s u : State} {n : Nat} {c d : DecCtx} (hn : s.dctx n = c) (ho : s.outputDue c = true) (hr : c.req = none) (hf : c.fade = none)
include hn ho hr hf

/-- While outputs of a changed bank are suppressed, the next one is counted and not delivered. -/
theorem State.output_suppressed (hc : 0 < c.coefSup) (hu : s.suppressNow n c (s.nextInstant c) (s.outLen c) = (u, d)) :
    s.output n = u.setDctx n d.nextOutput := by
  simp only [State.output, hn, State.reqDue_noReq hr, ho, State.accum_noFade hf, hc, decide_true, Bool.true_or, Bool.not_true,
    Bool.false_eq_true, if_false, if_true, hu, DecCtx.nextOutput]

/-- An output that no suppression meets is delivered as a sample. -/
theorem State.output_delivered {s1 : State} {v : Int} {w : Word} {held : Bool} {fl : Nat} (hc : c.coefSup = 0) (hsp : c.spans = [])
    (hsu : c.supp = none) (hv : s.outValue c (s.nextInstant c) (s.fir c.cur c.d3) = (s1, v)) (hw : c.cfg.output v = (w, held))
    (hfl : fl = Nat.lor (s.sampleFlags c (s.nextInstant c) false) (16 * b2n held))
    (hu : s1.addSample n c (s.nextInstant c) fl w = (u, d)) :
    s.output n = (if natBit fl 4 then u.addSat F.DEC_CTX_CNT_sat 1 n else u).setDctx n d.nextOutput := by
  subst hfl
  have hdeliver : ¬ (decide (0 < c.coefSup) || c.spans.any fun w => w.covers (s.nextInstant c) (s.outLen c)) = true := by simp [hc, hsp]
  simp only [State.output, hn, State.reqDue_noReq hr, ho, Bool.not_true, Bool.false_eq_true, if_false, State.accum_noFade hf, if_neg hdeliver,
    hsu, Option.isSome_none, Bool.false_and, DecCtx.keepSpans_noSpan hsp, State.settleRec_noSupp hsu, hv, hw, hu, DecCtx.nextOutput]

end

/-! ### Fades (R269 to R271) -/

section
variable {s : State} {n : Nat} {r : FadeReq}

/-- The request in the slot that is due begins. -/
theorem fadeBegin_due {u : State} {c d : DecCtx} (hn : s.dctx n = c) (ho : s.outputDue c = true) (hl : s.decLive n = true)
    (hr : s.reqDue c = some r) (hu : s.beginReq n c r = (u, d)) : fadeBegin n s = u.setDctx n d := by
  subst hn
  simp only [fadeBegin, hr, if_pos (And.intro ho hl), hu]

/-- With no packet open, a SWITCH packet leaves the context as it is. -/
theorem State.decSwitch_noPkt {c : DecCtx} (h : c.pkt = none) (t kind old new tag : Nat) : (s.decSwitch n c t kind old new tag).2 = c := by
  simp only [State.decSwitch, State.closeSamples_noPkt h]

/-- A faded request outside a suppression starts its fade with the first output. -/
theorem State.beginReq_fades {c : DecCtx} (hb : r.bank ≠ c.cur) (hc : r.code ≠ 0) (hs : c.supp = none) (hp : c.pkt = none) :
    (s.beginReq n c r).2 = { c with req := none, fade := some ⟨r.bank, r.code + 1, 0⟩ } := by
  have hfaded : ¬ (r.code = 0 ∨ c.supp.isSome = true) := by simp [hc, hs]
  simp only [State.beginReq, if_neg hb, if_neg hfaded]
  rw [State.decSwitch_noPkt (by exact hp)]

end

/-- Settles O36: one lemma above for each event; where nothing else is due, `State.resample_counts` is the sample and
`State.output_delivered` or `State.output_suppressed` the output. -/
theorem decimatorRuns : Obligations.DecimatorRuns := by
  unfold Obligations.DecimatorRuns
  refine ⟨?start, ?grid, ?resampler, ?suppressed, ?delivered, ?fade, ?fadeBegins, ?timeout⟩
  case start =>
    exact fun s n c hn hst ha hl => ⟨_, _, _, rfl, Prod.mk.eta.symm, next_congr (contextRun_due hn hst ha hl rfl Prod.mk.eta.symm)⟩
  case grid =>
    exact fun s n c hn hst hk hl ho hstop ha hsp hoos hg => next_congr (gridPointEval_takes hn hst hk hl ho hstop ha hsp hoos hg)
  case resampler =>
    intro s c v hv he hn
    obtain ⟨hy, hx⟩ := State.resample_counts (s := s) hv he hn rfl rfl
    exact ⟨hy, by omega⟩
  case suppressed =>
    rintro s n _ rfl ho hl hr hf hc
    refine ⟨_, _, Prod.mk.eta.symm, fun hs => ?_, next_congr ((outputInstant_due ho hl).trans (State.output_suppressed rfl ho hr hf hc rfl))⟩
    rw [State.suppressNow_running hs]
    exact ⟨rfl, rfl⟩
  case delivered =>
    rintro s n _ rfl ho hl hr hf hc hsp hsu hfmt
    refine ⟨_, _, _, _, _, _, _, Prod.mk.eta.symm, fun h => ?_, rfl, rfl, rfl, rfl,
      next_congr ((outputInstant_due ho hl).trans (State.output_delivered rfl ho hr hf hc hsp hsu rfl (DecCfg.output_int hfmt rfl rfl) rfl rfl))⟩
    rw [State.outValue_closed h]
    exact ⟨rfl, rfl⟩
  case fade =>
    exact fun s u n c d r hn ho hl hr hu => next_congr (fadeBegin_due hn ho hl hr hu)
  case fadeBegins =>
    exact fun s n c r hf hb hc hs hp => ⟨_, Prod.ext rfl (State.beginReq_fades hb hc hs hp)⟩
  case timeout =>
    refine fun s u n c d p hn hp ht hu => ⟨next_congr (samplePacketTimeout_due hn hp ht hu), ?_⟩
    rw [← State.closeSamples_ctx s n, hu]

end Sys2Proof.Machine
end

section
/-! The commands of a Pip unit, and the point at which they act (R300, R301). -/

namespace Sys2Proof.Machine

/-! ### ENABLE, DISABLE, APPLY, SOFT (R301) -/

section
variable {s : State} {n : Nat}

/-- ENABLE of a unit that does not run is accepted where the staged copy passes the checks. -/
theorem State.pipEnable_accepted (hr : s.pipRunning n = false) (hc : s.pipCheck (s.pipStaged n) = 1) (at_ : Option Nat) (tag : Nat) :
    s.pipEnable n at_ tag = (s.pipAccept n 1 tag at_).pipResult n 1 := by
  simp only [State.pipEnable, hr, hc, Bool.false_eq_true, if_false, ne_eq, not_true_eq_false]

/-- A copy that fails the checks gives its result alone. -/
theorem State.pipEnable_failing (hr : s.pipRunning n = false) (hc : s.pipCheck (s.pipStaged n) ≠ 1) (at_ : Option Nat) (tag : Nat) :
    s.pipEnable n at_ tag = s.pipResult n (s.pipCheck (s.pipStaged n)) := by
  simp only [State.pipEnable, hr, Bool.false_eq_true, if_false, if_pos hc]

theorem State.pipEnable_running (hr : s.pipRunning n = true) (at_ : Option Nat) (tag : Nat) : s.pipEnable n at_ tag = s.pipResult n 2 := if_pos hr

theorem State.pipDisable_running (hr : s.pipRunning n = true) (at_ : Option Nat) (tag : Nat) :
    s.pipDisable n at_ tag = (s.pipAccept n 2 tag at_).pipResult n 1 := if_pos hr

theorem State.pipDisable_off (hr : s.pipRunning n = false) (at_ : Option Nat) (tag : Nat) : s.pipDisable n at_ tag = s.pipResult n 2 :=
  if_neg (Bool.eq_false_iff.1 hr)

/-- APPLY of a unit that runs is accepted where the staged copy passes the checks. -/
theorem State.pipApply_accepted (hr : s.pipRunning n = true) (hc : s.pipCheck (s.pipStaged n) = 1) (at_ : Option Nat) (tag : Nat) :
    s.pipApply n at_ tag = (s.pipAccept n 3 tag at_).pipResult n 1 := by
  simp only [State.pipApply, hr, hc, Bool.true_eq_false, if_false, ne_eq, not_true_eq_false]

theorem State.pipApply_off (hr : s.pipRunning n = false) (at_ : Option Nat) (tag : Nat) : s.pipApply n at_ tag = s.pipResult n 2 := if_pos hr

theorem State.pipSoft_off (hr : s.pipRunning n = false) (mask : Nat) (at_ : Option Nat) : s.pipSoft n mask at_ = s.pipResult n 2 := if_pos hr

/-- Whether `mask` names a used SOFT condition of a configuration. -/
def PipCfg.softIn (c : PipCfg) (mask : Nat) : Bool := c.used.any fun k => natBit mask k && (c.cond k).kind == 6

/-- A running unit takes a SOFT command that meets one of its conditions as an input. -/
theorem State.pipSoft_taken {mask : Nat} (hr : s.pipRunning n = true) (hm : (s.pipCfgNext n).softIn mask = true) (at_ : Option Nat) :
    s.pipSoft n mask at_ = (s.setPip n ((s.pip n).take ⟨s.pipPoint n at_, 9, 0, .soft mask⟩)).pipResult n 1 :=
  (if_neg (by simp [hr])).trans (if_pos hm)

/-- A SOFT command that meets no condition gives 5. -/
theorem State.pipSoft_unmet {mask : Nat} (hr : s.pipRunning n = true) (hm : (s.pipCfgNext n).softIn mask = false) (at_ : Option Nat) :
    s.pipSoft n mask at_ = s.pipResult n 5 :=
  (if_neg (by simp [hr])).trans (if_neg (Bool.eq_false_iff.1 hm))

/-! ### Points (R300) -/

/-- Where Pip units do not judge, no point is reached. -/
theorem pipPointReached_held (h : s.pipLive = false) : pipPointReached n s = s := if_neg (Bool.eq_false_iff.1 h)

/-- The only waiting command acts where its point is reached. -/
theorem pipPointReached_due {c : PipCmd} (hl : s.pipLive = true) (hc : (s.pip n).cmds = [c]) (hd : s.pipDue n c = true) :
    pipPointReached n s = (s.setPip n { s.pip n with cmds := [] }).pipEffect n c := by
  rw [pipPointReached, if_pos hl, hc]
  simp only [List.length_singleton, State.pipPoints, hc, if_pos hd]

/-- It keeps waiting where its point is not reached. -/
theorem pipPointReached_early {c : PipCmd} (hl : s.pipLive = true) (hc : (s.pip n).cmds = [c]) (hd : s.pipDue n c = false) :
    pipPointReached n s = s := by
  rw [pipPointReached, if_pos hl, hc]
  simp only [List.length_singleton, State.pipPoints, hc, if_neg (Bool.eq_false_iff.1 hd)]

end

/-- Settles O41: the unit's registers answer, then one lemma above for each command, by whether the unit runs and what its checks say; a
point is reached or not. -/
theorem pipCommands : Obligations.PipCommands := by
  unfold Obligations.PipCommands
  refine ⟨fun s n nm hu => ⟨?enable, ?apply, ?disable, ?enableRunning, ?off, ?enableFailing, ?softTaken, ?softUnmet⟩, ?waits, ?point⟩
  case enable => exact fun hr hc => next_congr ((if_pos hu).trans (State.pipEnable_accepted hr hc _ _))
  case apply => exact fun hr hc => next_congr ((if_pos hu).trans (State.pipApply_accepted hr hc _ _))
  case disable => exact fun hr => next_congr ((if_pos hu).trans (State.pipDisable_running hr _ _))
  case enableRunning => exact fun hr => next_congr ((if_pos hu).trans (State.pipEnable_running hr _ _))
  case off =>
    exact fun hr => ⟨next_congr ((if_pos hu).trans (State.pipDisable_off hr _ _)), next_congr ((if_pos hu).trans (State.pipApply_off hr _ _)),
      fun m => next_congr ((if_pos hu).trans (State.pipSoft_off hr m _))⟩
  case enableFailing => exact fun hr hc => next_congr ((if_pos hu).trans (State.pipEnable_failing hr hc _ _))
  case softTaken => exact fun m hr hm => next_congr ((if_pos hu).trans (State.pipSoft_taken hr hm _))
  case softUnmet => exact fun m hr hm => next_congr ((if_pos hu).trans (State.pipSoft_unmet hr hm _))
  case waits => exact fun s n op tag at_ hl => ⟨_, rfl, pipPointReached_held (by exact hl)⟩
  case point =>
    exact fun s n c hl hc => ⟨fun hd => next_congr (pipPointReached_due hl hc hd), fun hd => next_congr (pipPointReached_early hl hc hd)⟩

end Sys2Proof.Machine
end

section
/-! The judgement of a Pip unit, tick by tick, and line events (R286 to R291, R297). -/

namespace Sys2Proof.Machine

/-! ### The next tick with something in it (R286, R291) -/

/-- Inputs that start at or after the first tick not judged all stay. -/
theorem Pip.dropPast_same {u : Pip} (h : ∀ e ∈ u.items.head?, u.j ≤ e.time / 512) :
    u.items.dropWhile (fun e => decide (e.time / 512 < u.j)) = u.items := by
  cases hi : u.items with
  | nil => rfl
  | cons e r =>
    have he : u.j ≤ e.time / 512 := h e (by rw [hi, List.head?_cons]; rfl)
    exact List.dropWhile_cons_of_neg (by simpa using he)

theorem Pip.with_same {u : Pip} {c : Option PipCfg} {l : List PipCmd} (hcfg : u.cfg = c) (hc : u.cmds = l) : { u with cfg := c, cmds := l } = u := by
  subst hcfg hc
  rfl

section
variable {s : State} {n : Nat} {cfg : PipCfg} (hcfg : (s.pip n).cfg = some cfg) (hl : s.pipLive = true) (hc : (s.pip n).cmds = [])
  (hpast : ∀ e ∈ (s.pip n).items.head?, (s.pip n).j ≤ e.time / 512) (hj : (s.pip n).j < s.pipJ cfg / 512)
include hcfg hl hc hpast hj

/-- With no waiting command and no input before the first tick not judged, the first tick in which something lies is judged where J has
passed it; up to J, nothing else changes. -/
theorem pipJudgeTick_idle : pipJudgeTick n s = ((s.pip n).nextTick cfg).elim ((s.setPip n (s.pip n)).setJ n (s.pipJ cfg / 512)) fun T =>
    if T < s.pipJ cfg / 512 then (s.setPip n (s.pip n)).judgeTick n T (s.pipJ cfg / 512 * 512) cfg
    else (s.setPip n (s.pip n)).setJ n (s.pipJ cfg / 512) := by
  have hgo : ¬ (s.pipLive = false ∨ s.pipJ cfg / 512 ≤ (s.pip n).j) := by simp [hl, hj]
  simp only [pipJudgeTick, hcfg, Pip.dropPast_same hpast, hc, if_neg hgo, Pip.with_same hcfg hc]
  cases (s.pip n).nextTick cfg with
  | none => rfl
  | some T => rfl

end

/-- With no input and no auto trigger, nothing lies ahead. -/
theorem Pip.nextTick_none {u : Pip} {cfg : PipCfg} (hi : u.items = []) (ha : cfg.auto = false) : u.nextTick cfg = none := by
  simp only [Pip.nextTick, hi, ha, Bool.false_eq_true, false_and, if_false]

/-! ### One tick (R287, R288, R291), and a line event -/

section
variable {s : State} {n T lim : Nat} {cfg : PipCfg} {u v : Pip} {es : List PEv}
  (ht : Pip.tickEvents cfg T lim (s.pip n).items (s.pip n) [] = (u, es))
include ht

/-- A tick in which the expression is true triggers at the deciding event. -/
theorem State.judgeTick_triggers {e : PEv} (hx : u.expression cfg T es = (v, some e)) :
    s.judgeTick n T lim cfg = ((s.setPip n v).setJ n (T + 1)).fire n e.time (causeOf es) (some e) := by
  simp only [State.judgeTick, ht, hx]

/-- A tick without an event that decides triggers by AUTO where that is due in it. -/
theorem State.judgeTick_auto (hx : u.expression cfg T es = (v, none)) (ha : cfg.auto = true) (hT : (v.tref + cfg.tmo * 512) / 512 = T) :
    s.judgeTick n T lim cfg = ((s.setPip n v).setJ n (T + 1)).fire n (v.tref + cfg.tmo * 512) 0 none := by
  simp only [State.judgeTick, ht, hx, if_pos (And.intro ha hT)]

theorem State.judgeTick_quiet (hx : u.expression cfg T es = (v, none)) (ha : cfg.auto = false) :
    s.judgeTick n T lim cfg = (s.setPip n v).setJ n (T + 1) := by
  simp only [State.judgeTick, ht, hx, ha, Bool.false_eq_true, false_and, if_false]

end

/-- OR is decided by the first event (R288). -/
theorem Pip.expression_or {cfg : PipCfg} (h : cfg.op = 1) (u : Pip) (T : Nat) (es : List PEv) : u.expression cfg T es = (u, es.head?) := by
  simp only [Pip.expression, h]

/-- A line event in RUN is taken at its full time (R297). -/
theorem lineEvent_run {s : State} {l : Nat} (hl : l < 8) (hs : s.dev.st = .run) (t : Nat) : lineEvent l t s = (s.lineTaken l (s.fullTime t)).1 :=
  if_neg (not_or.2 ⟨Nat.not_le.2 hl, not_not.2 hs⟩)

/-- Settles O42: no input lies before the first tick not judged, so that the next tick with something in it is judged or there is none;
then the tick's expression decides. -/
theorem pipTriggers : Obligations.PipTriggers := by
  unfold Obligations.PipTriggers
  refine ⟨?empty, ?tick, ?judged, fun s l t hl hs => next_congr (lineEvent_run hl hs t)⟩
  case empty =>
    intro s n cfg hcfg hl hc hi ha hj
    exact next_congr (by rw [pipJudgeTick_idle hcfg hl hc (by simp [hi]) hj, Pip.nextTick_none hi ha, Option.elim_none])
  case tick =>
    intro s n T cfg e r hcfg hl hc hi he hT hlt hj
    exact next_congr (by rw [pipJudgeTick_idle hcfg hl hc (by simpa [hi] using he) hj, hT, Option.elim_some, if_pos hlt])
  case judged =>
    exact fun s n T lim cfg u v es ht => ⟨fun e hx => State.judgeTick_triggers ht hx, fun hx ha hT => State.judgeTick_auto ht hx ha hT,
      fun hx ha => State.judgeTick_quiet ht hx ha, fun hop => Pip.expression_or hop u T es⟩

end Sys2Proof.Machine
end

section
/-! The commands of an acquisition unit, its releases and its segments (R305 to R315, R320, R321, R326). -/

namespace Sys2Proof.Machine

/-- The point of a command: the one that it names, or the release point (R306). -/
def State.acqPoint (s : State) (a : Nat) (at_ : Option Nat) : Nat := match at_ with | some t => s.fullTime t | none => s.releasePoint a

/-! ### ARM, STOP (R306, R307, R320) -/

/-- The counts of a unit at zero, and its start point. -/
def State.acqClear (s : State) (a arm : Nat) : State :=
  (((((s.setRg .ACQ_SEGS 0 a).setRg .ACQ_SEG_RD 0 a).setPair .ACQ_LOST_LO .ACQ_LOST_HI 0 a).setRg .ACQ_SKIP 0 a).setRg .ACQ_OVW 0 a).setAcqU a
    { Acq.init with arm := arm }

/-- The slots and the control page of SEGMENT mode (R311, R312), or the unit's ring. -/
def State.acqTakeRegion (s : State) (a : Nat) : State :=
  if s.acqMode a = 0 then ((s.setFd F.ACQ_SLOTS_k (s.slotCount a) a).setRg .ACQ_SLOT_SZ (w32 (s.slotBytes a / 4096)) a).controlPage a
  else s.setWriter (s.acqRegion a) (1 + a)

section
variable {s : State} {a : Nat}

theorem State.acqArm_failing (h : s.acqCheck a ≠ 1) (at_ : Option Nat) : s.acqArm a at_ = s.acqResult a (s.acqCheck a) := if_pos h

/-- ARM starts at the tick boundary at or after its point. -/
theorem State.acqArm_passing (h : s.acqCheck a = 1) (at_ : Option Nat) :
    s.acqArm a at_ =
      (((s.acqClear a ((s.acqPoint a at_ + 511) / 512 * 512)).acqTakeRegion a).setFd F.ACQ_STS_state 1 a).acqResult a 1 :=
  if_neg (not_not.2 h)

theorem State.acqStop_idle (h : s.acqArmed a = false) (at_ : Option Nat) : s.acqStop a at_ = s.acqResult a 2 := if_pos h

theorem State.acqStop_armed (h : s.acqArmed a = true) (at_ : Option Nat) :
    s.acqStop a at_ = (s.acqStopAt a (s.acqPoint a at_) 2).acqResult a 1 := if_neg (by simp [h])

/-! ### The start point (R307) -/

/-- The state of a unit stands apart from its mode. -/
theorem State.acqMode_setState (h : s.Inv) (v : Nat) : (s.setFd F.ACQ_STS_state v a).acqMode a = s.acqMode a := by
  refine State.fd_setFd_ne h _ _ _ _ _ _ _ ?_
  show 0x810000 + 0x100 * a + 0 * 0 ≠ 0x810038 + 0x100 * a + 0 * 0
  omega

/-- At its point an ARMED unit that does not stream runs. -/
theorem acqArmPoint_runs (h : s.Inv) (hst : s.fd F.ACQ_STS_state a = 1) (hp : (s.acqU a).arm ≤ s.now) (hm : s.acqMode a ≠ 1) :
    acqArmPoint a s = s.setFd F.ACQ_STS_state 2 a := by
  simp only [acqArmPoint, if_pos (And.intro hst hp), State.acqMode_setState h, if_neg hm]

/-! ### Releases (R305, R308) -/

theorem acqRelease_run (h : s.fd F.ACQ_STS_state a = 2) : acqRelease a s = s.releaseOne a := if_pos (.inl h)

/-- The next packet is delivered, where no segment closes before it. -/
theorem State.releaseOne_packet {i : AItem} (ha : s.acqArmed a = true) (hn : s.acqNext a = some (.inl i)) (hd : s.segDue a i.due = none) :
    s.releaseOne a = ((s.setAcqU a { s.acqU a with buf := (s.acqU a).buf.drop 1 }).acqDeliver a i).acqTryStop a := by
  simp only [State.releaseOne, hn, itemDue, hd, ha, Bool.true_eq_false, if_false]

/-- The next trigger meets the segments of a unit that does not stream. -/
theorem State.releaseOne_trigger {t : ATrig} (ha : s.acqArmed a = true) (hn : s.acqNext a = some (.inr t))
    (hd : s.segDue a (some t.time) = none) (hm : s.acqMode a ≠ 1) :
    s.releaseOne a = ((s.setAcqU a { s.acqU a with trigs := (s.acqU a).trigs.drop 1 }).acqTrigger a t).acqTryStop a := by
  have hmode : (s.setAcqU a { s.acqU a with trigs := (s.acqU a).trigs.drop 1 }).acqMode a ≠ 1 := hm
  simp only [State.releaseOne, hn, itemDue, hd, ha, Bool.true_eq_false, if_false, if_neg hmode]

/-! ### Segments (R308 to R310, R313) -/

/-- A trigger inside a segment, or before the unit may open another, is skipped (R310). -/
theorem State.acqTrigger_skipped {t : ATrig} (harm : (s.acqU a).arm ≤ t.time) (h : (s.acqU a).seg ≠ none ∨ t.time < (s.acqU a).rearm) :
    s.acqTrigger a t = (s.setAcqU a { s.acqU a with skipped := (s.acqU a).skipped + 1 }).addSat F.ACQ_SKIP_skipped 1 a :=
  (if_neg (Nat.not_lt.2 harm)).trans (if_pos (h.imp_left Option.isSome_iff_ne_none.2))

/-- Outside SEGMENT mode, any other trigger opens a segment: there is no slot to wait for. -/
theorem State.acqTrigger_opens {t : ATrig} (harm : (s.acqU a).arm ≤ t.time) (hseg : (s.acqU a).seg = none) (hre : (s.acqU a).rearm ≤ t.time)
    (hm : s.acqMode a ≠ 0) : s.acqTrigger a t = s.openSegment a t := by
  have hskip : ¬ ((s.acqU a).seg.isSome = true ∨ t.time < (s.acqU a).rearm) := by simp [hseg, hre]
  exact (if_neg (Nat.not_lt.2 harm)).trans ((if_neg hskip).trans (if_neg fun h => hm h.1))

/-- A segment that is due closes, where nothing is left to release before it. -/
theorem segmentClose_due {t why : Nat} (hst : s.fd F.ACQ_STS_state a = 3) (hn : s.acqNext a = none) (hd : s.segDue a none = some (t, why)) :
    segmentClose a s = (s.closeSegment a t why).acqTryStop a := by
  simp only [segmentClose, if_neg (not_not.2 hst), hn, hd]

/-! ### ACQ_SEG_RD (R313, R326) -/

section
variable {v : Nat} (ha : a < 16) (hd : s.domOn 74 = true)
include ha hd

theorem acqSegRd_answers : ¬ (16 ≤ a ∨ s.domOn 74 = false) := by simp [ha, hd]

theorem acqSegRdWrite_taken (hv : v % 2 ^ 25 ≤ s.fd F.ACQ_SEGS_segs a) : acqSegRdWrite a v s = s.setFd F.ACQ_SEG_RD_consumed v a :=
  (if_neg (acqSegRd_answers ha hd)).trans (if_neg (Nat.not_lt.2 hv))

/-- A count beyond the segments written is flagged. -/
theorem acqSegRdWrite_beyond (hv : s.fd F.ACQ_SEGS_segs a < v % 2 ^ 25) : acqSegRdWrite a v s = s.setFd F.ACQ_STS_cfg_err 1 a :=
  (if_neg (acqSegRd_answers ha hd)).trans (if_pos hv)

end

theorem State.pipUnit_domOn (h : s.pipUnit a = true) : s.domOn 74 = true := (Bool.and_eq_true_iff.1 h).2

end

/-- Settles O44: the unit's registers answer, then one lemma above for each command and event, by the unit's state and what is due. -/
theorem acquisition : Obligations.Acquisition := by
  unfold Obligations.Acquisition
  refine ⟨fun s a nm hu => ⟨?failing, ?passing, ?stopIdle, ?stopArmed, ?armPoint, ?packet, ?trigger, ?close, ?taken, ?beyond⟩,
    fun s a t harm => ⟨State.acqTrigger_skipped harm, State.acqTrigger_opens harm⟩⟩
  case failing => exact fun hc => next_congr ((if_pos hu).trans (State.acqArm_failing hc _))
  case passing =>
    rintro _ hc rfl
    exact ⟨s.acqClear a _, (s.acqClear a _).acqTakeRegion a, rfl, rfl, next_congr ((if_pos hu).trans (State.acqArm_passing hc (s.acqAt a nm)))⟩
  case stopIdle => exact fun h => next_congr ((if_pos hu).trans (State.acqStop_idle h _))
  case stopArmed => exact fun h => next_congr ((if_pos hu).trans (State.acqStop_armed h (s.acqAt a nm)))
  case armPoint => exact fun h hst hp hm => next_congr ((if_pos hu).trans (acqArmPoint_runs h hst hp hm))
  case packet =>
    exact fun i hst ha hn hd => next_congr ((if_pos hu).trans ((acqRelease_run hst).trans (State.releaseOne_packet ha hn hd)))
  case trigger =>
    exact fun t hst ha hn hd hm => next_congr ((if_pos hu).trans ((acqRelease_run hst).trans (State.releaseOne_trigger ha hn hd hm)))
  case close => exact fun t why hst hn hd => next_congr ((if_pos hu).trans (segmentClose_due hst hn hd))
  case taken => exact fun v ha hv => next_congr (acqSegRdWrite_taken ha (State.pipUnit_domOn hu) hv)
  case beyond => exact fun v ha hv => next_congr (acqSegRdWrite_beyond ha (State.pipUnit_domOn hu) hv)

end Sys2Proof.Machine
end

section
/-! The event port of an engine, its output packets and the tally slot that it binds: microword class 6 (R191, R334, R340, R414, R417, R420,
R422, R423). -/

namespace Sys2Proof.Machine

/-! ### Words side by side -/

/-- The number of a pair of words is the two side by side, the first the low one. -/
theorem ofNat_pairNat (lo hi : Word) : BitVec.ofNat 64 (pairNat lo hi) = hi ++ lo := by
  rw [pairNat, Nat.add_comm, Nat.mul_comm, ofNat_counts lo.isLt, BitVec.ofNat_toNat, BitVec.ofNat_toNat, BitVec.setWidth_eq, BitVec.setWidth_eq]

/-- The record of OUT: each of its words is half of a register (R423). -/
theorem outRecord_halves (a b : BitVec 64) :
    (⟨w32 a.toNat, loWord b.toNat, hiWord b.toNat, w32 (a.toNat / 2 ^ 32)⟩ : Rec) =
      ⟨a.extractLsb' 0 32, b.extractLsb' 0 32, b.extractLsb' 32 32, a.extractLsb' 32 32⟩ := by
  rw [← Nat.shiftRight_eq_div_pow]
  rfl

section
variable {s : State} {e x w : Nat} {c : Ctx}

/-! ### Events (R340, R420, R422) -/

/-- EVPOP with no output packet open blocks. -/
theorem engEvpop_blocks (h : Issues s e x 6 0 w c) (ho : c.opn = false) :
    engEvpop e x s = s.setCtx e x (({ c with blocked := true } : Ctx).advance w) :=
  State.issue_ok h (if_neg (by simp [ho]))

/-- EVPOP with an output packet open aborts. -/
theorem engEvpop_abort (h : Issues s e x 6 0 w c) (ho : c.opn = true) : engEvpop e x s = s.abortCtx e x false :=
  State.issue_abort h (if_pos ho)

/-- The fields of the current event, by the number that aux gives them. -/
theorem Ctx.evField_event {v : CEvent} (hv : c.ev = some v) :
    c.evField 0 = v.record.w0.toNat ∧ c.evField 1 = pairNat v.record.w1 v.record.w2 ∧ c.evField 2 = v.record.w3.toNat ∧
      c.evField 3 = v.roles ∧ c.evField 4 = v.sub ∧ c.evField 5 = v.drops := by
  simp only [Ctx.evField, hv, and_self]

/-- EVRD answers the field that aux names. -/
theorem engEvrd_field {k : Nat} {r : BitVec 64} (h : Issues s e x 6 1 w c) (hr : BitVec.ofNat 64 (c.evField k) = r) (hk : wAux w = k) :
    Writes s e x w c r (.next (engEvrd e x s)) := by
  subst hk
  exact writes_of_result (n := s.freeCtr) h (congrArg (s.result c w) hr)

/-- SKIP of a packet of which the port has popped no more skips in the queue of the event's subscription. -/
theorem engSkip_queue {v : CEvent} {k : Task} {u : Sub} (h : Issues s e x 6 2 w c) (hv : c.ev = some v) (ht : s.task c.task = some k)
    (hu : k.subs[v.sub]? = some u) (hr : c.rest = []) : engSkip e x s = (s.skipQ u.queue).setCtx e x (c.advance w) := by
  obtain ⟨hlt, hget⟩ := List.getElem?_eq_some_iff.1 hu
  refine State.issue_ok h ?_
  simp only [hv, ht, List.drop_eq_getElem_cons hlt, hget, hr, List.isEmpty_nil, if_true]

/-! ### Output packets (R334, R423) -/

/-- OUT pushes its record to the task's output queue; the packet stays open unless aux bit 0 ends it. -/
theorem engOut_push {k : Task} (h : Issues s e x 6 3 w c) (ht : s.task c.task = some k) :
    engOut e x s =
      (s.push k.outq (prodTask c.task) .eng
        ⟨(c.a w).extractLsb' 0 32, (c.r (wRb w)).extractLsb' 0 32, (c.r (wRb w)).extractLsb' 32 32, (c.a w).extractLsb' 32 32⟩
        (wAux w == 1)).1.setCtx e x (({ c with opn := ! (wAux w == 1) } : Ctx).advance w) := by
  refine State.issue_ok h ?_
  simp only [ht, outRecord_halves]

/-- OUTR rewinds the task's output queue. -/
theorem engOutr_rewinds {k : Task} (h : Issues s e x 6 4 w c) (ht : s.task c.task = some k) :
    engOutr e x s = (s.rewindQ k.outq (prodTask c.task)).setCtx e x (({ c with opn := false } : Ctx).advance w) := by
  refine State.issue_ok h ?_
  simp only [ht]

/-! ### Time and descriptors (R414, R417) -/

/-- TIME answers the time that aux names. -/
theorem engTime_field {k : Nat} (h : Issues s e x 6 5 w c) (hk : wAux w = k) :
    Writes s e x w c (BitVec.ofNat 64 (s.timeField (s.ctxDesc c) k)) (.next (engTime e x s)) := by
  subst hk
  exact writes_of_result (n := s.freeCtr) h rfl

/-- DESC answers two words of the task's descriptor, the first the low one. -/
theorem engDesc_words {k : Task} (h : Issues s e x 6 6 w c) (ht : s.task c.task = some k) :
    Writes s e x w c (nth 0 k.meas.desc (2 * wAux w + 1) ++ nth 0 k.meas.desc (2 * wAux w)) (.next (engDesc e x s)) := by
  refine writes_of_result (n := s.freeCtr) h (congrArg (s.result c w) ?_)
  simp only [State.ctxDesc, ht, dpair, ofNat_pairNat]

/-! ### The bound tally slot (R191) -/

/-- What TLYR reads of a slot: TLY_Q, TLY_CFG or TLY_FLG, by aux. -/
def State.tallyField (s : State) (sl k : Nat) : Nat :=
  match k with
  | 0 => s.quantum sl
  | 1 => (s.rg .TLY_CFG sl).toNat
  | _ => (s.rg .TLY_FLG sl).toNat

/-- What TLYW writes of a slot: TLY_NT, TLY_FRAC or TLY_FLG.tflags, by aux. -/
def State.writeTally (s : State) (sl v k : Nat) : State :=
  match k with
  | 0 => s.setPair .TLY_NT_LO .TLY_NT_HI v sl
  | 1 => s.setRg .TLY_FRAC (w32 v) sl
  | _ => s.setFd F.TLY_FLG_tflags v sl

theorem engTlyr_bound {sl k : Nat} {r : BitVec 64} (h : Issues s e x 6 7 w c) (hs : s.boundSlot c = some sl)
    (hr : BitVec.ofNat 64 (s.tallyField sl k) = r) (hk : wAux w = k) : Writes s e x w c r (.next (engTlyr e x s)) := by
  subst hk
  refine writes_of_result (n := s.freeCtr) h (Eq.trans ?_ (congrArg (s.result c w) hr))
  simp only [hs]
  rfl

theorem engTlyw_bound {sl k : Nat} (h : Issues s e x 6 8 w c) (hs : s.boundSlot c = some sl) (hk : wAux w = k) :
    engTlyw e x s = (s.writeTally sl (c.a w).toNat k).setCtx e x (c.advance w) := by
  subst hk
  refine State.issue_ok h ?_
  simp only [hs]
  rfl

theorem engTlyr_unbound (h : Issues s e x 6 7 w c) (hs : s.boundSlot c = none) : engTlyr e x s = s.abortCtx e x false := by
  refine State.issue_abort h ?_
  simp only [hs]

theorem engTlyw_unbound (h : Issues s e x 6 8 w c) (hs : s.boundSlot c = none) : engTlyw e x s = s.abortCtx e x false := by
  refine State.issue_abort h ?_
  simp only [hs]

end

/-- Settles O33: one lemma above for each op; where aux names a field, the lemma's field at that number. -/
theorem enginePort : Obligations.EnginePort := by
  unfold Obligations.EnginePort
  refine fun s e x w c => ⟨fun h ho => next_congr (engEvpop_blocks h ho), fun h ho => next_congr (engEvpop_abort h ho), ?evrd,
    fun v k u h hv ht hu hr => next_congr (engSkip_queue h hv ht hu hr), ?out, fun k h ht => next_congr (engOutr_rewinds h ht),
    fun h => ⟨engTime_field h, engTime_field h, engTime_field h, engTime_field h⟩, fun k h ht => engDesc_words h ht, ?tlyr, ?tlyw,
    fun hs => ⟨fun h => next_congr (engTlyr_unbound h hs), fun h => next_congr (engTlyw_unbound h hs)⟩⟩
  case evrd =>
    intro v h hv
    obtain ⟨h0, h1, h2, h3, h4, h5⟩ := Ctx.evField_event hv
    exact ⟨engEvrd_field h (by rw [h0, BitVec.ofNat_toNat]), engEvrd_field h (by rw [h1, ofNat_pairNat]),
      engEvrd_field h (by rw [h2, BitVec.ofNat_toNat]), engEvrd_field h (by rw [h3]), engEvrd_field h (by rw [h4]),
      engEvrd_field h (by rw [h5])⟩
  case out =>
    rintro k _ h ht rfl
    exact next_congr (engOut_push h ht)
  case tlyr =>
    exact fun sl h hs => ⟨engTlyr_bound h hs rfl, engTlyr_bound h hs (BitVec.ofNat_toNat ..), engTlyr_bound h hs (BitVec.ofNat_toNat ..)⟩
  case tlyw =>
    exact fun sl h hs => ⟨fun hk => next_congr (engTlyw_bound h hs hk), fun hk => next_congr (engTlyw_bound h hs hk),
      fun hk => next_congr (engTlyw_bound h hs hk)⟩

end Sys2Proof.Machine
end

section
/-! One queue: what its pushes, pops, rewinds, skips and flushes do, and the packet of highest priority (R332 to R345). -/

namespace Sys2Proof.Machine

/-! ### One push (R332, R333, R341, R342) -/

section
variable {u : Queue} {ok : Bool} {cap pri prod : Nat} {cls : PClass} {r : Rec} {last : Bool} (hd : u.disc.find? (fun e => e.1 == prod) = none)
include hd

/-- A push that no other producer's open packet holds back, to a queue that is on and has room, joins the producer's open packet, or begins
one; its last record commits the packet. -/
theorem Queue.push1_stored {rs : List Rec} (ho : u.opn = none ∧ rs = [] ∨ u.opn = some ⟨prod, cls, rs⟩) (hok : ok = true)
    (hroom : u.occupancy < cap) :
    u.push1 ok cap pri prod cls r last =
      (if last then
        { u with opn := none, pkts := u.pkts ++ [⟨rs ++ [r], pri⟩], marker := u.marker.map fun m => { m with late := true } }
      else { u with opn := some ⟨prod, cls, rs ++ [r]⟩ }, .stored) := by
  have hfull : (! ok || decide (cap ≤ u.occupancy)) = false := by simp [hok, hroom]
  obtain ⟨ho, rfl⟩ | ho := ho
  · cases last <;> simp [Queue.push1, hd, ho, hfull]
  · cases last <;> simp [Queue.push1, hd, ho, hfull]

/-- A one-record packet for a queue that is full or off is lost. -/
theorem Queue.push1_lost (ho : u.opn = none) (hfull : ok = false ∨ cap ≤ u.occupancy) :
    u.push1 ok cap pri prod cls r true = (u.lose 1 0 1 0 false, .dropped 1) := by
  have hopen : { u with opn := none } = u := by rw [← ho]
  have hlost : (! ok || decide (cap ≤ u.occupancy)) = true := by simpa using hfull
  simp [Queue.push1, hd, hlost, Queue.openLen, ho, hopen]

/-- A push during another producer's open packet waits. -/
theorem Queue.push1_waits {o : OpenPkt} (ho : u.opn = some o) (hp : o.prod ≠ prod) :
    u.push1 ok cap pri prod cls r last = ({ u with waiting := u.waiting ++ [⟨prod, cls, r, last⟩] }, .waits) := by
  simp [Queue.push1, hd, ho, hp]

end

/-! ### One pop (R336 to R339, R343, R348) -/

section
variable (u : Queue) (x : Bool)

/-- A pop of a queue that is off finds nothing. -/
theorem Queue.pop1_off : u.pop1 x false = (u, Popped.nothing) := rfl

variable {u x}

/-- Inside a packet a pop returns the packet's next record. -/
theorem Queue.pop1_inside {r : Rec} {t : List Rec} (hc : u.cur = r :: t) :
    u.pop1 x true = ({ u with cur := t, hidden := if x then u.hidden + 1 else u.hidden }, ⟨r, t.isEmpty, true, true⟩) := by
  simp only [Queue.pop1, hc, Bool.not_true, Bool.false_eq_true, if_false]

variable (hc : u.cur = [])
include hc

/-- At a packet boundary a marker that is ready goes first. -/
theorem Queue.pop1_marker {m : Marker} (hm : u.marker = some m) (hr : u.markReady x = true) :
    u.pop1 x true = ({ u with marker := none }, ⟨m.toRec, true, true, false⟩) := by
  simp only [Queue.pop1, hc, hm, hr, Bool.not_true, Bool.false_eq_true, if_false]

variable (hm : u.marker = none)
include hm

/-- A local queue with no marker gives the first record of its best packet. -/
theorem Queue.pop1_best {p : QPkt} {rest : List QPkt} {r : Rec} {rs : List Rec} (hp : takeBest u.pkts = some (p, rest)) (hr : p.recs = r :: rs) :
    u.pop1 false true = ({ u with pkts := rest, cur := rs }, ⟨r, rs.isEmpty, true, true⟩) := by
  simp [Queue.pop1, hc, hm, hp, hr]

/-- A cross-island queue with no marker gives the first record of its first packet, once that is visible. -/
theorem Queue.pop1_visible {p : QPkt} {rest : List QPkt} {r : Rec} {rs : List Rec} (hp : u.pkts = p :: rest) (hv : u.vis ≠ 0)
    (hr : p.recs = r :: rs) :
    u.pop1 true true = ({ u with pkts := rest, cur := rs, vis := u.vis - 1, hidden := u.hidden + 1 }, ⟨r, rs.isEmpty, true, true⟩) := by
  simp [Queue.pop1, hc, hm, hp, hr, hv]

/-- A queue with no packet and no marker has nothing to give. -/
theorem Queue.pop1_empty (hp : u.pkts = []) : u.pop1 x true = (u, Popped.nothing) := by
  cases x <;> simp [Queue.pop1, hc, hm, hp, takeBest]

end

/-! ### The oldest packet of the highest priority (R338) -/

theorem takeBest_eq_none {l : List QPkt} : takeBest l = none ↔ l = [] := by
  cases l with
  | nil => exact ⟨fun _ => rfl, fun _ => rfl⟩
  | cons p t =>
    refine ⟨fun h => ?_, nofun⟩
    rw [takeBest] at h
    split at h
    · cases h
    · split at h <;> cases h

/-- The best packet leaves the others in their order: those ahead of it rank strictly lower, those behind it no higher. -/
theorem takeBest_split {l : List QPkt} {p : QPkt} {rest : List QPkt} (h : takeBest l = some (p, rest)) :
    ∃ a b : List QPkt, l = a ++ p :: b ∧ rest = a ++ b ∧ (∀ y ∈ a, p.pri < y.pri) ∧ (∀ y ∈ b, p.pri ≤ y.pri) := by
  induction l generalizing p rest with
  | nil => cases h
  | cons q t ih =>
    rw [takeBest] at h
    split at h
    next hnone =>
      obtain rfl := takeBest_eq_none.1 hnone
      cases h
      exact ⟨[], [], rfl, rfl, nofun, nofun⟩
    next best others hbest =>
      obtain ⟨a, b, rfl, rfl, ha, hb⟩ := ih hbest
      split at h
      next hle =>
        cases h
        refine ⟨[], a ++ best :: b, rfl, rfl, nofun, fun y hy => ?_⟩
        obtain hy | rfl | hy : y ∈ a ∨ y = best ∨ y ∈ b := by simpa using hy
        · exact hle.trans (ha y hy).le
        · exact hle
        · exact hle.trans (hb y hy)
      next hgt =>
        cases h
        exact ⟨q :: a, b, rfl, rfl, List.forall_mem_cons.2 ⟨Nat.lt_of_not_le hgt, ha⟩, hb⟩

/-! ### One flush (R345) -/

/-- The FLUSH_MARK of a queue that had no marker and no open packet: the records and packets that the flush removes. -/
def Queue.flushMark (u : Queue) : Marker :=
  { (Marker.fresh true 0).add 0 u.committed 0 (u.pkts.length + if u.cur.isEmpty then 0 else 1) false with
    flush := true, after := 0, committed := true }

theorem Queue.flush1_closed {u : Queue} (ho : u.opn = none) (hd : u.disc = []) (hm : u.marker = none) :
    u.flush1 false = ({ u with pkts := [], cur := [], vis := 0, marker := some u.flushMark }, true) := by
  simp only [Queue.flush1, ho, hd, hm, Queue.flushMark, List.any_nil, Bool.not_false, Bool.false_eq_true, if_false]

/-! ### The fabric -/

section
variable {s : State} {q prod : Nat} {u v : Queue}

theorem State.drainWaiting_none (h : (s.queue q).waiting = []) (k : Nat) : s.drainWaiting k q = s := by
  cases k with
  | zero => rfl
  | succ k => simp only [State.drainWaiting, h]

/-- The pushes that wait at a queue go on, as far as they may. -/
def State.releaseWaiting (s : State) (q : Nat) : State := s.drainWaiting (s.queue q).waiting.length q

section
variable {cls : PClass} {r : Rec} {last : Bool}

/-- A push of a producer with none waiting takes its turn, and lets waiting pushes go on. -/
theorem queuePush_turn (hq : q < 1280) (hw : (s.queue q).waiting.any (fun w => w.prod == prod) = false) :
    queuePush q prod cls r last s = (s.pushOnce q prod cls r last).1.releaseWaiting q := by
  rw [queuePush, if_neg (Nat.not_le.2 hq), State.push, hw]
  rfl

/-- A stored record counts when it commits its packet, with all of the packet's records. -/
theorem State.pushOnce_stored (hx : (s.queue q).disc.any (fun e => e.1 == prod && e.2) = false)
    (hp : (s.queue q).push1 (s.queueOn q) (queueCap q) (s.queuePri q cls) prod cls r last = (v, .stored)) :
    (s.pushOnce q prod cls r last).1 = if last then (s.setQueue q v).countIn q ((s.queue q).openLen + 1) else s.setQueue q v := by
  cases last <;> simp [State.pushOnce, hp, hx]

theorem State.pushOnce_lost {k : Nat}
    (hp : (s.queue q).push1 (s.queueOn q) (queueCap q) (s.queuePri q cls) prod cls r last = (v, .dropped k)) :
    (s.pushOnce q prod cls r last).1 = ((s.setQueue q v).countIn q k).addSat F.QUE_Q_COUNT_drops k q := by
  simp only [State.pushOnce, hp]

theorem State.pushOnce_waits
    (hp : (s.queue q).push1 (s.queueOn q) (queueCap q) (s.queuePri q cls) prod cls r last = (v, .waits)) :
    (s.pushOnce q prod cls r last).1 = s.setQueue q v := by
  simp only [State.pushOnce, hp]

end

variable (hq : q < 1280) (hu : s.queue q = u)
include hq hu

/-- The producer of the open packet takes it away, and waiting pushes go on (R334). -/
theorem packetRewind_open {o : OpenPkt} (ho : u.opn = some o) (hp : o.prod = prod) :
    packetRewind q prod s = (s.setQueue q { u with opn := none }).releaseWaiting q := by
  subst hu hp
  rw [packetRewind, if_neg (Nat.not_le.2 hq), State.rewindQ, Queue.rewind, ho]
  simp only [beq_self_eq_true, if_true]
  rfl

/-- SKIP_PKT at a packet boundary finds nothing to skip (R340). -/
theorem skipPkt_boundary (hc : u.cur = []) : skipPkt q s = s.setFd F.QUE_Q_STS_skip_none 1 q := by
  subst hu
  exact (if_neg (Nat.not_le.2 hq)).trans (if_pos (by simp [hc]))

/-- SKIP_PKT inside a packet removes its rest and counts what it removes (R340). -/
theorem skipPkt_inside (hc : u.cur ≠ []) :
    skipPkt q s = (s.setQueue q { u with cur := [], hidden := if isXq q then u.hidden + u.cur.length else u.hidden }).setRg
      .QUE_Q_SKIP (w32 (sat (2 ^ 32 - 1) ((s.rg .QUE_Q_SKIP q).toNat + u.cur.length))) q := by
  subst hu
  exact (if_neg (Nat.not_le.2 hq)).trans (if_neg (by simpa using hc))

/-- A flush of a local queue with no packet open, no discard and no marker empties it and leaves its FLUSH_MARK (R345). -/
theorem queFlush_closed (ho : u.opn = none) (hd : u.disc = []) (hm : u.marker = none) (hl : q < 1024) :
    queFlush q s =
      ((((s.setQueue q { u with pkts := [], cur := [], vis := 0, marker := some u.flushMark }).countIn q 0).setFd
        F.QUE_Q_STS_flushed 1 q).assertOnce (270 + sliceOf q)).releaseWaiting q := by
  subst hu
  have hx : isXq q = false := by simp [isXq, hl]
  rw [queFlush, if_neg (Nat.not_le.2 hq), State.flushQ, hx, Queue.flush1_closed ho hd hm]
  simp only [Queue.openLen, ho, if_true]
  rfl

end

/-- Settles O52: a push takes its turn, and the queue stores it, loses it or lets it wait; then one lemma above for each pop, for the best
packet, and for a rewind, a skip and a flush. -/
theorem queueRecords : Obligations.QueueRecords := by
  unfold Obligations.QueueRecords
  refine ⟨?push, fun s q k h => State.drainWaiting_none h k,
    fun u x => ⟨Queue.pop1_off u x, fun r t hc => Queue.pop1_inside hc, fun m hc hm hr => Queue.pop1_marker hc hm hr,
      fun p rest r rs hc hm hp hr => Queue.pop1_best hc hm hp hr, fun p rest r rs hc hm hp hv hr => Queue.pop1_visible hc hm hp hv hr,
      fun hc hm hp => Queue.pop1_empty hc hm hp⟩,
    fun l p rest h => takeBest_split h, fun l => takeBest_eq_none,
    fun s q u hq hu => ⟨fun hc => next_congr (skipPkt_boundary hq hu hc), fun hc => next_congr (skipPkt_inside hq hu hc),
      fun ho hd hm hl => ⟨_, _, rfl, rfl, next_congr (queFlush_closed hq hu ho hd hm hl)⟩⟩⟩
  case push =>
    rintro s t q prod cls r u hq rfl hw hd hx
    have hturn : ∀ last, (s.pushOnce q prod cls r last).1 = t →
        exec (.queuePush q prod cls r last) s = .next (t.drainWaiting (t.queue q).waiting.length q) := fun last ht =>
      next_congr ((queuePush_turn hq hw).trans (congrArg (fun v => v.releaseWaiting q) ht))
    refine ⟨fun ho hon hroom => ⟨?one, ?first⟩, ?last, ?lost, ?waits, ?rewind⟩
    case one =>
      rintro rfl
      refine hturn true ((State.pushOnce_stored hx (Queue.push1_stored hd (.inl ⟨ho, rfl⟩) hon hroom)).trans ?_)
      simp [Queue.openLen, ho]
    case first =>
      rintro rfl
      exact hturn false (State.pushOnce_stored hx (Queue.push1_stored hd (.inl ⟨ho, rfl⟩) hon hroom))
    case last =>
      rintro rs ho hon hroom rfl
      refine hturn true ((State.pushOnce_stored hx (Queue.push1_stored hd (.inr ho) hon hroom)).trans ?_)
      simp [Queue.openLen, ho]
    case lost =>
      rintro ho hfull rfl
      exact hturn true (State.pushOnce_lost (Queue.push1_lost hd ho hfull))
    case waits =>
      rintro o last ho hp rfl
      exact hturn last (State.pushOnce_waits (Queue.push1_waits hd ho hp))
    case rewind =>
      rintro o ho hp rfl
      exact next_congr (packetRewind_open hq rfl ho hp)

end Sys2Proof.Machine
end

section
/-! The training of a link: its steps, the tries that fail, loss, and RETRAIN (R375, R389 to R392, R406). -/

namespace Sys2Proof.Machine

section
variable {s : State} {l : Nat}

/-! ### Training (R375, R390) -/

/-- Flit lock in step 1 goes on to step 2, which sends HELLO. -/
theorem flitLock_step1 (hst : s.lstate l = 1) (hk : (s.link l).step = 1) :
    flitLock l s = (s.modLink l fun k => { k with step := 2 }).sendHello l := if_pos ⟨hst, hk⟩

/-- Only cascade links wait for a JOIN. -/
theorem State.mustJoin_board (hl : l < 16) (f : Flit) : s.mustJoin l f = false := if_pos hl

/-- The HELLO of a channel board in step 2 that names the last flit its receiver accepted: the sequence goes on from there. -/
theorem hello_resumes {f : Flit} (hl : l < 16) (hst : s.lstate l = 1) (hk : (s.link l).step = 2) (hp : nth 0 f.slots 1 % 256 = 1)
    (hw : natBit (nth 0 f.slots 2) 8 = true) :
    hello l f s = ((((s.notePeer l f).setLink l { (s.link l).resume (nth 0 f.slots 2) with heard := s.time }).stepCredit l).stepSync l) := by
  have hboard : ¬ 16 ≤ l := Nat.not_le.2 hl
  simp [hello, hst, hk, hp, hw, hboard, State.mustJoin_board hl]

/-- In step 6 training completes: the link is UP, and its periods count from now. -/
theorem trainingComplete_step6 {u : State} (hst : s.lstate l = 2) (hk : (s.link l).step = 6)
    (hu : u = ((s.setLink l ((s.link l).goesUp s.time)).setLstate l 3).incLfd F.LNK_STS_trains F.CAS_LNK_STS_trains l) :
    trainingComplete l s = (u.dropLive (linkUnit l) 0x0A0).linkEvt l 13 (u.lfd F.LNK_STS_rate_act F.CAS_LNK_STS_rate_act l)
      (u.lfd F.LNK_RTT_rtt F.CAS_LNK_RTT_rtt l) (u.lfd F.LNK_DELAY_d F.CAS_LNK_DELAY_d l) := by
  rw [trainingComplete, if_pos ⟨hst, hk⟩, hu]

/-- A try that fails starts the training again, and the eighth in a row raises LINK_FAIL. -/
theorem State.tryFails_eq {u : State} (hu : u = s.setLink l { s.link l with tries := (s.link l).tries + 1 }) :
    s.tryFails l = if (s.link l).tries < 7 then u.train l
      else ((u.modLink l fun k => { k with step := 0, downAt := some s.time }).setLstate l 1).raise 0x0A0 (linkUnit l) ((s.link l).tries + 1) true := by
  have heighth : (s.link l).tries + 1 < 8 ↔ (s.link l).tries < 7 := Nat.succ_lt_succ_iff
  simp only [State.tryFails, heighth, hu]

theorem trainTryTimeout_training (hst : s.lstate l = 1 ∨ s.lstate l = 2) (hk : (s.link l).step ≠ 0) :
    trainTryTimeout l s = s.tryFails l := if_pos ⟨hst, hk⟩

/-! ### Loss (R375, R391) -/

theorem flitLockLoss_receiving (hst : s.lstate l = 3 ∨ s.lstate l = 2) : flitLockLoss l s = s.linkDown l 0 := if_pos hst

theorem silenceTimeout_due (hst : s.lstate l = 3 ∨ s.lstate l = 2) (ht : (s.link l).heard + usTicks (s.fd F.LNK_TMO_loss l) ≤ s.time) :
    silenceTimeout l s = s.linkDown l 1 := if_pos ⟨hst.symm, .inr ht⟩

/-- A HELLO in UP: the peer trains again. -/
theorem hello_up (hst : s.lstate l = 3) (f : Flit) :
    hello l f s = (s.modLink l fun k => { k with heard := s.time, good := true }).linkDown l 2 := if_pos hst

/-! ### Training again (R390, R406) -/

/-- A link that is DOWN trains once LNK_TMO.retrain ms have passed since. -/
theorem retrainTimer_due {t : Nat} (hst : s.lstate l = 4) (hd : (s.link l).downAt = some t)
    (ht : t + msTicks (s.fd F.LNK_TMO_retrain l) ≤ s.time) : retrainTimer l s = s.train l := by
  have hdue : (decide (16 ≤ l) || decide (t + msTicks (s.fd F.LNK_TMO_retrain l) ≤ s.time)) = true := by simp [ht]
  simp only [retrainTimer, hd, if_pos (And.intro (Or.inl hst) hdue)]

/-- RETRAIN of an enabled link shows its result, and trains it where it may run. -/
theorem lnkRetrain_enabled {u : State} (hen : s.bit F.LNK_CFG_en l = true)
    (hu : (if s.linkDom l = true ∧ s.dev.st = .run then (s.modLink l fun k => { k with tries := 0 }).train l else s) = u) :
    lnkRetrain l s = ((u.setFd F.LNK_STS_chg 1 l).linkLevel l).lnkCmdSts l 1 1 := by
  rw [lnkRetrain, if_neg (by simp [hen]), hu]

theorem lnkRetrain_disabled (hen : s.bit F.LNK_CFG_en l = false) : lnkRetrain l s = s.lnkCmdSts l 1 2 := if_pos hen

end

/-- Settles O38: one lemma above for each event and command; RETRAIN by whether the link may run. -/
theorem linkTraining : Obligations.LinkTraining := by
  unfold Obligations.LinkTraining
  refine ⟨?lock, ?hello, ?complete, ?fails, ?loss, ?silence, ?again, ?timer, ?retrain, ?held, ?refused⟩
  case lock => exact fun s l hst hk => next_congr (flitLock_step1 hst hk)
  case hello => exact fun s l f hl hst hk hp hw => ⟨_, rfl, next_congr (hello_resumes hl hst hk hp hw)⟩
  case complete => exact fun s l hst hk => ⟨_, rfl, next_congr (trainingComplete_step6 hst hk rfl)⟩
  case fails => exact fun s l hst hk => ⟨_, rfl, next_congr ((trainTryTimeout_training hst hk).trans (State.tryFails_eq rfl))⟩
  case loss => exact fun s l hst => next_congr (flitLockLoss_receiving hst)
  case silence => exact fun s l _ hst ht => next_congr (silenceTimeout_due hst ht)
  case again => exact fun s l f hst => next_congr (hello_up hst f)
  case timer => exact fun s l t _ hst hd ht => next_congr (retrainTimer_due hst hd ht)
  case retrain => exact fun s l hen hdom hrun => next_congr (lnkRetrain_enabled hen (if_pos ⟨hdom, hrun⟩))
  case held =>
    intro s l hen h
    have hstill : ¬ (s.linkDom l = true ∧ s.dev.st = .run) := fun ⟨hdom, hrun⟩ => h.elim (by simp [hdom]) (· hrun)
    exact next_congr (lnkRetrain_enabled hen (if_neg hstill))
  case refused => exact fun s l hen => next_congr (lnkRetrain_disabled hen)

end Sys2Proof.Machine
end

section
/-! What a link does with the flits it receives (R376 to R384, R393 to R398, R401). -/

namespace Sys2Proof.Machine

section
variable {s u : State} {l : Nat} {f : Flit}

/-! ### Headers, NAKs and bad CRCs (R378, R393, R395) -/

/-- A link that receives accepts the sequenced flit it expects. -/
theorem State.accept_iff (h : s.receives l = true) :
    (s.accept l f).2 = true ↔ f.seq % 256 = ((s.takeHeader l f).link l).rx := by
  simp only [State.accept, h, Bool.not_true, Bool.false_eq_true, if_false]
  split <;> simp [*]

/-- The first flit with a bad CRC, and one after a good flit, sends a NAK; before the eighth in a row, no more. -/
theorem badCrcFlit_naks {k : Link} (h : s.receives l = true) (hk : s.link l = k) (hfirst : k.naks = 0 ∨ k.good = true) (hn : k.naks < 7)
    (hu : u = ((s.setLink l { k with naks := k.naks + 1, good := false }).linkEvt l 1 k.rx (k.naks + 1) 0).incLfd
      F.LNK_RETRY_naks F.CAS_LNK_RETRY_naks l) :
    badCrcFlit l s = u.sendFlit l 2 0 0 k.rx [] := by
  have heighth : ¬ 8 ≤ k.naks + 1 := by omega
  simp only [badCrcFlit, h, hk, Bool.not_true, Bool.false_eq_true, if_false, if_pos hfirst, if_neg heighth, hu]

/-- A flit with a bad CRC right after another only counts. -/
theorem badCrcFlit_again {k : Link} (h : s.receives l = true) (hk : s.link l = k) (hn : k.naks ≠ 0) (hg : k.good = false) :
    badCrcFlit l s = (s.setLink l { k with good := false }).linkEvt l 1 k.rx k.naks 0 := by
  have hfirst : ¬ (k.naks = 0 ∨ k.good = true) := by simp [hn, hg]
  simp only [badCrcFlit, h, hk, Bool.not_true, Bool.false_eq_true, if_false, if_neg hfirst]

/-- An accepted flit of a reserved type or subtype is reported with its first word. -/
theorem badType_accepted {kind : Nat} (h : s.accept l f = (u, true)) :
    badType l kind f s = u.linkEvt l 16
      (kind % 16 + f.seq % 256 * 16 + f.ack % 256 * 4096 + f.nrep % 16 * 2 ^ 20 + f.credit % 256 * 2 ^ 24) (nth 0 f.slots 0) 0 := by
  simp only [badType, h, if_true]

/-! ### REPORT flits (R380, R384, R396, R398) -/

/-- The high bits of the anchor, of a link that is UP. -/
theorem ahigh_accepted (h : s.accept l f = (u, true)) (hst : u.lstate l = 3) :
    ahigh l f s = u.modLink l fun k => { k with high := some (nth 0 f.slots 1 % 2 ^ 23) } := by
  simp only [ahigh, h, hst, and_self, if_true]

/-- Receive buffers of a channel board's link (R396). -/
theorem linkBufs_board (hl : l < 16) : linkBufs l = 64 := if_pos hl

section
variable {v : State} (hl : l < 16) (hst : s.lstate l = 3) (h : s.accept l f = (u, true))
  (hv : v = u.setPair .LNK_FLITS_LO .LNK_FLITS_HI (u.pair .LNK_FLITS_LO .LNK_FLITS_HI l + 1) l)
include hl hst h hv

/-- A REPORT flit for which no receive buffer is free. -/
theorem reportFlit_noBuffer (hfull : 64 ≤ v.lU l + v.lO l) :
    reportFlit l f s =
      (v.setLink l { v.link l with ovr := true, lastA := some (v.anchorTick (v.link l) f.anchor) }).linkEvt l 3 f.seq f.nrep 0 := by
  have hup : ¬ (16 ≤ l ∨ s.lstate l ≠ 3) := by omega
  simp only [reportFlit, if_neg hup, h, Bool.not_true, Bool.false_eq_true, if_false, ← hv, linkBufs_board hl, if_pos hfull]

/-- A REPORT flit with a free buffer and an anchor that is not out of order, in the future or too old: its reports are taken. -/
theorem reportFlit_taken {w : State} {a : Nat} (hroom : v.lU l + v.lO l < 64) (hw : w = v.setUO l (v.lU l) (v.lO l + 1))
    (ha : a = v.anchorTick (v.link l) f.anchor) (hprev : (v.link l).lastA.getD 0 ≤ a) (hnow : a ≤ w.linkNow l / 512)
    (hold : w.linkNow l / 512 < a + 2 ^ 54) :
    reportFlit l f s = State.reports l a 14 0 (f.slots.take (min f.nrep 13)) (w.setLink l { w.link l with lastA := some a }) := by
  have hup : ¬ (16 ≤ l ∨ s.lstate l ≠ 3) := by omega
  have hanchor : ¬ (a < (v.link l).lastA.getD 0 ∨ w.linkNow l / 512 < a ∨ a + 2 ^ 54 ≤ w.linkNow l / 512) := by omega
  simp only [reportFlit, if_neg hup, h, Bool.not_true, Bool.false_eq_true, if_false, ← hv, linkBufs_board hl,
    if_neg (Nat.not_le.2 hroom), ← hw, ← ha, if_neg hanchor]

end

/-! ### Edge reports (R381, R398, R401) -/

/-- A report that passes its checks: an EDGE record, held until a check word follows, counted, and its time noted. -/
theorem State.edgeReport_passes {i kind t : Nat} (h : s.reportFault l i t = 0) :
    s.edgeReport l i kind t = ((s.holdPkt l [mkRec 0x01 (0x100 + 256 * l + i) (4 + kind) 0 (stamp t)
      (s.rg .LNK_CNT_LO l i).toNat]).countRemote l i t 1).noteTime l i t := by
  simp only [State.edgeReport, h, ne_eq, not_true_eq_false, if_false]

end

/-- Settles O39: one lemma above for each kind of flit; a bad CRC by the flit before it, a REPORT by the buffers, an edge by its checks. -/
theorem linkReceives : Obligations.LinkReceives := by
  unfold Obligations.LinkReceives
  refine ⟨?header, ?naks, ?again, ?reserved, ?high, ?report, ?edge⟩
  case header => exact fun s l f h => ⟨next_congr (if_pos h), next_congr (if_pos h), State.accept_iff h⟩
  case naks => exact fun s l k h hk hfirst hn => ⟨_, rfl, next_congr (badCrcFlit_naks h hk hfirst hn rfl)⟩
  case again => exact fun s l k h hk hn hg => next_congr (badCrcFlit_again h hk hn hg)
  case reserved =>
    intro s u l kind f h hkind hseq hack hnrep hcredit
    refine next_congr ((badType_accepted h).trans ?_)
    rw [Nat.mod_eq_of_lt hkind, Nat.mod_eq_of_lt hseq, Nat.mod_eq_of_lt hack, Nat.mod_eq_of_lt hnrep, Nat.mod_eq_of_lt hcredit]
    congr 1
    omega
  case high => exact fun s u l f h hst => next_congr (ahigh_accepted h hst)
  case report =>
    exact fun s u v l f hl hst h hv => ⟨fun hfull => next_congr (reportFlit_noBuffer hl hst h hv hfull),
      fun w a hroom hw ha hprev hnow hold => next_congr (reportFlit_taken hl hst h hv hroom hw ha hprev hnow hold)⟩
  case edge => exact fun s l i kind t h => ⟨_, rfl, State.edgeReport_passes h⟩

end Sys2Proof.Machine
end

section
/-! The time exchange of a link, its credits and their audit, its acks, and the gaps of LINK_EVT (R385 to R387, R393 to R399, R406). -/

namespace Sys2Proof.Machine

section
variable {s u : State} {l : Nat}

/-! ### Periods (R385 to R387, R397) -/

/-- A period has passed where its time has come, and where nothing began it. -/
theorem State.past_iff (s : State) (t : Option Nat) (n : Nat) : s.past t n = true ↔ ∀ a ∈ t, a + n ≤ s.time := by
  cases t <;> simp [State.past]

/-- The TREQ of a channel board's link is due: it goes, and time_ok falls where the last one is unanswered. -/
theorem treqPeriod_due (hst : s.lstate l = 3) (hl : l < 16) (hp : s.past (s.link l).treqAt (msTicks (s.fd F.LNK_SYNC_CFG_period l)) = true)
    (hu : (if (s.link l).t1.isSome then s.setLfd F.LNK_STS_time_ok F.CAS_LNK_STS_time_ok 0 l else s) = u) :
    treqPeriod l s = (u.modLink l fun k => { k with treqAt := some s.time }).sendCtl l [2] := by
  have hgap : s.treqGap l = msTicks (s.fd F.LNK_SYNC_CFG_period l) := if_pos hl
  rw [← hgap] at hp
  rw [treqPeriod, if_pos ⟨hst, Nat.ne_of_lt hl, hp⟩, hu]

/-- A link's field is in its registers, not in its state. -/
@[simp] theorem State.setLfd_link (s : State) (a b : Fld) (v l : Nat) : (s.setLfd a b v l).link l = s.link l := by
  rw [State.setLfd]
  split <;> rfl

/-- The TIME of a link that is UP is due, but of C0, which sends none. -/
theorem timePeriod_due (hst : s.lstate l = 3) (hl : l ≠ 16) (hp : s.past (s.link l).timeAt 65536 = true) :
    timePeriod l s = (s.modLink l fun k => { k with timeAt := some s.time }).sendCtl l [4] := if_pos ⟨hst, hl, hp⟩

theorem areqPeriod_due (hst : s.lstate l = 3) (hp : s.past (s.link l).areqAt (msTicks 1) = true) :
    areqPeriod l s = (s.modLink l fun k => { k with areqAt := some s.time }).sendAreq l := if_pos ⟨hst, hp⟩

/-! ### Commands and grants (R396, R406) -/

theorem lnkAudit_up (hst : s.lstate l = 3) : lnkAudit l s = (s.sendAreq l).lnkCmdSts l 2 1 := if_pos hst

theorem lnkAudit_refused (hst : s.lstate l ≠ 3) : lnkAudit l s = s.lnkCmdSts l 2 2 := if_neg hst

theorem creditGrant_up (hst : s.lstate l = 3) (hu : s.lU l ≠ 0) :
    creditGrant l s = (s.modLink l fun k => { k with g := k.g + 1 }).setUO l (s.lU l - 1) (s.lO l) := if_pos ⟨hst, hu⟩

/-! ### Accepted ECHO and ARSP flits (R385, R390, R397) -/

/-- An ECHO in step 5 counts in training. -/
theorem echo_training {f : Flit} {t1 t4 : Nat} (h : s.accept l f = (u, true)) (ht : (u.link l).t1 = some t1) (hst : u.lstate l = 2)
    (hk : (u.link l).step = 5) :
    echo l f t4 s = u.trainExchange l (((t4 : Int) - t1) -
      sInt 64 (nth 0 f.slots 3 + 2 ^ 32 * nth 0 f.slots 4 + 2 ^ 64 - (nth 0 f.slots 1 + 2 ^ 32 * nth 0 f.slots 2) % 2 ^ 64)) := by
  simp only [echo, h, ht, hst, hk, and_self, if_true]

/-- The ARSP of a running audit on a channel board's link: it passes where the flit counts and the sum of the credits agree and no flit came
without credit, and fails otherwise. -/
theorem arsp_audits {f : Flit} {bb rb sum : Nat} (hl : l < 16) (h : s.accept l f = (u, true)) (hst : u.lstate l = 3)
    (ha : (u.link l).areq ≠ none) (hrb : rb = nth 0 f.slots 2 % 2 ^ 16) (hbb : bb = nth 0 f.slots 3 % 128)
    (hsum : sum = bb + ((u.link l).g + 2 ^ 16 - rb) % 2 ^ 16 + u.lU l + u.lO l) :
    arsp l f s = if u.flitsAcc l = nth 0 f.slots 1 % 2 ^ 16 ∧ sum = 64 ∧ (u.link l).ovr = false then
        (u.setLink l { u.link l with areq := none }).incLfd F.LNK_AUDIT_passed F.CAS_LNK_AUDIT_passed l
      else u.auditFail l (u.flitsAcc l) sum bb := by
  have hrun : (u.link l).areq.isSome = true := Option.isSome_iff_ne_none.2 ha
  subst hrb hbb hsum
  simp only [arsp, h, hst, hrun, and_self, if_true, if_pos hl, linkBufs_board hl]

/-- No ARSP within 1 ms. -/
theorem arspTimeout_due {t : Nat} (hst : s.lstate l = 3) (ha : (s.link l).areq = some t) (ht : t + msTicks 1 ≤ s.time) :
    arspTimeout l s = s.auditFail l (s.flitsAcc l) 0 0 := by
  simp only [arspTimeout, ha, if_pos (And.intro hst ht)]

/-! ### Acks and held events (R394, R399) -/

/-- No ack for LNK_TMO.ack µs: the flits kept leave again, from the oldest on. -/
theorem ackTimeout_due {f : TxFlit} {r : List TxFlit} (h : s.receives l = true) (hk : (s.link l).kept = f :: r)
    (ht : (s.link l).since + usTicks (s.fd F.LNK_TMO_ack l) ≤ s.time) : ackTimeout l s = s.replay l f.seq := by
  simp only [ackTimeout, hk, if_pos (And.intro h (Or.inr ht))]

/-- A held LINK_EVT leaves at the end of its gap, and begins another. -/
theorem linkEvtGapEnd_held {code : Nat} {e : LinkEvt} {d : Nat × Nat × Nat × Nat} (he : Tab.get LinkEvt.init (s.link l).evts code = e)
    (hd : e.held = some d) (ht : e.until_ ≤ s.time) :
    linkEvtGapEnd l code s = (s.setLink l { s.link l with
        evts := Tab.set LinkEvt.init (s.link l).evts code { until_ := s.time + s.evtGap l, count := 0, held := none } }).linkEvtPkt
      l code d e.count := by
  simp only [linkEvtGapEnd, he, hd, if_pos ht]

end

/-- Settles O40: one lemma above for each event and command; a TREQ by whether the last one was answered, an ARSP by what it says. -/
theorem linkTime : Obligations.LinkTime := by
  unfold Obligations.LinkTime
  refine ⟨fun s l hst hl => ⟨?treq, ?time⟩, ?areq, ?past, ?refused, ?grant, ?echo, ?arsp, ?noArsp, ?ack, ?gap⟩
  case treq =>
    rintro k rfl hboard hp
    refine ⟨fun ht => next_congr (treqPeriod_due hst hboard hp (if_neg (by simp [ht]))), fun ht => ⟨_, rfl, next_congr ?_⟩⟩
    rw [treqPeriod_due hst hboard hp (if_pos (Option.isSome_iff_ne_none.2 ht)), State.modLink, State.setLfd_link]
  case time =>
    rintro k rfl hp
    exact next_congr (timePeriod_due hst hl hp)
  case areq =>
    exact fun s l hst => ⟨_, _, _, rfl, rfl, rfl, fun hp => next_congr (areqPeriod_due hst hp), next_congr (lnkAudit_up hst)⟩
  case past => exact fun s t n => ⟨(s.past_iff none n).2 (by simp), (s.past_iff (some t) n).trans (by simp)⟩
  case refused => exact fun s l hst => next_congr (lnkAudit_refused hst)
  case grant => exact fun s l hst hu => next_congr (creditGrant_up hst hu)
  case echo => exact fun s u l t1 t4 f h ht hst hk => next_congr (echo_training h ht hst hk)
  case arsp =>
    intro s u l bb rb f hl h hst ha hrb hbb
    have haudit := arsp_audits hl h hst ha hrb hbb rfl
    refine ⟨fun hcount hsum hovr => next_congr (haudit.trans (if_pos ⟨hcount, hsum, hovr⟩)), fun hdiff => next_congr (haudit.trans (if_neg ?_))⟩
    exact fun ⟨hcount, hsum, _⟩ => hdiff.elim (· hcount) (· hsum)
  case noArsp => exact fun s l t hst ha ht => next_congr (arspTimeout_due hst ha ht)
  case ack => exact fun s l f r _ h hk ht => next_congr (ackTimeout_due h hk ht)
  case gap => exact fun s l code e d he hd ht => ⟨_, rfl, next_congr (linkEvtGapEnd_held he hd ht)⟩

end Sys2Proof.Machine
end

section
/-! What a cascade carries: time, the audit, trigger lines and records (R386, R513, R518 to R522, R526, R527, R532). -/

namespace Sys2Proof.Machine

/-! ### Time (R386, R513, R518, R519) -/

section
variable {s t u : State} {f : Flit} {own T : Nat} (h : s.accept 16 f = (t, true)) (hm : t.isMember = true)
  (hT : T = nth 0 f.slots 1 % 2 ^ 32 + nth 0 f.slots 2 % 2 ^ 32 * 2 ^ 32)
include h hm hT

/-- The first TIME of SYNC loads a joining member's time. -/
theorem casTimeFlit_loads (hst : t.lstate 16 = 2) (hu : u = t.modLink 16 fun k => { k with step := 6 }) (hc : u.cascState = 1) :
    casTimeFlit f own s = (u.loadTime T own).joined := by
  simp only [casTimeFlit, h, hm, Bool.true_eq_false, or_self, hst, if_false, if_true, ← hu, hc, ← hT]

/-- A later TIME of a JOINED member, by its err: above the tolerance it is an event; above 512 fine units it detaches the member, and otherwise
it steers the target of the offset. -/
theorem casTimeFlit_joined {e : Int} {v w x : State} (hst : t.lstate 16 ≠ 2) (hc : t.cascState = 2)
    (he : e = sInt 64 (T + 2 ^ 64 - own % 2 ^ 64)) (hu : u = (t.setCasc fun c => { c with err := e }).noteErr 16 e)
    (hv : (if u.linkTol 16 < e.natAbs then u.linkEvt 16 14 (uNat 32 e) (u.linkTol 16) 0 else u) = v)
    (hw : w = v.setCasc fun c => { c with target := c.off + e })
    (hx : x = w.setFd F.CAS_LNK_STS_time_ok (b2n (decide (e.natAbs ≤ w.linkTol 16))) 0) :
    casTimeFlit f own s = if 512 < e.natAbs then (v.detach e).raise 0x00F 0 (uNat 32 e) true
      else if x.cascState = 3 then x.joined else x := by
  have hjoining : ¬ (2 : Nat) = 1 := by decide
  simp only [casTimeFlit, h, hm, Bool.true_eq_false, or_self, hst, if_false, hc, if_neg hjoining, true_or, if_true, ← hT, ← he, ← hu, hv, ← hw, ← hx]

end

/-- The offset of a JOINED member moves by one fine unit toward its target, 64 ticks or more after the last step. -/
theorem offsetStep_due {s : State} (hm : s.isMember = true) (hc : s.cascState = 2) (hp : s.past s.casc.stepAt 64 = true) :
    offsetStep s = s.setCasc fun c => { c with
      stepAt := some s.time, off := if c.off < c.target then c.off + 1 else if c.target < c.off then c.off - 1 else c.off } :=
  if_pos ⟨hm, hc, hp⟩

section
variable {s : State} (hd : s.domOn 73 = true)
include hd

/-- RESYNC is refused where no link is UP. -/
theorem resync_refused (hup : ((natsFrom 16 4).all fun l => s.lstate l != 3) = true) : resync s = s.casCmdSts 2 2 := by
  rw [resync, if_neg (by simp [hd]), if_pos hup]

/-- RESYNC asks for sixteen exchanges on every child link that is UP. -/
theorem resync_asks (hup : ((natsFrom 16 4).all fun l => s.lstate l != 3) = false) :
    resync s = ((natsFrom 17 3).foldl (fun (t : State) l =>
      if t.lstate l = 3 then (t.modLink l fun k => { k with more := 16 }).sendCtl l [2] else t) s).casCmdSts 2 1 := by
  rw [resync, if_neg (by simp [hd]), if_neg (by simp [hup])]

end

section
variable {s t : State} {l : Nat} {f : Flit}

/-- A member answers a TREQ by an ECHO with its arrival time and the last err. -/
theorem treq_answers {t2 : Nat} (h : s.accept 16 f = (t, true)) (hm : t.isMember = true) (hst : t.lstate 16 = 2 ∨ t.lstate 16 = 3) :
    treq f t2 s = t.sendCtl 16 [3, t2 % 2 ^ 32, t2 / 2 ^ 32 % 2 ^ 32, 0, 0, uNat 32 t.casc.err] := by
  simp only [treq, h, hm, if_pos hst, true_and]

/-- A cascade link that is UP answers an AREQ by an ARSP. -/
theorem areq_answers (hlo : 16 ≤ l) (hhi : l ≤ 19) (h : s.accept l f = (t, true)) (hst : t.lstate l = 3) :
    areq l f s = t.sendCtl l [6, 0, 0, 0] := by
  have hcasc : ¬ (l < 16 ∨ 19 < l) := by omega
  simp only [areq, if_neg hcasc, h, hst, and_self, if_true]

/-! ### Trigger lines (R522) -/

/-- The root merges line events from below. -/
theorem lineFlit_root (h : s.accept l f = (t, true)) (hl : isChild l = true) (hr : t.isRoot = true) :
    lineFlit l f s =
      (lineEvents t (min 4 f.nrep) f.slots).foldl (fun (t : State) e => (t.lineAtRoot e.1 e.2.1 e.2.2.1 e.2.2.2).1) t := by
  simp only [lineFlit, h, hl, hr, Bool.true_eq_false, if_true, if_false]

/-- A JOINED member whose C0 is UP passes line events from below upward. -/
theorem lineFlit_upward (h : s.accept l f = (t, true)) (hl : isChild l = true) (hr : t.isRoot = false) (hm : t.isMember = true)
    (hc : t.cascState = 2) (hst : t.lstate 16 = 3) : lineFlit l f s = t.sendSeq 16 4 f.nrep f.slots := by
  simp only [lineFlit, h, hl, hr, hm, hc, hst, Bool.true_eq_false, Bool.false_eq_true, and_self, if_true, if_false]

/-- A JOINED member takes the line events from C0 that are of its group, and passes all down. -/
theorem lineFlit_downward (h : s.accept 16 f = (t, true)) (hm : t.isMember = true) (hc : t.cascState = 2) :
    lineFlit 16 f s = (natsFrom 17 3).foldl (fun (t : State) c => if t.lstate c = 3 then t.sendSeq c 4 f.nrep f.slots else t)
      ((lineEvents t (min 4 f.nrep) f.slots).foldl (fun (t : State) e =>
        if e.2.1 = t.fd F.CAS_CFG_group then (t.lineTaken e.1 e.2.2.2).1 else t) t) := by
  have hparent : isChild 16 = false := by decide
  simp only [lineFlit, h, hparent, hm, hc, Bool.true_eq_false, Bool.false_eq_true, and_self, if_true, if_false]

/-! ### Records (R526) -/

section
variable {u v : State} {tag : FwdTag} {rs : List Rec} (hlo : 16 ≤ l) (hhi : l ≤ 19) (h : s.accept l f = (t, true))
  (hu : u = t.modLink l fun k => { k with acc := k.acc + 1 })
include hlo hhi h hu

/-- A FWD flit that finds every receive buffer occupied. -/
theorem fwdFlit_noBuffer (hfull : linkBufs l ≤ u.lU l + u.lO l) :
    fwdFlit l f s = (u.modLink l fun k => { k with ovr := true }).linkEvt l 3 f.seq f.nrep 0 := by
  have hcasc : ¬ (l < 16 ∨ 19 < l) := by omega
  simp only [fwdFlit, if_neg hcasc, h, Bool.true_eq_false, if_false, ← hu, if_pos hfull]

/-- A FWD flit with a free buffer: for this device and a tunnel that does not take it, the buffer is free again; otherwise its records wait
for the receive queue. -/
theorem fwdFlit_stored (hv : v = u.setUO l (u.lU l) (u.lO l + 1)) (hroom : u.lU l + u.lO l < linkBufs l)
    (htag : tag = ⟨natBits (nth 0 f.slots 12) 0 6, natBits (nth 0 f.slots 12) 6 6, natBits (nth 0 f.slots 12) 12 4, natBit (nth 0 f.slots 12) 16⟩)
    (hrs : rs = ((natsFrom 0 (min 3 f.nrep)).map fun i =>
      (⟨w32 (nth 0 f.slots (4 * i)), w32 (nth 0 f.slots (4 * i + 1)), w32 (nth 0 f.slots (4 * i + 2)), w32 (nth 0 f.slots (4 * i + 3))⟩ : Rec))) :
    fwdFlit l f s = if tag.dst = v.ownDev ∧ v.tunTakes tag = false then (v.tunOff l tag).setUO l (v.lU l + 1) (v.lO l - 1)
      else State.rxDrain l 128 (v.modLink l fun k => { k with rxBuf := k.rxBuf ++ [(rs, [tag])] }) := by
  have hcasc : ¬ (l < 16 ∨ 19 < l) := by omega
  subst htag hrs
  simp only [fwdFlit, if_neg hcasc, h, Bool.true_eq_false, if_false, ← hu, if_neg (Nat.not_le.2 hroom), ← hv]

end

end

/-- Settles O48: one lemma above for each flit and command; a later TIME by its err, a FWD flit by its buffer and its tunnel. -/
theorem cascadeTraffic : Obligations.CascadeTraffic := by
  unfold Obligations.CascadeTraffic
  refine ⟨fun s t f own T h hm hT => ⟨?load, ?later⟩, ?step, ?resync, ?treq, ?areq, ?line, ?fwd⟩
  case load => exact fun hst hc => next_congr (casTimeFlit_loads h hm hT hst rfl hc)
  case later =>
    intro e u hst hc he hu
    have hjudged := fun v hv => casTimeFlit_joined (v := v) h hm hT hst hc he hu hv rfl rfl
    refine ⟨fun hfar htol => next_congr ((hjudged _ (if_pos htol)).trans (if_pos hfar)),
      fun hnear htol => ⟨_, rfl, fun hc' => next_congr ?_⟩⟩
    rw [hjudged u (if_neg (Nat.not_lt.2 htol)), if_neg (Nat.not_lt.2 hnear), if_neg (by simp [hc'])]
  case step =>
    intro s hm hc hp
    refine ⟨_, next_congr (offsetStep_due hm hc hp), fun hbelow => if_pos hbelow, fun habove => ?_, fun hat => ?_⟩
    · rw [if_neg (not_lt.2 habove.le), if_pos habove]
    · rw [if_neg hat.not_lt, if_neg hat.not_gt]
  case resync => exact fun s hd => ⟨fun hup => next_congr (resync_refused hd hup), fun hup => next_congr (resync_asks hd hup)⟩
  case treq => exact fun s t f t2 h hm hst => next_congr (treq_answers h hm hst)
  case areq => exact fun s t l f hlo hhi h hst => next_congr (areq_answers hlo hhi h hst)
  case line =>
    refine fun s t l f h => ⟨fun hl hr => next_congr (lineFlit_root h hl hr),
      fun hl hr hm hc hst => next_congr (lineFlit_upward h hl hr hm hc hst), ?_⟩
    rintro rfl hm hc
    exact next_congr (lineFlit_downward h hm hc)
  case fwd =>
    intro s t u v l f tag rs hlo hhi h _ htag hrs hu hv
    have hstored := fun hroom => fwdFlit_stored hlo hhi h hu hv hroom htag hrs
    refine ⟨fun hfull => next_congr (fwdFlit_noBuffer hlo hhi h hu hfull),
      fun hroom hdst htun => next_congr ((hstored hroom).trans (if_pos ⟨hdst, htun⟩)),
      fun hroom hpass => next_congr ((hstored hroom).trans (if_neg ?_))⟩
    exact fun ⟨hdst, htun⟩ => hpass.elim (· hdst) (by simp [htun])

end Sys2Proof.Machine
end

section
/-! What the word of an engine answers where its op has one result, and the integer ops of class 0 (R414 to R417). -/

namespace Sys2Proof.Machine

/-! ### One result (R416) -/

section
variable {s u : State} {e x cls op w : Nat} {c d : Ctx} {f : State → Ctx → Nat → OpOut}

/-- The flags of a result without C and V: as the word's fl says, and of the state the counter of free values only. -/
theorem State.otherFlags_flagsAfter (s : State) (c : Ctx) (w : Nat) (z n : Bool) :
    ∃ k g, FlagsAfter w c.fl g z n ∧ s.otherFlags c w z n = ({ s with freeCtr := k }, { c with fl := g }) := by
  cases hfl : wFl w with
  | false =>
    refine ⟨s.freeCtr, c.fl, ⟨fun _ => rfl, fun h => by simp [hfl] at h⟩, ?_⟩
    simp only [State.otherFlags, hfl, Bool.false_eq_true, if_false]
  | true =>
    refine ⟨s.freeCtr + 1, c.fl.ofOther z n s.free.1, ⟨fun h => by simp [hfl] at h, fun _ => rfl⟩, ?_⟩
    simp only [State.otherFlags, hfl, if_true]
    rfl

/-- A word whose op answers a 64-bit result writes it, where the op has changed its context to `d` before, too. -/
theorem writes_of_result_from {n : Nat} {r : BitVec 64} (h : Issues s e x cls op w c)
    (hf : f s c w = ({ s with freeCtr := n } : State).result d w r) : Writes s e x w d r (.next (s.issue cls op e x f)) := by
  obtain ⟨m, g, hg, hr⟩ := ({ s with freeCtr := n } : State).result_ok d w r
  exact ⟨m, g, hg, congrArg _ (State.issue_ok h (hf.trans hr))⟩

@[simp] theorem Ctx.fl_setAcc (c : Ctx) (w : Nat) (r : BitVec 128) : (c.setAcc w r).fl = c.fl := by
  unfold Ctx.setAcc
  split <;> rfl

/-- A word whose op answers an accumulator writes it, likewise. -/
theorem writesAcc_of_accResult {r : BitVec 128} (h : Issues s e x cls op w c) (hf : f s c w = s.accResult d w r) :
    WritesAcc s e x w d r (.next (s.issue cls op e x f)) := by
  obtain ⟨m, g, hg, hr⟩ := s.otherFlags_flagsAfter (d.setAcc w r) w (r == 0) r.msb
  rw [Ctx.fl_setAcc] at hg
  exact ⟨m, g, hg, congrArg _ (State.issue_ok h (hf.trans (by rw [State.accResult, hr])))⟩

end

/-! ### Class 0: AND to SEL -/

section
variable {s : State} {e x op w : Nat} {c : Ctx} {f : BitVec 64 → BitVec 64 → BitVec 64} {r : BitVec 64}

/-- An integer op writes its function of the operands. -/
theorem State.alu_writes (hr : f (c.a w) (c.b w) = r) (h : Issues s e x 0 op w c) : Writes s e x w c r (.next (s.alu op e x f)) :=
  writes_of_result_from (n := s.freeCtr) h (congrArg (s.result c w) hr)

end

theorem ite_toInt_le (a b : BitVec 64) : (if a.toInt ≤ b.toInt then a else b) = BitVec.ofInt 64 (min a.toInt b.toInt) := by
  rw [min_def, apply_ite (BitVec.ofInt 64), BitVec.ofInt_toInt, BitVec.ofInt_toInt]

theorem ite_toInt_le_swap (a b : BitVec 64) : (if a.toInt ≤ b.toInt then b else a) = BitVec.ofInt 64 (max a.toInt b.toInt) := by
  rw [max_def, apply_ite (BitVec.ofInt 64), BitVec.ofInt_toInt, BitVec.ofInt_toInt]

theorem ite_toNat_le (a b : BitVec 64) : (if a.toNat ≤ b.toNat then a else b) = BitVec.ofNat 64 (min a.toNat b.toNat) := by
  rw [min_def, apply_ite (BitVec.ofNat 64), BitVec.ofNat_toNat, BitVec.ofNat_toNat, BitVec.setWidth_eq, BitVec.setWidth_eq]

theorem ite_toNat_le_swap (a b : BitVec 64) : (if a.toNat ≤ b.toNat then b else a) = BitVec.ofNat 64 (max a.toNat b.toNat) := by
  rw [max_def, apply_ite (BitVec.ofNat 64), BitVec.ofNat_toNat, BitVec.ofNat_toNat, BitVec.setWidth_eq, BitVec.setWidth_eq]

/-- The two's complement of 32 bits is that of the word. -/
theorem toNat_ofInt32 (i : Int) : (BitVec.ofInt 32 i).toNat = uNat 32 i := BitVec.toNat_ofInt ..

/-- The number that MOVH forms is imm above the low half of the register. -/
theorem ofNat_movh (v : BitVec 64) (i : Int) :
    BitVec.ofNat 64 (v.toNat % 2 ^ 32 + uNat 32 i * 2 ^ 32) = BitVec.ofInt 32 i ++ v.setWidth 32 := by
  rw [← toNat_ofInt32, ← BitVec.toNat_setWidth, Nat.add_comm, ofNat_counts (BitVec.isLt _), BitVec.ofNat_toNat, BitVec.ofNat_toNat,
    BitVec.setWidth_eq, BitVec.setWidth_eq]

/-- Settles O26: each op writes its function of the operands; MOVH and SEL read g[rd] and Z too. -/
theorem engineInteger : Obligations.EngineInteger := by
  unfold Obligations.EngineInteger
  exact fun s e x w c => ⟨State.alu_writes rfl, State.alu_writes rfl, State.alu_writes rfl, State.alu_writes rfl, State.alu_writes rfl,
    State.alu_writes rfl, State.alu_writes (ite_toInt_le ..), State.alu_writes (ite_toInt_le_swap ..), State.alu_writes (ite_toNat_le ..),
    State.alu_writes (ite_toNat_le_swap ..), State.alu_writes rfl,
    fun h => writes_of_result (n := s.freeCtr) h (congrArg (s.result c w) (ofNat_movh ..)), fun h => writes_of_result (n := s.freeCtr) h rfl⟩

end Sys2Proof.Machine
end

section
/-! The sums of class 0 (R416, R417): ADD, SUB, CMP and ADDS. -/

namespace Sys2Proof.Machine

/-! ### C and V (R416) -/

/-- Signed overflow of a sum is that the signed result is not the exact one. -/
theorem toInt_add_ne_eq_saddOverflow (a b : BitVec 64) : decide ((a + b).toInt ≠ a.toInt + b.toInt) = a.saddOverflow b := by
  cases h : a.saddOverflow b with
  | false => simp [BitVec.toInt_add_of_not_saddOverflow (by simp [h] : ¬ a.saddOverflow b = true)]
  | true =>
    have hhi := BitVec.toInt_lt (x := a + b)
    have hlo := BitVec.le_toInt (x := a + b)
    simp only [BitVec.saddOverflow, Bool.or_eq_true, decide_eq_true_eq] at h
    exact decide_eq_true (by omega)

/-- Signed overflow of a difference, likewise. -/
theorem toInt_sub_ne_eq_ssubOverflow (a b : BitVec 64) : decide ((a - b).toInt ≠ a.toInt - b.toInt) = a.ssubOverflow b := by
  cases h : a.ssubOverflow b with
  | false => simp [BitVec.toInt_sub_of_not_ssubOverflow (by simp [h] : ¬ a.ssubOverflow b = true)]
  | true =>
    have hhi := BitVec.toInt_lt (x := a - b)
    have hlo := BitVec.le_toInt (x := a - b)
    simp only [BitVec.ssubOverflow, Bool.or_eq_true, decide_eq_true_eq] at h
    exact decide_eq_true (by omega)

theorem CFlags.ofAdd_eq (f : CFlags) (a b : BitVec 64) :
    f.ofAdd a b = { f with z := a + b == 0, n := (a + b).msb, c := decide (2 ^ 64 ≤ a.toNat + b.toNat),
                           v := decide ((a + b).toInt ≠ a.toInt + b.toInt) } := by
  rw [toInt_add_ne_eq_saddOverflow, BitVec.saddOverflow_eq]
  rfl

theorem CFlags.ofSub_eq (f : CFlags) (a b : BitVec 64) :
    f.ofSub a b = { f with z := a - b == 0, n := (a - b).msb, c := decide (a.toNat < b.toNat),
                           v := decide ((a - b).toInt ≠ a.toInt - b.toInt) } := by
  have hv : (a.msb != b.msb && (a - b).msb != a.msb) = a.ssubOverflow b := by
    rw [BitVec.ssubOverflow_eq]
    cases a.msb <;> cases b.msb <;> simp
  rw [toInt_sub_ne_eq_ssubOverflow, ← hv]
  rfl

/-! ### The ops -/

section
variable {s : State} {e x w : Nat} {c : Ctx}

theorem engAdd_sum (h : Issues s e x 0 0 w c) :
    engAdd e x s = s.setCtx e x
      (({ c.setR (wRd w) (c.a w + c.b w) with fl := if wFl w then c.fl.ofAdd (c.a w) (c.b w) else c.fl } : Ctx).advance w) :=
  State.issue_ok h rfl

theorem engSub_difference (h : Issues s e x 0 1 w c) :
    engSub e x s = s.setCtx e x
      (({ c.setR (wRd w) (c.a w - c.b w) with fl := if wFl w then c.fl.ofSub (c.a w) (c.b w) else c.fl } : Ctx).advance w) :=
  State.issue_ok h rfl

/-- CMP sets the flags of the difference, whatever the word's fl. -/
theorem engCmp_flags (h : Issues s e x 0 14 w c) :
    engCmp e x s = s.setCtx e x (({ c with fl := c.fl.ofSub (c.a w) (c.b w) } : Ctx).advance w) :=
  State.issue_ok h rfl

/-- ADDS writes the sum held at the limits, and sets SAT where that is not the sum. -/
theorem engAdds_held {r : Int} (hr : r = (c.a w).toInt + (c.b w).toInt) (h : Issues s e x 0 15 w c) :
    Writes s e x w { c with fl := c.fl.setSat (decide (stick r ≠ r)) } (BitVec.ofInt 64 (stick r)) (.next (engAdds e x s)) :=
  hr ▸ writes_of_result_from (n := s.freeCtr) h rfl

end

/-- Settles O27: the flags of a sum and of a difference are R416's, and one lemma above for each op. -/
theorem engineSums : Obligations.EngineSums := by
  unfold Obligations.EngineSums
  refine fun s e x w c => ⟨⟨_, c.fl.ofAdd_eq _ _, fun h => next_congr (engAdd_sum h)⟩,
    ⟨_, c.fl.ofSub_eq _ _, fun h => next_congr (engSub_difference h), fun h => next_congr (engCmp_flags h)⟩, ?_⟩
  rintro r _ hr rfl h
  exact engAdds_held hr h

end Sys2Proof.Machine
end

section
/-! Products and the accumulators: microword class 1 (R259, R414, R416, R417). -/

namespace Sys2Proof.Machine

/-! ### Register pairs and halves (R414) -/

/-- A register pair is its two registers side by side, the first the high one. -/
theorem Ctx.wide_eq_append (c : Ctx) (i j : Nat) : c.wide i j = c.r i ++ c.r j := by
  apply BitVec.eq_of_toNat_eq
  have hi := (c.r i).isLt
  have hj := (c.r j).isLt
  rw [Ctx.wide, BitVec.toNat_ofNat, BitVec.toNat_append, ← Nat.shiftLeft_add_eq_or_of_lt hj, Nat.shiftLeft_eq]
  omega

theorem ofNat_div_eq_extract (v : BitVec 128) : BitVec.ofNat 64 (v.toNat / 2 ^ 64) = v.extractLsb' 64 64 := by
  rw [← Nat.shiftRight_eq_div_pow]
  rfl

/-! ### The ops -/

section
variable {s : State} {e x w : Nat} {c : Ctx}

/-- ARDL answers the low half. -/
theorem engArdl_low (h : Issues s e x 1 7 w c) : Writes s e x w c ((c.acc w).extractLsb' 0 64) (.next (engArdl e x s)) :=
  writes_of_result (n := s.freeCtr) h rfl

/-- ARDH answers the high half. -/
theorem engArdh_high (h : Issues s e x 1 8 w c) : Writes s e x w c ((c.acc w).extractLsb' 64 64) (.next (engArdh e x s)) :=
  writes_of_result (n := s.freeCtr) h (congrArg (s.result c w) (ofNat_div_eq_extract _))

theorem engAld_pair (h : Issues s e x 1 6 w c) : WritesAcc s e x w c (c.r (wRa w) ++ c.r (wRb w)) (.next (engAld e x s)) :=
  writesAcc_of_accResult h (congrArg (s.accResult c w) (c.wide_eq_append _ _))

theorem engAadd_pair (h : Issues s e x 1 12 w c) :
    WritesAcc s e x w c (c.acc w + (c.r (wRa w) ++ c.r (wRb w))) (.next (engAadd e x s)) :=
  writesAcc_of_accResult h (congrArg (fun r => s.accResult c w (c.acc w + r)) (c.wide_eq_append _ _))

/-- ASHR rounds half upward; by 0 it leaves the accumulator. -/
theorem engAshr_rounded {q : Int} (hzero : wAux w = 0 → q = (c.acc w).toInt)
    (hpos : wAux w ≠ 0 → q = ((c.acc w).toInt + 2 ^ (wAux w - 1)) / 2 ^ wAux w) (h : Issues s e x 1 10 w c) :
    WritesAcc s e x w c (BitVec.ofInt 128 q) (.next (engAshr e x s)) := by
  have hq : (if wAux w = 0 then (c.acc w).toInt else ((c.acc w).toInt + 2 ^ (wAux w - 1)) / 2 ^ wAux w) = q := by
    split
    case isTrue hz => exact (hzero hz).symm
    case isFalse hz => exact (hpos hz).symm
  exact writesAcc_of_accResult h (congrArg (fun q => s.accResult c w (BitVec.ofInt 128 q)) hq)

/-- AMULW adds the product of two pairs, scaled and rounded to nearest. -/
theorem engAmulw_rounded {p q : Int} (hp : p = (c.wide (wRa w) ((wRa w + 1) % 32)).toInt) (hq : q = (c.wide (wRb w) ((wRb w + 1) % 32)).toInt)
    (h : Issues s e x 1 11 w c) :
    WritesAcc s e x w c (c.acc w + BitVec.ofInt 128 (rdiv (p * q) (2 ^ (64 + wAux w)))) (.next (engAmulw e x s)) := by
  subst hp hq
  exact writesAcc_of_accResult h rfl

/-- AXCH exchanges the accumulators; all four flags are free where fl is 1. -/
theorem engAxch_exchanges (h : Issues s e x 1 13 w c) : ∃ n g, (wFl w = false → g = c.fl) ∧
    engAxch e x s = ({ s with freeCtr := n } : State).setCtx e x
      (({ c with acc0 := c.acc1, acc1 := c.acc0, fl := { c.fl with z := g.z, n := g.n, c := g.c, v := g.v } } : Ctx).advance w) := by
  cases hfl : wFl w with
  | false =>
    refine ⟨s.freeCtr, c.fl, fun _ => rfl, State.issue_ok h ?_⟩
    simp only [State.otherFlags, hfl, Bool.false_eq_true, if_false]
  | true =>
    refine ⟨s.freeCtr + 2, c.fl.ofOther (natBit s.free.1 2) (natBit s.free.1 3) s.free.2.free.1, nofun, State.issue_ok h ?_⟩
    simp only [State.otherFlags, hfl, if_true]
    rfl

end

/-- Settles O28: the products and sums as they stand, and one lemma above for each op that forms its operand or rounds. -/
theorem engineAccumulators : Obligations.EngineAccumulators := by
  unfold Obligations.EngineAccumulators
  refine fun s e x w c => ⟨?mul, ?mulhs, ?mulhu, ?amac, ?amsb, ?aclr, engAld_pair, engArdl_low, engArdh_high, ?ashl,
    fun q h0 h1 h => engAshr_rounded h0 h1 h, fun p q hp hq h => engAmulw_rounded hp hq h, engAadd_pair, ?axch⟩
  case mul => exact fun h => writes_of_result (n := s.freeCtr) h rfl
  case mulhs => exact fun h => writes_of_result (n := s.freeCtr) h rfl
  case mulhu => exact fun h => writes_of_result (n := s.freeCtr) h rfl
  case amac => exact fun h => writesAcc_of_accResult h rfl
  case amsb => exact fun h => writesAcc_of_accResult h rfl
  case aclr => exact fun h => writesAcc_of_accResult h rfl
  case ashl => exact fun h => writesAcc_of_accResult h rfl
  case axch =>
    intro h
    obtain ⟨n, g, hg, hs⟩ := engAxch_exchanges h
    exact ⟨n, g, hg, next_congr hs⟩

end Sys2Proof.Machine
end

section
/-! The divisions: microword class 2, and what R417's rounding to nearest means. -/

namespace Sys2Proof.Machine

/-! ### Rounding to nearest, ties away from zero (R417) -/

/-- The rounded quotient by a positive number: `q = (2|n| + d) / 2d` puts 2(|n| − d·q) at −d or above, and below d. -/
theorem rdiv_nearest (n : Int) {d : Nat} (hd : 0 < d) :
    2 * (n - d * rdiv n d).natAbs ≤ d ∧ (2 * (n - d * rdiv n d).natAbs = d → n.natAbs < (d * rdiv n d).natAbs) := by
  have hdiv := Nat.div_add_mod (2 * n.natAbs + d) (2 * d)
  have hmod := Nat.mod_lt (2 * n.natAbs + d) (by omega : 0 < 2 * d)
  rw [Nat.mul_assoc] at hdiv
  have hp : (d * rdiv n d : Int) =
      if n < 0 then -((d * ((2 * n.natAbs + d) / (2 * d)) : Nat) : Int) else (d * ((2 * n.natAbs + d) / (2 * d)) : Nat) := by
    simp only [rdiv, Nat.cast_mul, ← mul_neg, ← mul_ite]
  rw [hp]
  generalize d * ((2 * n.natAbs + d) / (2 * d)) = p at hdiv
  split <;> omega

/-- The same for a divisor of either sign. -/
theorem rdivInt_nearest (a : Int) {b : Int} (hb : b ≠ 0) :
    2 * (a - b * rdivInt a b).natAbs ≤ b.natAbs ∧ (2 * (a - b * rdivInt a b).natAbs = b.natAbs → a.natAbs < (b * rdivInt a b).natAbs) := by
  by_cases hneg : b < 0
  · have hq : b * rdivInt a b = -(b.natAbs * rdiv (-a) b.natAbs) := by
      rw [rdivInt, if_pos hneg, ← neg_mul, Int.ofNat_natAbs_of_nonpos hneg.le, neg_neg]
    have hr : a - b * rdivInt a b = -(-a - b.natAbs * rdiv (-a) b.natAbs) := by omega
    rw [hr, hq, Int.natAbs_neg, Int.natAbs_neg, ← Int.natAbs_neg a]
    exact rdiv_nearest _ (Int.natAbs_pos.2 hb)
  · have hq : b * rdivInt a b = b.natAbs * rdiv a b.natAbs := by
      rw [rdivInt, if_neg hneg, Int.natAbs_of_nonneg (not_lt.1 hneg)]
    rw [hq]
    exact rdiv_nearest _ (Int.natAbs_pos.2 hb)

/-! ### Quotients and remainders of words -/

theorem sdiv_eq_ofInt (a b : BitVec 64) : a.sdiv b = BitVec.ofInt 64 (a.toInt.tdiv b.toInt) :=
  BitVec.eq_of_toInt_eq (by rw [BitVec.toInt_sdiv, BitVec.toInt_ofInt])

theorem srem_eq_ofInt (a b : BitVec 64) : a.srem b = BitVec.ofInt 64 (a.toInt.tmod b.toInt) := by
  rw [← BitVec.toInt_srem, BitVec.ofInt_toInt]

theorem udiv_eq_ofNat (a b : BitVec 64) : a.udiv b = BitVec.ofNat 64 (a.toNat / b.toNat) := by
  rw [← BitVec.toNat_udiv, BitVec.ofNat_toNat, BitVec.setWidth_eq]
  rfl

theorem umod_eq_ofNat (a b : BitVec 64) : a.umod b = BitVec.ofNat 64 (a.toNat % b.toNat) := by
  rw [← BitVec.toNat_umod, BitVec.ofNat_toNat, BitVec.setWidth_eq]
  rfl

/-! ### The ops -/

section
variable {s : State} {e x op w : Nat} {c d : Ctx} (hd : d = { c with fl := { c.fl with dvz := c.fl.dvz || c.b w == 0 } })
include hd

/-- A division of 64-bit operands writes 0 for a divisor of 0, and sets DVZ. -/
theorem State.divOp_writes {f : BitVec 64 → BitVec 64 → BitVec 64} {r : BitVec 64} (hr : f (c.a w) (c.b w) = r) (h : Issues s e x 2 op w c) :
    Writes s e x w d (if c.b w = 0 then 0 else r) (.next (s.divOp op e x f)) := by
  refine writes_of_result_from (n := s.freeCtr) h ?_
  simp only [hd, hr, CFlags.setDvz, beq_iff_eq]

/-- ADIV divides the accumulator, likewise. -/
theorem engAdiv_writesAcc (h : Issues s e x 2 5 w c) :
    WritesAcc s e x w d (if c.b w = 0 then 0 else BitVec.ofInt 128 (rdivInt (c.acc w).toInt (c.b w).toInt)) (.next (engAdiv e x s)) := by
  refine writesAcc_of_accResult h ?_
  simp only [hd, CFlags.setDvz, beq_iff_eq]

end

/-- Settles O29: each op through the division that all share, and the rounding of the quotient. -/
theorem engineDivision : Obligations.EngineDivision := by
  unfold Obligations.EngineDivision
  refine ⟨fun s e x w c d hd => ⟨State.divOp_writes hd (sdiv_eq_ofInt ..), State.divOp_writes hd (udiv_eq_ofNat ..),
    State.divOp_writes hd (srem_eq_ofInt ..), State.divOp_writes hd (umod_eq_ofNat ..), State.divOp_writes hd rfl, engAdiv_writesAcc hd⟩,
    fun a b hb => rdivInt_nearest a hb⟩

end Sys2Proof.Machine
end

section
/-! binary64: microword class 3 (R416, R417). -/

namespace Sys2Proof.Machine

/-! ### Finite values -/

section
variable {p q : Nat} (hp : f64Fin p = true)
include hp

theorem f64Nan_of_fin : f64Nan p = false := by
  simp only [f64Fin, bne_iff_ne] at hp
  simp [f64Nan, hp]

theorem f64Inf_of_fin : f64Inf p = false := by
  simp only [f64Fin, bne_iff_ne] at hp
  simp [f64Inf, hp]

variable (hq : f64Fin q = true)
include hq

/-- The sum of finite values takes no free value. -/
theorem f64Add_fin (f g : Nat) : f64Add f p q = f64Add g p q := by
  simp only [f64Add, f64Nan_of_fin hp, f64Nan_of_fin hq, f64Inf_of_fin hp, f64Inf_of_fin hq, Bool.or_self, Bool.and_self,
    Bool.false_eq_true, if_false]

/-- Nor does their product. -/
theorem f64Mul_fin (f g : Nat) : f64Mul f p q = f64Mul g p q := by
  simp only [f64Mul, f64Nan_of_fin hp, f64Nan_of_fin hq, f64Inf_of_fin hp, f64Inf_of_fin hq, Bool.or_self, Bool.false_eq_true, if_false]

end

/-! ### The ops -/

section
variable {s : State} {e x op w : Nat} {c : Ctx}

/-- An op of binary64 operands writes its value, with the free value that it draws. -/
theorem State.fpu_writes (f : Nat → Nat → Nat → Nat) (h : Issues s e x 3 op w c) :
    Writes s e x w c (BitVec.ofNat 64 (f s.free.1 (c.a w).toNat (c.b w).toNat)) (.next (s.fpu op e x f)) :=
  writes_of_result (n := s.freeCtr + 1) h rfl

/-- A division of binary64 writes 0 for a divisor of 0, and sets DVZ. -/
theorem State.fdivOp_writes (num den : Ctx → Nat → Nat) (h : Issues s e x 3 op w c) :
    Writes s e x w { c with fl := c.fl.setDvz (f64Zero (den c w)) }
      (if f64Zero (den c w) then 0 else BitVec.ofNat 64 (f64Div s.free.1 (num c w) (den c w))) (.next (s.fdivOp op e x num den)) :=
  writes_of_result_from (n := s.freeCtr + 1) h rfl

/-- FCMP sets Z, N and V; C is free where the word's fl is 1. -/
theorem engFcmp_flags {z n v : Bool} (hr : f64Cmp (c.a w).toNat (c.b w).toNat = (z, n, v)) (h : Issues s e x 3 8 w c) :
    ∃ k cy, (wFl w = false → cy = c.fl.c) ∧ engFcmp e x s =
      ({ s with freeCtr := k } : State).setCtx e x (({ c with fl := { c.fl with z := z, n := n, v := v, c := cy } } : Ctx).advance w) := by
  cases hfl : wFl w with
  | false =>
    refine ⟨s.freeCtr, c.fl.c, fun _ => rfl, State.issue_ok h ?_⟩
    simp only [hr, hfl, Bool.false_eq_true, if_false]
  | true =>
    refine ⟨s.freeCtr + 1, natBit s.free.1 0, nofun, State.issue_ok h ?_⟩
    simp only [hr, hfl, if_true]
    rfl

/-- FINT of a finite value writes the nearest integer, held at the limits with SAT. -/
theorem engFint_fin (hfin : f64Fin (c.a w).toNat = true) (h : Issues s e x 3 9 w c) :
    Writes s e x w { c with fl := c.fl.setSat (decide (stick (f64Round (c.a w).toNat) ≠ f64Round (c.a w).toNat)) }
      (BitVec.ofInt 64 (stick (f64Round (c.a w).toNat))) (.next (engFint e x s)) := by
  refine writes_of_result_from (n := s.freeCtr + 1) h ?_
  simp only [f64Nan_of_fin hfin, f64Inf_of_fin hfin, Bool.false_eq_true, if_false]
  rfl

end

/-- Settles O30: the ops by the lemma of their form, FCMP and FINT by their own; a finite sum and product meet none of the branches of a NaN. -/
theorem engineBinary64 : Obligations.EngineBinary64 := by
  unfold Obligations.EngineBinary64
  refine ⟨fun s e x w c => ⟨?add, ?sub, ?mul, ?div, ?root, ?rcp, ?cvt, ?cvta, ?cmp, ?int⟩,
    fun f g p q hp hq => ⟨f64Add_fin hp hq f g, f64Mul_fin hp hq f g⟩⟩
  case add => exact fun h => ⟨_, State.fpu_writes f64Add h⟩
  case sub => exact fun h => ⟨_, State.fpu_writes (fun f a b => f64Add f a (f64Negate b)) h⟩
  case mul => exact fun h => ⟨_, State.fpu_writes f64Mul h⟩
  case div => exact fun h => ⟨_, State.fdivOp_writes (fun c w => (c.a w).toNat) (fun c w => (c.b w).toNat) h⟩
  case root => exact fun h => ⟨_, State.fpu_writes (fun f a _ => f64Root f a) h⟩
  case rcp => exact fun h => ⟨_, State.fdivOp_writes (fun _ _ => f64OfInt 1 1) (fun c w => (c.a w).toNat) h⟩
  case cvt => exact fun h => writes_of_result (n := s.freeCtr) h rfl
  case cvta => exact fun h => writes_of_result (n := s.freeCtr) h rfl
  case cmp =>
    intro z n v hr h
    obtain ⟨k, cy, hcy, hs⟩ := engFcmp_flags hr h
    exact ⟨k, cy, hcy, next_congr hs⟩
  case int =>
    rintro _ hfin rfl h
    exact engFint_fin hfin h

end Sys2Proof.Machine
end

section
/-! The frame and the spill area: microword class 4 (R412, R417, R422, R453). -/

namespace Sys2Proof.Machine

/-! ### Bytes of a number (R4) -/

theorem leBytes_length (n v : Nat) : (leBytes n v).length = n := by
  induction n generalizing v with
  | zero => rfl
  | succ n ih => rw [leBytes, List.length_cons, ih]

theorem leBytes_getElem {n i : Nat} (v : Nat) (hi : i < (leBytes n v).length) : (leBytes n v)[i] = BitVec.ofNat 8 (v >>> (8 * i)) := by
  induction n generalizing v i with
  | zero => exact absurd hi (Nat.not_lt_zero i)
  | succ n ih =>
    cases i with
    | zero => rfl
    | succ i =>
      simp only [leBytes, List.getElem_cons_succ, ih]
      rw [← Nat.shiftRight_eq_div_pow v 8, ← Nat.shiftRight_add, Nat.mul_succ, Nat.add_comm]

/-! ### The frame (R412, R422) -/

section
variable {s t u : State} {e x op n w a : Nat} {c : Ctx} {f : State → Ctx → Nat → Nat → OpOut} {r : BitVec 64}

/-- An op that answers a 64-bit result writes it, in the state that it has come to. -/
theorem writes_of_act_result (h : u = (s.result c w r).act t e x w) : Writes s e x w c r (.next u) := by
  obtain ⟨m, g, hg, hr⟩ := s.result_ok c w r
  exact ⟨m, g, hg, next_congr (h.trans (by rw [hr, OpOut.act]))⟩

section
variable (h : Issues s e x 4 op w c) (ha : a = (c.a w + BitVec.ofInt 64 (wImm w)).toNat)
include h ha

section
variable (hin : a + n ≤ s.frameBytes c) (hal : a % n = 0)
include hin hal

/-- An aligned access inside the frame acts as its op does. -/
theorem State.frameOp_good : s.frameOp op n e x .good f = (f s c w a).act s e x w := by
  subst ha
  rw [State.frameOp, State.issue_of_issues h, if_neg (by omega)]

/-- With a corrected ECC error, on a state that has counted it. -/
theorem State.frameOp_corrected : s.frameOp op n e x .corrected f = (f (s.addSat F.ENG_ECC 1 e) c w a).act s e x w := by
  subst ha
  rw [State.frameOp, State.issue_of_issues h, if_neg (by omega)]

/-- An uncorrectable ECC error aborts. -/
theorem State.frameOp_uncorrectable : s.frameOp op n e x .uncorrectable f = s.abortCtx e x true := by
  subst ha
  rw [State.frameOp, State.issue_of_issues h, if_neg (by omega), OpOut.act]

end

/-- An access outside the frame or misaligned aborts, whatever the ECC shows. -/
theorem State.frameOp_outside (hout : s.frameBytes c < a + n ∨ a % n ≠ 0) (ecc : Ecc) : s.frameOp op n e x ecc f = s.abortCtx e x false := by
  subst ha
  rw [State.frameOp, State.issue_of_issues h, if_pos hout, OpOut.act]

/-! ### The spill area (R453) -/

section
variable {k : Task} (ht : s.task c.task = some k) (hin : a + 8 ≤ k.spill.2) (hal : a % 8 = 0)
include ht hin hal

/-- An aligned access inside the task's spill area acts as its op does. -/
theorem State.spillOp_inside : s.spillOp op e x f = (f s c w (k.spill.1 + a)).act s e x w := by
  subst ha
  simp only [State.spillOp, State.issue_of_issues h, ht]
  rw [if_neg (by omega)]

end

end

section
variable {k : Task} (ha : a = (c.a w + BitVec.ofInt 64 (wImm w)).toNat) (ht : s.task c.task = some k) (hin : a + 8 ≤ k.spill.2) (hal : a % 8 = 0)
include ha ht hin hal

/-- SPLD of bytes without poison answers them. -/
theorem engSpld_bytes (h : Issues s e x 4 5 w c) (hp : s.poisonIn (k.spill.1 + a) 8 = 0) :
    Writes s e x w c (BitVec.ofNat 64 (ofLe (Memory.readN 0 s.dram (k.spill.1 + a) 8))) (.next (engSpld e x s)) :=
  writes_of_act_result (t := s) (by rw [engSpld, State.spillOp_inside h ha ht hin hal, if_pos hp])

/-- SPST writes the eight bytes of g[rb]. -/
theorem engSpst_writes (h : Issues s e x 4 6 w c) :
    engSpst e x s =
      ({ s with dram := Memory.writeN 0 s.dram (k.spill.1 + a) (leBytes 8 (c.r (wRb w)).toNat) } : State).setCtx e x (c.advance w) :=
  State.spillOp_inside h ha ht hin hal

end

end

/-- Settles O31: loads and stores by where their address lies and what the ECC shows; of SPST the bytes that it writes and leaves. -/
theorem engineMemory : Obligations.EngineMemory := by
  unfold Obligations.EngineMemory
  refine fun s e x w a c => ⟨?ld, ?ldw, ?ldws, ?st, ?stw, ?outside, ?ecc, ?spld, ?spst⟩
  case ld => exact fun h ha hin hal => writes_of_act_result (State.frameOp_good h ha hin hal)
  case ldw => exact fun h ha hin hal => writes_of_act_result (State.frameOp_good h ha hin hal)
  case ldws => exact fun h ha hin hal => writes_of_act_result (State.frameOp_good h ha hin hal)
  case st => exact fun h ha hin hal => next_congr (State.frameOp_good h ha hin hal)
  case stw => exact fun h ha hin hal => next_congr (State.frameOp_good h ha hin hal)
  case outside =>
    exact fun h ha hout => ⟨next_congr (State.frameOp_outside h ha hout _), next_congr (State.frameOp_outside h ha hout _)⟩
  case ecc =>
    exact fun h ha hin hal => ⟨next_congr (State.frameOp_uncorrectable h ha hin hal),
      writes_of_act_result (State.frameOp_corrected h ha hin hal)⟩
  case spld => exact fun k h ha ht hin hal hp => engSpld_bytes ha ht hin hal h hp
  case spst =>
    intro k hinv h ha ht hin hal
    have hlen := leBytes_length 8 (c.r (wRb w)).toNat
    refine ⟨_, next_congr (engSpst_writes ha ht hin hal h), fun b hb => ?_, fun i hi => ?_⟩
    · exact Memory.read_writeN_ne _ _ (by rwa [hlen]) hinv.dram
    · rw [Memory.read_writeN_in _ i _ (by rwa [hlen]) hinv.dram, leBytes_getElem]
      rfl

end Sys2Proof.Machine
end

section
/-! NOP, CSR and FAULT, words that R415 forbids, false conditions, and the sequencer operations (R411, R415 to R417, R422, R426). -/

namespace Sys2Proof.Machine

/-! ### Words that do not act, and microword class 7 (R415, R416) -/

section
variable {s : State} {e x cls op w : Nat} {c : Ctx} {f : State → Ctx → Nat → OpOut} (hc : s.ctx e x = c) (hcan : s.canIssue e c = true)
include hc hcan

/-- A word that R415 forbids aborts its context. -/
theorem State.issue_forbidden (hword : wordLegal (s.fetchWord c) = false) : s.issue cls op e x f = s.abortCtx e x false := by
  subst hc
  simp only [State.issue, hcan, hword, Bool.true_eq_false, if_false, if_true]

/-- A word whose pred is false only goes on. -/
theorem State.issue_pred_false (hw : s.fetchWord c = w) (hlegal : wordLegal w = true) (hcls : wCls w = cls) (hop : wOp w = op)
    (hpred : c.fl.holds (wPred w) = false) : s.issue cls op e x f = s.setCtx e x (c.advance w) := by
  subst hc hw hcls hop
  simp only [State.issue, hcan, hlegal, hpred, ne_eq, not_true_eq_false, or_self, Bool.true_eq_false, if_false, if_true]

end

section
variable {s : State} {e x w : Nat} {c : Ctx}

theorem engNop_advances (h : Issues s e x 7 0 w c) : engNop e x s = s.setCtx e x (c.advance w) := State.issue_ok h rfl

/-- CSR answers the field that aux names. -/
theorem engCsr_field {k : Nat} (h : Issues s e x 7 1 w c) (hk : wAux w = k) :
    Writes s e x w c (BitVec.ofNat 64 (s.csr e x c k)) (.next (engCsr e x s)) := by
  subst hk
  exact writes_of_result (n := s.freeCtr) h rfl

/-- The last field of CSR is the base of the task's spill area. -/
theorem State.csr_spill {k : Task} (ht : s.task c.task = some k) : s.csr e x c 4 = k.spill.1 := by
  simp only [State.csr, ht]

/-- FAULT raises ENG_PROG with imm. -/
theorem engFault_raises (h : Issues s e x 7 2 w c) :
    engFault e x s = (s.raise 0x0E3 (unitOf 7 c.task) (BitVec.ofInt 32 (wImm w)).toNat).setCtx e x (c.advance w) := by
  rw [toNat_ofInt32]
  exact State.issue_ok h rfl

end

/-! ### The sequencer (R416) -/

section
variable {s u : State} {e x q w : Nat} {c d : Ctx} {f : State → Ctx → Nat → OpOut}

/-- A sequencer operation that acts and completes leaves the context that it answers. -/
theorem State.seqRow_ok (h : SeqActs s e x q w c) (hf : f s { c with seqPend := false } w = .ok u d) :
    s.seqRow q e x f = u.setCtx e x d := by
  obtain ⟨rfl, rfl, hdue, hcond⟩ := h
  simp only [State.seqRow, hdue, hcond, hf, Bool.true_eq_false, if_false]

theorem State.seqRow_abort {b : Bool} (h : SeqActs s e x q w c) (hf : f s { c with seqPend := false } w = .abort b) :
    s.seqRow q e x f = s.abortCtx e x b := by
  obtain ⟨rfl, rfl, hdue, hcond⟩ := h
  simp only [State.seqRow, hdue, hcond, hf, Bool.true_eq_false, if_false]

/-- Where cond is false the context goes to pc + 1. -/
theorem State.seqRow_cond_false (hc : s.ctx e x = c) (hw : s.fetchWord c = w) (hdue : s.seqDue e q c = true)
    (hcond : c.fl.holds (wCond w) = false) :
    s.seqRow q e x f = s.setCtx e x { c with seqPend := false, pc := (c.pc + 1) % 4096 } := by
  subst hc hw
  simp only [State.seqRow, hdue, hcond, Bool.true_eq_false, if_false, if_true]

end

section
variable {s : State} {e x w : Nat} {c : Ctx}

theorem seqJump_target (h : SeqActs s e x 1 w c) : seqJump e x s = s.setCtx e x { c with seqPend := false, pc := wTgt w } :=
  State.seqRow_ok h rfl

/-- CALL pushes pc + 1 where the stack has room. -/
theorem seqCall_pushes (h : SeqActs s e x 2 w c) (hroom : c.stack.length < 8) :
    seqCall e x s = s.setCtx e x { c with seqPend := false, stack := (c.pc + 1) % 4096 :: c.stack, pc := wTgt w } :=
  State.seqRow_ok h (if_neg (Nat.not_le.2 hroom))

/-- A ninth push aborts. -/
theorem seqCall_full (h : SeqActs s e x 2 w c) (hfull : 8 ≤ c.stack.length) : seqCall e x s = s.abortCtx e x false :=
  State.seqRow_abort h (if_pos hfull)

/-- RET pops the address that it goes to. -/
theorem seqRet_pops {p : Nat} {t : List Nat} (h : SeqActs s e x 3 w c) (hst : c.stack = p :: t) :
    seqRet e x s = s.setCtx e x { c with seqPend := false, stack := t, pc := p } := by
  refine State.seqRow_ok h ?_
  simp only [hst]

/-- A pop of an empty stack aborts. -/
theorem seqRet_empty (h : SeqActs s e x 3 w c) (hst : c.stack = []) : seqRet e x s = s.abortCtx e x false := by
  refine State.seqRow_abort h ?_
  simp only [hst]

theorem seqDisp_target (h : SeqActs s e x 4 w c) :
    seqDisp e x s = s.setCtx e x { c with seqPend := false, pc := (wTgt w + (c.r (wRd w)).toNat % 16) % 4096 } :=
  State.seqRow_ok h rfl

/-! ### The end of a task (R426) -/

/-- STOP rewinds the task's open packet and frees the task. -/
theorem seqStop_frees {k : Task} (h : SeqActs s e x 5 w c) (ht : s.task c.task = some k) :
    seqStop e x s = ((if c.opn then s.rewindQ k.outq (prodTask c.task) else s).dropMovesOf c.task).freeTask c.task := by
  obtain ⟨rfl, rfl, hdue, hcond⟩ := h
  simp only [seqStop, hdue, hcond, ht, Bool.true_eq_false, if_false]

/-- A context that was told to stop 1 ms ago or earlier, and holds its task still, is aborted. -/
theorem stopTimeout_aborts {t : Nat} (hc : s.ctx e x = c) (hv : c.valid = true) (hst : c.stopSeen = some t) (ht : t + msTicks 1 ≤ s.time) :
    stopTimeout e x s = s.abortCtx e x false := by
  subst hc
  simp only [stopTimeout, hst, hv, ht, and_self, if_true]

end

/-- Settles O34: one lemma above for each op and sequencer operation, and for each reason why a word does not act. -/
theorem engineControl : Obligations.EngineControl := by
  unfold Obligations.EngineControl
  refine fun s e x w c => ⟨fun h => next_congr (engNop_advances h),
    fun h => ⟨engCsr_field h, engCsr_field h, engCsr_field h, engCsr_field h, ?spill⟩,
    fun h => next_congr (engFault_raises h), fun hc hcan hword => next_congr (State.issue_forbidden hc hcan hword),
    fun hc hcan hw hlegal hcls hop hpred => next_congr (State.issue_pred_false hc hcan hw hlegal hcls hop hpred),
    fun h => next_congr (seqJump_target h), fun h hroom => next_congr (seqCall_pushes h hroom), fun h hfull => next_congr (seqCall_full h hfull),
    fun p t h hst => next_congr (seqRet_pops h hst), fun h hst => next_congr (seqRet_empty h hst), fun h => next_congr (seqDisp_target h),
    fun hc hw hdue hcond => next_congr (State.seqRow_cond_false hc hw hdue hcond), fun k h ht => ⟨_, rfl, next_congr (seqStop_frees h ht)⟩,
    fun t hc hv hst ht => next_congr (stopTimeout_aborts hc hv hst ht)⟩
  case spill =>
    intro k ht hk
    exact State.csr_spill (e := e) (x := x) ht ▸ engCsr_field h hk

end Sys2Proof.Machine
end

section
/-! Machine checks, control-store loads, and the moves of tasks between engines (R430 to R437, R439, R621). -/

namespace Sys2Proof.Machine

/-! ### Machine checks and scrubbing (R431 to R434) -/

section
variable {s t u : State} {e : Nat}

/-- A move that no command started ends without an ENG_CMD_STS. -/
theorem State.moveEnd_of_no_cmd (s : State) {m : Move} (hcmd : m.cmd = none) (result : Nat) : s.moveEnd m result = s := by
  rw [State.moveEnd, hcmd]

/-- A machine check on an engine in no move has none to convert or abandon. -/
theorem State.mchkInMove_none (hfrom : s.moveFrom e = none) (hto : s.moveTo e = none) : s.mchkInMove e = s := by
  rw [State.mchkInMove, hfrom, hto]
  rfl

/-- A machine check on an ACTIVE engine in no move: what it records, its fault, and the immediate move. -/
theorem machineCheck_active {x mask : Nat} (hst : s.engState e = 0) (hv : (s.ctx e x).valid = true) (hmask : mask % 16 ≠ 0)
    (ht : t = (((s.setFd F.ENG_MCHK_pc (s.ctx e x).pc e).setFd F.ENG_MCHK_quarters mask e).setFd F.ENG_MCHK_ctx x e).setFd F.ENG_MCHK_valid 1 e)
    (hfrom : t.moveFrom e = none) (hto : t.moveTo e = none)
    (hu : u = ((t.addSat F.ENG_STS_mchk 1 e).setEngState e 3).raise 0x0C0 (unitOf 6 e) (s.ctx e x).pc true) (hnone : u.moveFrom e = none) :
    machineCheck e x mask s = u.immediateMove e := by
  have hacts : ¬ (s.engState e ≠ 0 ∨ (s.ctx e x).valid = false ∨ mask % 16 = 0) := by simp [hst, hv, hmask]
  simp only [machineCheck, if_neg hacts, ← ht, State.mchkInMove_none hfrom hto, ← hu, hnone]

/-- An immediate move in its last step that leaves no task behind drops the fault and reloads the source. -/
theorem immediateMoveDone_last {src tgt : Nat} {m : Move} (hm : s.moveFrom src = some (tgt, m)) (himm : m.imm = true) (hstep : 2 ≤ m.step)
    (hcmd : m.cmd = none)
    (ht : t = ((m.tasks.foldl (fun st t => st.exportTask t tgt ((s.nowTick + 1) * 512)) (s.setEngState tgt 0)).setMove tgt none).showMove tgt)
    (hempty : (t.tasksOn src).isEmpty = true) :
    immediateMoveDone src s = (t.dropLive (unitOf 6 src) 0x0C0).startLoad src .afterMchk := by
  have hlast : ¬ (m.imm = false ∨ m.step < 2) := not_or.2 ⟨by simp [himm], by omega⟩
  simp only [immediateMoveDone, hm, if_neg hlast, ← ht, State.moveEnd_of_no_cmd _ hcmd, if_pos hempty]

/-- A scrub parity error is shown and raised, on every engine but a RETIRED one. -/
theorem scrubParityError_raises {w : Nat} (he : e < nEngines) (hw : w < 4096) (hst : s.engState e ≠ 4) :
    scrubParityError e w s = (s.setFd F.ENG_STS_scrub 1 e).raise 0x0C3 (unitOf 6 e) w :=
  if_neg (by omega)

end

/-! ### Loads (R430, R435) -/

section
variable {s : State} {e n : Nat} {why : LoadWhy} (hl : s.load e = some (why, n))
include hl

/-- A load that fails is repeated once. -/
theorem controlStoreLoadDone_repeats (hn : n = 0) : controlStoreLoadDone e false s = s.setLoad e (some (why, 1)) := by
  simp only [controlStoreLoadDone, hl, hn, Bool.false_eq_true, if_false, if_true]

/-- A load that fails again is over. -/
theorem controlStoreLoadDone_fails (hn : n ≠ 0) : controlStoreLoadDone e false s = s.loadFailed e why := by
  simp only [controlStoreLoadDone, hl, hn, Bool.false_eq_true, if_false]

theorem controlStoreLoadDone_passes : controlStoreLoadDone e true s = s.loadPassed e why := by
  simp only [controlStoreLoadDone, hl, if_true]

/-- A load for a planned move that passed takes the move to its second step. -/
theorem controlStoreLoadDone_forMove {src : Nat} {m : Move} (hwhy : why = .forMove src) (hm : (s.setLoad e none).moveTo e = some m) :
    controlStoreLoadDone e true s = ((s.setLoad e none).setMove e (some { m with step := 2 })).showMove e := by
  rw [controlStoreLoadDone_passes hl, hwhy]
  simp only [State.loadPassed, hm]

end

/-! ### ENG_CMD (R435, R437, R439, R621) -/

section
variable {s u : State} {t e : Nat} {k : Task} (hu : u = s.engCmdTaken 1) (hk : u.task t = some k)
include hu hk

/-- HANDOVER of a task in a move is refused. -/
theorem engHandover_inMove (he : e ≠ 0xFF) (hin : u.taskInMove t = true) : engHandover t e s = u.engCmdEnd (u.engCmd [e]) 3 := by
  simp only [engHandover, ← hu, hk, hin, Bool.true_or, if_true, if_neg he]

section
variable (htask : u.taskInMove t = false) (heng : u.inMove k.eng = false)
  (hshared : (u.placed.any fun p => p.1 != t && p.2.subs.any fun v => (k.subs.map fun v => v.queue).contains v.queue) = false)
include htask heng hshared

/-- HANDOVER that names no engine takes one that qualifies. -/
theorem engHandover_chosen (hch : u.chooseEngine k.desc k.outq (k.subs.map fun v => v.queue) (fun e => e == k.eng || u.inMove e) = some e) :
    engHandover t 0xFF s = u.startMove k.eng e [t] false 0 (some (u.engCmd [e])) := by
  simp only [engHandover, ← hu, hk, htask, heng, hshared, hch, bne_self_eq_false, Bool.false_and, Bool.or_self, Bool.false_eq_true, if_false,
    if_true]

/-- Where none qualifies, it is refused. -/
theorem engHandover_noTarget (hch : u.chooseEngine k.desc k.outq (k.subs.map fun v => v.queue) (fun e => e == k.eng || u.inMove e) = none) :
    engHandover t 0xFF s = u.engCmdEnd (u.engCmd [k.eng]) 5 := by
  simp only [engHandover, ← hu, hk, htask, heng, hshared, hch, bne_self_eq_false, Bool.false_and, Bool.or_self, Bool.false_eq_true, if_false,
    if_true]

/-- HANDOVER to an engine that qualifies. -/
theorem engHandover_named (hany : e ≠ 0xFF) (hne : e ≠ k.eng) (hlt : e < nEngines) (hin : u.inMove e = false)
    (hq : u.qualifies e k.desc k.outq (k.subs.map fun v => v.queue) = true) :
    engHandover t e s = u.startMove k.eng e [t] false 0 (some (u.engCmd [e])) := by
  have htarget : ¬ (e = k.eng ∨ nEngines ≤ e ∨ u.qualifies e k.desc k.outq (k.subs.map fun v => v.queue) = false) := by
    simp [hne, hlt, hq]
  simp only [engHandover, ← hu, hk, htask, heng, hshared, hin, Bool.and_false, Bool.or_self, Bool.false_eq_true, if_false, if_neg hany,
    if_neg htarget]

end
end

/-- An ACTIVE engine passes the first check of EVACUATE. -/
theorem State.active_not_refused {u : State} {src : Nat} (hsrc : src < nEngines) (hst : u.engState src = 0) :
    ¬ (nEngines ≤ src ∨ u.engState src ≠ 0) :=
  not_or.2 ⟨Nat.not_le.2 hsrc, not_not.2 hst⟩

section
variable {s u : State} {src tgt e : Nat} (hu : u = s.engCmdTaken 2)
include hu

/-- EVACUATE of an engine that is not ACTIVE is refused. -/
theorem evacuate_notActive (hst : u.engState src ≠ 0) : evacuate src tgt s = u.engCmdEnd (u.engCmd [src, tgt]) 2 := by
  simp only [evacuate, ← hu]
  exact if_pos (.inr hst)

variable (hsrc : src < nEngines) (hst : u.engState src = 0)
include hsrc hst

/-- EVACUATE of an engine in a move is refused. -/
theorem evacuate_inMove (hin : u.inMove src = true) : evacuate src tgt s = u.engCmdEnd (u.engCmd [src, tgt]) 3 := by
  simp only [evacuate, ← hu, if_neg (State.active_not_refused hsrc hst)]
  exact if_pos (.inl hin)

variable (hin : u.inMove src = false)
include hin

/-- EVACUATE that names no target goes to the lowest spare that qualifies. -/
theorem evacuate_picked (hp : u.pickSpare src = some e) : evacuate src 0xFF s = u.evacuateTo src e 0 (some (u.engCmd [src, 0xFF])) := by
  simp only [evacuate, ← hu, if_neg (State.active_not_refused hsrc hst), hin, hp, Bool.false_eq_true, ne_eq, not_true_eq_false,
    false_and, or_self, if_false, if_true]

/-- Where no spare qualifies, it is refused. -/
theorem evacuate_noSpare (hp : u.pickSpare src = none) : evacuate src 0xFF s = u.engCmdEnd (u.engCmd [src, 0xFF]) 5 := by
  simp only [evacuate, ← hu, if_neg (State.active_not_refused hsrc hst), hin, hp, Bool.false_eq_true, ne_eq, not_true_eq_false,
    false_and, or_self, if_false, if_true]

/-- EVACUATE to a spare that qualifies. -/
theorem evacuate_named (hlt : e < nEngines) (hok : u.spareOk src e = true) (hfree : u.inMove e = false) :
    evacuate src e s = u.evacuateTo src e 0 (some (u.engCmd [src, e])) := by
  have hany : e ≠ 0xFF := by unfold nEngines at hlt; omega
  have htarget : ¬ (nEngines ≤ e ∨ u.spareOk src e = false) := by simp [hlt, hok]
  simp only [evacuate, ← hu, if_neg (State.active_not_refused hsrc hst), hin, hfree, Bool.false_eq_true, and_false, or_self,
    if_false, if_neg hany, if_neg htarget]

end

section
variable {s u : State} {e : Nat} (hu : u = s.engCmdTaken 3)
include hu

/-- RETRY loads a RETIRED engine. -/
theorem engRetry_retired (he : e < nEngines) (hst : u.engState e = 4) : engRetry e s = u.startLoad e (.retry (u.engCmd [e])) := by
  simp only [engRetry, ← hu]
  exact if_neg (by omega)

/-- RETRY of another engine is refused. -/
theorem engRetry_refused (hst : u.engState e ≠ 4) : engRetry e s = u.engCmdEnd (u.engCmd [e]) 2 := by
  simp only [engRetry, ← hu]
  exact if_pos (.inr hst)

end

/-! ### Planned moves and retries (R436, R437) -/

section
variable {s t : State} {tgt : Nat} {m : Move} (hm : s.moveTo tgt = some m) (himm : m.imm = false)
include hm himm

/-- The shadow step sets T_h two ticks on. -/
theorem handoverShadow_setsTh (hstep : m.step = 2)
    (ht : t = (s.setMove tgt (some { m with step := 3, th := (s.nowTick + 2) * 512 })).markMoving m.tasks false) :
    handoverShadow tgt s = (t.setPair .ENG_HO_T_LO .ENG_HO_T_HI (stamp ((s.nowTick + 2) * 512))).showMove tgt := by
  have hdue : ¬ (m.imm = true ∨ m.step ≠ 2) := by simp [himm, hstep]
  simp only [handoverShadow, hm, if_neg hdue, ← ht]

/-- The drain step of an automatic evacuation, once every task is drained, moves the tasks and loads the source. -/
theorem handoverDrain_moves (hstep : m.step = 3) (hspare : m.spare = true) (hcmd : m.cmd = none) (hwhole : m.whole = true)
    (ht : t = m.tasks.foldl (fun st t => st.drainTask t) s) (hdrained : (m.tasks.all fun k => t.drained k m.th) = true) :
    handoverDrain tgt s =
      (((m.tasks.foldl (fun st t => (st.importTask t m).exportTask t tgt m.th) (t.setEngState tgt 0)).setMove tgt none).showMove tgt).startLoad
        m.src .afterMove := by
  have hdue : ¬ (m.imm = true ∨ m.step ≠ 3) := by simp [himm, hstep]
  simp only [handoverDrain, hm, if_neg hdue, ← ht, hspare, Bool.true_eq_false, false_and, if_false, if_true, hdrained,
    State.moveEnd_of_no_cmd _ hcmd, hwhole]

end

section
variable {s t : State} {src tries due : Nat} (hr : Tab.get (0, 0) s.eng.retries src = (tries, due))
include hr

/-- A retry that is not due changes nothing. -/
theorem evacuationRetry_early (hearly : s.time < due) : evacuationRetry src s = s := by
  simp only [evacuationRetry, hr]
  exact if_pos (.inr hearly)

/-- A retry that is due starts the evacuation again, with the next try. -/
theorem evacuationRetry_due {e : Nat} (htries : tries ≠ 0) (hdue : due ≤ s.time)
    (ht : t = s.setEng (fun g => { g with retries := Tab.set (0, 0) g.retries src (0, 0) })) (hst : t.engState src = 0)
    (hin : t.inMove src = false) (hp : t.pickSpare src = some e) : evacuationRetry src s = t.evacuateTo src e (tries + 1) none := by
  have hnow : ¬ (tries = 0 ∨ s.time < due) := by omega
  simp only [evacuationRetry, hr, if_neg hnow, ← ht, State.autoEvacuate, hst, hin, hp, ne_eq, not_true_eq_false, Bool.false_eq_true, if_false]

end

/-- Settles O51: one lemma above for each check, load, command and step. -/
theorem engineMoves : Obligations.EngineMoves := by
  unfold Obligations.EngineMoves
  refine ⟨?mchk, ?done, ?scrub, ?load, ?handover, ?evacuate, ?retry, ?planned, ?again⟩
  case mchk => exact fun s t u e x mask hst hv hmask ht hfrom hto hu hnone => next_congr (machineCheck_active hst hv hmask ht hfrom hto hu hnone)
  case done => exact fun s t src tgt m hm himm hstep hcmd ht hempty => next_congr (immediateMoveDone_last hm himm hstep hcmd ht hempty)
  case scrub => exact fun s e w he hw hst => next_congr (scrubParityError_raises he hw hst)
  case load =>
    refine fun s e n why hl => ⟨fun hn => next_congr (controlStoreLoadDone_repeats hl hn), ?_, ?_, ?_,
      fun src m hwhy hm => next_congr (controlStoreLoadDone_forMove hl hwhy hm)⟩
    · rintro c hn rfl
      exact next_congr (controlStoreLoadDone_fails hl hn)
    · rintro hn rfl
      exact next_congr (controlStoreLoadDone_fails hl hn)
    · rintro c rfl
      exact next_congr (controlStoreLoadDone_passes hl)
  case handover =>
    exact fun s u t k hu hk => ⟨fun e htask heng hshared => ⟨fun hch => next_congr (engHandover_chosen hu hk htask heng hshared hch),
      fun hch => next_congr (engHandover_noTarget hu hk htask heng hshared hch),
      fun hany hne hlt hin hq => next_congr (engHandover_named hu hk htask heng hshared hany hne hlt hin hq)⟩,
      fun e he hin => next_congr (engHandover_inMove hu hk he hin)⟩
  case evacuate =>
    exact fun s u src hu hsrc => ⟨fun hst tgt => next_congr (evacuate_notActive hu hst),
      fun hst hin tgt => next_congr (evacuate_inMove hu hsrc hst hin),
      fun hst hin => ⟨fun e hp => next_congr (evacuate_picked hu hsrc hst hin hp), fun hp => next_congr (evacuate_noSpare hu hsrc hst hin hp),
        fun e hlt hok hfree => next_congr (evacuate_named hu hsrc hst hin hlt hok hfree)⟩⟩
  case retry =>
    exact fun s u e hu he => ⟨fun hst => next_congr (engRetry_retired hu he hst), fun hst => next_congr (engRetry_refused hu hst)⟩
  case planned =>
    exact fun s t tgt m hm himm => ⟨fun hstep ht => next_congr (handoverShadow_setsTh hm himm hstep ht),
      fun hstep hspare hcmd hwhole ht hdrained => next_congr (handoverDrain_moves hm himm hstep hspare hcmd hwhole ht hdrained)⟩
  case again =>
    exact fun s t src e tries due hr htries => ⟨fun hearly => next_congr (evacuationRetry_early hr hearly),
      fun hdue ht hst hin hp => next_congr (evacuationRetry_due hr htries hdue ht hst hin hp)⟩

end Sys2Proof.Machine
end

section
/-! What holds of every command and every step: nothing sent is taken back and no fuse is programmed back (R554), every command runs but the
load of one of the maker's JTAG instructions (R611), and a step is the command at the front of the queue. -/

namespace Sys2Proof.Machine

/-- Settles O5: the parts of `Evolves` that speak of the queue, of what was sent and of the free values. -/
theorem nothingTakenBack : Obligations.NothingTakenBack := by
  unfold Obligations.NothingTakenBack
  intro c s t h
  obtain ⟨queue, sent, fresh, _, _⟩ := exec_evolves h
  exact ⟨queue, sent, fresh⟩

/-! ### Fuses and the levels of JTAG (R554, R611) -/

/-- Every step leaves the fuses as they are or programs them further. -/
theorem step_fuses {s t : State} (h : step s = .next t) : Otp.grows s.boot.otp t.boot.otp := by
  unfold step at h
  split at h
  case h_1 => cases h; exact Otp.grows_refl _
  case h_2 => exact (exec_evolves h).fuses

/-- Level 0 leaves the listed opcodes and the maker's as they are. -/
theorem jtagEffective_open {op : Nat} (h : op ≤ 6 ∨ (0x80 ≤ op ∧ op ≤ 0xFF)) : jtagEffective 0 op = op := by
  simp only [jtagEffective, if_true]
  split <;> omega

/-- Level 1 leaves the listed opcodes as they are, and makes BYPASS of every other. -/
theorem jtagEffective_listed (op : Nat) : jtagEffective 1 op = if op ≤ 6 then op else 0xFF := rfl

/-- Levels 2 and 3 leave BYPASS and IDCODE only. -/
theorem jtagEffective_closed {level : Nat} (h : 2 ≤ level) (op : Nat) : jtagEffective level op = if op = 2 then 2 else 0xFF := by
  rw [jtagEffective, if_neg (by omega), if_neg (by omega)]

/-- Settles O6: `step_fuses`, the fuses' part of the invariant, and one lemma for each level. -/
theorem fusesOneWay : Obligations.FusesOneWay := by
  unfold Obligations.FusesOneWay
  refine ⟨fun s t h => step_fuses h, fun s hs => ?_, fun op h => jtagEffective_open h, fun op h => ?_, fun op hlo hhi => ?_,
    fun level op hlo _ => jtagEffective_closed hlo op⟩
  · obtain ⟨_, hlen, hlevel⟩ := hs.fuses
    exact ⟨fun d hd => by rw [hlen d hd], by omega⟩
  · rw [jtagEffective_listed]; split <;> omega
  · rw [jtagEffective_listed, if_neg (by omega)]

/-! ### Every command answers a next state (R611) -/

/-- JTAG_UPDATE_IR goes on where the opcode in effect is none of the maker's. -/
theorem execJtagUpdateIr_next {s : State} {op : Nat} {scan : List Bool}
    (h : ¬ (0x80 ≤ jtagEffective (s.fd F.BOOT_OTP_STS_jtag) (op % 256) ∧ jtagEffective (s.fd F.BOOT_OTP_STS_jtag) (op % 256) ≤ 0xFE)) :
    exec (.jtagUpdateIr ⟨op, scan⟩) s = .next (jtagUpdateIr op scan s) :=
  if_neg h

/-- Settles O7: every other arm of exec is `.next` of the command's meaning. -/
theorem everyCommandRuns : Obligations.EveryCommandRuns := by
  unfold Obligations.EveryCommandRuns
  refine ⟨fun c s h => ?_, fun op scan s h => ⟨_, execJtagUpdateIr_next h⟩⟩
  cases c with
  | jtagUpdateIr u => exact absurd rfl (h u.opcode u.scan)
  | _ => exact ⟨_, rfl⟩

/-! ### The queue of waiting commands (98_reader.md) -/

theorem step_cons (c : Instr) (rest : List Instr) (s : State) : step { s with pending := c :: rest } = exec c { s with pending := rest } := rfl

theorem step_nil {s : State} (h : s.pending = []) : step s = .next s := by simp only [step, h]

/-- Settles O1: the arm of `step` for a queue that is not empty. -/
theorem stepTakesFront : Obligations.StepTakesFront := by
  unfold Obligations.StepTakesFront
  exact step_cons

/-- Settles O2: on an empty queue a step answers the state itself; otherwise its command leaves the queue's rest alone. -/
theorem idleOnEmpty : Obligations.IdleOnEmpty := by
  unfold Obligations.IdleOnEmpty
  intro s t h
  cases hp : s.pending with
  | nil =>
    rw [step_nil hp] at h
    cases h
    exact ⟨fun _ => rfl, hp⟩
  | cons c rest =>
    refine ⟨fun hnil => absurd hnil (List.cons_ne_nil c rest), ?_⟩
    simp only [step, hp] at h
    exact (exec_evolves h).queue

end Sys2Proof.Machine
end

section
/-! Loading a JTAG instruction, the boundary register's cells, and what drives the pins (R611 to R613). -/

namespace Sys2Proof.Machine

/-! ### Cells and pins (R611, R613) -/

theorem tapReg_boundary {op : Nat} : tapReg op = .boundary ↔ op ∈ [0, 1, 5, 6] := by
  unfold tapReg
  split
  case isTrue h => simpa using h
  case isFalse h => split <;> simpa using h

theorem takesPins_eq_true {op : Nat} : takesPins op = true ↔ op ∈ [0, 3, 4, 5, 6] := List.contains_iff_mem

/-- The opcodes that take the pins are listed ones. -/
theorem takesPins_listed {op : Nat} (h : takesPins op = true) : op ≤ 6 :=
  (by decide : ∀ op ∈ [0, 3, 4, 5, 6], op ≤ 6) op (takesPins_eq_true.1 h)

theorem State.loadCells_eq (s : State) (scan : List Bool) :
    s.loadCells scan = if s.dev.jtagIr ∈ [0, 1, 5, 6] ∧ scan ≠ [] then { s with dev := { s.dev with cells := scan } } else s := by
  simp only [State.loadCells, tapReg_boundary]
  rfl

/-- Scans change no state of the device. -/
theorem State.loadCells_st (s : State) (scan : List Bool) : (s.loadCells scan).dev.st = s.dev.st := by
  rw [State.loadCells_eq]
  split <;> rfl

theorem State.pinSource_taken {s : State} (h : s.dev.pinsTaken = true) (hop : takesPins s.dev.jtagIr = true) :
    s.pinSource = if s.dev.jtagIr = 4 then .highZ else .cells := by
  simp only [State.pinSource, h, hop, Bool.and_self, if_true]

theorem State.pinSource_free {s : State} (h : s.dev.pinsTaken = false) : s.pinSource = .system := by
  simp only [State.pinSource, h, Bool.false_and, Bool.false_eq_true, if_false]

/-! ### Opcodes (R611) -/

/-- At levels 0 and 1 the opcodes of IEEE 1149.1 and 1149.6 are available. -/
theorem jtagEffective_low {level op : Nat} (hlevel : level ≤ 1) (hop : op ≤ 6 ∨ op = 0xFF) : jtagEffective level op = op := by
  obtain rfl | rfl : level = 0 ∨ level = 1 := by omega
  · exact jtagEffective_open (by omega)
  · rw [jtagEffective_listed]; split <;> omega

section
variable {s u : State} {op v : Nat} {scan : List Bool}

theorem execJtagUpdateIr_makers (hlevel : s.fd F.BOOT_OTP_STS_jtag = 0) (hlo : 0x80 ≤ op % 256) (hhi : op % 256 ≤ 0xFE) :
    exec (.jtagUpdateIr ⟨op, scan⟩) s = .fault .privateJtag := by
  have heff : jtagEffective 0 (op % 256) = op % 256 := jtagEffective_open (by omega)
  exact if_pos (by rw [hlevel, heff]; exact ⟨hlo, hhi⟩)

variable (hu : s.loadCells scan = u) (hv : jtagEffective (s.fd F.BOOT_OTP_STS_jtag) (op % 256) = v)
include hu hv

/-- An instruction that is none of the maker's, and takes the pins. -/
theorem exec_jtagUpdateIr_takes (hp : takesPins v = true) :
    exec (.jtagUpdateIr ⟨op, scan⟩) s = .next (u.setDev fun d => { d with jtagIr := v }).takePins := by
  have hlisted := takesPins_listed hp
  rw [execJtagUpdateIr_next (by omega)]
  simp only [jtagUpdateIr, hu, hv, hp, if_true]

/-- One that leaves the pins to the system, outside BOOT. -/
theorem exec_jtagUpdateIr_returns (hp : takesPins v = false) (hpub : ¬ (0x80 ≤ v ∧ v ≤ 0xFE)) (hst : s.dev.st ≠ .boot) :
    exec (.jtagUpdateIr ⟨op, scan⟩) s = .next (u.setDev fun d => { d with jtagIr := v }).returnPins := by
  rw [execJtagUpdateIr_next (hv ▸ hpub)]
  simp only [jtagUpdateIr, hu, hv, hp, hst, Bool.false_eq_true, false_and, if_false]

end

theorem State.takePins_halt {s : State} (h : s.dev.st = .halt) :
    s.takePins = s.setDev fun d => { d with pinsTaken := true, pinsWait := false } := by
  simp only [State.takePins, h, reduceCtorEq, or_self, if_false]

theorem State.takePins_asks {s : State} (h : s.dev.st = .run ∨ s.dev.st = .watch) :
    s.takePins = (s.setDev fun d => { d with pinsWait := true }).askHalt 3 :=
  if_pos h

theorem tapRelease_outsideBoot {s : State} (h : s.dev.st ≠ .boot) (env : BootEnv) :
    tapRelease env s = s.returnPins.setDev fun d => { d with jtagIr := 2 } :=
  if_neg fun hboot => h hboot.1

/-- Settles O8: the opcode in effect, whether it takes the pins, and the device's state. -/
theorem jtagCommands : Obligations.JtagCommands := by
  unfold Obligations.JtagCommands
  refine ⟨fun s op scan => execJtagUpdateIr_makers, State.loadCells_eq, fun s u op scan hu hst hl hop => ?halt,
    fun s u op scan hu hst hl hop => ?returns, fun s u op scan hu hst hl hop => ?closed, fun s u op scan hu hst hl hop => ?asks,
    fun s ht => ?drives, fun s => State.pinSource_free, fun s env hst => next_congr (tapRelease_outsideBoot hst env)⟩
  case halt =>
    have heff := jtagEffective_low hl (.inl (takesPins_listed (takesPins_eq_true.2 hop)))
    have huh : u.dev.st = .halt := hu ▸ (s.loadCells_st scan).trans hst
    rw [exec_jtagUpdateIr_takes hu heff (takesPins_eq_true.2 hop)]
    exact next_congr (State.takePins_halt huh)
  case returns =>
    have heff := jtagEffective_low hl (op := op % 256) (by simp at hop; omega)
    have hnot : takesPins (op % 256) = false := by
      rw [← Bool.not_eq_true, takesPins_eq_true]; simp at hop ⊢; omega
    exact exec_jtagUpdateIr_returns hu heff hnot (by simp at hop; omega) (by simp [hst])
  case closed =>
    have heff := (jtagEffective_closed hl (op % 256)).trans (if_neg hop)
    exact exec_jtagUpdateIr_returns hu heff (by decide) (by decide) (by simp [hst])
  case asks =>
    have heff := jtagEffective_low hl (.inl (takesPins_listed (takesPins_eq_true.2 hop)))
    have hus : u.dev.st = .run ∨ u.dev.st = .watch := by rwa [← hu, s.loadCells_st scan]
    rw [exec_jtagUpdateIr_takes hu heff (takesPins_eq_true.2 hop)]
    exact next_congr (State.takePins_asks hus)
  case drives =>
    refine ⟨fun h4 => ?_, fun hop => ?_⟩
    · rw [State.pinSource_taken ht (by rw [h4]; decide), if_pos h4]
    · rw [State.pinSource_taken ht (takesPins_eq_true.2 (by simp at hop ⊢; omega)), if_neg (by simp at hop; omega)]

end Sys2Proof.Machine
end

section
/-! Fault records: where a raised fault goes, what a merge keeps, and the fault commands (R564, R565, R567, R569, R570, R574, R592). -/

namespace Sys2Proof.Machine

/-! ### Raising (R564, R565, R567) -/

/-- A search of consecutive numbers finds the lowest that meets the test. -/
theorem find?_natsFrom {p : Nat → Bool} {a n i : Nat} (h : (natsFrom a n).find? p = some i) :
    a ≤ i ∧ i < a + n ∧ p i = true ∧ ∀ j, a ≤ j → j < i → p j = false := by
  induction n generalizing a with
  | zero => cases h
  | succ n ih =>
    rw [natsFrom, List.find?_cons] at h
    cases hp : p a with
    | true =>
      rw [hp] at h
      cases h
      exact ⟨Nat.le_refl _, by omega, hp, fun j hj hja => absurd hja (Nat.not_lt.2 hj)⟩
    | false =>
      rw [hp] at h
      obtain ⟨hlo, hhi, hi, hbelow⟩ := ih h
      refine ⟨by omega, by omega, hi, fun j hj hji => ?_⟩
      rcases Nat.eq_or_lt_of_le hj with rfl | hj
      · exact hp
      · exact hbelow j hj hji

theorem State.freeRec_some {s : State} {i : Nat} (h : s.freeRec = some i) : i < 63 ∧ s.frec i = none ∧ ∀ j, j < i → s.frec j ≠ none := by
  obtain ⟨_, hhi, hi, hbelow⟩ := find?_natsFrom h
  refine ⟨by omega, by simpa using hi, fun j hj hnone => ?_⟩
  simpa [hnone] using hbelow j (Nat.zero_le j) hj

theorem State.freeRec_eq_none {s : State} : s.freeRec = none ↔ ∀ i, i < 63 → s.frec i ≠ none := by
  simp [State.freeRec, List.find?_eq_none, mem_natsFrom]

/-- The record that a listed fault opens for its unit. -/
def State.newRecord (s : State) (cls code unit detail : Nat) (live : Bool) : FaultRec :=
  { cls := cls, code := code, unit := unit, cause := 2 ^ (code % 32), detail := detail % 2 ^ 32, merges := 1, opened := s.now, seen := s.now,
    live := live, conds := if live then [code] else [], ack := false, esc := false, deadline := none, mergeDue := false, sent := s.time }

/-- The overflow record that a listed fault opens. -/
def State.overflowRecord (s : State) (cls code unit : Nat) : FaultRec :=
  { cls := cls, code := 0x011, unit := 0, cause := 2 ^ (unit / 4096), detail := code, merges := 1, opened := s.now, seen := s.now,
    live := false, conds := [], ack := false, esc := false, deadline := none, mergeDue := false, sent := s.time }

section
variable {s : State} {code unit detail c : Nat} {live : Bool} (hc : faultClass code = some c)
include hc

/-- A listed fault against a unit that a record holds merges there. -/
theorem State.raise_merges {i : Nat} (hu : s.recOfUnit unit = some i) :
    s.raise code unit detail live = s.mergeRec i c (2 ^ (code % 32)) (detail % 2 ^ 32) (if live then [code] else []) := by
  simp only [State.raise, hc, State.raiseAs, hu]

theorem State.raise_opens {i : Nat} (hu : s.recOfUnit unit = none) (hi : s.freeRec = some i) :
    s.raise code unit detail live = s.openRec i (s.newRecord c code unit detail live) := by
  simp only [State.raise, hc, State.raiseAs, hu, hi, State.newRecord]

/-- With every ordinary record open, record 63 is opened. -/
theorem State.raise_overflows (hu : s.recOfUnit unit = none) (hfull : s.freeRec = none) (h63 : s.frec 63 = none) :
    s.raise code unit detail live = s.openRec 63 (s.overflowRecord c code unit) := by
  simp only [State.raise, hc, State.raiseAs, hu, hfull, h63, State.overflowRecord]

end

/-- Settles O11: the unit's record, the lowest free one, or record 63. -/
theorem faultRaised : Obligations.FaultRaised := by
  unfold Obligations.FaultRaised
  refine ⟨fun s code unit detail c i live hc hu => State.raise_merges hc hu, fun s code unit detail c live hc hu hfree => ?_,
    fun s code unit detail c live hc hu hfull h63 => ?_⟩
  · cases hi : s.freeRec with
    | none =>
      obtain ⟨j, hj, hnone⟩ := hfree
      exact absurd hnone (State.freeRec_eq_none.1 hi j hj)
    | some i =>
      obtain ⟨hlt, hnone, hbelow⟩ := State.freeRec_some hi
      exact ⟨i, s.newRecord c code unit detail live, hlt, hnone, hbelow, State.raise_opens hc hu hi,
        rfl, rfl, rfl, rfl, rfl, rfl, rfl, rfl, rfl, rfl, rfl⟩
  · exact ⟨s.overflowRecord c code unit, State.raise_overflows hc hu (State.freeRec_eq_none.2 hfull) h63, rfl, rfl, rfl, rfl, rfl⟩

/-! ### Merges (R569 to R572) -/

section
variable {s : State} {i cls cause detail : Nat} {conds : List Nat} {r : FaultRec} (hr : s.frec i = some r)
include hr

/-- A merge that does not raise the class leaves ACK as it is. -/
theorem State.mergeRec_keepsClass (hcls : cls ≤ r.cls) :
    ∃ r1, r1.ack = r.ack ∧ (s.mergeRec i cls cause detail conds = s.setFrec i (some r1) ∨
      s.mergeRec i cls cause detail conds = (s.setFrec i (some r1)).faultPkt i) := by
  have hup : decide (r.cls < cls) = false := decide_eq_false (Nat.not_lt.2 hcls)
  simp only [State.mergeRec, hr, hup, Bool.false_eq_true, if_false, Bool.not_false, Bool.and_true]
  split
  · exact ⟨_, by rfl, .inr rfl⟩
  · exact ⟨_, by rfl, .inl rfl⟩

/-- One that raises it clears ACK, asserts the new class's source, and is logged and reported. -/
theorem State.mergeRec_raisesClass (hcls : r.cls < cls) :
    ∃ r1, r1.ack = false ∧ s.mergeRec i cls cause detail conds =
      (((s.setFrec i (some r1)).assertOnce (283 + cls)).faultLog i 3).faultPkt i := by
  have hmax : max r.cls cls = cls := Nat.max_eq_right hcls.le
  simp only [State.mergeRec, hr, decide_eq_true hcls, if_true, hmax]
  exact ⟨_, Bool.and_false _, rfl⟩

/-! ### ACK, CLEAR, FLT_INJ and the packet timer (R569, R570, R592) -/

theorem fltAck_open : fltAck i s = ((s.setFrec i (some { r with ack := true, deadline := none })).faultPkt i).ackSts i 1 := by
  simp only [fltAck, hr]

theorem fltClear_open : fltClear i s =
    if r.live = true ∨ (1 ≤ r.cls ∧ r.ack = false) then s.ackSts i 2 else ((s.faultPkt i).setFrec i none).ackSts i 1 := by
  simp only [fltClear, hr]

theorem faultPacketTimer_merged (hm : r.mergeDue = true) :
    faultPacketTimer i s = if s.due (r.sent + msTicks 1) then s.faultPkt i else s := by
  simp only [faultPacketTimer, hr, hm, Bool.true_and]

end

/-- FLT_INJ raises a listed fault with cause bit 30 set as well. -/
theorem fltInj_raises {s : State} {unit code c : Nat} (hc : faultClass (code % 65536) = some c) (hlock : s.bit F.FLT_CTL_lock = false)
    (hkind : unit % 65536 / 4096 < 12) : fltInj unit code s =
      (s.raiseAs c (code % 65536) (unit % 65536) (2 ^ (code % 32) + 2 ^ 30) 0 false).ackSts 0 1 := by
  have hopen : ¬ (s.bit F.FLT_CTL_lock = true ∨ 12 ≤ unit % 65536 / 4096) := by simp only [hlock, Bool.false_eq_true, false_or]; omega
  simp only [fltInj, hc, if_neg hopen]

/-- Settles O9: one lemma above for each command. -/
theorem faultCommands : Obligations.FaultCommands := by
  unfold Obligations.FaultCommands
  refine ⟨fun s i r hr => next_congr (fltAck_open hr), fun s i r hr hlive hack => next_congr ((fltClear_open hr).trans (if_neg ?_)),
    fun s unit code c hc hlock hkind => next_congr (fltInj_raises hc hlock hkind),
    fun s i r hr hm => next_congr (faultPacketTimer_merged hr hm)⟩
  rintro (h | ⟨hcls, hno⟩)
  · simp [hlive] at h
  · rcases hack with h0 | hyes
    · omega
    · simp [hyes] at hno

/-- Settles O10: ACK and CLEAR of an open record, and the two kinds of merge. -/
theorem clearRefused : Obligations.ClearRefused := by
  unfold Obligations.ClearRefused
  refine ⟨fun s i r hr => next_congr (fltAck_open hr), fun s i r hr => next_congr (fltClear_open hr),
    fun s i cls cause detail conds r hr hack hcls => hack ▸ State.mergeRec_keepsClass hr hcls,
    fun s i cls cause detail conds r hr hcls => State.mergeRec_raisesClass hr hcls⟩

end Sys2Proof.Machine
end

section
/-! Escalation, rails and VIN, power domains, temperature and FLT_CTL (R567 to R592). -/

namespace Sys2Proof.Machine

/-! ### Escalation (R572, R574) -/

section
variable {s t : State} {i d : Nat} {r : FaultRec} (hr : s.frec i = some r)
include hr

theorem escalation_class0 (hc : r.cls = 0) : escalation i s = s := by
  simp only [escalation, hr, hc, or_true, if_true]

variable (hd : r.deadline = some d) (hdue : s.due d = true) (hack : r.ack = false) (ht : t = s.markEsc i r)
include hd hdue hack ht

/-- A timer that ran out marks its record, and the class says what follows. -/
theorem escalation_due (hc : r.cls ≠ 0) : escalation i s =
    if r.cls = 3 then t.faultReset i else if r.cls = 1 then t.reactions i r
      else if s.dev.st = .halt ∨ s.dev.trans = .powerFail then t else (t.reactions i r).askHalt 1 := by
  simp only [escalation, hr, hd, hdue, hack, hc, Bool.not_true, Bool.false_eq_true, or_self, if_false, ← ht]

end

/-! ### Rails and VIN (R568, R578, R579) -/

section
variable {s : State} {r x : Nat} {mv : Int}

theorem railOut_off (hr : r < 12) (h : railOff r mv = true) :
    railOut r mv s = (s.raise 0x042 (unitOf 2 (0x100 + r)) (uNat 32 mv) true).pwrSts F.PWR_STS_rail :=
  if_neg (by simp [h]; omega)

theorem railLimit_rail (hr : r < 12) : railLimit r x s = (s.raise 0x043 (unitOf 2 (0x100 + r)) x true).pwrSts F.PWR_STS_oc :=
  if_neg (Nat.not_le.2 hr)

theorem vinHigh_above (h : s.vinLimit < x) : vinHigh x s = (s.raise 0x041 (unitOf 2 0xFFF) x true).pwrSts F.PWR_STS_vin_hi :=
  if_neg (Nat.not_le.2 h)

theorem powerConditionClear_vin (h : mv ≤ (s.vinLimit : Int)) : powerConditionClear .vinHigh mv s = s.dropLive (unitOf 2 0xFFF) 0x041 :=
  if_neg (Int.not_lt.2 h)

theorem powerConditionClear_rail (hr : r < 12) (h : railOff r mv = false) :
    powerConditionClear (.rail r) mv s = s.dropLive (unitOf 2 (0x100 + r)) 0x042 :=
  if_neg (by simp [h]; omega)

theorem powerConditionClear_current (hr : r < 12) : powerConditionClear (.current r) mv s = s.dropLive (unitOf 2 (0x100 + r)) 0x043 :=
  if_neg (Nat.not_le.2 hr)

end

/-! ### Power domains (R580, R581, R594) -/

section
variable {s : State} {d : Nat}

theorem domainOff_busy (h : s.domIdle d = false) : domainOff d s = s.domSts d 2 := by
  simp only [domainOff, h, Bool.false_eq_true, if_false]

theorem domainOff_idle (h : s.domIdle d = true) (hq : s.domReq.contains d = false) :
    domainOff d s = ((({ s with domReq := s.domReq ++ [d] } : State).setDom d false).domSts d 1).sparesFrom (s.engCount 1) := by
  simp only [domainOff, h, hq, Bool.false_eq_true, if_false, if_true]

theorem domainOn_notAsked (h : s.domReq.contains d = false) : domainOn d s = s.domSts d 2 := by
  simp only [domainOn, h, Bool.false_eq_true, if_false]

theorem domainOn_reverses (h : s.domReq.contains d = true) (hst : s.dev.st ≠ .watch) :
    domainOn d s = (((({ s with domReq := s.domReq.filter fun x => x != d } : State).setDom d true).domSts d 1).dropLive
      (unitOf 2 d) 0x044).sparesFrom (s.engCount 1) := by
  simp only [domainOn, h, hst, false_and, if_false, if_true]

/-- Without power good the domain stays off; the request that asked for it, where it is the last one shown, has failed. -/
theorem powerGoodTimeout_off {t : State} (hd : d < 80) (h : s.domReq.contains d = true)
    (ht : t = ({ s with domReq := s.domReq } : State).setDom d false) :
    powerGoodTimeout d s = ((((if s.fd F.PWR_DOM_STS_dom = d ∧ s.fd F.PWR_DOM_STS_result = 1 then t.setFd F.PWR_DOM_STS_result 3 else t).raise
      0x044 (unitOf 2 d) 0 true).pwrSts F.PWR_STS_dom).sparesFrom (s.engCount 1)) := by
  rw [ht, powerGoodTimeout, if_neg (Nat.not_le.2 hd)]
  simp only [h, if_true]

end

/-! ### Temperature (R587, R588) -/

section
variable {s : State} {i z : Nat} {t : Int} (hz : s.fd F.PWR_TEMP_zone i = z)
include hz

theorem State.readSensor_sameZone (h : s.zoneOf z t = z) :
    s.readSensor i t = (s.setFd F.PWR_TEMP_t (uNat 10 t) i).setFd F.PWR_TEMP_zone z i := by
  simp only [State.readSensor, hz, h, if_true]

/-- From zone 0 into zone 1: TEMP_WARN (R588). -/
theorem State.readSensor_warns {u : State} (hu : u = ((s.setFd F.PWR_TEMP_t (uNat 10 t) i).setFd F.PWR_TEMP_zone 1 i).assertOnce (306 + i))
    (h0 : z = 0) (h : s.zoneOf z t = 1) : s.readSensor i t = u.raise 0x045 (unitOf 2 (0x200 + i)) (uNat 32 t) true := by
  subst h0
  simp only [State.readSensor, hz, h, ← hu, one_ne_zero, if_false, natsFrom, List.foldl_cons, List.foldl_nil]
  rfl

end

/-- Settles O55: one lemma above for each command; a record's escalation by its class. -/
theorem powerStage : Obligations.PowerStage := by
  unfold Obligations.PowerStage
  refine ⟨fun s t i c d r hr hd hdue hack hcls ht => ?escalation, fun s r x mv hr => ?rails, fun s t d => ?domains, fun _ _ _ _ _ => rfl,
    fun s u i z t hz => ⟨State.readSensor_sameZone hz, State.readSensor_warns hz⟩, fun _ _ => rfl⟩
  case escalation =>
    have hescalates := fun h => escalation_due hr hd hdue hack ht (r := r) h
    subst hcls
    refine ⟨fun h1 => next_congr ?_, fun h2 hst htr => next_congr ?_, fun h2 hst => next_congr ?_, fun h3 => next_congr ?_,
      fun h0 => next_congr (escalation_class0 hr h0)⟩
    · rw [hescalates (by omega), if_neg (by omega), if_pos h1]
    · rw [hescalates (by omega), if_neg (by omega), if_neg (by omega), if_neg (by simp [hst, htr])]
    · rw [hescalates (by omega), if_neg (by omega), if_neg (by omega), if_pos hst]
    · rw [hescalates (by omega), if_pos h3]
  case rails =>
    exact ⟨fun h => next_congr (railOut_off hr h), next_congr (railLimit_rail hr), fun h => next_congr (vinHigh_above h),
      fun h => next_congr (powerConditionClear_vin h), fun h => next_congr (powerConditionClear_rail hr h),
      next_congr (powerConditionClear_current hr)⟩
  case domains =>
    refine ⟨fun h => next_congr (domainOff_busy h), fun h hq => next_congr (domainOff_idle h hq), fun h => next_congr (domainOn_notAsked h),
      fun h hst => next_congr (domainOn_reverses h hst), fun hd h ht => ⟨fun hdom hres => next_congr ?_, fun hdom => next_congr ?_⟩⟩
    · rw [powerGoodTimeout_off hd h ht, if_pos ⟨hdom, hres⟩]
    · rw [powerGoodTimeout_off hd h ht, if_neg fun hshown => hdom hshown.1]

end Sys2Proof.Machine
end

section
/-! External memory: ECC errors, the scrubber, retired pages, and the stream rings (R447 to R459). -/

namespace Sys2Proof.Machine

/-! ### Errors (R447 to R449) -/

section
variable {s t : State} {a : Nat}

section
variable (ha : a < s.dramSize) (hon : s.dramOn = true)
include ha hon

/-- An address within DRAM that runs meets its errors. -/
theorem dramError_meets : ¬ (s.dramSize ≤ a ∨ s.dramOn = false) := by
  simp only [hon, Bool.true_eq_false, or_false]
  exact Nat.not_le.2 ha

/-- A corrected error is recorded and counted; the count of its page decides whether the page retires. -/
theorem dramCorrectedError_counts
    (ht : t = ((s.dramErr a F.DRM_ERR_ce).addSat F.DRM_CE_CNT 1).setStore
      (fun v => { v with ce := Tab.set 0 v.ce (a / 4096) (Tab.get 0 s.store.ce (a / 4096) + 1) })) :
    dramCorrectedError a s =
      if t.fd F.DRM_SCRUB_retire_thr ≤ Tab.get 0 s.store.ce (a / 4096) + 1 ∧ t.fd F.DRM_SCRUB_retire_thr ≠ 0 then t.retirePage a else t := by
  rw [ht, dramCorrectedError, if_neg (dramError_meets ha hon)]

theorem dramUncorrectable_retires : dramUncorrectable a s = (((((s.dramErr a F.DRM_ERR_ue).addSat F.DRM_UE_CNT 1).raise 0x141
    (unitOf 10 (s.ddrOf a).1) (a / 4096)).poisonLine a).retirePage a) :=
  if_neg (dramError_meets ha hon)

end

/-! ### Retirement (R449, R450) -/

theorem State.retirePage_again (h : s.store.retired.contains (a / 4096) = true) : s.retirePage a = s := by
  simp only [State.retirePage, h, if_true]

section
variable (h : s.store.retired.contains (a / 4096) = false)
include h

/-- A page for which a spare is left, and not the last one. -/
theorem State.retirePage_spare (hlen : s.store.retired.length + 1 < 4096)
    (ht : t = (s.setStore fun v => { v with retired := v.retired ++ [a / 4096], ce := Tab.set 0 v.ce (a / 4096) 0 }).setFd F.DRM_RETIRE_pages
      (s.store.retired.length + 1)) :
    s.retirePage a = (t.logRetire s.store.retired.length a).assertOnce (274 + (t.ddrOf a).1) := by
  have hleft : ¬ 4096 ≤ s.store.retired.length := by omega
  simp only [State.retirePage, h, Bool.false_eq_true, if_false, if_neg hleft, if_neg hlen.ne, ← ht]

/-- Without a spare page it stays in use. -/
theorem State.retirePage_full (hlen : 4096 ≤ s.store.retired.length) :
    s.retirePage a = (s.setFd F.DRM_RETIRE_full 1).raise 0x142 (unitOf 10 (s.ddrOf a).1) (a / 4096) true := by
  simp only [State.retirePage, h, Bool.false_eq_true, if_false, if_pos hlen]

end

theorem drmRetire_spare (h : s.bit F.DRM_RETIRE_full = false) :
    drmRetire s = (s.retirePage (s.pair .DRM_ERR_ADDR_LO .DRM_ERR_ADDR_HI)).drmCmdSts 1 1 :=
  if_neg (Bool.eq_false_iff.1 h)

theorem drmRetire_full (h : s.bit F.DRM_RETIRE_full = true) : drmRetire s = s.drmCmdSts 1 2 := if_pos h

/-! ### The scrubber (R448) -/

theorem patrolScrub_idle (h : s.scrubs = false) (ecc : Ecc) : patrolScrub ecc s = s := if_pos h

/-- What the scrubber meets on its line: an uncorrectable error where the line is poisoned, and otherwise what the line gives. -/
def State.scrubMeets (s : State) (ecc : Ecc) : State :=
  if s.store.poison.contains s.store.scrub then dramUncorrectable (s.store.scrub * 64) s
  else match ecc with
  | .good => s
  | .corrected => dramCorrectedError (s.store.scrub * 64) s
  | .uncorrectable => dramUncorrectable (s.store.scrub * 64) s

/-- It then goes on to the next line, and from the last back to the first. -/
theorem patrolScrub_reads (h : s.scrubs = true) {ecc : Ecc} (ht : s.scrubMeets ecc = t) :
    patrolScrub ecc s = t.setStore fun v =>
      { v with scrub := if s.dramSize ≤ s.store.scrub * 64 + 64 then 0 else v.scrub + 1,
               pass := v.pass && ! decide (s.dramSize ≤ s.store.scrub * 64 + 64),
               passAt := if s.store.scrub = 0 then s.time + msTicks (3600000 * s.fd F.DRM_SCRUB_period) else s.store.passAt } := by
  subst ht
  simp only [patrolScrub, h, Bool.true_eq_false, if_false, decide_eq_true_eq]
  rfl

end

/-! ### Stream rings (R456, R458, R459) -/

theorem resetRing_written {s : State} {r : Nat} (hw : (s.ring r).writer ≠ 0) : resetRing r s = s.drmCmdSts 3 2 := if_pos (.inr (.inr hw))

section
variable {s : State} {r : Nat} (hr : r < 256)
include hr

section
variable (hk : s.fd F.DRM_RG_CFG_kind r = 2)
include hk

theorem resetRing_idle (hw : (s.ring r).writer = 0) :
    resetRing r s = ((((((s.setWr r 0).setPair .DRM_RG_RD_LO .DRM_RG_RD_HI 0 r).setPair .DRM_RG_SP_LO .DRM_RG_SP_HI 0 r).setRing r
      Ring.init).dropWriting 0 r).dropWriting 1 r).drmCmdSts 3 1 :=
  if_neg (by simp only [hk, hw]; omega)

/-- The close timeout pads the open extent. -/
theorem extentCloseTimeout_due {t0 : Nat} (hf : (s.ring r).first = some t0) (hon : s.dramOn = true)
    (ht : t0 + msTicks (s.fd F.DRM_RG_CFG_flush_ms r) ≤ s.time) : extentCloseTimeout r s = (s.closeExtent r).spillGive := by
  simp only [extentCloseTimeout, hf]
  exact if_pos ⟨hk, hr, hon, ht⟩

end

theorem drmRgRdWrite_legal {v : Nat} (hlo : s.ringRd r ≤ v) (hhi : v ≤ s.ringWr r) (hv : v % 16 = 0) :
    drmRgRdWrite r v s = (s.setPair .DRM_RG_RD_LO .DRM_RG_RD_HI v r).spillGive := by
  rw [drmRgRdWrite, if_neg (Nat.not_le.2 hr), if_neg (by omega)]

theorem drmRgRdWrite_illegal {v : Nat} (h : v < s.ringRd r ∨ s.ringWr r < v ∨ v % 16 ≠ 0) :
    drmRgRdWrite r v s = s.setFd F.DRM_RG_STS_cfg_err 1 r := by
  rw [drmRgRdWrite, if_neg (Nat.not_le.2 hr), if_pos h]

end

/-- Settles O45: one lemma above for each event and command; what the scrubber meets, by its line. -/
theorem externalMemory : Obligations.ExternalMemory := by
  unfold Obligations.ExternalMemory
  refine ⟨fun s t a ha hon ht => ?corrected, fun s a ha hon => next_congr (dramUncorrectable_retires ha hon),
    fun s t a h => ⟨State.retirePage_spare h, State.retirePage_full h⟩, fun s a => State.retirePage_again,
    fun s t ecc hs hue hgood => next_congr (patrolScrub_reads hs ?scrub), fun s ecc hs => next_congr (patrolScrub_idle hs ecc),
    fun s => ⟨fun h => next_congr (drmRetire_spare h), fun h => next_congr (drmRetire_full h), rfl⟩, fun s r hr hk => ?ring,
    fun s r v hr => ⟨fun hlo hhi hv => next_congr (drmRgRdWrite_legal hr hlo hhi hv), fun h => next_congr (drmRgRdWrite_illegal hr h)⟩⟩
  case corrected =>
    have hcounts := dramCorrectedError_counts ha hon ht
    exact ⟨fun hbelow => next_congr (hcounts.trans (if_neg (by omega))),
      fun h0 hreached => next_congr (hcounts.trans (if_pos ⟨hreached, h0⟩))⟩
  case scrub =>
    unfold State.scrubMeets
    cases hp : s.store.poison.contains s.store.scrub with
    | true =>
      rw [if_pos rfl]
      exact Host.Outcome.next.inj (hue (.inl hp))
    | false =>
      rw [if_neg Bool.false_ne_true]
      obtain ⟨hsame, hcorrected⟩ := hgood hp
      cases ecc with
      | good => exact (hsame rfl).symm
      | corrected => exact Host.Outcome.next.inj (hcorrected rfl)
      | uncorrectable => exact Host.Outcome.next.inj (hue (.inr rfl))
  case ring =>
    exact ⟨fun hw => next_congr (resetRing_idle hr hk hw), fun hw => next_congr (resetRing_written hw),
      fun t0 hf hon ht => next_congr (extentCloseTimeout_due hr hk hf hon ht)⟩

end Sys2Proof.Machine
end

section
/-! The NVMe record store: extents, completions and timeouts, initialisation, commands, and extent reads (R461 to R466). -/

namespace Sys2Proof.Machine

/-! ### Extents and completions (R458, R463, R465) -/

section
variable {s t : State} {d : Nat}

/-- An extent whose Writes have all completed: its directory entry is written, the drive's count rises, and its ring goes on. -/
theorem extentWriteComplete_done {slot r xs : Nat} (hw : ((s.drive d).writing.find? fun w => w.2.2 == slot) = some (r, xs, slot))
    (hc : ((s.drive d).cmds.any fun c => c.opcode == 1 && c.slot == slot && c.region == r && c.xseq == xs) = false)
    (ht : t = (s.setDrive d { s.drive d with writing := (s.drive d).writing.filter fun w => w.2.2 != slot }).dirWrite d slot
      (some (s.dirEntry r xs)))
    {u : State} (hu : u = t.setPair .NVS_DRV_EXT_LO .NVS_DRV_EXT_HI (t.pair .NVS_DRV_EXT_LO .NVS_DRV_EXT_HI d + 1) d) :
    extentWriteComplete d slot s = (State.spAdvance r ((u.ring r).done.length + 1)
      (u.setRing r { u.ring r with done := (u.ring r).done ++ [xs] })).spillGive := by
  simp only [extentWriteComplete, hw, hc, Bool.false_eq_true, if_false, ← ht, ← hu]

section
variable {id : Nat} {c : NvCmd} (hc : ((s.drive d).cmds.find? fun c => c.id == id) = some c)
include hc

theorem nvmeCompletion_success :
    nvmeCompletion d id 0 s = (s.setDrive d { s.drive d with cmds := (s.drive d).cmds.filter fun c => c.id != id }).spillGive := by
  simp only [nvmeCompletion, hc, if_true]

/-- A media or data-integrity error degrades the drive. -/
theorem nvmeCompletion_mediaError :
    nvmeCompletion d id 1 s = (s.setDrive d { s.drive d with cmds := (s.drive d).cmds.filter fun c => c.id != id }).degrade d := by
  simp only [nvmeCompletion, hc, one_ne_zero, if_false, if_true]

section
variable (hdue : c.since + msTicks (1000 * s.fd F.NVS_CFG_tmo) ≤ s.time)
  (ht : t = (s.setFd F.NVS_DRV_ERR_timeouts (s.fd F.NVS_DRV_ERR_timeouts d + 1) d).raise 0x161 (unitOf 11 d) c.opcode)
include hdue ht

/-- A command that was not aborted is aborted. -/
theorem nvmeCommandTimeout_aborts (hr : (s.drive d).resetAt = none) (ha : c.aborted = false) (ready : Bool) :
    nvmeCommandTimeout d id ready s = ((t.incFd F.NVS_DRV_ERR_aborts d).setDrive d { s.drive d with
      cmds := (s.drive d).cmds.map fun y => if y.id = id then { y with aborted := true, since := s.time } else y }).emit (.nvme d 8 [id]) := by
  simp only [nvmeCommandTimeout, hc, if_neg (Nat.not_lt.2 hdue), hr, ha, Bool.false_eq_true, if_false, if_true, ← ht]

/-- After the Abort the controller is reset; where it returns, the drive's commands are given again. -/
theorem nvmeCommandTimeout_resets (hr : (s.drive d).resetAt = none) (ha : c.aborted = true) (ready : Bool) :
    nvmeCommandTimeout d id ready s = if ready then (s.drive d).cmds.foldl (fun (t : State) y => t.emit (.nvme d y.opcode [y.id]))
        ((t.incFd F.NVS_DRV_ERR_resets d).setDrive d { s.drive d with
          cmds := (s.drive d).cmds.map fun y => { y with aborted := false, since := s.time }, resetAt := some s.time })
      else (t.incFd F.NVS_DRV_ERR_resets d).degrade d := by
  simp only [nvmeCommandTimeout, hc, if_neg (Nat.not_lt.2 hdue), hr, ha, Bool.true_eq_false, Bool.false_eq_true, if_false, ← ht]

/-- A timeout within 60 s of a reset degrades the drive. -/
theorem nvmeCommandTimeout_recent {r0 : Nat} (hr : (s.drive d).resetAt = some r0) (h : s.time < r0 + msTicks 60000) (ready : Bool) :
    nvmeCommandTimeout d id ready s = t.degrade d := by
  simp only [nvmeCommandTimeout, hc, if_neg (Nat.not_lt.2 hdue), hr, decide_eq_true h, if_true, ← ht]

end

end

/-! ### Drives come and go (R461, R466) -/

section
variable (hd : d < 2) (hon : s.domOn (66 + d) = true)
include hd hon

theorem nvmeLinkLoss_degrades (hst : s.drvState d = 2 ∨ s.drvState d = 5) :
    nvmeLinkLoss d s = ((s.setFd F.NVS_DRV_STS_gen 0 d).setFd F.NVS_DRV_STS_width 0 d).degrade d := by
  have hhere : ¬ (2 ≤ d ∨ s.drvState d = 0 ∨ s.domOn (66 + d) = false) := by simp only [hon, Bool.true_eq_false, or_false]; omega
  rw [nvmeLinkLoss, if_neg hhere, if_neg (by omega)]

section
variable {env : DriveEnv} (hst : s.drvState d = 1)
include hst

/-- An initialisation that ends on a drive in INIT. -/
theorem driveInit_ends : ¬ (2 ≤ d ∨ s.drvState d ≠ 1 ∨ s.domOn (66 + d) = false) := by
  simp only [hon, Bool.true_eq_false, hst, or_false]
  omega

/-- An initialisation that fails makes the drive UNUSABLE. -/
theorem driveInitDone_failed (hok : env.ok = false) {c : Nat}
    (hfree : (((s.setFd F.NVS_DRV_STS_gen env.gen d).setFd F.NVS_DRV_STS_width env.width d).setFd F.NVS_DRV_STS_qpairs (min 8 env.qpairs) d).free
      = (c, t)) :
    driveInitDone d env s = ((t.setDrv d 4).raise 0x160 (unitOf 11 d) (c % 2 ^ 32) true).nvNone := by
  rw [driveInitDone, if_neg (driveInit_ends hd hon hst)]
  simp only [hok, true_or, if_true, hfree]

/-- An empty drive of 2^20 blocks has 2,048 slots; the first of them holds the header and the next the directory, and writing begins at slot 2. -/
theorem driveInitDone_empty (hok : env.ok = true) (hq : env.qpairs = 8) (hb : env.blocks = 2 ^ 20) (he : env.entries = [])
    (ht : t = ((((((((s.setFd F.NVS_DRV_STS_gen env.gen d).setFd F.NVS_DRV_STS_width env.width d).setFd F.NVS_DRV_STS_qpairs 8 d).setDrive d
      { Drive.init with n := 2048, k := 1, gen := env.storeGen, chunk := min 131072 env.mdts, dir := [] }).setFd F.NVS_DRV_SLOTS_n 2046 d).dropLive
        (unitOf 11 d) 0x160).dropLive (unitOf 11 d) 0x162).dropLive 0 0x004)) :
    driveInitDone d env s = ((t.setFd F.NVS_DRV_NEXT_slot 2 d).setDrv d 2).spillGive := by
  have hn : min (2 ^ 23) (2 ^ 20 * 4096 / mib2) = 2048 := by decide
  have hk : (2048 + 65535) / 65536 = 1 := by decide
  have hfits : ¬ (true = false ∨ 8 < 2 ∨ 2048 ≤ 1 + 1) := by decide
  have hnext : 1 + 1 < 2048 := by decide
  rw [driveInitDone, if_neg (driveInit_ends hd hon hst), ht]
  simp only [hok, hq, hb, he, hn, hk, if_neg hfits, List.foldl_nil, if_pos hnext, min_self, Nat.reduceSub, Nat.reduceAdd]

end

/-- A SMART poll that is due shows the warning, and raises its fault or drops it. -/
theorem smartPoll_due (hst : s.drvState d = 2 ∨ s.drvState d = 3) (hgen : s.fd F.NVS_DRV_STS_gen d ≠ 0) (hdue : (s.drive d).smartAt ≤ s.time)
    {w : Nat} (ht : t = (s.setDrive d { s.drive d with smartAt := s.time + msTicks 60000 }).setFd F.NVS_DRV_STS_smart w d) :
    smartPoll d w s = if w % 256 = 0 then t.dropLive (unitOf 11 d) 0x164 else t.raise 0x164 (unitOf 11 d) (w % 256) true := by
  have hhere : ¬ (2 ≤ d ∨ s.drvState d = 0 ∨ s.drvState d = 1 ∨ s.fd F.NVS_DRV_STS_gen d = 0 ∨ s.domOn (66 + d) = false ∨
      s.time < (s.drive d).smartAt) := by simp only [hon, Bool.true_eq_false, false_or]; omega
  rw [ht, smartPoll, if_neg hhere]

end

/-! ### REINIT, FLUSH, FORMAT (R466) -/

section
variable (hd : d < 2)
include hd

theorem nvsReinit_lost (hst : s.drvState d = 3 ∨ s.drvState d = 4) :
    nvsReinit d s = (((s.driveLost d).setDrv d 1).nvsCmdSts d 1 1).spillGive := by
  rw [nvsReinit, if_neg (by omega), if_neg (by omega), if_neg (by omega)]

theorem nvsReinit_ok (hst : s.drvState d = 2) : nvsReinit d s = s.nvsCmdSts d 1 2 := by
  rw [nvsReinit, if_neg (by omega), if_pos (.inl hst)]

theorem nvsFlush_ok (hst : s.drvState d = 2) : nvsFlush d s = (s.nvIssue d 0 0 0 0 0 []).nvsCmdSts d 2 1 := by
  have hup : s.drvUp d = true := by simp [State.drvUp, hst]
  rw [nvsFlush, if_neg (by omega), if_pos hup]

/-- FORMAT is refused while a STREAM region that spills has a writer. -/
theorem nvsFormat_busy
    (hbusy : ((natsFrom 0 256).any fun r => s.fd F.DRM_RG_CFG_kind r == 2 && s.bit F.DRM_RG_CFG_spill r && (s.ring r).writer != 0) = true) :
    nvsFormat d s = s.nvsCmdSts d 3 2 := by
  simp only [nvsFormat, hbusy, if_neg (Nat.not_le.2 hd), if_true]

/-- FORMAT of an OK drive empties its directory and writes a header with the next generation. -/
theorem nvsFormat_ok (hst : s.drvState d = 2)
    (hfree : ((natsFrom 0 256).any fun r => s.fd F.DRM_RG_CFG_kind r == 2 && s.bit F.DRM_RG_CFG_spill r && (s.ring r).writer != 0) = false)
    {u : State} (hu : u = s.giveBack d (fun c => c.opcode == 2))
    (ht : t = ((u.setDrive d { u.drive d with dir := [], gen := ((u.drive d).gen + 1) % 2 ^ 32 }).setFd F.NVS_DRV_NEXT_slot
      ((u.drive d).k + 1) d).nvIssue d 1 256 0 0 0 [0, (u.drive d).n, (u.drive d).k, (u.drive d).gen + 1])
    (hok : t.drvState d = 2) : nvsFormat d s = (t.nvsCmdSts d 3 1).spillGive := by
  have hfull : ¬ (2 : Nat) = 5 := by decide
  simp only [nvsFormat, hfree, if_neg (Nat.not_le.2 hd), Bool.false_eq_true, hst, ne_eq, not_true_eq_false, false_and, if_false, ← hu,
    ← ht, hok, hfull]

end

/-! ### Extent reads (R464) -/

section
variable {slot a : Nat} (hdr : s.fd F.NVS_XR_SLOT_drive = d) (hsl : s.fd F.NVS_XR_SLOT_slot = slot)
include hdr hsl

/-- A read of a valid slot of a drive whose link is up. -/
theorem extentRead_starts (ha : s.pair .NVS_XR_ADDR_LO .NVS_XR_ADDR_HI = a) {e : DirEntry} (he : Tab.get none (s.drive d).dir slot = some e)
    (hidle : s.bit F.NVS_XR_STS_busy = false) (hst : s.drvState d = 2 ∨ s.drvState d = 3) (hgen : s.fd F.NVS_DRV_STS_gen d ≠ 0)
    (hlo : (s.drive d).k < slot) (hhi : slot < (s.drive d).n)
    (ht : t = (((s.incFd F.NVS_XR_STS_seq).setFd F.NVS_XR_STS_busy 1).setFd F.NVS_XR_STS_result 0).setFd F.NVS_XR_STS_poison e.poison) :
    extentRead s =
      (t.setStore fun v => { v with xr := some (d, slot, a / 4096 * 4096) }).nvIssue d 2 0 0 slot 0 [slot * 512, t.xrBase] := by
  have hreads : ¬ (s.bit F.NVS_XR_STS_busy = true ∨ (s.drvState d ≠ 2 ∧ s.drvState d ≠ 3) ∨ slot ≤ (s.drive d).k ∨ (s.drive d).n ≤ slot) := by
    simp only [hidle, Bool.false_eq_true, false_or]; omega
  simp only [extentRead, hdr, hsl, ha, he, if_neg hreads, if_neg hgen, ← ht]

/-- A read of a slot without a valid entry is refused. -/
theorem extentRead_noEntry (he : Tab.get none (s.drive d).dir slot = none) (hidle : s.bit F.NVS_XR_STS_busy = false) :
    extentRead s = ((s.incFd F.NVS_XR_STS_seq).setFd F.NVS_XR_STS_result 2).assertOnce (278 + d) := by
  simp only [extentRead, hdr, hsl, he, hidle, Bool.false_eq_true, if_false]

end

section
variable {slot a : Nat} {data : List Byte} (hx : s.store.xr = some (d, slot, a))
  (ht : t = ((s.setDrive d { s.drive d with cmds := (s.drive d).cmds.filter fun c => c.opcode != 2 }).setStore fun v => { v with xr := none }).setFd
    F.NVS_XR_STS_busy 0)
include hx ht

theorem extentReadDone_failed : extentReadDone false data s = ((t.setFd F.NVS_XR_STS_result 3).assertOnce (278 + d)).spillGive := by
  simp only [extentReadDone, hx, Bool.false_eq_true, false_and, if_false, ← ht]

/-- The data is staged and goes to the host, and its CRC gives the result. -/
theorem extentReadDone_delivers {e : DirEntry} (he : Tab.get none (s.drive d).dir slot = some e) (hm : s.mayRequest.2 = true) :
    extentReadDone true data s = ((((t.dramWrite t.xrBase data).emit (.hostWrite a data t.relaxed)).setFd F.NVS_XR_STS_result
      (if crc32c data = e.crc then 1 else 4)).assertOnce (278 + d)).spillGive := by
  simp only [extentReadDone, hx, hm, he, Bool.true_eq_false, and_false, if_false, if_true, ← ht, decide_eq_true_eq]

end

end

/-- Settles O46: one lemma above for each event and command of a drive. -/
theorem recordStore : Obligations.RecordStore := by
  unfold Obligations.RecordStore
  refine ⟨fun s t d slot r xs hw hc ht => ⟨_, rfl, next_congr (extentWriteComplete_done hw hc ht rfl)⟩, fun s d id c hc => ?completions,
    fun s d hd hon hst => next_congr (nvmeLinkLoss_degrades hd hon hst), fun s d env hd hon hst => ?init,
    fun s t d w hd hon hst hgen hdue ht => ?smart, fun s d hd => ?commands, fun s d slot a hdr hsl ha => ?starts,
    fun s t d slot a data hx ht => ?ends⟩
  case completions =>
    refine ⟨next_congr (nvmeCompletion_success hc), next_congr (nvmeCompletion_mediaError hc), fun t ready hdue ht =>
      ⟨fun hr ha => next_congr (nvmeCommandTimeout_aborts hc hdue ht hr ha ready), fun hr ha => ?_,
        fun r0 hr h => next_congr (nvmeCommandTimeout_recent hc hdue ht hr h ready)⟩⟩
    have hresets := nvmeCommandTimeout_resets hc hdue ht hr ha
    exact ⟨next_congr ((hresets true).trans (if_pos rfl)), next_congr ((hresets false).trans (if_neg Bool.false_ne_true))⟩
  case init =>
    exact ⟨fun hok => ⟨_, _, rfl, next_congr (driveInitDone_failed hd hon hst hok rfl)⟩,
      fun hok hq hb he => ⟨_, rfl, next_congr (driveInitDone_empty hd hon hst hok hq hb he rfl)⟩⟩
  case smart =>
    have hpolls := smartPoll_due hd hon hst hgen hdue ht
    exact ⟨fun h0 => next_congr (hpolls.trans (if_pos h0)), fun hwarns => next_congr (hpolls.trans (if_neg hwarns))⟩
  case commands =>
    exact ⟨fun hst => next_congr (nvsReinit_lost hd hst), fun hst => next_congr (nvsReinit_ok hd hst), fun hst => next_congr (nvsFlush_ok hd hst),
      fun hst hfree => ⟨_, _, rfl, rfl, fun hok => next_congr (nvsFormat_ok hd hst hfree rfl rfl hok)⟩,
      fun hbusy => next_congr (nvsFormat_busy hd hbusy)⟩
  case starts =>
    exact ⟨fun e he hidle hst hgen hlo hhi => ⟨_, rfl, next_congr (extentRead_starts hdr hsl ha he hidle hst hgen hlo hhi rfl)⟩,
      fun he hidle => next_congr (extentRead_noEntry hdr hsl he hidle)⟩
  case ends =>
    exact ⟨next_congr (extentReadDone_failed hx ht), fun e he hm => next_congr (extentReadDone_delivers hx ht he hm)⟩

end Sys2Proof.Machine
end

section
/-! The host link and its configuration, reads of BAR2, event sources and their messages, and the SMBus target (R473 to R482, R498 to R504,
R506). -/

namespace Sys2Proof.Machine

/-! ### BAR2 (R478, R479) -/

section
variable {s u : State} {off len a : Nat} (hr : s.reaches (.pcie 0) = true) (hu : u = s.hostTouch (.pcie 0)) (ha : a = u.bar2Addr off)
include hr hu ha

theorem bar2Read_data (hused : u.ddrUsed ≠ []) (hon : u.dramOn = true) (hst : u.dev.st ≠ .boot) (hwin : off + len ≤ 2 ^ u.evt.bar2)
    (hres : a + len ≤ u.reserveBase) :
    bar2Read off len s = (u.notePoison a len).emit
      (.bar2Data a ((natsFrom a len).map fun b => Memory.read 0 u.dram b) (decide (u.poisonIn a len ≠ 0))) := by
  have hdata : ¬ (u.ddrUsed.isEmpty = true ∨ u.dramOn = false ∨ u.dev.st = .boot ∨ 2 ^ u.evt.bar2 < off + len ∨ u.reserveBase < a + len) := by
    simp only [List.isEmpty_iff, hused, hon, hst, Bool.true_eq_false, false_or, not_or, Nat.not_lt]
    exact ⟨hwin, hres⟩
  simp only [bar2Read, hr, Bool.true_eq_false, if_false, ← hu, ← ha, if_neg hdata]
  rfl

theorem bar2Read_unsupported
    (h : u.ddrUsed = [] ∨ u.reserveBase < a + len ∨ u.dramOn = false ∨ u.dev.st = .boot ∨ 2 ^ u.evt.bar2 < off + len) :
    bar2Read off len s = u.unsupported := by
  have hnone : u.ddrUsed.isEmpty = true ∨ u.dramOn = false ∨ u.dev.st = .boot ∨ 2 ^ u.evt.bar2 < off + len ∨ u.reserveBase < a + len := by
    rw [List.isEmpty_iff]
    obtain h | h | hrest := h
    exacts [.inl h, .inr (.inr (.inr (.inr h))), .inr (hrest.imp_right (Or.imp_right .inl))]
  simp only [bar2Read, hr, Bool.true_eq_false, if_false, ← hu, ← ha, if_pos hnone]

end

/-! ### Configuration (R473 to R477, R482, R499) -/

/-- Nothing goes out where nothing waits, or where a mask or a disable holds. -/
theorem State.pbaRelease_nothing {s : State}
    (h : s.evt.pba = [] ∨ s.evt.msixEn = false ∨ s.evt.bme = false ∨ s.evt.d3hot = true ∨ s.evt.funcMask = true) : s.pbaRelease = s := by
  unfold State.pbaRelease
  split
  case isFalse => rfl
  case isTrue hopen =>
    obtain ⟨hen, hbme, hd3, hfm⟩ := hopen
    have hnone : s.evt.pba = [] := by simpa [hen, hbme, hd3, hfm] using h
    rw [hnone, List.foldl_nil]

/-- The message of a vector that no mask blocks goes out. -/
theorem State.msiOut_sent {s : State} {v : Nat} (hm : s.evt.funcMask = false) (hv : (s.msixWord v 3).toNat % 2 = 0) :
    s.msiOut v = (s.setFd F.HST_LINK_l1 0).emit (.msix v (pairNat (s.msixWord v 0) (s.msixWord v 1)) (s.msixWord v 2)) :=
  if_neg (by simp [hm, hv])

theorem State.msiOut_blocked {s : State} {v : Nat} (h : s.evt.funcMask = true ∨ (s.msixWord v 3).toNat % 2 = 1)
    (hp : s.evt.pba.contains v = false) : s.msiOut v = { s with evt := { s.evt with pba := s.evt.pba ++ [v] } } := by
  rw [State.msiOut, if_pos h.symm, if_neg (by simp only [hp, Bool.false_eq_true, not_false_eq_true])]

/-- The one message that waits goes out. -/
theorem State.pbaRelease_one {s : State} {v : Nat} (hp : s.evt.pba = [v]) (hen : s.evt.msixEn = true) (hbme : s.evt.bme = true)
    (hd3 : s.evt.d3hot = false) (hm : s.evt.funcMask = false) (hv : (s.msixWord v 3).toNat % 2 = 0) :
    s.pbaRelease = (({ s with evt := { s.evt with pba := [] } } : State).setFd F.HST_LINK_l1 0).emit
      (.msix v (pairNat (s.msixWord v 0) (s.msixWord v 1)) (s.msixWord v 2)) := by
  have hleft : ([v].filter (· != v)) = [] := by simp
  rw [State.pbaRelease, if_pos ⟨hen, hbme, hd3, hm⟩, hp, List.foldl_cons, List.foldl_nil, if_pos hv, hp, hleft]
  exact State.msiOut_sent (s := { s with evt := { s.evt with pba := [] } }) hm hv

section
variable {s u : State} (hst : s.dev.st ≠ .powerup) (hperst : s.dev.perstLow = false)
include hst hperst

/-- The link takes requests once the power stage is up and PERST_N is high. -/
theorem hostLink_up : ¬ (s.dev.st = .powerup ∨ s.dev.perstLow = true) := by simp [hst, hperst]

section
variable (hu : u = s.hostTouch (.pcie 0))
include hu

theorem configurationRequest_mps {code : Nat} (h : code ≤ 2) : configurationRequest (.mps code) s =
    if code = 0 then (u.setFd F.HST_LINK_mps code).hstSts F.HST_STS_mps_err else u.setFd F.HST_LINK_mps code := by
  rw [configurationRequest, if_neg (hostLink_up hst hperst), ← hu]
  exact if_neg (Nat.not_lt.2 h)

theorem configurationRequest_msix (en fm : Bool) : configurationRequest (.msix en fm) s =
    ({ u with evt := { u.evt with msixEn := en, funcMask := fm } } : State).pbaRelease := by
  rw [configurationRequest, if_neg (hostLink_up hst hperst), ← hu]

theorem configurationRequest_bar2 {log : Nat} (hlo : 28 ≤ log) (hhi : log ≤ 36) :
    configurationRequest (.bar2 log) s = { u with evt := { u.evt with bar2 := log } } := by
  rw [configurationRequest, if_neg (hostLink_up hst hperst), ← hu]
  exact if_pos ⟨hlo, hhi⟩

/-- Bus Master Enable, Relaxed Ordering and ASPM take the bit written. -/
theorem configurationRequest_enables (on : Bool) :
    configurationRequest (.bme on) s = { u with evt := { u.evt with bme := on } } ∧
    configurationRequest (.roEnable on) s = { u with evt := { u.evt with roCap := on } } ∧
    configurationRequest (.aspmL1 on) s = { u with evt := { u.evt with aspmL1 := on } } := by
  simp only [configurationRequest, if_neg (hostLink_up hst hperst), ← hu, and_self]

theorem configurationRequest_identity (who : Requester) :
    configurationRequest (.read who 0) s = u.emit (.cfgData who 0 0x19601C5E) ∧
    configurationRequest (.read who 8) s = u.emit (.cfgData who 8 0x118000B1) := by
  simp only [configurationRequest, if_neg (hostLink_up hst hperst), ← hu, State.cfgWord, if_true, if_neg (show ¬ (8 : Nat) = 0 by decide),
    and_self]

/-- The opening of the Function Mask sends the message that waits. -/
theorem configurationRequest_unmask {v : Nat} (hp : u.evt.pba = [v]) (hbme : u.evt.bme = true) (hd3 : u.evt.d3hot = false)
    (hv : (u.msixWord v 3).toNat % 2 = 0) :
    configurationRequest (.msix true false) s =
      (({ u with evt := { u.evt with msixEn := true, funcMask := false, pba := [] } } : State).setFd F.HST_LINK_l1 0).emit
        (.msix v (pairNat (u.msixWord v 0) (u.msixWord v 1)) (u.msixWord v 2)) :=
  (configurationRequest_msix hst hperst hu true false).trans
    (State.pbaRelease_one (s := { u with evt := { u.evt with msixEn := true, funcMask := false } }) hp rfl hbme hd3 rfl hv)

end

theorem d3hotTransition_enters : d3hotTransition true s = { s with evt := { s.evt with d3hot := true } } := by
  rw [d3hotTransition, if_neg (hostLink_up hst hperst)]
  exact State.pbaRelease_nothing (.inr (.inr (.inr (.inl rfl))))

theorem d3hotTransition_leaves : d3hotTransition false s = ({ s with evt := { s.evt with d3hot := false } } : State).pbaRelease :=
  if_neg (hostLink_up hst hperst)

theorem hostLinkChange_up {gen width : Nat} (hlo : 1 ≤ gen) (hhi : gen ≤ 5) (hw : width = 1 ∨ width = 2 ∨ width = 4 ∨ width = 8) :
    hostLinkChange gen width s =
      (((s.setFd F.HST_LINK_gen gen).setFd F.HST_LINK_width width).setFd F.HST_LINK_l1 0).hstSts F.HST_STS_link := by
  have hok : (decide (gen ≤ 5) && (gen == 0 || width == 1 || width == 2 || width == 4 || width == 8)) = true := by
    simp only [hhi, decide_true, Bool.true_and, Bool.or_eq_true, beq_iff_eq]; omega
  have hgen : gen ≠ 0 := by omega
  simp only [hostLinkChange, hok, hostLink_up hst hperst, Bool.true_eq_false, and_false, or_self, hgen, if_false]

end

/-- A link that is down. -/
theorem hostLinkChange_down (s : State) : hostLinkChange 0 0 s =
    (((s.setFd F.HST_LINK_gen 0).setFd F.HST_LINK_width 0).setFd F.HST_LINK_l1 0).hstSts F.HST_STS_link := rfl

/-! ### Event sources and messages (R498 to R500) -/

theorem State.msiDue_disabled {s : State} {v : Nat} (h : s.evt.msixEn = false ∨ s.evt.bme = false) : s.msiDue v = s :=
  if_neg fun hon => by simp [hon.1, hon.2.1] at h

/-- A message that is due goes out at once without a hold-off, is held during one, and begins one otherwise. -/
theorem State.msiDue_enabled {s : State} {v : Nat} (hen : s.evt.msixEn = true) (hbme : s.evt.bme = true) (hd3 : s.evt.d3hot = false) :
    s.msiDue v = if s.fd F.EVT_VEC_holdoff v = 0 then s.msiOut v
      else if (s.vec v).running then s.setVec v { s.vec v with held := true } else (s.msiOut v).setVec v ⟨true, false, s.time⟩ :=
  if_pos ⟨hen, hbme, hd3⟩

section
variable {s : State} {v : Nat} (hv : v < 512) (hrun : (s.vec v).running = true)
  (hdue : (s.vec v).since + 625 * s.fd F.EVT_VEC_holdoff v ≤ s.time)
include hv hrun hdue

/-- At the end of a hold-off a held message goes out and begins another; otherwise the vector rests. -/
theorem holdoffEnd_due : holdoffEnd v s =
    if (s.vec v).held = true ∧ s.evt.msixEn = true ∧ s.evt.bme = true ∧ s.evt.d3hot = false then (s.msiOut v).setVec v ⟨true, false, s.time⟩
    else s.setVec v { s.vec v with running := false, held := false } :=
  if_neg (by simp only [hrun, Bool.true_eq_false, false_or]; omega)

theorem holdoffEnd_sends (hheld : (s.vec v).held = true) (hen : s.evt.msixEn = true) (hbme : s.evt.bme = true) (hd3 : s.evt.d3hot = false) :
    holdoffEnd v s = (s.msiOut v).setVec v ⟨true, false, s.time⟩ :=
  (holdoffEnd_due hv hrun hdue).trans (if_pos ⟨hheld, hen, hbme, hd3⟩)

theorem holdoffEnd_rests (hheld : (s.vec v).held = false) : holdoffEnd v s = s.setVec v { s.vec v with running := false } := by
  rw [holdoffEnd_due hv hrun hdue, if_neg (by simp [hheld])]
  congr 1
  exact congrArg (VecSt.mk false · (s.vec v).since) hheld.symm

end

section
variable {s : State} {k : Nat}

theorem State.setPending_again (h : s.evBit .EVT_PEND k = true) : s.setPending k = s := if_pos h

theorem State.setPending_masked (h : s.evBit .EVT_PEND k = false) (hm : (s.setEvBit .EVT_PEND k true).evBit .EVT_MASK k = true) :
    s.setPending k = s.setEvBit .EVT_PEND k true := by
  simp only [State.setPending, h, hm, Bool.false_eq_true, if_false, if_true]

theorem State.setPending_active (h : s.evBit .EVT_PEND k = false) (hm : (s.setEvBit .EVT_PEND k true).evBit .EVT_MASK k = false) :
    s.setPending k = (s.setEvBit .EVT_PEND k true).becameActive k := by
  simp only [State.setPending, h, hm, Bool.false_eq_true, if_false]

end

/-! ### EVT_PEND (R498) -/

/-- A message writes no register but HST_LINK. -/
theorem State.msiOut_rg {s : State} (h : s.Inv) (v : Nat) {r : Reg} {i j : Nat} (hr : regAddr r i j ≠ regAddr .HST_LINK 0 0) :
    (s.msiOut v).rg r i j = s.rg r i j := by
  unfold State.msiOut
  split
  · rfl
  · exact State.rg_setFd_ne h F.HST_LINK_l1 r 0 0 0 i j hr

theorem State.msiDue_rg {s : State} (h : s.Inv) (v : Nat) {r : Reg} {i j : Nat} (hr : regAddr r i j ≠ regAddr .HST_LINK 0 0) :
    (s.msiDue v).rg r i j = s.rg r i j := by
  unfold State.msiDue
  split
  · split
    · exact State.msiOut_rg h v hr
    · split
      · rfl
      · exact State.msiOut_rg h v hr
  · rfl

theorem State.becameActive_rg {s : State} (h : s.Inv) (k : Nat) {r : Reg} {i j : Nat} (hr : regAddr r i j ≠ regAddr .HST_LINK 0 0) :
    (s.becameActive k).rg r i j = s.rg r i j := by
  have hmsi : (if s.bit F.EVT_ROUTE_msix k then s.msiDue (s.fd F.EVT_ROUTE_vector k) else s).rg r i j = s.rg r i j := by
    split
    · exact State.msiDue_rg h _ hr
    · rfl
  simp only [State.becameActive]
  split
  · exact hmsi
  · exact hmsi

theorem regAddr_evtPend_ne_hstLink (k : Nat) : regAddr .EVT_PEND k 0 ≠ regAddr .HST_LINK 0 0 := by
  simp only [regAddr, regShape]
  omega

/-- The pin is high after a refresh only while a source drives it. -/
theorem State.alertRefresh_pin (s : State) (h : s.alertRefresh.alertSrc = none) : s.alertRefresh.evt.alertPin = false := by
  unfold State.alertRefresh at h ⊢
  split
  case h_1 _ hsrc => simp [hsrc] at h
  case h_2 => rfl

/-- A refresh of the pin writes no register, sends nothing and leaves the table of MSI-X. -/
theorem State.alertRefresh_keeps (s : State) :
    s.alertRefresh.regs = s.regs ∧ s.alertRefresh.out = s.out ∧ s.alertRefresh.evt.table = s.evt.table := by
  unfold State.alertRefresh
  split <;> exact ⟨rfl, rfl, rfl⟩

/-- The sources of a word that stay asserted become active again, one after the other. -/
def State.reassert (s : State) (k : Nat) (still : Word) : State :=
  (natsFrom 0 32).foldl (fun t j =>
    if natBit still.toNat j && ! t.evBit .EVT_MASK (32 * k + j) then t.becameActive (32 * k + j) else t) s

theorem State.clearPending_eq (s : State) (k : Nat) (m : Word) : s.clearPending k m =
    ((s.setRg .EVT_PEND ((s.rg .EVT_PEND k &&& ~~~m) ||| (s.rg .EVT_RAW k &&& m &&& s.rg .EVT_PEND k)) k).reassert k
      (s.rg .EVT_RAW k &&& m &&& s.rg .EVT_PEND k)).alertRefresh := rfl

theorem State.reassert_evtPend {s : State} (h : s.Inv) (k : Nat) (still : Word) : (s.reassert k still).rg .EVT_PEND k = s.rg .EVT_PEND k := by
  refine (List.foldlRecOn (motive := fun t : State => t.Inv ∧ t.rg .EVT_PEND k = s.rg .EVT_PEND k) _ _ ⟨h, rfl⟩ fun t ht j _ => ?_).2
  obtain ⟨hinv, hrg⟩ := ht
  split
  · exact ⟨(State.becameActive_evolves (Evolves.refl t) _).inv hinv,
      (State.becameActive_rg hinv _ (regAddr_evtPend_ne_hstLink k)).trans hrg⟩
  · exact ⟨hinv, hrg⟩

/-- Where none stays asserted nothing becomes active. -/
theorem State.reassert_none (s : State) (k : Nat) : s.reassert k 0 = s := by
  have hbit : ∀ j, natBit (0 : Word).toNat j = false := fun j => by rw [natBit_eq]; simp
  unfold State.reassert
  simp only [hbit, Bool.false_and, Bool.false_eq_true, if_false]
  exact List.foldl_fixed _

section
variable {s : State} (h : s.Inv) (k : Nat) (m : Word)
include h

theorem State.clearPending_evtPend : (s.clearPending k m).rg .EVT_PEND k =
    (s.rg .EVT_PEND k &&& ~~~m) ||| (s.rg .EVT_RAW k &&& m &&& s.rg .EVT_PEND k) := by
  rw [State.clearPending_eq]
  obtain ⟨hregs, _, _⟩ := State.alertRefresh_keeps ((s.setRg .EVT_PEND ((s.rg .EVT_PEND k &&& ~~~m) |||
    (s.rg .EVT_RAW k &&& m &&& s.rg .EVT_PEND k)) k).reassert k (s.rg .EVT_RAW k &&& m &&& s.rg .EVT_PEND k))
  rw [State.rg, hregs]
  exact (State.reassert_evtPend ((State.setRg_evolves (Evolves.refl s) ..).inv h) k _).trans (State.rg_setRg_same h _ _ _ _)

/-- With every source of the word deasserted, only its pending bits change. -/
theorem State.clearPending_noneAsserted (hraw : s.rg .EVT_RAW k = 0) :
    (s.clearPending k m).evt.table = s.evt.table ∧ (s.clearPending k m).out = s.out ∧
      ∀ r i j, regAddr r i j ≠ regAddr .EVT_PEND k 0 → (s.clearPending k m).rg r i j = s.rg r i j := by
  have hstill : s.rg .EVT_RAW k &&& m &&& s.rg .EVT_PEND k = 0 := by rw [hraw]; simp
  rw [State.clearPending_eq, hstill, State.reassert_none]
  obtain ⟨hregs, hout, htable⟩ := State.alertRefresh_keeps (s.setRg .EVT_PEND ((s.rg .EVT_PEND k &&& ~~~m) ||| 0) k)
  refine ⟨htable, hout, fun r i j hne => ?_⟩
  rw [State.rg, hregs]
  exact State.rg_setRg_ne h _ _ _ _ _ _ _ hne

end

/-! ### The SMBus target (R501 to R504) -/

section
variable {s : State} {off : Nat} {w : Word}

theorem smbBar0Write_permitted (hwr : s.bit F.HST_SMB_CFG_bar0_wr = true) {pec : SmbPec} (hbad : pec ≠ .bad) (hpec : s.pecOk pec = true) :
    smbBar0Write off w pec s = busWrite .smbus off w s := by
  simp only [smbBar0Write, hbad, hwr, hpec, Bool.true_eq_false, or_self, if_false]

theorem State.pecOk_good (s : State) : s.pecOk .good = true := rfl

theorem State.pecOk_absent (s : State) : s.pecOk .absent = ! s.bit F.HST_SMB_CFG_pec_req := rfl

theorem smbBar0Write_refused {pec : SmbPec} (hbad : pec ≠ .bad) (h : s.bit F.HST_SMB_CFG_bar0_wr = false ∨ s.pecOk pec = false) :
    smbBar0Write off w pec s = s := by
  rw [smbBar0Write, if_neg hbad, if_pos h]

section
variable {r : Reg} {i j : Nat} (hwr : s.bit F.HST_SMB_CFG_bar0_wr = true) (hat : regAt off = some (r, i, j))
include hwr hat

theorem smbBar0Write_answers (hans : s.answers r i = true) : smbBar0Write off w .good s = s.regPut .smbus r i j w := by
  rw [smbBar0Write_permitted hwr (by decide) s.pecOk_good, busWrite_at rfl hat]
  exact if_pos hans

theorem smbBar0Write_silent (hans : s.answers r i = false) : smbBar0Write off w .good s = s.dropHeld .smbus := by
  rw [smbBar0Write_permitted hwr (by decide) s.pecOk_good, busWrite_at rfl hat]
  exact if_neg (Bool.eq_false_iff.1 hans)

end

/-- A read of a register that neither acts nor is half of a pair. -/
theorem smbBar0Read_plain {r : Reg} {i j : Nat} (hat : regAt off = some (r, i, j)) (hans : s.answers r i = true) (hrc : hasRc r = false)
    (hh : pairHigh r = none) (hl : pairLow r = none) (hact : r ∉ actingReads) :
    smbBar0Read off s = s.emit (.readData .smbus off (s.shown r i j)) := by
  rw [smbBar0Read, busRead_at rfl hat]
  refine (if_pos hans).trans ?_
  rw [State.regReadAct_eq _ _ hact, regAt_addr hat]
  simp only [State.regRead, hh, hl, hrc, Bool.false_eq_true, if_false]
  rfl

/-- A doorbell of a device that has booted. -/
theorem smbDoorbell_rings {i : Nat} {pec : SmbPec} (hi : i < 10) (hbad : pec ≠ .bad) (hpec : s.pecOk pec = true) (hup : s.dev.st ≠ .powerup)
    (hboot : s.dev.st ≠ .boot) :
    smbDoorbell i pec s = (((s.dropHeld .smbus).wakeStart .doorbell).setRg .HST_DB_VAL 0 i).assertOnce (310 + i) := by
  rw [smbDoorbell, if_neg (by simp [hbad]; omega), if_neg (by simp [hpec, hup, hboot]), State.doorbell, if_neg (Nat.not_le.2 hi)]

theorem smbDoorbell_nack {i : Nat} {pec : SmbPec} (h : pec = .bad ∨ 9 < i) : smbDoorbell i pec s = s.emit .smbNack := if_pos h

theorem smbDoorbell_noPec {i : Nat} (hi : i < 10) (hreq : s.bit F.HST_SMB_CFG_pec_req = true) : smbDoorbell i .absent s = s := by
  rw [smbDoorbell, if_neg (by simp; omega), if_pos (.inl (by simp [s.pecOk_absent, hreq]))]

theorem alertResponse_driven (h : s.evt.alertPin = true) :
    alertResponse s = ({ s with evt := { s.evt with alertPin := false } } : State).emit (.smbAddress (s.fd F.HST_SMB_CFG_addr)) := if_pos h

theorem alertResponse_released (h : s.evt.alertPin = false) : alertResponse s = s := if_neg (Bool.eq_false_iff.1 h)

end

/-- Settles O59: the lemmas above by group: BAR2, configuration, sources, messages, EVT_PEND and the SMBus target. -/
theorem hostBus : Obligations.HostBus := by
  unfold Obligations.HostBus
  refine ⟨fun s u off len a hr hu ha => ?bar2, fun s u hst hperst hu => ?config, fun s t k hk ht => ?source, fun s v => ?messages,
    fun s k m hk hinv => ?pend, fun _ => rfl, fun s off w hoff => ?bar0, fun s i => ?doorbells, fun s => ?alert⟩
  case bar2 =>
    exact ⟨fun hused hon hst hwin hres => next_congr (bar2Read_data hr hu ha hused hon hst hwin hres),
      fun h => next_congr (bar2Read_unsupported hr hu ha h)⟩
  case config =>
    have hmps : ∀ {code : Nat}, code ≤ 2 → _ := configurationRequest_mps hst hperst hu
    have hmsix := configurationRequest_msix hst hperst hu
    have hen := configurationRequest_enables hst hperst hu
    refine ⟨next_congr (hmps (by omega)), fun code hlo hhi => next_congr ((hmps hhi).trans (if_neg (by omega))), fun on => next_congr (hen on).1,
      fun en h => next_congr ((hmsix en false).trans (State.pbaRelease_nothing ?_)),
      fun en => next_congr ((hmsix en true).trans (State.pbaRelease_nothing (.inr (.inr (.inr (.inr rfl)))))),
      fun v hp hbme hd3 hv => ⟨_, next_congr (configurationRequest_unmask hst hperst hu hp hbme hd3 hv), rfl, rfl⟩,
      fun on => ⟨next_congr (hen on).2.1, next_congr (hen on).2.2⟩,
      fun log hlo hhi => next_congr (configurationRequest_bar2 hst hperst hu hlo hhi),
      fun who => ⟨next_congr (configurationRequest_identity hst hperst hu who).1, next_congr (configurationRequest_identity hst hperst hu who).2⟩,
      next_congr (d3hotTransition_enters hst hperst), next_congr (d3hotTransition_leaves hst hperst),
      fun gen width hlo hhi hw => next_congr (hostLinkChange_up hst hperst hlo hhi hw), next_congr (hostLinkChange_down s)⟩
    exact h.imp_right (Or.imp_right Or.inl)
  case source =>
    subst ht
    have hassert : exec (.eventSourceAssert k) s = .next (s.setPending k) := next_congr (if_pos hk)
    refine ⟨fun h => hassert.trans (next_congr (State.setPending_again h)), fun h hm => hassert.trans (next_congr (State.setPending_masked h hm)),
      fun a h hm ha => hassert.trans (next_congr ((State.setPending_active h hm).trans ?_))⟩
    rw [ha]
    rfl
  case messages =>
    refine ⟨State.msiDue_disabled, fun hen hbme hd3 => ⟨fun h0 => ?_, fun h0 hrun => ?_, fun h0 hrun => ?_, fun hv hrun hheld hdue => ?_⟩,
      fun hv hrun hheld hdue => next_congr (holdoffEnd_rests hv hrun hdue hheld), State.msiOut_sent, State.msiOut_blocked⟩
    · rw [State.msiDue_enabled hen hbme hd3, if_pos h0]
    · rw [State.msiDue_enabled hen hbme hd3, if_neg h0, if_pos hrun]
    · rw [State.msiDue_enabled hen hbme hd3, if_neg h0, if_neg (Bool.eq_false_iff.1 hrun)]
    · exact next_congr (holdoffEnd_sends hv hrun hdue hheld hen hbme hd3)
  case pend =>
    exact ⟨s.clearPending k m, next_congr (if_pos hk), State.clearPending_evtPend hinv k m, State.clearPending_noneAsserted hinv k m,
      State.alertRefresh_pin _⟩
  case bar0 =>
    obtain ⟨hread, _, _⟩ := exec_busRead hoff .smbus s
    obtain ⟨hwrite, _, _⟩ := exec_busWrite hoff .smbus w s
    refine ⟨hread.symm, rfl, fun r i j hwr _ hat => ⟨fun hans hw hl => ?_, fun hans hw => ?_, fun hans lo hl hlw hheld => ?_, fun hans => ?_⟩,
      fun hwr => ⟨?_, fun hreq => ?_⟩, fun hwr => ?_, fun hreq => ?_, fun r i j hat hans hrc hh hl h1 h2 h3 h4 h5 => ?_⟩
    · exact next_congr ((smbBar0Write_answers hwr hat hans).trans (State.regPut_plain _ _ hw hl i j w))
    · exact next_congr ((smbBar0Write_answers hwr hat hans).trans ((State.regPut_low _ _ hw i j w).trans (by rw [regAt_addr hat])))
    · exact next_congr ((smbBar0Write_answers hwr hat hans).trans
        ((State.regPut_high _ _ hl hlw i j w).trans (State.highWrite_alone _ _ _ _ _ hheld)))
    · exact next_congr (smbBar0Write_silent hwr hat hans)
    · exact (next_congr (smbBar0Write_permitted hwr (by decide) s.pecOk_good)).trans hwrite.symm
    · exact (next_congr (smbBar0Write_permitted hwr (by decide) (by simp [s.pecOk_absent, hreq]))).trans hwrite.symm
    · exact next_congr (smbBar0Write_refused (by decide) (.inl hwr))
    · exact next_congr (smbBar0Write_refused (by decide) (.inr (by simp [s.pecOk_absent, hreq])))
    · exact next_congr (smbBar0Read_plain hat hans hrc hh hl (by simp [actingReads, h1, h2, h3, h4, h5]))
  case doorbells =>
    refine ⟨fun hi hup hboot => next_congr (smbDoorbell_rings hi (by decide) s.pecOk_good hup hboot), fun hi hup hboot hreq => ?_,
      fun hreq hi => next_congr (smbDoorbell_noPec hi hreq), fun hi p => next_congr (smbDoorbell_nack (.inr (by omega))),
      next_congr (smbDoorbell_nack (.inl rfl))⟩
    exact (next_congr (smbDoorbell_rings hi (by decide) (by simp [s.pecOk_absent, hreq]) hup hboot)).trans
      (next_congr (smbDoorbell_rings hi (by decide) s.pecOk_good hup hboot)).symm
  case alert =>
    exact ⟨fun h => next_congr (alertResponse_driven h), fun h => next_congr (alertResponse_released h), rfl⟩

end Sys2Proof.Machine
end

section
/-! The host path: rings, the completion queue, doorbells, fetches and FENCE (R482 to R490, R495, R496, R501, R506). -/

namespace Sys2Proof.Machine

/-! ### Requests (R475, R482) -/

section
variable {s : State} (hd3 : s.evt.d3hot = false)
include hd3

theorem State.mayRequest_bmeOff (hbme : s.evt.bme = false) : s.mayRequest = (s.hstSts F.HST_STS_bme_off, false) := by
  simp only [State.mayRequest, hd3, hbme, Bool.false_eq_true, if_false, if_true]

theorem State.mayRequest_yes (hbme : s.evt.bme = true) (hmps : s.fd F.HST_LINK_mps ≠ 0) : s.mayRequest = (s, true) := by
  simp only [State.mayRequest, hd3, hbme, hmps, Bool.false_eq_true, Bool.true_eq_false, if_false]

end

/-! ### Rings (R484 to R489) -/

section
variable {s t u : State} {r q : Nat} {rs : List Rec}

theorem ringPacketWrite_blocked (h : s.ringBlocked r = true) : ringPacketWrite r s = s := if_pos (.inr (.inr (.inr h)))

section
variable (hr : r < 64) (hen : s.bit F.HST_RING_CFG_en r = true) (hrun : s.ringsRun = true) (hroom : s.ringBlocked r = false)
  (hq : ((s.ringQueues r).find? fun q => decide (0 < (s.queue q).headLen (isXq q)) && s.queueOn q) = some q)
include hr hen hrun hroom hq

/-- The engine serves the next queue that has a whole packet, where the device may make requests. -/
theorem ringPacketWrite_serves : ringPacketWrite r s = if s.mayRequest.2 then s.mayRequest.1.ringTake r q else s.mayRequest.1 := by
  have hruns : ¬ (64 ≤ r ∨ s.bit F.HST_RING_CFG_en r = false ∨ s.ringsRun = false ∨ s.ringBlocked r = true) := by
    simp [hr, hen, hrun, hroom]
  simp only [ringPacketWrite, if_neg hruns, hq]

end

section
variable (hp : State.popPacket q 4200 s [] = (t, rs)) (hn : rs.length ≠ 0)
include hp hn

theorem State.ringTake_waits (h : s.hCap r < s.hHead r - s.hTail r + rs.length) : s.ringTake r q = s.ringWait r rs.length := by
  simp only [State.ringTake, hp, if_neg hn, if_pos h]

/-- A packet with room is written whole; the head goes to the host, with a notice where the threshold is reached. -/
theorem State.ringTake_writes (h : s.hHead r - s.hTail r + rs.length ≤ s.hCap r)
    (hu : u = ((t.ringData r rs).setPair .HST_RING_HEAD_LO .HST_RING_HEAD_HI (s.hHead r + rs.length) r).ringBack r) {due : Bool}
    (hdue : (decide (u.fd F.HST_RING_CFG_thr r ≠ 0) && decide ((u.hring r).noted + u.fd F.HST_RING_CFG_thr r ≤ u.hHead r)) = due) :
    s.ringTake r q =
      let x := u.setHring r { u.hring r with want := 0, turn := q, noted := if due then u.hHead r else (u.hring r).noted }
      if due then x.ringNotice r else x := by
  simp only [State.ringTake, hp, if_neg hn, if_neg (Nat.not_lt.2 h), ← hu, hdue]

end

section
variable (hr : r < 64)
include hr

theorem hstRingTailWrite_illegal {v : Nat} (h : v < s.hTail r ∨ s.hHead r < v) :
    hstRingTailWrite r v s = s.setFd F.HST_RING_STS_cfg_err 1 r := by
  rw [hstRingTailWrite, if_neg (Nat.not_le.2 hr), if_pos h]

/-- A tail that makes room for the packet that waits. -/
theorem hstRingTailWrite_makesRoom {v : Nat} (hlo : s.hTail r ≤ v) (hhi : v ≤ s.hHead r)
    (ht : t = s.setPair .HST_RING_TAIL_LO .HST_RING_TAIL_HI v r) (hroom : t.hHead r - v + (t.hring r).want ≤ t.hCap r) :
    hstRingTailWrite r v s = t.setHring r { t.hring r with want := 0 } := by
  have hlegal : ¬ (v < s.hTail r ∨ s.hHead r < v) := by omega
  simp only [hstRingTailWrite, if_neg (Nat.not_le.2 hr), if_neg hlegal, ← ht, if_pos hroom]

theorem hstRingCfgWrite_again {w : Word} (hen : s.bit F.HST_RING_CFG_en r = true) (hw : natBit w.toNat 0 = true) :
    hstRingCfgWrite r w s = s.setFd F.HST_RING_STS_cfg_err 1 r := by
  rw [hstRingCfgWrite, if_neg (Nat.not_le.2 hr), if_pos hen, if_pos hw]

/-- A ring that is enabled begins empty. -/
theorem hstRingCfgWrite_enables {w : Word} (hen : s.bit F.HST_RING_CFG_en r = false)
    (hnow : (s.putFields .HST_RING_CFG w r).bit F.HST_RING_CFG_en r = true) :
    hstRingCfgWrite r w s = (((s.putFields .HST_RING_CFG w r).setPair .HST_RING_HEAD_LO .HST_RING_HEAD_HI 0 r).setPair
      .HST_RING_TAIL_LO .HST_RING_TAIL_HI 0 r).setHring r HRing.init := by
  rw [hstRingCfgWrite, if_neg (Nat.not_le.2 hr), if_neg (Bool.eq_false_iff.1 hen)]
  exact if_pos hnow

end

end

/-! ### The completion queue (R496, R506) -/

theorem State.setCpls_same {s : State} {l : List CplEntry} (h : s.hst.cpls = l) : (s.setHst fun h => { h with cpls := l }) = s := by
  subst h
  rfl

section
variable {s u : State} {w : Word} {n h t v : Nat} (hn : n = s.cplCap) (hh : h = s.fd F.HST_CPL_PTR_head) (ht : t = s.fd F.HST_CPL_PTR_tail)
  (hv : v = bitsOf w 16 16)
include hn hh ht hv

/-- A head within the entries written frees their places for entries that wait. -/
theorem hstCplPtrWrite_legal (hlt : v < n) (hle : (v + n - h) % n ≤ (t + n - h) % n) :
    hstCplPtrWrite w s = (s.setFd F.HST_CPL_PTR_head v).cplDrain s.hst.cpls := by
  subst hn hh ht hv
  exact if_neg fun hbad => hbad.elim (Nat.not_le.2 hlt) (Nat.not_lt.2 hle)

theorem hstCplPtrWrite_illegal (hbad : n ≤ v ∨ (t + n - h) % n < (v + n - h) % n) : hstCplPtrWrite w s = s.hstSts F.HST_STS_cq_err := by
  subst hn hh ht hv
  exact if_pos hbad

end

/-- Entries that find the queue full go on waiting. -/
theorem State.cplDrain_full {s : State} {l : List CplEntry} (hl : s.hst.cpls = l) (hfull : s.cplFull = true ∨ l = []) : s.cplDrain l = s := by
  cases l with
  | nil => exact State.setCpls_same hl
  | cons c rest =>
    rw [State.cplDrain, if_pos (hfull.resolve_right (List.cons_ne_nil c rest))]
    exact State.setCpls_same hl

theorem State.cplDrain_room {s : State} {c : CplEntry} {rest : List CplEntry} (h : s.cplFull = false) :
    s.cplDrain (c :: rest) = (s.cplWrite c).cplDrain rest := by
  rw [State.cplDrain, if_neg (Bool.eq_false_iff.1 h)]

/-! ### Doorbells (R490, R501) -/

section
variable {s t : State} (ho : s.doorOpen = true)
include ho

theorem hstDb_rings {i : Nat} (hi : i < 10) (w : Word) :
    hstDb i w s = ((s.wakeStart .doorbell).setRg .HST_DB_VAL w i).assertOnce (310 + i) := by
  rw [hstDb, if_pos ho, State.doorbell, if_neg (Nat.not_le.2 hi)]

theorem hstCqDb_open (ht : t = s.wakeStart .doorbell) (v : Nat) : hstCqDb v s =
    if 2 ^ t.fd F.HST_CQ_CFG_size ≤ v % 65536 then t.hstSts F.HST_STS_cq_err else t.setFd F.HST_CQ_PTR_tail (v % 65536) := by
  simp only [hstCqDb, ho, Bool.true_eq_false, if_false, ← ht]

end

/-! ### Fetches and FENCE (R490, R495, R496) -/

section
variable {s t : State} (hf : s.mayFetch = true)
include hf

theorem completionTimeout_fetching (failed : Bool) :
    completionTimeout failed s = if failed then (s.setFd F.HST_CQ_CFG_en 0).hstSts F.HST_STS_cq_err else s.fetchReq := by
  simp only [completionTimeout, hf, Bool.true_eq_false, if_false]

/-- The entry at the head is fetched; with LINK set it waits for the rest of its group. -/
theorem commandFetch_takes {e : CmdEntry} (hreq : s.mayRequest = (s, true))
    (ht : t = s.fetchReq.setFd F.HST_CQ_PTR_head ((s.fd F.HST_CQ_PTR_head + 1) % 2 ^ s.fd F.HST_CQ_CFG_size)) :
    commandFetch e s =
      if natBit e.flags 2 then t.setHst fun h => { h with group := t.hst.group ++ [{ e with flags := e.flags % 4 + e.flags / 8 * 8 }] }
      else (t.setHst fun h => { h with group := [] }).cmdGroup (t.hst.group ++ [{ e with flags := e.flags % 4 + e.flags / 8 * 8 }]) := by
  simp only [commandFetch, hf, hreq, Bool.true_eq_false, if_false, ← ht]

end

section
variable {s : State} {e : CmdEntry} {rest : List CmdEntry} (hfe : s.hst.fences = e :: rest)
include hfe

theorem fenceComplete_waits (hl : s.hst.live.all (fun c => s.inEffect c) = false) : fenceComplete s = s := by
  simp only [fenceComplete, hfe, hl, Bool.false_eq_true, false_and, if_false]

theorem fenceComplete_completes (hl : s.hst.live.all (fun c => s.inEffect c) = true) (hroom : s.cplFull = false)
    (hreq : s.mayRequest = (s, true)) :
    fenceComplete s = (s.setHst fun h => { h with fences := rest, live := [] }).complete e.tag 8 0 0 0 := by
  simp only [fenceComplete, hfe, hl, hroom, hreq, and_self, if_true]

end

/-- Settles O49: one lemma above for each access and event; a packet that is written, by its ring's threshold. -/
theorem hostPath : Obligations.HostPath := by
  unfold Obligations.HostPath
  refine ⟨fun s r q hr hen hrun hroom hq hd3 => ?packet, fun s r h => next_congr (ringPacketWrite_blocked h), fun s r v hr => ?tail,
    fun s r w hr => ?cfg, fun s w n h t v hn hh ht hv => ?head, fun s i w ho hi => next_congr (hstDb_rings ho hi w),
    fun s t v ho ht => ?doorbell, fun s hf => ?fetch, fun s e rest hfe hroom hd3 hbme hmps => ?fence⟩
  case packet =>
    have hserves := ringPacketWrite_serves hr hen hrun hroom hq
    refine ⟨fun hbme => next_congr (by rw [hserves, State.mayRequest_bmeOff hd3 hbme]; rfl), fun t u rs hbme hmps hp hn => ?_⟩
    have htakes : exec (.ringPacketWrite r) s = .next (s.ringTake r q) :=
      next_congr (by rw [hserves, State.mayRequest_yes hd3 hbme hmps]; rfl)
    refine ⟨fun h => htakes.trans (next_congr (State.ringTake_waits hp hn h)), fun h hu => ⟨fun h0 => ?_, fun h0 hreached => ?_⟩⟩
    · exact htakes.trans (next_congr (State.ringTake_writes (due := false) hp hn h hu (by simp [h0])))
    · exact htakes.trans (next_congr (State.ringTake_writes (due := true) hp hn h hu (by simp [h0, hreached])))
  case tail =>
    exact ⟨fun h => next_congr (hstRingTailWrite_illegal hr h),
      fun hlo hhi => ⟨_, rfl, fun hroom => next_congr (hstRingTailWrite_makesRoom hr hlo hhi rfl hroom)⟩⟩
  case cfg =>
    exact ⟨fun hen hw => next_congr (hstRingCfgWrite_again hr hen hw), fun hen hnow => next_congr (hstRingCfgWrite_enables hr hen hnow)⟩
  case head =>
    refine ⟨fun hlt hle => ⟨_, rfl, ?_⟩, fun hbad => next_congr (hstCplPtrWrite_illegal hn hh ht hv hbad)⟩
    have hdrains := hstCplPtrWrite_legal hn hh ht hv hlt hle
    refine ⟨fun hnil => next_congr (hdrains.trans (State.cplDrain_full rfl (.inr hnil))), fun c rest hc => ⟨fun hfull => ?_, fun hroom => ?_⟩⟩
    · exact next_congr (hdrains.trans (State.cplDrain_full rfl (.inl hfull)))
    · exact next_congr (hdrains.trans (by rw [hc, State.cplDrain_room hroom]))
  case doorbell =>
    have hopen := hstCqDb_open ho ht v
    exact ⟨fun hin => next_congr (hopen.trans (if_neg (Nat.not_le.2 hin))), fun hout => next_congr (hopen.trans (if_pos hout))⟩
  case fetch =>
    refine ⟨next_congr (completionTimeout_fetching hf false), next_congr (completionTimeout_fetching hf true), fun e t hd3 hbme hmps ht => ?_⟩
    have htakes := commandFetch_takes hf (e := e) (State.mayRequest_yes hd3 hbme hmps) ht
    exact ⟨fun hlink => next_congr (htakes.trans (if_pos hlink)), fun hlast => next_congr (htakes.trans (if_neg (Bool.eq_false_iff.1 hlast)))⟩
  case fence =>
    exact ⟨fun hl => next_congr (fenceComplete_completes hfe hl hroom (State.mayRequest_yes hd3 hbme hmps)),
      fun hl => next_congr (fenceComplete_waits hfe hl)⟩

end Sys2Proof.Machine
end

section
/-! The members of a cascade: joining, leaving, loss and reset, and tunnels (R512 to R514, R523, R525, R527, R529 to R531, R534). -/

namespace Sys2Proof.Machine

/-! ### JOIN, ACCEPT and REFUSE (R513, R514) -/

section
variable {s t w : State} {l dev level u : Nat} {f : Flit}

section
variable (hl : isChild l = true) (h : s.accept l f = (t, true))
include hl h

/-- What the root answers to a JOIN: a REFUSE with the cause, or an ACCEPT with the delay of the lines, the member entered before. -/
theorem joinFlit_root (hr : t.isRoot = true) (hdev : natBits (nth 0 f.slots 1) 0 6 = dev) (hlevel : natBits (nth 0 f.slots 1) 8 3 = level)
    (hu : nth 0 f.slots 2 = u)
    (hw : w = (((t.setCasc fun c => { c with us := Tab.set 0 c.us dev u }).setMem
      (Nat.lor (t.pair .CAS_MEM_LO .CAS_MEM_HI) (2 ^ dev))).lineDly).linkEvt l 17 dev level u) :
    joinFlit l f s = if t.joinVerdict l dev level ≠ 0 then t.sendCtl l [9, dev + t.joinVerdict l dev level * 65536]
      else (w.sendCtl l [8, dev + 256 * level, w.fd F.CAS_LINE_DLY_ticks]).childJoined l dev := by
  subst hdev hlevel hu
  simp only [joinFlit, hl, h, hr, Bool.true_eq_false, if_false, if_true, ← hw]

/-- A JOINED member passes a JOIN upward. -/
theorem joinFlit_upward (hr : t.isRoot = false) (hm : t.isMember = true) (hc : t.cascState = 2) :
    joinFlit l f s = (t.setCasc fun c => { c with via := Tab.set 0 c.via (natBits (nth 0 f.slots 1) 0 6) l }).sendCtl 16 f.slots := by
  simp only [joinFlit, hl, h, hr, hm, hc, Bool.true_eq_false, Bool.false_eq_true, and_self, if_false, if_true]

/-- A LEAVE takes its members out of the tree at the root. -/
theorem leaveFlit_root (hr : t.isRoot = true) :
    leaveFlit l f s = t.membersLost l (nth 0 f.slots 1 % 2 ^ 32 + nth 0 f.slots 2 % 2 ^ 32 * 2 ^ 32) := by
  simp only [leaveFlit, hl, h, hr, Bool.true_eq_false, if_false, if_true]

end

section
variable (h : s.accept 16 f = (t, true)) (hm : t.isMember = true)
include h hm

section
variable (hown : natBits (nth 0 f.slots 1) 0 6 = t.ownDev)
include hown

/-- The ACCEPT of this member in JOIN, which goes on to credits and synchronisation. -/
theorem acceptFlit_own (hstep : (t.link 16).step = 3) : acceptFlit f s =
    (((t.setFd F.CAS_STS_level (natBits (nth 0 f.slots 1) 8 3)).setFd F.CAS_LINE_DLY_ticks (nth 0 f.slots 2)).stepCredit 16).stepSync 16 := by
  simp only [acceptFlit, h, hm, hown, hstep, Bool.true_eq_false, or_self, if_false, if_true]

/-- The REFUSE of this member detaches it. -/
theorem refuseFlit_own : refuseFlit f s =
    (((t.setFd F.CAS_STS_refuse (natBits (nth 0 f.slots 1) 16 3)).linkOff 16).detach t.casc.err).raise 0x00D 0
      (natBits (nth 0 f.slots 1) 16 3) := by
  simp only [refuseFlit, h, hm, hown, Bool.true_eq_false, or_self, if_false, if_true]

end

/-- DLY and RESET flits reach a member from C0 and go down to its children. -/
theorem dlyFlit_member :
    dlyFlit f s = (t.setFd F.CAS_LINE_DLY_ticks (nth 0 f.slots 1 % 2 ^ 24)).ctlDown [12, nth 0 f.slots 1 % 2 ^ 24] := by
  simp only [dlyFlit, h, hm, and_self, if_true]

theorem cascadeReset_member : cascadeReset f s = (t.ctlDown [10]).resetCause 4 := by
  simp only [cascadeReset, h, hm, and_self, if_true]

end

/-! ### Loss (R527, R530) -/

/-- A child link that has not been UP for 100 ms loses the members below it: at the root they leave the tree, and a member whose C0 is UP
passes a LEAVE upward. -/
theorem childLinkLost_due {t0 m : Nat} (hl : isChild l = true) (hst : s.lstate l ≠ 3) (hdown : (s.link l).downAt = some t0)
    (hdue : t0 + msTicks 100 ≤ s.time) (hm : m = (s.link l).devs.foldl (fun (m : Nat) d => Nat.lor m (2 ^ d)) 0) (h0 : m ≠ 0) :
    childLinkLost l s = if s.isRoot then s.membersLost l m
      else if s.lstate 16 = 3 then (s.setLink l { s.link l with devs := [] }).sendCtl 16 [11, m % 2 ^ 32, m / 2 ^ 32]
        else s.setLink l { s.link l with devs := [] } := by
  have hlost : ¬ (true = false ∨ s.lstate l = 3 ∨ true = false ∨ m = 0) := by simp [hst, h0]
  simp only [childLinkLost, hl, hdown, decide_eq_true hdue, ← hm, if_neg hlost]
  rfl

/-- The join limit detaches a member that is still JOINING (R512). -/
theorem joinTimeout_due (hm : s.isMember = true) (hc : s.cascState = 1)
    (hdue : s.casc.begun + 62500000 * s.fd F.CAS_CFG_join_tmo ≤ s.time) :
    joinTimeout s = ((s.linkOff 16).detach s.casc.err).raise 0x00E 0 0 :=
  if_pos ⟨hm, hc, by simp only [msTicks]; omega⟩

/-- A signal on C0 wakes a member (R531). -/
theorem c0SignalDetect_member (hm : s.isMember = true) : c0SignalDetect s = s.wakeStart .cascade := if_pos hm

/-! ### RESET_ALL (R529) -/

section
variable (hd : s.domOn 73 = true)
include hd

theorem resetAll_root (hr : s.isRoot = true) (hst : s.dev.st = .run) : resetAll s = ((s.casCmdSts 1 1).ctlDown [10]).resetCause 4 := by
  simp only [resetAll, hd, hr, hst, Bool.true_eq_false, true_or, and_self, if_false, if_true]

theorem resetAll_member (hr : s.isRoot = false) : resetAll s = s.casCmdSts 1 2 := by
  simp only [resetAll, hd, hr, Bool.true_eq_false, Bool.false_eq_true, false_and, if_false]

end

/-! ### Tunnels (R525, R534) -/

/-- A write that enables a tunnel and clears its error bit: the tunnel is enabled where its conditions hold, and otherwise the error bit is
set; a reserved queue number leaves the old one. -/
theorem casTunnelEnable_enables {inbound ok : Bool} {n : Nat} {v v1 mask : Word} {r : Reg} (hn : n < 16) (hd : s.domOn 73 = true)
    (hr : r = if inbound then .CAS_TUNIN_CFG else .CAS_TUNOUT_CFG) (hmask : mask = if inbound then 0x003F07FF else 0x0F3F07FF)
    (hv1 : v1 = if 1280 ≤ bitsOf v 0 11 then setBits v 0 11 (bitsOf (s.rg r n) 0 11) else v) (hwas : natBit (s.rg r n).toNat 31 = false)
    (hwant : natBit v.toNat 31 = true) (herr : natBit v.toNat 30 = true)
    (hok : (if inbound then s.tunInOk n (bitsOf v 0 11) else s.tunOutOk (bitsOf v 0 11) (bitsOf v 16 6)) = ok) :
    casTunnelEnable inbound n v s =
      s.setRg r ((v1 &&& mask) ||| (if ok then 0 else 0x40000000) ||| (if ok then 0x80000000 else 0)) n := by
  have hopen : ¬ (16 ≤ n ∨ s.domOn 73 = false) := by simp [hn, hd]
  rw [casTunnelEnable, if_neg hopen]
  simp only [← hr, ← hmask, hwas, hwant, herr, hok, ← hv1, Bool.false_eq_true, if_false, if_true, Bool.true_and]
  cases ok <;> rfl

end

/-- Settles O47: one lemma above for each flit, event and command. -/
theorem cascadeMembers : Obligations.CascadeMembers := by
  unfold Obligations.CascadeMembers
  refine ⟨fun s t l dev level u f a hl h hr ha hdev hlevel hu => ?join, fun s t l f hl h hr hm hc => next_congr (joinFlit_upward hl h hr hm hc),
    fun s t f h hm hown => ⟨fun hstep => next_congr (acceptFlit_own h hm hown hstep), next_congr (refuseFlit_own h hm hown)⟩,
    fun s t l f hl h hr => next_congr (leaveFlit_root hl h hr), fun s l m => ⟨_, rfl, rfl⟩, fun s l t m hl hst hdown hdue hm h0 => ?lost,
    fun s t f h hm => ⟨next_congr (dlyFlit_member h hm), next_congr (cascadeReset_member h hm)⟩,
    fun s hd => ⟨fun hr hst => next_congr (resetAll_root hd hr hst), fun hr => next_congr (resetAll_member hd hr)⟩,
    fun s hm => ⟨fun hc hdue => next_congr (joinTimeout_due hm hc hdue), next_congr (c0SignalDetect_member hm)⟩,
    fun s inbound n v v1 mask r hn hd hr hmask hv1 hwas hwant herr => ?tunnel⟩
  case join =>
    have hjoins := joinFlit_root hl h hr (f := f) (dev := dev) (level := level) (u := u) (by rw [ha]; exact hdev) (by rw [ha]; exact hlevel)
      (by rw [ha]; exact hu) rfl
    refine ⟨fun v hv h0 => next_congr ?_, fun h0 => ⟨_, rfl, next_congr (hjoins.trans (if_neg (not_not.2 h0)))⟩⟩
    rw [hjoins, hv, if_pos h0]
  case lost =>
    have hloses := childLinkLost_due hl hst hdown hdue hm h0
    refine ⟨fun hr => next_congr (hloses.trans (if_pos hr)), fun hr hup => next_congr ?_⟩
    rw [hloses, if_neg (Bool.eq_false_iff.1 hr), if_pos hup]
  case tunnel =>
    have henables := fun ok => casTunnelEnable_enables (ok := ok) hn hd hr hmask hv1 hwas hwant herr
    exact ⟨fun hok => next_congr (henables true hok), fun hok => next_congr (henables false hok)⟩

end Sys2Proof.Machine
end
